-- ==== Sys2Proof/Word.lean ====
section
/-! DEFINITION. The machine's word types: a byte, a 64-bit register, the byte strings and descriptors that commands
carry (R7, R8), and the operands of the commands. -/

set_option Elab.async false

namespace Sys2Proof

/-- One byte, the smallest addressable unit of every address space (R30). -/
abbrev Byte := BitVec 8

/-- A 64-bit word: a CSR, a sequencer register, an arrival counter (R525, R177, R272). -/
abbrev Word := BitVec 64

/-- A byte string in address order. -/
abbrev Bytes := List Byte

/-- A descriptor as its 64-bit little-endian words in address order (R8). -/
abbrev Desc := List Word

/-- Who makes a CSR access (R508): the MC path, or the sequencer of a core. -/
inductive Requester where
  | mc
  | seq (core : Fin 64)
deriving DecidableEq, Repr

/-- A CSR access: the requester, the CSR address (R505), the width in bits. -/
structure CsrAccess where
  req : Requester
  addr : BitVec 32
  width : Nat
deriving DecidableEq, Repr

/-- A descriptor that reaches an engine, with the core whose sequencer issued it (R193). -/
structure Issue where
  core : Fin 64
  desc : Desc
deriving DecidableEq, Repr

/-- What the fetch of an instruction word finds in its SECDED: clean, corrected, uncorrectable (R180). -/
inductive Ecc where
  | clean | corrected | uncorrected
deriving DecidableEq, Repr

/-- What the reads of router store that a window makes in one of its phases find in their SECDED (R49): how many words
they correct, and how many are uncorrectable. -/
structure StoreReads where
  corrected : Nat
  uncorrected : Nat
deriving DecidableEq, Repr

/-- The reads meet an uncorrectable word. -/
def StoreReads.ue (r : StoreReads) : Bool := decide (r.uncorrected ≠ 0)

/-- The two forms of a near-memory request (R220). -/
inductive AtomForm where
  | atomic (width : Nat) (x cmp : Word)
  | reduce (data : Bytes)
deriving DecidableEq, Repr

/-- What a pop finds in the parity of the words it reads (R239): the framing word, and the payload words that fail. -/
structure QueueParity where
  framing : Bool
  words : List Nat
deriving DecidableEq, Repr

/-- A payload as a queue stores it (R239, R240): its bytes, and the words of the packet that come to fail parity before they are
read: 0 the framing word, k + 1 payload word k. -/
structure StoredPayload where
  bytes : Bytes
  bad : List Nat := []
deriving DecidableEq, Repr

/-- The three commit groups of a queue (R250). -/
inductive QueueGroup where
  | cfg | wm | notify
deriving DecidableEq, Repr

/-- An exact sum: NaN, an infinity, or (-1)^neg * m * 2^e. -/
inductive ExactSum where
  | nan
  | inf (neg : Bool)
  | fin (neg : Bool) (m : Nat) (e : Int)
deriving DecidableEq, Repr

/-- A tile sum of a tile step (R140): of a token in an output column; of a token in the checksum column; of a checksum group, by its
block of up to 16 groups and its lane, in an output column. -/
inductive SumPlace where
  | data (token column : Nat)
  | check (token : Nat)
  | group (block lane column : Nat)
deriving DecidableEq, Repr

/-- A tile sum that a fault of the array makes come out wrong (R141): its N tile, its tile step, its place and what it comes out as. -/
structure WrongSum where
  ntile : Nat
  step : Nat
  place : SumPlace
  value : ExactSum
deriving DecidableEq, Repr

/-- What the hardware met while a pass ran (R128, R141, R144, R146, R149): the N tiles spoiled by an uncorrectable accumulator word,
the accumulator words corrected, the tile sums that came out wrong, the lanes of a LANE whose physical cube gave a wrong
result and that result, and the cycles stalled on weights and on the drain. -/
structure PassFacts where
  accUe : List Nat
  accCorrected : Nat
  wrong : List WrongSum
  cubes : List (Nat × BitVec 32)
  wStall : Nat
  drainStall : Nat
deriving DecidableEq, Repr

/-- A dispatch or return frame as it arrives (R79, R82): its header, slot headers and rows, where they land, the
counter, and what every fabric request carries (R257, R260). -/
structure Frame where
  header : Bytes
  slots : Bytes
  rows : Bytes
  hdrDest : Nat
  slotDest : Nat
  rowDest : Nat
  cntEn : Bool
  counter : Nat
  source : Nat
  key : Nat
  epoch : Nat
  injected : Nat
deriving DecidableEq, Repr

/-- A packet of TC1 to TC3 as its 64-byte header gives it, with its body (R297). `poison` is a fact of the arrival: the
body's data arrive poisoned (R213). -/
structure Pkt where
  typ : Nat
  op : Nat := 0
  strict : Bool := false
  cntEn : Bool := false
  last : Bool := false
  frame : Bool := false
  len : Nat := 0
  dest : Nat
  src : Nat
  budget : Nat := 0
  code : Nat := 0
  addr : Nat := 0
  key : Nat := 0
  epoch : Nat := 0
  counter : Nat := 0
  inject : Nat := 0
  tag : Nat := 0
  reqId : Nat := 0
  operand : Nat := 0
  compare : Nat := 0
  body : Bytes := []
  poison : Bool := false
deriving DecidableEq, Repr

/-- A received TC0 transfer (R298): its 48-byte header and its bytes, void flits as zeros. -/
structure Transfer where
  header : Bytes
  data : Bytes
deriving DecidableEq, Repr

/-- A flit as it arrives (R292, R293): the 80 header bits, the received CRC, the body, for a TC0 flit its position
within the transfer, which the link slot it arrives in gives (R294), and how many uncorrectable FEC codewords the receiver has met
since the last flit (R327). -/
structure Flit where
  header : BitVec 80
  crc : BitVec 32
  body : Bytes
  pos : Nat
  fec : Nat := 0
deriving DecidableEq, Repr

/-- What R322 judges of an Ethernet frame: its length in bytes, the VID of its 802.1Q tag (none: untagged), whether it carries IP
options or extension headers, and whether it is a fragment. -/
structure EthFrame where
  length : Nat
  vid : Option (BitVec 12)
  options : Bool
  fragment : Bool
deriving DecidableEq, Repr

/-- A RoCE packet that carries no request: its QP and its frame (R325). -/
structure QpFrame where
  qp : Fin 4096
  frame : EthFrame
deriving DecidableEq, Repr

/-- An ARP or neighbour-discovery request: the address asked for, and its frame (R322). -/
structure ArpAsk where
  ip : BitVec 128
  frame : EthFrame
deriving DecidableEq, Repr

/-- A link slot of a table cycle as its start meets it: its index, and the positions of a LOCAL transfer whose bytes memory has not
delivered (R302, R304). -/
structure SlotStart where
  index : Nat
  stalled : List Nat
deriving DecidableEq, Repr

/-- The transports of PTP (R326): IEEE 802.3 (Annex F), UDP over IPv4, UDP over IPv6. -/
inductive PtpTransport where
  | ieee8023
  | ipv4
  | ipv6
deriving DecidableEq, Repr

/-- A PTP message of the time source (R326), its correction field added to the time it carries: a Sync in one-step form
with its origin time or in two-step form without one, the Follow_Up that gives the origin time of the two-step Sync of its
sequence number, and the answer to a Delay_Req with the time at which the source received it. -/
inductive PtpBody where
  | sync (seq : BitVec 16) (origin : Option Nat)
  | followUp (seq : BitVec 16) (origin : Nat)
  | delayResp (received : Nat)
deriving DecidableEq, Repr

/-- A PTP message, its transport and the frame that carries it. -/
structure PtpMsg where
  transport : PtpTransport
  body : PtpBody
  frame : EthFrame
deriving DecidableEq, Repr

/-- A time exchange with TB_MASTER (R470): the Salax port on which the LINK flit arrives, the master's time base when it left,
and the delays measured on the links it passed before that port's own. -/
structure TimeExchange where
  link : Fin 32
  sent : Nat
  hops : List Nat
deriving DecidableEq, Repr

/-- A RoCEv2 request as its packets give it (R323): the QP, the port it arrives on, its first PSN, the virtual address,
the R_Key, and the frame of its longest packet. -/
structure RoceReq where
  qp : Fin 4096
  port : Fin 4
  psn : BitVec 24
  va : Word
  rkey : BitVec 32
  frame : EthFrame
deriving DecidableEq, Repr

/-- How far an update comes (R445): the image in memory is checked, the flash is erased, MiB of the image are programmed, or the flash is
read back and the update ends. -/
inductive UpdateMark where
  | verified | erased | programmed (mib : Nat) | ended
deriving DecidableEq, Repr

/-- How far a running update comes, and whether the flash fails there (R445). -/
structure UpdateFound where
  mark : UpdateMark
  fails : Bool
deriving DecidableEq, Repr

/-- What a scan of the boundary register meets: what the lands carry, and what TDI shifts in (R522). -/
structure BoundaryScan where
  lands : BitVec 489
  load : BitVec 489
deriving DecidableEq, Repr

/-- What a boot meets that exceeds a bound: the stage less 2, the lanes that training finds dead, and the faulty chunks of arrays that
the self-test finds (R425). -/
structure StageStall where
  stage : Fin 6
  dead : List (Fin 384)
  faulty : List (Fin 128 × List Nat)
deriving DecidableEq, Repr

end Sys2Proof
end

