-- ==== Sys2Proof/Syntax.lean ====
section
/-! DEFINITION. The commands: one constructor per row of the opcode table, with the row's operands. -/

namespace Sys2Proof

/-- A command of the block. -/
inductive Instr where
  /-- CSR_WRITE (R9). A write to a CSR register that has no row of its own sets its field values by access type, after the …. -/
  | csrWrite (a : CsrAccess) (v : Word)
  /-- RAKE_WRITE (R512). A rake write is delivered to every member of a class or group, each member performs or refuses it, and the …. -/
  | rakeWrite (a : CsrAccess) (v : Word)
  /-- RAKE_READ (R513). A rake read reads every member, returns the OR of the values, sets or clears DIFF, and applies the read …. -/
  | rakeRead (a : CsrAccess)
  /-- GLB_RAKE_DATA_ACCESS (R516). An access to GLB_RAKE_DATA reads or writes a group mask word of the issuer's selection and advances the …. -/
  | glbRakeDataAccess (req : Requester) (write : Option Word)
  /-- RESET_N_FALL (R520). A falling RESET_N while PWR_GOOD is high is handled as a monitor chip reset, and RESET_N held low holds …. -/
  | resetNFall (lowNs : Nat)
  /-- RESET_N_RISE (R523). A rising RESET_N forces the TAP to Test-Logic-Reset and lets the boot continue from stage 2. -/
  | resetNRise
  /-- JTAG_IDCODE (R524). The IDCODE instruction selects the IDCODE register 0x1B00_95CD. -/
  | jtagIdcode
  /-- JTAG_SAMPLE_PRELOAD (R522). The SAMPLE/PRELOAD instruction captures and loads the boundary register. -/
  | jtagSamplePreload (lands : BitVec 489) (load : BitVec 489)
  /-- JTAG_EXTEST (R523). EXTEST drives the boundary cells, and is accepted only while RESET_N is low. -/
  | jtagExtest
  /-- JTAG_EXTEST_PULSE (R523). The 1149.6 EXTEST_PULSE instruction, accepted only while RESET_N is low. -/
  | jtagExtestPulse
  /-- JTAG_EXTEST_TRAIN (R523). The 1149.6 EXTEST_TRAIN instruction, accepted only while RESET_N is low. -/
  | jtagExtestTrain
  /-- JTAG_CLAMP (R523). The CLAMP instruction, accepted only while RESET_N is low. -/
  | jtagClamp
  /-- JTAG_HIGHZ (R523). The HIGHZ instruction, accepted only while RESET_N is low. -/
  | jtagHighz
  /-- JTAG_BYPASS (R522). BYPASS, or any unsupported opcode, selects the one-bit bypass register. -/
  | jtagBypass (opcode : Byte)
  /-- ROUTE (R76). A ROUTE descriptor reaching a router is arbitrated and checked, and is either refused on its completion …. -/
  | route (router : Fin 4) (cmds : List Issue)
  /-- RECALL (R70). A RECALL descriptor is checked and either refused or accepted to start one recall window on its router group. -/
  | recall (cmds : List Issue)
  /-- PUSHED_TILE (R54). A pushed score tile arriving at a router is checked in order and taken into selection or discarded. -/
  | pushedTile (router : Fin 4) (tile : Bytes)
  /-- LOGIT_PULL_RETURN (R55). A pulled 64-byte line of scores or bias returns to the router and its scores are taken, or made absent …. -/
  | logitPullReturn (router : Fin 4) (line : BitVec 48)
  /-- SELECT_END (R58). At the fixed end of the select phase the router forms each token's candidate list and counts NaN and …. -/
  | selectEnd (router : Fin 4) (reads : StoreReads)
  /-- MATCHING_ROUND (R61). At the fixed start of round r every token with free seats proposes and every expert keeps its best proposals. -/
  | matchingRound (router : Fin 4) (reads : StoreReads)
  /-- PUBLISH_START (R68). At WINDOW_CYCLES minus T_publish the router starts writing the seat table, held-slot table and summaries. -/
  | publishStart (router : Fin 4) (reads : StoreReads) (refused : Bool)
  /-- WINDOW_END (R41). In the last cycle of a window the router increments the completion counter and becomes idle. -/
  | windowEnd (router : Fin 4) (reads : StoreReads) (acked : Bool)
  /-- PUBLISH_LATE (R43). A published write acknowledged after the window end increments the counter then and logs 0x1415. -/
  | publishLate (router : Fin 4)
  /-- DISPATCH (R91). A DISPATCH pump command is checked and accepted to send one frame per expert with QUOTA above zero. -/
  | dispatch (die : Fin 2) (req : Requester) (desc : Desc)
  /-- RETURN (R91). A RETURN pump command is checked and accepted to send one return frame per transfer-table entry, or …. -/
  | return (die : Fin 2) (req : Requester) (desc : Desc)
  /-- LOCAL_FRAME_MOVE (R89). A LOCAL frame moves over the mesh once the previous LOCAL frame of its command has landed. -/
  | localFrameMove (die : Fin 2)
  /-- FRAME_LANDING (R94). An arriving frame is checked, written to its destinations good or void, and increments its destination counter. -/
  | frameLanding (die : Fin 2) (frame : Frame)
  /-- PUMP_COMPLETION (R93). A dispatch or return command completes once every frame's landing is acknowledged or refused. -/
  | pumpCompletion (die : Fin 2)
  /-- COMBINE (R108). A COMBINE descriptor is checked and queued on the chain engine, or refused on its counter. -/
  | combine (cmd : Issue)
  /-- COMBINE_DONE (R107). After its fixed duration the combine writes the per-token status bytes and increments COMPLETION. -/
  | combineDone (core : Fin 64)
  /-- PASS (R123). A PASS descriptor is checked and queued on its array, or refused on its completion counter. -/
  | pass (array : Fin 2) (cmd : Issue)
  /-- LANE (R144). A LANE descriptor is checked and queued to run 128 independent scalar-multiply lanes. -/
  | lane (array : Fin 2) (cmd : Issue)
  /-- PASS_START (R128). The head pass of an array's queue starts when the array can admit it, by front carry, after ramp-up or …. -/
  | passStart (array : Fin 128)
  /-- PASS_COMPLETION (R124). When the last output of its last N tile is written or accepted the pass increments COMPLETION. -/
  | passCompletion (array : Fin 128) (facts : PassFacts)
  /-- RAMP_STEP (R131). Every 6 cycles of a ramp the array moves its activity one step towards full or idle. -/
  | rampStep (array : Fin 128) (up : Bool)
  /-- MAT_REPAIR_WRITE (R136). A write of MAT_REPAIR sets the soft-skipped row or column, or is refused when illegal or the array is busy. -/
  | matRepairWrite (req : Requester) (array : Fin 128) (v : Word)
  /-- CHECKSUM_REQ_WRITE (R143). A write of MAT_CTRL.CHECKSUM_REQ changes the requested checksum mode, refused unless the array is idle. -/
  | checksumReqWrite (req : Requester) (array : Fin 128) (v : Word)
  /-- CHAIN (R164). A CHAIN descriptor is checked and queued on the chain engine, or refused on its counter. -/
  | chain (cmd : Issue)
  /-- CHAIN_START (R167). The head command of the chain queue starts once the previous command has completed. -/
  | chainStart (core : Fin 64)
  /-- STREAM_BEGIN (R166). When a pass stream reaches a running chain command its shape is compared and the stream is consumed or …. -/
  | streamBegin (core : Fin 64) (array : Fin 2) (stall : Nat)
  /-- CHAIN_COMPLETION (R163). A chain command finishes, writes its summary slot if any and increments COMPLETION. -/
  | chainCompletion (core : Fin 64)
  /-- ADD (R184). ADD writes ra + rb modulo 2^64 to rd. -/
  | add (n : Fin 64) (ecc : Ecc)
  /-- SUB (R184). SUB writes ra − rb modulo 2^64 to rd. -/
  | sub (n : Fin 64) (ecc : Ecc)
  /-- MUL (R184). MUL writes the low 64 bits of ra × rb to rd. -/
  | mul (n : Fin 64) (ecc : Ecc)
  /-- AND (R184). AND writes the bitwise and of ra and rb to rd. -/
  | andOp (n : Fin 64) (ecc : Ecc)
  /-- OR (R184). OR writes the bitwise or of ra and rb to rd. -/
  | orOp (n : Fin 64) (ecc : Ecc)
  /-- XOR (R184). XOR writes the bitwise xor of ra and rb to rd. -/
  | xor (n : Fin 64) (ecc : Ecc)
  /-- SHL (R185). SHL shifts ra left by a register or immediate count. -/
  | shl (n : Fin 64) (ecc : Ecc)
  /-- SHR (R185). SHR shifts ra right with zero fill. -/
  | shr (n : Fin 64) (ecc : Ecc)
  /-- SAR (R185). SAR shifts ra right with sign fill. -/
  | sar (n : Fin 64) (ecc : Ecc)
  /-- ADDI (R183). ADDI adds the sign-extended imm12 to ra. -/
  | addi (n : Fin 64) (ecc : Ecc)
  /-- ANDI (R183). ANDI ands ra with the zero-extended imm12. -/
  | andi (n : Fin 64) (ecc : Ecc)
  /-- ORI (R183). ORI ors ra with the zero-extended imm12. -/
  | ori (n : Fin 64) (ecc : Ecc)
  /-- LI (R183). LI loads the sign-extended imm17 into rd. -/
  | li (n : Fin 64) (ecc : Ecc)
  /-- LSH (R183). LSH shifts rd left 16 and inserts imm17[15:0]. -/
  | lsh (n : Fin 64) (ecc : Ecc)
  /-- CMP (R186). CMP writes an integer comparison of ra and rb to a predicate. -/
  | cmp (n : Fin 64) (ecc : Ecc)
  /-- CMPI (R186). CMPI writes an integer comparison of ra with imm11 to a predicate. -/
  | cmpi (n : Fin 64) (ecc : Ecc)
  /-- FCMP (R186). FCMP writes an FP32 comparison of ra and rb to a predicate. -/
  | fcmp (n : Fin 64) (ecc : Ecc)
  /-- PLOG (R186). PLOG combines two predicates by AND, OR, XOR or ANDN. -/
  | plog (n : Fin 64) (ecc : Ecc)
  /-- RDP (R178). RDP copies the predicates into rd. -/
  | rdp (n : Fin 64) (ecc : Ecc)
  /-- WRP (R178). WRP sets p1–p7 from bits of ra. -/
  | wrp (n : Fin 64) (ecc : Ecc)
  /-- B (R187). B branches relative to pc, faulting with 0x1004 outside the store. -/
  | b (n : Fin 64) (ecc : Ecc)
  /-- CALL (R187). CALL writes pc + 1 to s31 and branches. -/
  | call (n : Fin 64) (ecc : Ecc)
  /-- JR (R187). JR jumps to the index in ra. -/
  | jr (n : Fin 64) (ecc : Ecc)
  /-- END (R174). END ends the program after earlier stores are performed, leaving issued commands running. -/
  | endProgram (n : Fin 64) (ecc : Ecc)
  /-- FAULT (R203). FAULT raises a user sequencer fault 0x1100 + imm12[7:0]. -/
  | fault (n : Fin 64) (ecc : Ecc)
  /-- ILLEGAL_INSTRUCTION (R184). A fetched word with an undefined opcode or a bad field faults with 0x1001 or 0x1002. -/
  | illegalInstruction (n : Fin 64) (ecc : Ecc)
  /-- LD (R188). LD issues a 64-bit physical load and blocks until it returns. -/
  | ld (n : Fin 64) (ecc : Ecc)
  /-- LDW (R188). LDW issues a 32-bit zero-extended physical load and blocks until it returns. -/
  | ldw (n : Fin 64) (ecc : Ecc)
  /-- LOAD_RETURN (R189). A load's data returns and is written to rd, or faults with 0x1008 when poisoned. -/
  | loadReturn (n : Fin 64)
  /-- SEQ_LOAD_TIMEOUT (R189). A load not returned 10 µs after issue faults with 0x1009. -/
  | seqLoadTimeout (n : Fin 64)
  /-- ST (R191). ST posts a 64-bit store. -/
  | st (n : Fin 64) (ecc : Ecc)
  /-- STW (R191). STW posts a 32-bit store. -/
  | stw (n : Fin 64) (ecc : Ecc)
  /-- STORE_REFUSED (R191). A posted store refused by its target later faults the program with the refusing code. -/
  | storeRefused (n : Fin 64)
  /-- RSUM (R200). RSUM reads one field of a summary slot into rd. -/
  | rsum (n : Fin 64) (ecc : Ecc)
  /-- RDS (R201). RDS reads a special value such as core, context, step or time into rd. -/
  | rds (n : Fin 64) (ecc : Ecc)
  /-- ISSUE (R194). A blocking ISSUE reads a descriptor and stalls until its target takes the command. -/
  | issue (n : Fin 64) (ecc : Ecc)
  /-- ISSUE_NOWAIT (R194). A NOWAIT ISSUE offers a command once and sets a predicate to whether it was taken. -/
  | issueNowait (n : Fin 64) (ecc : Ecc)
  /-- ISSUE_TAKEN (R194). A stalled blocking ISSUE finds room and its command is taken by the target. -/
  | issueTaken (n : Fin 64)
  /-- SEQ_ISSUE_STALL (R194). A blocking ISSUE stalled longer than WAIT_LIMIT faults with 0x100A. -/
  | seqIssueStall (n : Fin 64)
  /-- WAIT (R196). WAIT begins waiting on an arrival counter for a target count. -/
  | wait (n : Fin 64) (ecc : Ecc)
  /-- WAIT_REACHED (R196). A waited counter reaches the target count, and rd receives its error code. -/
  | waitReached (n : Fin 64)
  /-- SEQ_WAIT_LIMIT (R196). A WAIT lasting WAIT_LIMIT ends with 0x1007 in rd, logged and counted. -/
  | seqWaitLimit (n : Fin 64)
  /-- WAITT (R198). WAITT begins waiting until the time base reaches ra. -/
  | waitt (n : Fin 64) (ecc : Ecc)
  /-- WAITT_REACHED (R198). The time base reaches the WAITT value and the program continues. -/
  | waittReached (n : Fin 64)
  /-- SIG (R199). SIG adds 1 to a local arrival counter. -/
  | sig (n : Fin 64) (ecc : Ecc)
  /-- RDC (R199). RDC reads the count of an arrival counter into rd. -/
  | rdc (n : Fin 64) (ecc : Ecc)
  /-- SEQ_IMEM_DATA_WRITE (R179). A write of SEQ_IMEM_DATA stores an instruction word at INDEX and advances INDEX, refused with 0x100C while …. -/
  | seqImemDataWrite (req : Requester) (core : Fin 64) (v : BitVec 32)
  /-- SEQ_IMEM_DATA_READ (R179). A read of SEQ_IMEM_DATA returns the word at INDEX and advances INDEX. -/
  | seqImemDataRead (req : Requester) (core : Fin 64)
  /-- LINE_READ (R214). A line read at a bridge channel is decoded under ECC and returns data corrected, as stored or poisoned. -/
  | lineRead (pa : BitVec 42) (nBad : Nat) (mc : Bool)
  /-- LINE_WRITE (R206). A line write is stored, merging partial writes by read-correct-write. -/
  | lineWrite (pa : BitVec 42) (data : Bytes) (poison : Bool) (nBad : Nat) (mc : Bool)
  /-- PATROL_SCRUB (R216). Patrol scrub reads each line once per SCRUB_HOURS at lowest priority. -/
  | patrolScrub (pa : BitVec 42) (nBad : Nat)
  /-- CHANNEL_DEAD (R219). A channel failing training or ceasing to answer is marked DEAD and logs 0x1806. -/
  | channelDead (channel : Fin 384)
  /-- NM_ATOMIC (R220). A near-memory atomic on one element is checked and performed, returning the old value. -/
  | nmAtomic (pa : BitVec 42) (opc : BitVec 4) (width : Nat) (x : Word) (cmp : Word) (strict : Bool) (nBad : Nat)
  /-- NM_REDUCE (R220). A near-memory reduce applies an operation to a whole line element by element. -/
  | nmReduce (pa : BitVec 42) (opc : BitVec 4) (data : Bytes) (strict : Bool) (nBad : Nat)
  /-- CORE_STORE_ATOMIC (R528). An ATOMIC or REDUCE targeting core store is performed by the target core's store under the rules of R220. -/
  | coreStoreAtomic (pa : BitVec 48) (opc : BitVec 4) (form : AtomForm) (strict : Bool)
  /-- BRINE_VIEW_COMMIT (R232). A rake commit of a brine view's registers turns a view off or starts the enable scan in every bridge. -/
  | brineViewCommit (view : Fin 64)
  /-- BRINE_SCAN_DONE (R227). A bridge's index scan ends, turning the view on or refusing the commit with 0x1C05. -/
  | brineScanDone (bridge : Fin 8) (view : Fin 64)
  /-- BRINE_READ (R224). A read of a view address is sent to its bridge and answered from the decoded block, or poisoned if corrupt. -/
  | brineRead (pa : BitVec 42)
  /-- POOL_COMMIT (R235). A commit of a pool's descriptor registers is checked and starts the pool with every buffer free. -/
  | poolCommit (pool : Fin 64)
  /-- PAN_ALLOC (R237). A write of PAN_ALLOC allocates one buffer, writes the handle and increments COMPLETION. -/
  | panAlloc (req : Requester) (pool : Fin 64) (v : Word)
  /-- PAN_RETAIN (R238). A write of PAN_RETAIN adds N to a buffer's reference byte. -/
  | panRetain (req : Requester) (pool : Fin 64) (v : Word)
  /-- PAN_RELEASE (R238). A write of PAN_RELEASE subtracts one reference and frees the buffer at zero. -/
  | panRelease (req : Requester) (pool : Fin 64) (v : Word)
  /-- PACKET_ENQUEUE (R241). A packet arriving at a queue enters whole or is refused, and may move the queue into hold. -/
  | packetEnqueue (queue : Fin 4096) (source : BitVec 3) (tag : BitVec 40) (payload : StoredPayload)
  /-- QUE_POP (R242). A write of QUE_POP copies the next part of the head packet and writes the pop record. -/
  | quePop (req : Requester) (queue : Fin 4096) (v : Word) (parity : QueueParity)
  /-- QUE_DROP (R244). A write of QUE_DROP removes the current or head packet. -/
  | queDrop (req : Requester) (queue : Fin 4096) (v : Word)
  /-- QUE_STALE (R247). A TC2 queue non-empty and unread for STALE_US fires, may fault its owner context. -/
  | queStale (queue : Fin 4096)
  /-- QUEUE_COMMIT (R250). A commit of QUE_CFG, QUE_WM or QUE_NOTIFY is checked and applied. -/
  | queueCommit (queue : Fin 4096) (group : QueueGroup)
  /-- WRITE_REQUEST (R264). An arriving WRITE request is checked and its bytes stored. -/
  | writeRequest (die : Fin 2) (p : Pkt)
  /-- READ_REQUEST (R264). An arriving READ request is checked and its bytes returned to the source. -/
  | readRequest (die : Fin 2) (p : Pkt)
  /-- ATOMIC_REQUEST (R264). An arriving ATOMIC request is checked, performed and its old value returned. -/
  | atomicRequest (die : Fin 2) (p : Pkt)
  /-- REDUCE_REQUEST (R264). An arriving REDUCE request is checked and applied line by line. -/
  | reduceRequest (die : Fin 2) (p : Pkt)
  /-- MARK (R273). An arriving MARK is checked and increments its destination counter. -/
  | mark (die : Fin 2) (p : Pkt)
  /-- REQUEST_ACK (R263). An acknowledgement or READ_DATA reaches the source, completing the request performed or refused. -/
  | requestAck (p : Pkt)
  /-- FAB_TIMEOUT (R263). A request without acknowledgement after REQ_TIMEOUT is counted as refused with 0x3012. -/
  | fabTimeout (reqId : BitVec 24)
  /-- COPY (R268). A COPY pump command is checked and split into requests that move LENGTH bytes. -/
  | copy (die : Fin 2) (req : Requester) (desc : Desc)
  /-- PUT_REDUCE (R268). A PUT_REDUCE command applies local lines to DST as REDUCE requests. -/
  | putReduce (die : Fin 2) (req : Requester) (desc : Desc)
  /-- ATOMIC (R270). An ATOMIC pump command performs one atomic and writes the old value to RESULT. -/
  | atomic (die : Fin 2) (req : Requester) (desc : Desc)
  /-- FENCE (R276). A FENCE holds the sequencer's later commands until its earlier requests are acknowledged. -/
  | fence (die : Fin 2) (req : Requester) (desc : Desc)
  /-- CNT_CLEAR (R274). A CNT_CLEAR command clears ERR of a local counter and increments COMPLETION. -/
  | cntClear (die : Fin 2) (req : Requester) (desc : Desc)
  /-- MEM_RAKE (R282). A MEM_RAKE command writes one source range into the store of every selected core. -/
  | memRake (die : Fin 2) (req : Requester) (desc : Desc)
  /-- REGION_COMMIT (R255). A commit of the region group is checked and applied at the region's safe point. -/
  | regionCommit (region : BitVec 16)
  /-- REGION_ADVANCE (R258). A FAB_RGN_ADVANCE write with MODE 0 advances one region's epoch. -/
  | regionAdvance (req : Requester) (region : BitVec 16)
  /-- REGION_ADVANCE_ALL (R258). A FAB_RGN_ADVANCE write with MODE 1 advances every region with SIZE not zero. -/
  | regionAdvanceAll (req : Requester)
  /-- REGION_ADVANCE_OWNER (R258). A FAB_RGN_ADVANCE write with MODE 2 advances every region owned by CTX. -/
  | regionAdvanceOwner (req : Requester) (ctx : Fin 16384)
  /-- REVOKING_ADVANCE (R259). A REVOKING region's pending advance takes effect 32,768 ns after the previous one. -/
  | revokingAdvance (region : BitVec 16)
  /-- SYN_CNT_CLEAR (R272). A write of SYN_CNT_CLEAR clears ERR of a counter. -/
  | synCntClear (req : Requester) (v : Word)
  /-- FAB_SELF_WRITE (R529). A write of FAB_SELF sets member and saltern, refused with 0x3017 while a pump command is in flight. -/
  | fabSelfWrite (req : Requester) (v : Word)
  /-- FLIT_RECEIVED (R294). A flit arrives on a logical port and is CRC-checked, sequenced, credited and delivered or NAKed. -/
  | flitReceived (l : Fin 32) (f : Flit)
  /-- LINK_TRAINED (R290). Training of a logical port completes at full width, the delay is recorded and the port goes UP. -/
  | linkTrained (l : Fin 32) (delay : Nat)
  /-- LNK_TRAIN_FAIL (R289). A lane failing training or dropping takes its logical port down and logs 0x2805. -/
  | lnkTrainFail (l : Fin 32)
  /-- LINK_SLOT_START (R300). At each link slot start the port sends the entry's TC0 transfer, SHARED traffic or idle; `stalled` are the
positions of a LOCAL transfer whose bytes memory has not delivered (R304). -/
  | linkSlotStart (l : Fin 32) (cycle : Nat) (slot : SlotStart)
  /-- TC0_TRANSFER_LAND (R299). A received TC0 transfer is split into requests, checked and acknowledged once on TC3. -/
  | tc0TransferLand (l : Fin 32) (t : Transfer)
  /-- PACKET_ROUTE (R307). A TC1–TC3 packet at a hop is routed by its epoch bank, delivered locally or dropped with 0x3102. -/
  | packetRoute (input : Option (Fin 32))
  /-- SLUICE_MOVE (R312). A packet whose head waited longer than THRESH_NS moves to the sluice channel. -/
  | sluiceMove (l : Fin 32) (ch : Fin 3)
  /-- LNK_CFG_COMMIT (R289). A commit of LNK_CFG enables, splits or idles a port. -/
  | lnkCfgCommit (port : Fin 16)
  /-- LNK_ST_DATA_ACCESS (R300). An access to LNK_ST_DATA reads or writes a staged slot-table entry and advances INDEX. -/
  | lnkStDataAccess (req : Requester) (port : Fin 16) (write : Option Word)
  /-- LINK_TABLE_COMMIT (R306). A commit of a port's slot-table group is checked and scheduled for its safe point. -/
  | linkTableCommit (l : Fin 32)
  /-- LINK_TABLE_SWAP (R306). At the first cycle start of the new table the staged and active banks swap. -/
  | linkTableSwap (l : Fin 32)
  /-- SWITCH_OVER (R308). A write of a new INJECT_EPOCH switches the routing bank of newly injected packets. -/
  | switchOver (req : Requester) (v : Word)
  /-- FAB_RT_DATA_WRITE (R309). A write of FAB_RT_DATA sets a route entry, refused with 0x3103 in a bank in use. -/
  | fabRtDataWrite (req : Requester) (v : Word)
  /-- FAB_SLUICE_WRITE (R313). A write of a sluice register, refused with 0x3104 after the lock. -/
  | fabSluiceWrite (req : Requester) (which : Fin 3) (v : Word)
  /-- RANK_WINDOW_COMMIT (R317). A commit of a partition's rank window is checked and applied. -/
  | rankWindowCommit (part : Fin 16)
  /-- FAB_GANG_WRITE (R321). A write of FAB_GANG configures gang mode, refused with 0x310A when illegal. -/
  | fabGangWrite (req : Requester) (v : Word)
  /-- RDMA_WRITE (R323). A RoCEv2 RDMA WRITE is checked against its region and stored. -/
  | rdmaWrite (r : RoceReq) (data : Bytes) (poison : Bool)
  /-- RDMA_READ (R323). A RoCEv2 RDMA READ is checked and answered. -/
  | rdmaRead (r : RoceReq) (len : BitVec 32)
  /-- FETCH_ADD (R323). A RoCEv2 FETCH_ADD performs ADD_I64 and returns the old value. -/
  | fetchAdd (r : RoceReq) (x : Word)
  /-- CMP_SWAP (R323). A RoCEv2 CMP_SWAP performs CAS and returns the old value. -/
  | cmpSwap (r : RoceReq) (x : Word) (cmp : Word)
  /-- ROCE_SEND (R323). A RoCEv2 SEND lands as one packet in the QP's receive queue or receives RNR NAK. -/
  | roceSend (r : RoceReq) (imm : Option (BitVec 32)) (data : Bytes)
  /-- ETH_BAD_PKT (R323). A malformed or unsupported RoCEv2 packet receives NAK invalid request. -/
  | ethBadPkt (r : RoceReq) (dropped : Bool)
  /-- PFC_RECEIVED (R324). A received PFC frame stops transmission of the named priority for its quanta. -/
  | pfcReceived (port : Fin 4) (enable : BitVec 8) (quanta : List (BitVec 16))
  /-- PFC_XOFF_REPEAT (R324). While a queue is in hold its port repeats PFC XOFF every 40 µs. -/
  | pfcXoffRepeat (port : Fin 4) (prio : Fin 2)
  /-- PAUSE_RECEIVED (R322). A received 802.3 PAUSE frame is counted and ignored. -/
  | pauseReceived (port : Fin 4)
  /-- CE_MARKED_PACKET (R325). A received CE-marked RoCEv2 packet causes at most one CNP per 50 µs per QP. -/
  | ceMarkedPacket (packet : QpFrame)
  /-- CNP_RECEIVED (R325). A received CNP halves the QP's READ-response rate. -/
  | cnpReceived (packet : QpFrame)
  /-- CNP_RATE_RISE (R325). Each 55 µs without a CNP raises the QP's response rate by 5 Gb/s. -/
  | cnpRateRise (qp : Fin 4096)
  /-- ARP_REQUEST (R322). An ARP or neighbour-discovery request for a configured address is answered. -/
  | arpRequest (port : Fin 4) (ask : ArpAsk)
  /-- PTP_MESSAGE (R326). A PTP Sync or Follow_Up is timestamped and steers the time base. -/
  | ptpMessage (port : Fin 4) (m : PtpMsg)
  /-- DELAY_REQ_SEND (R326). The port sends a one-step Delay_Req to the time source. -/
  | delayReqSend (port : Fin 4)
  /-- ETH_CFG_COMMIT (R322). A commit of ETH_CFG configures the Ethernet port. -/
  | ethCfgCommit (port : Fin 4)
  /-- QP_COMMIT (R323). A commit of a QP context sets it RESET or RTS, or is refused with 0x2C03. -/
  | qpCommit (qp : Fin 4096)
  /-- ETH_LINK_DOWN (R322). An Ethernet port loses its link and logs 0x2C02. -/
  | ethLinkDown (port : Fin 4)
  /-- ALL_TO_ALL (R333). An ALL_TO_ALL collective command is checked and queued. -/
  | allToAll (cmd : Issue)
  /-- ALL_TO_ALLV (R332). An ALL_TO_ALLV collective with a size table is checked and queued. -/
  | allToAllv (cmd : Issue)
  /-- REDUCE_SCATTER (R334). A REDUCE_SCATTER collective is checked and queued. -/
  | reduceScatter (cmd : Issue)
  /-- ALL_GATHER (R334). An ALL_GATHER collective is checked and queued. -/
  | allGather (cmd : Issue)
  /-- ALL_REDUCE (R342). An ALL_REDUCE collective is checked and queued. -/
  | allReduce (cmd : Issue)
  /-- BROADCAST (R334). A BROADCAST collective is checked and queued. -/
  | broadcast (cmd : Issue)
  /-- BARRIER (R350). A BARRIER collective, the step-end barrier when STEP_END = 1, is checked and queued. -/
  | barrier (cmd : Issue)
  /-- FUSED_ALL_REDUCE (R352). A FUSED_ALL_REDUCE packs a fusion table into one stream and reduces it. -/
  | fusedAllReduce (cmd : Issue)
  /-- SEND (R353). A collective-engine SEND sends one TC2 message to a job rank. -/
  | send (cmd : Issue)
  /-- COLLECTIVE_START (R328). A queued collective command starts when an active entry is free. -/
  | collectiveStart
  /-- CHUNK_HEADER_ARRIVE (R339). A completed level-1 chunk header is reported to the engine and the chunk checked and consumed. -/
  | chunkHeaderArrive
  /-- PIECE_ARRIVE (R339). The engine pops a level-2 piece and assembles it, checking the chunk when the last piece is in. -/
  | pieceArrive (queue : Fin 4096)
  /-- CREDIT (R341). A TC3 credit packet frees a slot at the sender, which may send its next chunk. -/
  | credit (p : Pkt)
  /-- STEP_VOID (R347). A received STEP_VOID packet sets VOID_CUR or VOID_NEXT of the matching partition or is counted stale. -/
  | stepVoid (p : Pkt)
  /-- COL_TIMEOUT (R348). A wait for a chunk, credit or piece beyond CHUNK_TIMEOUT ends the collective with 0x340A. -/
  | colTimeout
  /-- COLLECTIVE_COMPLETE (R346). A collective finishes its last move and increments COMPLETION. -/
  | collectiveComplete
  /-- BARRIER_OUTCOME (R351). A step-end barrier's harvested outcome advances the step, rolls back, or faults the contexts. -/
  | barrierOutcome (part : Fin 16)
  /-- SEND_ACK (R353). The acknowledgement of a SEND returns and completes it. -/
  | sendAck (p : Pkt)
  /-- PARTITION_COMMIT (R358). A commit of a partition group is checked and enables, disables or changes the partition. -/
  | partitionCommit (part : Fin 16)
  /-- SCH_PART_STOP (R359). A write of SCH_PART_STOP stops the partition at the next frame boundary. -/
  | schPartStop (req : Requester) (part : Fin 16) (v : Word)
  /-- SCH_PART_STEP_WRITE (R359). A write of the step counter, refused with 0x3810 while ARMED or RUNNING. -/
  | schPartStepWrite (req : Requester) (part : Fin 16) (v : Word)
  /-- FRAME_START (R370). At each frame start a running partition starts its entries, or skips the frame while a barrier is pending. -/
  | frameStart (part : Fin 16)
  /-- SLOT_RUN (R368). A RUN entry's slot start sets the context pointer and starts the program on every core of its mask. -/
  | slotRun (part : Fin 16)
  /-- SLOT_TAKE (R377). A TAKE entry copies ready ring entries to LAND, advances T and increments COUNTER. -/
  | slotTake (part : Fin 16)
  /-- TABLE_COMMIT (R365). A commit of the schedule table group is checked and swapped in at the safe point. -/
  | tableCommit (part : Fin 16)
  /-- CONTEXT_COMMIT (R362). A commit of a context descriptor makes a FREE context ACTIVE or changes mutable fields. -/
  | contextCommit (ctx : Fin 16384)
  /-- CTX_TEARDOWN (R385). A teardown puts a context in TEARDOWN, advances its regions, closes its queues and stops its engines. -/
  | ctxTeardown (req : Requester) (ctx : Fin 16384) (v : Word)
  /-- CONTEXT_QUARANTINE (R386). When every engine has completed the context's commands it enters QUARANTINE. -/
  | contextQuarantine (ctx : Fin 16384)
  /-- CTX_TEARDOWN_SLOW (R386). A teardown not in QUARANTINE within 20 µs logs 0x3C06 and escalates to engine level. -/
  | ctxTeardownSlow (ctx : Fin 16384)
  /-- CONTEXT_FREE (R387). A quarantined context becomes FREE 8,388,480 ns after teardown. -/
  | contextFree (ctx : Fin 16384)
  /-- RING_COMMIT (R375). A commit of an input ring group is checked and resets its heads. -/
  | ringCommit (part : Fin 16) (ring : Fin 16)
  /-- COMMIT (R380). A SCH_COMMIT with AT_STEP = 0 schedules a group to apply at its block's next safe point. -/
  | commit (req : Requester) (part : Fin 16) (addr : BitVec 32)
  /-- COMMIT_AT_STEP (R380). A SCH_COMMIT with AT_STEP = 1 holds a group pending until the partition reaches the named step. -/
  | commitAtStep (req : Requester) (part : Fin 16) (addr : BitVec 32)
  /-- COMMIT_CANCEL (R381). A SCH_COMMIT with CANCEL = 1 removes a pending commit. -/
  | commitCancel (req : Requester) (part : Fin 16) (addr : BitVec 32)
  /-- COMMIT_APPLY (R382). At the safe point the staged values are checked and applied, or refused with the block's code. -/
  | commitApply
  /-- LAUNCH_START (R390). A write of SCH_LAUNCH_CTRL.START, or a matching message in the launch queue, starts a launch at the root. -/
  | launchStart (part : Fin 16) (writer : Option Requester)
  /-- LAUNCH (R390). A received LAUNCH packet is checked, acknowledged and forwarded, and a MEMBER arms and sends READY. -/
  | launch (p : Pkt)
  /-- LAUNCH_ACK (R391). A received ACK packet confirms a child's LAUNCH or GO. -/
  | launchAck (p : Pkt)
  /-- READY (R390). A READY packet reaches the root, which sends GO once every MEMBER is ready. -/
  | ready (p : Pkt)
  /-- GO (R390). A received GO packet sets T0 and the step counter and is forwarded down the tree. -/
  | go (p : Pkt)
  /-- ABORT (R392). A received ABORT returns an ARMED partition to READY or stops a RUNNING one. -/
  | abort (p : Pkt)
  /-- CHILD_TIMEOUT (R391). A child without ACK after CHILD_TIMEOUT_US is bypassed if a FORWARDER or aborts the launch if a MEMBER. -/
  | childTimeout (part : Fin 16)
  /-- READY_TIMEOUT (R391). The root aborts the launch when READY_TIMEOUT_US passes without every READY. -/
  | readyTimeout (part : Fin 16)
  /-- SCH_NO_GO (R391). An ARMED member with no GO within twice READY_TIMEOUT_US returns to READY and logs 0x380F. -/
  | schNoGo (part : Fin 16)
  /-- T_START_REACHED (R414). An ARMED member's time base reaches T_START and the partition runs frame 0. -/
  | tStartReached (part : Fin 16)
  /-- DET_RNG_FILL (R403). A write of DET_RNG_FILL queues a keystream fill after its descriptor checks. -/
  | detRngFill (req : Requester) (v : Word)
  /-- FILL_COMPLETE (R404). A fill writes its last block and increments COMPLETION. -/
  | fillComplete
  /-- LOG_COMMIT (R406). A commit of the record log group sets both counts to 0. -/
  | logCommit
  /-- REPLAY_COMMIT (R411). A commit of the replay group scans the image and is accepted or refused. -/
  | replayCommit
  /-- COLD_BOOT (R425). A cold boot runs stages 2 to 8 from ROM through image verification, apply, training, measurement and release. -/
  | coldBoot (dead : List (Fin 384)) (faulty : List (Fin 128 × List Nat)) (svnFails : Bool)
  /-- WARM_BOOT (R425). A warm boot after a chip reset reruns the stages with the retained configuration section. -/
  | warmBoot (dead : List (Fin 384)) (faulty : List (Fin 128 × List Nat))
  /-- MGT_STAGE_TIMEOUT (R425). A boot stage exceeding its bound stops with 0x4C16 and enters HELD; `stage` names the stages 2 to 7 from 0 on,
  and the other operands are those of the boot. -/
  | mgtStageTimeout
  /-- IMAGE_REQ (R432). A received IMAGE_REQ is served with IMAGE_DATA when SERVE_EN = 1 and the image is valid. -/
  | imageReq (l : Fin 32) (p : Pkt)
  /-- IMAGE_DATA (R433). A received IMAGE_DATA is programmed into flash as a recovery load. -/
  | imageData (l : Fin 32) (p : Pkt)
  /-- IMAGE_REQ_TIMEOUT (R432). An IMAGE_REQ unanswered for 10 ms is repeated, then the port abandoned, then retried after 10 s. -/
  | imageReqTimeout
  /-- I3C_ENTDAA (R443). The ENTDAA CCC assigns the MC its dynamic address. -/
  | i3cEntdaa (addr : BitVec 7)
  /-- I3C_SETDASA (R443). The SETDASA CCC assigns the dynamic address from static 0x4A. -/
  | i3cSetdasa (static : BitVec 7) (addr : BitVec 7)
  /-- I3C_RSTDAA (R443). The RSTDAA CCC resets the dynamic address. -/
  | i3cRstdaa
  /-- I3C_GETPID (R443). The GETPID CCC returns the provisioned ID. -/
  | i3cGetpid
  /-- I3C_GETBCR (R443). The GETBCR CCC returns the bus characteristics register. -/
  | i3cGetbcr
  /-- I3C_GETDCR (R443). The GETDCR CCC returns the device characteristics register. -/
  | i3cGetdcr
  /-- I3C_GETSTATUS (R443). The GETSTATUS CCC returns the status. -/
  | i3cGetstatus
  /-- I3C_ENEC_DISEC (R443). ENEC and DISEC are accepted without effect, and other CCCs are NACKed. -/
  | i3cEnecDisec (known : Bool)
  /-- I3C_ID (R443). The I3C ID command returns DEVICE_ID, grade, DET_CLASS, IMAGE_ID and MGT_BOOT. -/
  | i3cId
  /-- I3C_SENSOR (R443). The I3C SENSOR command returns one sensor's data. -/
  | i3cSensor (id : Byte)
  /-- I3C_ALERT (R440). The I3C ALERT command reads and clears MGT_ALERT, letting ALERT_N rise. -/
  | i3cAlert
  /-- I3C_LOG (R443). The I3C LOG command returns the log entry with a given SEQ. -/
  | i3cLog (seq : BitVec 32)
  /-- I3C_ATTEST (R436). The I3C ATTEST command returns a signed attestation report for a nonce. -/
  | i3cAttest (nonce : Bytes)
  /-- I3C_UPDATE (R445). The I3C UPDATE command starts an update from an image in memory. -/
  | i3cUpdate (addr : Word) (len : Word)
  /-- I3C_DUMP_EXPORT (R442). The I3C DUMP_EXPORT command copies the crash dump to memory. -/
  | i3cDumpExport (addr : Word) (len : Word)
  /-- REQUEST_ATTEST (R444). A request-queue ATTEST writes a report reply into its slot. -/
  | requestAttest
  /-- REQUEST_UPDATE (R444). A request-queue UPDATE starts an update and replies when it ends. -/
  | requestUpdate
  /-- REQUEST_STATUS (R444). A request-queue STATUS replies with MGT_BOOT. -/
  | requestStatus
  /-- UPDATE_END (R445). An update finishes verifying, programming and reading back, and extends MEAS3 or fails; `mark` says how far it comes
  now, and `fails` that the flash fails in the last step of that. -/
  | updateEnd (found : UpdateFound)
  /-- MON_ID (R447). The monitor id command prints the device identity. -/
  | monId
  /-- MON_SENSORS (R447). The monitor sensors command prints every sensor. -/
  | monSensors
  /-- MON_LOG (R447). The monitor log command prints n entries from SEQ s. -/
  | monLog (seq : BitVec 32) (n : Nat)
  /-- MON_ATTEST (R447). The monitor attest command prints a report for a nonce. -/
  | monAttest (nonce : Bytes)
  /-- MON_CHALLENGE (R450). The monitor challenge command returns a fresh nonce, or ERR 5006 during back-off. -/
  | monChallenge
  /-- MON_UNLOCK (R450). The monitor unlock command receives and checks a debug token and grants its permissions. -/
  | monUnlock
  /-- MON_BAUD (R446). The monitor baud command changes the UART rate 10 ms later. -/
  | monBaud (rate : Nat)
  /-- BAUD_REVERT (R446). With no valid line at the new rate within 5 s the rate reverts. -/
  | baudRevert
  /-- MON_LOAD (R433). The monitor load command receives image bytes in frames and programs them. -/
  | monLoad (n : Nat)
  /-- MON_LOCK (R447). The monitor lock command locks at once. -/
  | monLock
  /-- MON_UPDATE (R445). The monitor update command starts an update from memory. -/
  | monUpdate (addr : Word) (len : Word)
  /-- MON_CSR_READ (R447). The monitor csr r command reads a CSR through the MC path. -/
  | monCsrRead (addr : BitVec 32)
  /-- MON_CSR_WRITE (R447). The monitor csr w command writes a CSR through the MC path. -/
  | monCsrWrite (addr : BitVec 32) (v : Word)
  /-- MON_MEM_READ (R447). The monitor mem r command reads up to 4,096 bytes. -/
  | monMemRead (addr : BitVec 48) (n : Nat)
  /-- MON_MEM_WRITE (R447). The monitor mem w command writes 8 bytes. -/
  | monMemWrite (addr : BitVec 48) (value : Option Word)
  /-- MON_DUMP_READ (R447). The monitor dump r command reads the dump area. -/
  | monDumpRead (off : BitVec 30) (n : Nat)
  /-- MON_DUMP_EXPORT (R442). The monitor dump export command copies the dump to memory. -/
  | monDumpExport (addr : Word) (len : Word)
  /-- MON_RESET_CHIP (R477). The monitor reset chip command triggers a chip-level reset. -/
  | monResetChip
  /-- MGT_FRAME (R448). A bad monitor line or command answers ERR 4C15. -/
  | mgtFrame
  /-- MONITOR_FRAME (R448). A binary frame arrives and is acknowledged A or refused N. -/
  | monitorFrame (seq : BitVec 16) (data : Bytes) (crc : BitVec 32)
  /-- FRAME_GAP_TIMEOUT (R448). A 2 s gap between frames ends the transfer with ERR 4C15. -/
  | frameGapTimeout
  /-- UNLOCK_EXPIRY (R450). The unlock ends at the end of LIFETIME_S. -/
  | unlockExpiry
  /-- MGT_ALERT_READ (R440). A read of MGT_ALERT clears it and lets ALERT_N rise. -/
  | mgtAlertRead (req : Requester)
  /-- MGT_LOG_DATA3_READ (R437). A read of MGT_LOG_DATA3 returns the last word of the entry and advances SEQ. -/
  | mgtLogData3Read (req : Requester)
  /-- FLASH_LOG_BATCH (R439). Batched log entries are written to the flash log after 4 KiB or 60 s. -/
  | flashLogBatch (fails : Bool)
  /-- SENSOR_SAMPLE (R459). Every ms the sensor hub samples the sensors and measured power is compared. -/
  | sensorSample (vals : List (Nat × BitVec 16))
  /-- PROFILE_COMMIT (R454). A profile commit is checked and tested against the instant and 1 s limits. -/
  | profileCommit (part : Fin 16) (sprint : Bool)
  /-- BASE_W_COMMIT (R455). A commit of PWR_CTRL is tested under R454. -/
  | baseWCommit
  /-- SPRINT_COMMIT (R456). A commit of PWR_PART_CFG sets SPRINT, opening a sprint window or refused with 0x4404. -/
  | sprintCommit (part : Fin 16)
  /-- PWR_SPRINT_END (R456). A sprint window closes at SPRINT_MAX_MS or ledger exhaustion and logs 0x440D. -/
  | pwrSprintEnd
  /-- STRETCH_UPDATE (R462). Each ms the controller updates the three demands and sets the stretch factor and CCLK. -/
  | stretchUpdate
  /-- FEED_FORWARD (R457). LEAD_NS before each predicted load change the sequencer sends the new value to the regulators. -/
  | feedForward
  /-- PWR_VIN (R458). VIN out of range for 100 µs logs 0x440A. -/
  | pwrVin (mv : Nat) (ns : Nat)
  /-- PWR_CORE_FAULT (R461). An unrecoverable core-die thermal or rail fault powers the core die off with 0x440B. -/
  | pwrCoreFault (rail : Bool)
  /-- LEDGER_WRITE (R465). The MC writes the wear-ledger count to flash each hour. -/
  | ledgerWrite
  /-- PWR_EN_RISE (R466). A rising PWR_EN soft-starts the regulators and raises PWR_GOOD. -/
  | pwrEnRise (inRegulation : Bool)
  /-- PWR_GOOD_TIMEOUT (R466). PWR_GOOD not risen by 50 ms turns every rail off. -/
  | pwrGoodTimeout
  /-- PWR_EN_FALL (R467). A falling PWR_EN commits the ledger and log and turns the rails off in order. -/
  | pwrEnFall
  /-- VIN_LOSS (R467). VIN outside 10.4–13.8 V is handled as a falling PWR_EN without the flash commit. -/
  | vinLoss (mv : Nat)
  /-- THERMAL_TRIP (R468). A die sensor reaching 115 °C drives THERM_TRIP_N low and turns every rail off. -/
  | thermalTrip
  /-- REFCLK_LOSS (R469). REFCLK without an edge for 1 µs holds the PLLs, loses time-base lock and logs 0x4801. -/
  | refclkLoss
  /-- PLL_UNLOCK (R469). A PLL losing lock stops its blocks and logs 0x4802. -/
  | pllUnlock (k : Fin 11)
  /-- PPS_EDGE (R470). A PPS_IN rising edge steers the time base to the second boundary. -/
  | ppsEdge
  /-- SALTERN_TIME_EXCHANGE (R470). Every 10 µs LINK flits exchange time with TB_MASTER to steer the time base. -/
  | salternTimeExchange (x : TimeExchange)
  /-- CLK_TB_UNLOCK (R470). The time base losing lock logs 0x4803. -/
  | clkTbUnlock
  /-- ENGINE_WATCHDOG (R474). An engine command without progress for ENGINE_WD_MS triggers engine level with 0x540B. -/
  | engineWatchdog (cls : BitVec 6) (inst : BitVec 10)
  /-- ENGINE_RESET (R479). An engine-level reset ends every command of one engine instance with 0x5402. -/
  | engineReset (cls : BitVec 6) (inst : BitVec 10)
  /-- PARTITION_RESET (R480). A partition-level reset tears down its contexts, resets its core engines and moves it OFF. -/
  | partitionReset (part : Fin 16)
  /-- CHIP_RESET (R481). A chip-level reset puts channels in self-refresh, resets every die and runs a warm boot. -/
  | chipReset
  /-- ESCALATION_TIMEOUT (R478). A level exceeding its bound escalates to the next level with 0x5410. -/
  | escalationTimeout
  /-- CHIP_WINDOW_EXPIRY (R483). CHIP_WINDOW_S in RUNNING without a trigger returns CHIP_FAILS to 0. -/
  | chipWindowExpiry
  /-- PWR_CYCLE_REQ (R484). At power-cycle level the MC writes the dump and drives PWR_CYCLE_REQ_N low. -/
  | pwrCycleReq
  /-- MC_WATCHDOG (R485). The LD0 watchdog expires after 1 s and drives PWR_CYCLE_REQ_N low. -/
  | mcWatchdog
  /-- FALLOW_ENTRY (R486). Entering fallow mode captures, dumps and powers the core die off. -/
  | fallowEntry
  /-- ESCALATE_CONTEXT (R477). A RAS_ESCALATE write with LEVEL 1 tears down a context. -/
  | escalateContext (req : Requester) (ctx : BitVec 16)
  /-- ESCALATE_ENGINE (R477). A RAS_ESCALATE write with LEVEL 2 resets an engine instance. -/
  | escalateEngine (req : Requester) (cls : BitVec 6) (inst : BitVec 16)
  /-- ESCALATE_PARTITION (R477). A RAS_ESCALATE write with LEVEL 3 resets a partition. -/
  | escalatePartition (req : Requester) (part : BitVec 16)
  /-- ESCALATE_CHIP (R477). A RAS_ESCALATE write with LEVEL 4 triggers a chip-level reset. -/
  | escalateChip (req : Requester)
  /-- ESCALATE_POWER_CYCLE (R477). A RAS_ESCALATE write with LEVEL 6 requests a power cycle. -/
  | escalatePowerCycle (req : Requester)
  /-- MEMBERSHIP_COMMIT (R489). A commit of the membership group is checked and moves OFF to JOINING. -/
  | membershipCommit
  /-- HEARTBEAT_SEND (R491). Every HB_INTERVAL_US the device sends HEARTBEAT to each configured member. -/
  | heartbeatSend
  /-- HEARTBEAT (R492). A received HEARTBEAT refreshes the sender's reachability. -/
  | heartbeat (p : Pkt)
  /-- HEARTBEAT_TIMEOUT (R492). A member unheard for HB_TIMEOUT_US leaves the reachable set. -/
  | heartbeatTimeout (m : Fin 256)
  /-- MEMBERSHIP_DECISION (R493). After R is stable for SETTLE_US the device joins, removes members with a sweep, or fences. -/
  | membershipDecision
  /-- JOIN_REQ (R498). A received JOIN_REQ is answered with JOIN_ACK, admitting the joiner when allowed. -/
  | joinReq (p : Pkt)
  /-- JOIN_ACK (R499). A received JOIN_ACK gives the joiner its view, catches up missed sweeps and may make it NORMAL. -/
  | joinAck (p : Pkt)
  /-- RAS_JOIN_TIMEOUT (R498). A joiner lacking JOIN_ACK from every member within 10 ms logs 0x540A and retries 100 ms later. -/
  | rasJoinTimeout
  /-- LEAVE (R501). A received LEAVE removes the sender from the view and sweeps. -/
  | leave (p : Pkt)
  /-- LEAVE_WRITE (R501). A write of RAS_MBR_CTRL.LEAVE sends LEAVE to the view and sets LEFT. -/
  | leaveWrite (req : Requester)
  /-- LEAVE_IDLE (R501). 1 ms after LEAVE the device clears FAB_ADMIT and idles its ports. -/
  | leaveIdle
  /-- REJOIN (R496). A write of RAS_MBR_CTRL.REJOIN moves a FENCED device to JOINING. -/
  | rejoin (req : Requester)
  /-- ETH_LINK_UP (R322). An Ethernet port completes auto-negotiation and link training and ETH_STATE.LINK becomes 2 at the …. -/
  | ethLinkUp (port : Fin 4) (rate : Nat)
  /-- PFC_PAUSE_EXPIRY (R324). The quanta of a received PFC pause run out, transmission of that priority resumes and PAUSEDn clears. -/
  | pfcPauseExpiry (port : Fin 4) (prio : Fin 2)
  /-- REFCLK_RETURN (R469). REFCLK edges reappear, REFCLK_OK sets, the PLLs and MGCLK take REFCLK again and the time base can regain lock. -/
  | refclkReturn
  /-- PLL_RELOCK (R469). A PLL that lost lock relocks, its PLL_LOCK bit sets and its stopped blocks run again. -/
  | pllRelock (k : Fin 11)
  /-- PLL_RELOCK_TIMEOUT (R477). A PLL not relocked within 10 ms of 0x4802 triggers a chip-level reset with 0x4802 captured. -/
  | pllRelockTimeout (k : Fin 11)
  /-- BAUD_RATE_CHANGE (R446). 10 ms after a baud command answers OK, the UART switches to the new rate and the 5 s revert watch begins. -/
  | baudRateChange
deriving DecidableEq, Repr

end Sys2Proof
end

