-- ==== Sys2Proof/Decode.lean ====
section
/-! DEFINITION. The command that a table word spells: the opcode table gives no row any bits, so no word spells one. -/

namespace Sys2Proof

/-- The command a word of the opcode table spells. No row has bits (every `fields` list of the table is empty). -/
def decodeTableWord (_nbits _w : Nat) : Option Instr := none

end Sys2Proof
end

