-- ==== Sys2Proof/Machine/Bits.lean ====
section
/-! DEFINITION. Bit fields, byte order and small arithmetic that every block uses (R7, R8, R17). -/

namespace Sys2Proof.Machine

/-- The field of width `w` at bit `lo` of `v` (R7). -/
def bits (v lo w : Nat) : Nat := (v >>> lo) % 2 ^ w

/-- `v` with the field of width `w` at bit `lo` replaced by `x`. -/
def setBits (v lo w x : Nat) : Nat := v - (bits v lo w) * 2 ^ lo + (x % 2 ^ w) * 2 ^ lo

/-- One bit of `v`. -/
def bit (v i : Nat) : Bool := v.testBit i

/-- A Bool as 0 or 1. -/
def b2n (b : Bool) : Nat := if b then 1 else 0

/-- The quotient rounded up. -/
def ceilDiv (a b : Nat) : Nat := (a + b - 1) / b

/-- `a` is a multiple of `n`. -/
def aligned (a n : Nat) : Bool := decide (a % n = 0)

/-- The value of a little-endian byte string (R8). -/
def leNat : Bytes → Nat
  | [] => 0
  | b :: t => b.toNat + 256 * leNat t

/-- The `n` little-endian bytes of a value (R8). -/
def leBytes : Nat → Nat → Bytes
  | 0, _ => []
  | n + 1, v => BitVec.ofNat 8 v :: leBytes n (v / 256)

/-- Word `i` of a descriptor. -/
def descWord (d : Desc) (i : Nat) : Nat := (d.getD i 0).toNat

/-- The field of a descriptor at byte offset `off` (a multiple of 8), lowest bit `lo`, width `w`. -/
def descFld (d : Desc) (off lo w : Nat) : Nat := bits (descWord d (off / 8)) lo w

/-- Every bit outside the given masks of defined bits, word by word, is zero over `n` words. -/
def reservedClear (d : Desc) (masks : List Nat) (n : Nat) : Bool :=
  (List.range n).all (fun i => decide (descWord d i &&& masks.getD i 0 = descWord d i))

/-- A mask of `w` ones at bit `lo`. -/
def maskOf (lo w : Nat) : Nat := (2 ^ w - 1) * 2 ^ lo

/-- Split a byte string into descriptor words. -/
def bytesToDesc : Nat → Bytes → Desc
  | 0, _ => []
  | n + 1, b => BitVec.ofNat 64 (leNat (b.take 8)) :: bytesToDesc n (b.drop 8)

/-- Two byte ranges share a byte (R123). -/
def rangesOverlap (a n b m : Nat) : Bool :=
  decide (0 < n) && decide (0 < m) && decide (a < b + m) && decide (b < a + n)

/-- `x` raised by `n` and held at `top`. -/
def satAdd (x n top : Nat) : Nat := min (x + n) top

/-- The first failing check of a list of (failed, code) pairs, in order. -/
def firstCode : List (Bool × Nat) → Option Nat
  | [] => none
  | (bad, c) :: t => if bad then some c else firstCode t

/-- The population count of the low `n` bits. -/
def popCount (v : Nat) : Nat → Nat
  | 0 => 0
  | n + 1 => b2n (bit v n) + popCount v n

/-- The set bits below `n`, in rising order. -/
def setBitsOf (v n : Nat) : List Nat := (List.range n).filter (fun i => bit v i)

/-- Insert into a list kept in the order `lt`. -/
def orderedInsert {α : Type} (lt : α → α → Bool) (x : α) : List α → List α
  | [] => [x]
  | y :: t => if lt x y then x :: y :: t else y :: orderedInsert lt x t

/-- Sort by an order; equal entries keep their sequence. -/
def sortBy {α : Type} (lt : α → α → Bool) (l : List α) : List α :=
  l.foldl (fun acc x => orderedInsert lt x acc) []

end Sys2Proof.Machine
end

