-- ==== Sys2Proof/Machine/Fp.lean ====
section
/-! DEFINITION. Floating-point numbers of every format the device uses, computed exactly on integers and rounded once
to nearest-even (R53, R112, R150). -/

namespace Sys2Proof.Machine

/-- A format: exponent bits, fraction bits, bias, the largest finite magnitude as bits, whether the format has
infinities, and its canonical NaN where it has one. -/
structure Fmt where
  eb : Nat
  mb : Nat
  bias : Nat
  maxMag : Nat
  hasInf : Bool
  nan : Option Nat
deriving DecidableEq, Repr

def fp32 : Fmt := ⟨8, 23, 127, 0x7F7FFFFF, true, some 0x7FC00000⟩
def bf16 : Fmt := ⟨8, 7, 127, 0x7F7F, true, some 0x7FC0⟩
def fp16 : Fmt := ⟨5, 10, 15, 0x7BFF, true, some 0x7E00⟩
def e4m3 : Fmt := ⟨4, 3, 7, 0x7E, false, some 0x7F⟩
def e5m2 : Fmt := ⟨5, 2, 15, 0x7B, true, some 0x7E⟩
def e3m2 : Fmt := ⟨3, 2, 3, 0x1F, false, none⟩
def e2m3 : Fmt := ⟨2, 3, 1, 0x1F, false, none⟩
def e2m1 : Fmt := ⟨2, 1, 1, 0x7, false, none⟩

/-- A number read from its bits: NaN, an infinity, or (-1)^s * m * 2^e. -/
inductive FpVal where
  | nan
  | inf (s : Bool)
  | fin (s : Bool) (m : Nat) (e : Int)
deriving DecidableEq, Repr

/-- The width of a format in bits. -/
def Fmt.width (f : Fmt) : Nat := 1 + f.eb + f.mb

/-- The exponent of the last place of a subnormal. -/
def Fmt.emin (f : Fmt) : Int := 1 - (f.bias : Int) - (f.mb : Int)

/-- Read the bits of a number. -/
def fpDecode (f : Fmt) (x : Nat) : FpVal :=
  let s := bit x (f.eb + f.mb)
  let mag := bits x 0 (f.eb + f.mb)
  if mag ≤ f.maxMag then
    let ex := mag / 2 ^ f.mb
    let fr := mag % 2 ^ f.mb
    if ex = 0 then .fin s fr f.emin else .fin s (fr + 2 ^ f.mb) (f.emin + (ex : Int) - 1)
  else if f.hasInf && decide (mag = (2 ^ f.eb - 1) * 2 ^ f.mb) then .inf s
  else .nan

/-- Divide by a power of two and round to nearest, ties to even; `sticky` says that something below was non-zero. -/
def rneShift (m sh : Nat) (sticky : Bool) : Nat :=
  let q := m / 2 ^ sh
  let r := m % 2 ^ sh
  let half := if sh = 0 then 0 else 2 ^ (sh - 1)
  if sh = 0 then q
  else if r > half || (decide (r = half) && (sticky || decide (q % 2 = 1))) then q + 1
  else q

/-- The magnitude bits nearest m * 2^e in a format, before any check of overflow; ties go to even. -/
def fpMag (f : Fmt) (m : Nat) (e : Int) (sticky : Bool) : Nat :=
  if m = 0 then 0
  else
    let top : Int := e + (Nat.log2 m : Int) + 1
    let qe : Int := max (top - ((f.mb : Int) + 1)) f.emin
    let sh := qe - e
    let q := if sh ≤ 0 then m * 2 ^ (-sh).toNat else rneShift m sh.toNat sticky
    (qe - f.emin).toNat * 2 ^ f.mb + q

/-- The sign bit of a format at its place. -/
def fpSign (f : Fmt) (s : Bool) : Nat := if s then 2 ^ (f.eb + f.mb) else 0

/-- The infinity of a format with infinities. -/
def fpInf (f : Fmt) (s : Bool) : Nat := fpSign f s + (2 ^ f.eb - 1) * 2 ^ f.mb

/-- Round (-1)^s * m * 2^e to a format with infinities: an overflow gives infinity. -/
def fpRound (f : Fmt) (s : Bool) (m : Nat) (e : Int) (sticky : Bool := false) : Nat :=
  let g := fpMag f m e sticky
  if g ≤ f.maxMag then fpSign f s + g else fpInf f s

/-- The canonical NaN of a format, zero where it has none. -/
def fpNan (f : Fmt) : Nat := f.nan.getD 0

/-- Is the pattern a NaN? -/
def fpIsNan (f : Fmt) (x : Nat) : Bool := match fpDecode f x with | .nan => true | _ => false

/-- A value rounded to a format with infinities. -/
def fpOf (f : Fmt) (v : FpVal) : Nat :=
  match v with
  | .nan => fpNan f
  | .inf s => fpInf f s
  | .fin s m e => fpRound f s m e

/-- The exact sum of two finite numbers, as a signed integer over 2^e. -/
def fpSumExact (s₁ : Bool) (m₁ : Nat) (e₁ : Int) (s₂ : Bool) (m₂ : Nat) (e₂ : Int) : Int × Int :=
  let e := min e₁ e₂
  let a : Int := (m₁ : Int) * 2 ^ (e₁ - e).toNat
  let b : Int := (m₂ : Int) * 2 ^ (e₂ - e).toNat
  ((if s₁ then -a else a) + (if s₂ then -b else b), e)

/-- The sum of two numbers, exact; a zero sum of opposite signs is +0, of two -0 is -0. -/
def fpAddVal (a b : FpVal) : FpVal :=
  match a, b with
  | .nan, _ => .nan
  | _, .nan => .nan
  | .inf s, .inf t => if s = t then .inf s else .nan
  | .inf s, _ => .inf s
  | _, .inf s => .inf s
  | .fin s₁ m₁ e₁, .fin s₂ m₂ e₂ =>
    let r := fpSumExact s₁ m₁ e₁ s₂ m₂ e₂
    if r.1 = 0 then .fin (s₁ && s₂) 0 0
    else .fin (decide (r.1 < 0)) r.1.natAbs r.2

/-- The negation of a number. -/
def fpNegVal : FpVal → FpVal
  | .nan => .nan
  | .inf s => .inf (!s)
  | .fin s m e => .fin (!s) m e

/-- The product of two numbers, exact. -/
def fpMulVal (a b : FpVal) : FpVal :=
  match a, b with
  | .nan, _ => .nan
  | _, .nan => .nan
  | .inf s, .inf t => .inf (s ^^ t)
  | .inf s, .fin t m _ => if m = 0 then .nan else .inf (s ^^ t)
  | .fin s m _, .inf t => if m = 0 then .nan else .inf (s ^^ t)
  | .fin s m e, .fin t n g => .fin (s ^^ t) (m * n) (e + g)

/-- FP32 addition, one rounding (R53). -/
def f32Add (a b : BitVec 32) : BitVec 32 :=
  BitVec.ofNat 32 (fpOf fp32 (fpAddVal (fpDecode fp32 a.toNat) (fpDecode fp32 b.toNat)))

/-- FP32 multiplication, one rounding. -/
def f32Mul (a b : BitVec 32) : BitVec 32 :=
  BitVec.ofNat 32 (fpOf fp32 (fpMulVal (fpDecode fp32 a.toNat) (fpDecode fp32 b.toNat)))

/-- FP32 fused multiply-add, one rounding. -/
def f32Fma (a b c : BitVec 32) : BitVec 32 :=
  BitVec.ofNat 32 (fpOf fp32 (fpAddVal (fpMulVal (fpDecode fp32 a.toNat) (fpDecode fp32 b.toNat)) (fpDecode fp32 c.toNat)))

/-- The quotient of two numbers rounded once to a format with infinities. -/
def fpDivTo (f : Fmt) (a b : FpVal) : Nat :=
  match a, b with
  | .nan, _ => fpNan f
  | _, .nan => fpNan f
  | .inf _, .inf _ => fpNan f
  | .inf s, .fin t _ _ => fpInf f (s ^^ t)
  | .fin s _ _, .inf t => fpSign f (s ^^ t)
  | .fin s m e, .fin t n g =>
    if n = 0 then (if m = 0 then fpNan f else fpInf f (s ^^ t))
    else
      let k := 2 * (f.mb + Nat.log2 n + 4)
      let num := m * 2 ^ k
      fpRound f (s ^^ t) (2 * (num / n) + b2n (decide (num % n ≠ 0))) (e - g - (k : Int) - 1)

/-- FP32 division, one rounding. -/
def f32Div (a b : BitVec 32) : BitVec 32 :=
  BitVec.ofNat 32 (fpDivTo fp32 (fpDecode fp32 a.toNat) (fpDecode fp32 b.toNat))

/-- Is an FP32 pattern a NaN? -/
def f32IsNan (x : BitVec 32) : Bool := decide (0x7F800000 < x.toNat % 2 ^ 31)

/-- Where an FP32 number other than NaN stands in the order of numbers; -0 equals +0 (R57). -/
def f32Key (x : BitVec 32) : Int :=
  let m : Int := ((x.toNat % 2 ^ 31 : Nat) : Int)
  if x.toNat ≥ 2 ^ 31 then -m else m

/-- `a` is greater than `b` in the order of R57: NaN is below every number. -/
def f32Gt (a b : BitVec 32) : Bool :=
  if f32IsNan a then false
  else if f32IsNan b then true
  else decide (f32Key b < f32Key a)

/-- A BF16 value widened to FP32 exactly (R53). -/
def bf16ToF32 (x : Nat) : BitVec 32 := BitVec.ofNat 32 (x * 65536)

end Sys2Proof.Machine
end

