-- ==== Sys2Proof/Machine/Elem.lean ====
section
/-! DEFINITION. Arithmetic of the element-wise stages and of the element formats (R115 to R119, R150 to R162): the
FP32 stage operations, EXP, LOG and RSQRT rounded once, conversions, MX blocks, packed elements. -/

namespace Sys2Proof.Machine

/-! ### FP32 stage operations -/

/-- The number an FP32 pattern stands for. -/
def f32Val (x : BitVec 32) : FpVal := fpDecode fp32 x.toNat

/-- A value rounded once to FP32, NaN canonical (R155). -/
def f32Of (v : FpVal) : BitVec 32 := BitVec.ofNat 32 (fpOf fp32 v)

/-- The canonical NaN of FP32. -/
def f32NaN : BitVec 32 := 0x7FC00000

/-- The order of IEEE 754 maximum and minimum: numbers in order, +0 above -0 (R155). -/
def f32Rank (x : BitVec 32) : Int :=
  let m : Int := ((x.toNat % 2 ^ 31 : Nat) : Int)
  if x.toNat ≥ 2 ^ 31 then -m - 1 else m

/-- IEEE 754-2019 maximum (R155). -/
def f32Max (a b : BitVec 32) : BitVec 32 :=
  if f32IsNan a || f32IsNan b then f32NaN else if f32Rank a < f32Rank b then b else a

/-- IEEE 754-2019 minimum (R155). -/
def f32Min (a b : BitVec 32) : BitVec 32 :=
  if f32IsNan a || f32IsNan b then f32NaN else if f32Rank b < f32Rank a then b else a

/-- The predicates of CMPSEL and of the sequencer's FCMP, by code: LT, LE, EQ, NE, GE, GT (R157). -/
def f32Cmp (p : Nat) (a b : BitVec 32) : Bool :=
  if f32IsNan a || f32IsNan b then decide (p = 3)
  else
    let x := f32Key a
    let y := f32Key b
    match p with
    | 0 => decide (x < y)
    | 1 => decide (x ≤ y)
    | 2 => decide (x = y)
    | 3 => decide (x ≠ y)
    | 4 => decide (y ≤ x)
    | _ => decide (y < x)

/-! ### EXP, LOG and RSQRT: the exact result rounded once (R156)

The exact result is enclosed in a fixed-point number of `fracBits` fraction bits; the result of EXP at a non-zero
number and of LOG at a number other than 1 is never a binary fraction, so the enclosure decides the rounding
(log entry 8). -/

/-- Fraction bits of the fixed-point enclosures. -/
def fracBits : Nat := 320

/-- The terms z^(2i+1)/(2i+1) of the series of artanh, from term `i`. -/
def atanhTerms (z2 : Int) : Nat → Nat → Int → Int
  | 0, _, _ => 0
  | n + 1, i, p => p / ((2 * i + 1 : Nat) : Int) + atanhTerms z2 n (i + 1) (p * z2 / 2 ^ fracBits)

/-- 2 artanh z in fixed point. -/
def atanh2 (z : Int) : Int := 2 * atanhTerms (z * z / 2 ^ fracBits) 110 0 z

/-- ln 2 in fixed point: 2 artanh (1/3). -/
def ln2Fix : Int := atanh2 (2 ^ fracBits / 3)

/-- The terms x^i/i! of the exponential series, from term `i`. -/
def expTerms (x : Int) : Nat → Nat → Int → Int
  | 0, _, _ => 0
  | n + 1, i, p => p + expTerms x n (i + 1) (p * x / 2 ^ fracBits / ((i + 1 : Nat) : Int))

/-- A finite number in fixed point, rounded down. -/
def toFix (s : Bool) (m : Nat) (e : Int) : Int :=
  let sh := e + (fracBits : Int)
  let v : Int := if 0 ≤ sh then (m : Int) * 2 ^ sh.toNat else (m : Int) / 2 ^ (-sh).toNat
  if s then -v else v

/-- e^v (R155, R156). -/
def f32Exp (x : BitVec 32) : BitVec 32 :=
  match f32Val x with
  | .nan => f32NaN
  | .inf s => if s then 0 else 0x7F800000
  | .fin s m e =>
    if m = 0 then 0x3F800000
    else
      let v := toFix s m e
      if v > 100 * 2 ^ fracBits then 0x7F800000
      else if v < -110 * 2 ^ fracBits then 0
      else
        let k := v / ln2Fix
        let r := v - k * ln2Fix
        BitVec.ofNat 32 (fpRound fp32 false (expTerms r 90 0 (2 ^ fracBits)).toNat (k - (fracBits : Int)) true)

/-- ln v (R155, R156). -/
def f32Log (x : BitVec 32) : BitVec 32 :=
  match f32Val x with
  | .nan => f32NaN
  | .inf s => if s then f32NaN else 0x7F800000
  | .fin s m e =>
    if m = 0 then 0xFF800000
    else if s then f32NaN
    else if m = 1 * 2 ^ (-e).toNat ∧ e ≤ 0 then 0
    else
      let l := Nat.log2 m
      let f : Int := (m : Int) * 2 ^ (fracBits - l)
      let one : Int := 2 ^ fracBits
      let z := (f - one) * one / (f + one)
      let r := (e + (l : Int)) * ln2Fix + atanh2 z
      BitVec.ofNat 32 (fpRound fp32 (decide (r < 0)) r.natAbs (-(fracBits : Int)) true)

/-- The integer square root, bit by bit from bit `n`. -/
def isqrtGo (v : Nat) : Nat → Nat → Nat
  | 0, r => r
  | n + 1, r => if (r + 2 ^ n) * (r + 2 ^ n) ≤ v then isqrtGo v n (r + 2 ^ n) else isqrtGo v n r

/-- The integer square root of a number below 4^n. -/
def isqrt (v n : Nat) : Nat := isqrtGo v n 0

/-- 1 / sqrt v (R155, R156). -/
def f32Rsqrt (x : BitVec 32) : BitVec 32 :=
  match f32Val x with
  | .nan => f32NaN
  | .inf s => if s then f32NaN else 0
  | .fin s m e =>
    if m = 0 then (if s then 0xFF800000 else 0x7F800000)
    else if s then f32NaN
    else
      let m' := if e % 2 = 0 then m else 2 * m
      let e' := if e % 2 = 0 then e else e - 1
      let q := isqrt (2 ^ 160 / m') 81
      BitVec.ofNat 32 (fpRound fp32 false q (-80 - e' / 2) (decide (q * q * m' ≠ 2 ^ 160)))

/-! ### Conversions (R159) -/

/-- A finite number rounded to an integer, ties to even. -/
def rneInt (s : Bool) (m : Nat) (e : Int) : Int :=
  let q : Int := if 0 ≤ e then (m : Int) * 2 ^ e.toNat else (rneShift m (-e).toNat false : Int)
  if s then -q else q

/-- Conversion of a number to a format that saturates or not: the pattern, and whether it counts as a saturation. -/
def convFp8 (f : Fmt) (sat : Bool) (v : FpVal) : Nat × Bool :=
  let ovf := fun s => if sat then (fpSign f s + f.maxMag, true)
    else (if f.hasInf then fpInf f s else fpNan f, false)
  match v with
  | .nan => (fpNan f, false)
  | .inf s => ovf s
  | .fin s m e => let g := fpMag f m e false; if g ≤ f.maxMag then (fpSign f s + g, false) else ovf s

/-- Conversion from FP32 to a plain format code: the pattern, and whether CHN_STAT_SAT counts it (R159). -/
def convPlain (code : Nat) (sat : Bool) (x : BitVec 32) : Nat × Bool :=
  let v := f32Val x
  match code with
  | 0 => (if f32IsNan x then f32NaN.toNat else x.toNat, false)
  | 1 => (fpOf bf16 v, false)
  | 2 => (fpOf fp16 v, false)
  | 3 => convFp8 e4m3 sat v
  | 4 => convFp8 e5m2 sat v
  | _ =>
    let clamp : Int → Nat × Bool := fun i =>
      if i > 127 then (127, true) else if i < -128 then (128, true) else ((i % 256).toNat, false)
    match v with
    | .nan => (0, true)
    | .inf s => if s then (128, true) else (127, true)
    | .fin s m e => clamp (rneInt s m e)

/-- The width in bits of a plain format code. -/
def plainBits (code : Nat) : Nat :=
  match code with | 0 => 32 | 1 => 16 | 2 => 16 | _ => 8

/-- A two's-complement integer of `w` bits as a number times 2^e. -/
def intVal (w : Nat) (v : Nat) (e : Int) : FpVal :=
  if bit v (w - 1) then .fin true (2 ^ w - v) e else .fin false v e

/-- A plain element widened to the number it stands for (R159). -/
def plainVal (code v : Nat) : FpVal :=
  match code with
  | 0 => fpDecode fp32 v
  | 1 => fpDecode bf16 v
  | 2 => fpDecode fp16 v
  | 3 => fpDecode e4m3 v
  | 4 => fpDecode e5m2 v
  | _ => intVal 8 v 0

/-- A plain element widened to FP32. -/
def plainToF32 (code v : Nat) : BitVec 32 := f32Of (plainVal code v)

/-! ### Element formats of the arrays (R115, R116, R121) -/

/-- Element bits of an array format code. -/
def elemBits (fmt : Nat) : Nat :=
  match fmt with
  | 4 => 6 | 5 => 6 | 6 => 4 | 9 => 4 | 10 => 16 | 11 => 16 | _ => 8

/-- Formats that carry an E8M0 scale per 32 elements. -/
def isMx (fmt : Nat) : Bool := decide (2 ≤ fmt) && decide (fmt ≤ 7)

/-- An element without its scale. -/
def elemVal (fmt v : Nat) : FpVal :=
  match fmt with
  | 0 => fpDecode e4m3 v
  | 1 => fpDecode e5m2 v
  | 2 => fpDecode e4m3 v
  | 3 => fpDecode e5m2 v
  | 4 => fpDecode e2m3 v
  | 5 => fpDecode e3m2 v
  | 6 => fpDecode e2m1 v
  | 7 => intVal 8 v (-6)
  | 8 => intVal 8 v 0
  | 9 => intVal 4 v 0
  | 10 => fpDecode bf16 v
  | _ => fpDecode fp16 v

/-- A number scaled by an E8M0 byte; 0xFF is NaN (R116). -/
def scaleVal (sc : Nat) (v : FpVal) : FpVal :=
  if sc = 0xFF then .nan
  else match v with
    | .fin s m e => .fin s m (e + (sc : Int) - 127)
    | w => w

/-- Element `i` of `w` bits packed little-endian in a byte string (R121). -/
def packedElem (b : Bytes) (w i : Nat) : Nat :=
  bits (leNat ((b.drop (i * w / 8)).take 3)) (i * w % 8) w

/-- Pack elements of `w` bits little-endian into `n` bytes. -/
def packElems (w n : Nat) (es : List Nat) : Bytes :=
  leBytes n (((List.range es.length).zip es).foldl (fun acc p => acc + (p.2 % 2 ^ w) * 2 ^ (p.1 * w)) 0)

/-! ### Quantise to MX (R161) -/

/-- The array format code of an MX output code 6 to 11. -/
def mxFmt (outFmt : Nat) : Nat := outFmt - 4

/-- emax of an MX output code (R161). -/
def mxEmax (outFmt : Nat) : Int :=
  match outFmt with | 6 => 8 | 7 => 15 | 8 => 2 | 9 => 4 | 10 => 2 | _ => 0

/-- The floor of log2 of a positive number. -/
def floorLog2 (m : Nat) (e : Int) : Int := e + (Nat.log2 m : Int)

/-- One element under the block scale 2^s: its pattern, and whether it saturated (R161). -/
def mxElem (outFmt : Nat) (s : Int) (v : FpVal) : Nat × Bool :=
  match v with
  | .fin sg m e =>
    if outFmt = 11 then
      let i := rneInt sg m (e - s + 6)
      if i > 127 then (127, true) else if i < -127 then (129, true) else ((i % 256).toNat, false)
    else
      let f := match outFmt with | 6 => e4m3 | 7 => e5m2 | 8 => e2m3 | 9 => e3m2 | _ => e2m1
      let g := fpMag f m (e - s) false
      if g ≤ f.maxMag then (fpSign f sg + g, false) else (fpSign f sg + f.maxMag, true)
  | _ => (0, false)

/-- A block of 32 values: the scale byte, the element patterns, the saturations, and whether it is a NaN block. -/
def mxBlock (outFmt : Nat) (vs : List (BitVec 32)) : Nat × List Nat × Nat × Bool :=
  let vals := vs.map f32Val
  let isFin := fun v => match v with | FpVal.fin _ _ _ => true | _ => false
  if !vals.all isFin then (0xFF, vs.map (fun _ => 0), 0, true)
  else
    let amax := vs.foldl (fun acc x => max acc (x.toNat % 2 ^ 31)) 0
    if amax = 0 then (0x7F, vs.map (fun _ => 0), 0, false)
    else
      let lg := match fpDecode fp32 amax with | .fin _ m e => floorLog2 m e | _ => 0
      let s := max (-127) (min 127 (lg - mxEmax outFmt))
      let es := vals.map (mxElem outFmt s)
      ((s + 127).toNat, es.map Prod.fst, (es.filter Prod.snd).length, false)

end Sys2Proof.Machine
end

