-- ==== Sys2Proof/Config.lean ====
section
/-! DEFINITION. What the spec leaves open as a value: the free values. Each is an opaque constant, so no proof can
rest on a value of it (log entry 3). -/

namespace Sys2Proof

/-- The free value number `n`: a 64-bit value the spec leaves open. State holds the counter that the step advances
(log entry 3). -/
opaque Config.freeWord : Nat → Word

/-- A byte of an area whose contents the spec leaves undefined (scratch working areas, partial outputs): the event
that left it so, and its address (R46, R48; log entry 4). -/
opaque Config.freeByte : Nat → Nat → Byte

/-- The ROM revision that MEAS0 is extended with (R434). -/
opaque Config.romRevision : List (BitVec 8)

/-- How the key revocations, FUSED_MIN and GLB_CORE_PRESENT are laid out as the fuse configuration of MEAS0 (R434). -/
opaque Config.fuseConfiguration : Nat → Nat → Word → List (BitVec 8)

/-- What GETPID, GETBCR and GETDCR return (R443). -/
opaque Config.i3cPid : List (BitVec 8)
opaque Config.i3cBcr : List (BitVec 8)
opaque Config.i3cDcr : List (BitVec 8)

end Sys2Proof
end

