-- ==== Sys2Proof/Machine/SMap.lean ====
section
/-! DEFINITION. Sparse tables: a list of (key, value) pairs in one canonical form, keys strictly rising and no value
equal to what an unlisted key reads as. Memory, the register file and every per-instance table are held so. -/

namespace Sys2Proof.Machine

/-- A sparse table from natural-number keys to values. -/
abbrev SMap (α : Type) := List (Nat × α)

/-- The value listed for a key, if any. -/
def SMap.find? {α : Type} (m : SMap α) (k : Nat) : Option α :=
  match m with
  | [] => none
  | (k', v) :: t => if k' = k then some v else SMap.find? t k

/-- List a value for a key, keeping the keys in rising order. -/
def SMap.insert {α : Type} (m : SMap α) (k : Nat) (v : α) : SMap α :=
  match m with
  | [] => [(k, v)]
  | (k', v') :: t =>
    if k < k' then (k, v) :: (k', v') :: t
    else if k = k' then (k, v) :: t
    else (k', v') :: SMap.insert t k v

/-- Remove a key. -/
def SMap.erase {α : Type} (m : SMap α) (k : Nat) : SMap α :=
  match m with
  | [] => []
  | (k', v') :: t => if k' = k then SMap.erase t k else (k', v') :: SMap.erase t k

/-- Read a key; an unlisted key reads as the default `d k`. -/
def SMap.get {α : Type} (m : SMap α) (d : Nat → α) (k : Nat) : α :=
  (SMap.find? m k).getD (d k)

/-- Write a key, keeping the canonical form: writing the default removes the entry. -/
def SMap.set {α : Type} [DecidableEq α] (m : SMap α) (d : Nat → α) (k : Nat) (v : α) : SMap α :=
  if v = d k then SMap.erase m k else SMap.insert m k v

/-- The keys rise strictly, and every key is above `lo` where one is given. -/
def SMap.sorted {α : Type} (lo : Option Nat) (m : SMap α) : Bool :=
  match m with
  | [] => true
  | (k, _) :: t => (match lo with | none => true | some l => decide (l < k)) && SMap.sorted (some k) t

/-- The canonical form: keys strictly rising, no entry equal to its default. -/
def SMap.wf {α : Type} [DecidableEq α] (m : SMap α) (d : Nat → α) : Bool :=
  SMap.sorted none m && m.all (fun p => decide (p.2 ≠ d p.1))

end Sys2Proof.Machine
end

