-- ==== Sys2Proof/Machine/Regs.lean ====
section
/-! DEFINITION. The register space (R505, R506): every class, every register with its offset, its copies, its fields,
their access types (R9) and their reset values, as the register tables of the chapters give them; the name of every
register's CSR address and of every field. -/

namespace Sys2Proof.Machine

/-- The access types of R9. -/
inductive Access where
  | RW | RO | WO | W1C | RC | RS | WC
deriving DecidableEq, Repr

/-- One field of a register: lowest bit, width, access type and reset value. -/
structure FieldSpec where
  lo : Nat
  w : Nat
  acc : Access
  reset : Nat
deriving DecidableEq, Repr

/-- One register of a class: byte offset, how many copies stand inside an instance and how far apart, its fields. -/
structure RegSpec where
  off : Nat
  n : Nat
  stride : Nat
  fields : List FieldSpec
deriving DecidableEq, Repr

/-- A field addressed by name: the CSR address of the register's first copy, the lowest bit, the width. -/
structure Fld where
  base : Nat
  lo : Nat
  w : Nat
deriving DecidableEq, Repr

/-- How a class answers a rake (R506, R509, R510). -/
inductive RakeKind where
  | single | yes | no
deriving DecidableEq, Repr

/-- The instances of each class: how many there are from 0 (R506); `none` for a class value that names no block. -/
def classInstances (c : Nat) : Option Nat :=
  match c with
  | 0 => some 1
  | 1 => some 64
  | 2 => some 128
  | 3 => some 64
  | 4 => some 64
  | 5 => some 4
  | 6 => some 384
  | 7 => some 8
  | 8 => some 64
  | 9 => some 1024
  | 10 => some 16
  | 11 => some 4
  | 12 => some 1
  | 13 => some 1
  | 14 => some 16
  | 15 => some 512
  | 16 => some 1
  | 17 => some 1
  | 18 => some 1
  | 19 => some 1
  | 20 => some 1
  | 21 => some 1
  | 22 => some 1
  | _ => none

/-- The rake column of the class table (R506). -/
def classRake (c : Nat) : RakeKind :=
  match c with
  | 1 => .yes
  | 2 => .yes
  | 3 => .yes
  | 4 => .yes
  | 5 => .yes
  | 6 => .yes
  | 7 => .yes
  | 8 => .yes
  | 9 => .no
  | 10 => .yes
  | 11 => .yes
  | 14 => .yes
  | 15 => .yes
  | _ => .single

/-- The registers of class GLOBAL. -/
def regsGLOBAL : List RegSpec := [
  ⟨0x0, 1, 0x8, [⟨0, 8, .RO, 0⟩, ⟨8, 8, .RO, 1⟩, ⟨16, 1, .RO, 0⟩, ⟨32, 16, .RO, 45065⟩]⟩,  -- GLB_ID R516
  ⟨0x8, 1, 0x8, [⟨0, 32, .RO, 453023181⟩]⟩,  -- GLB_IDCODE R524
  ⟨0x10, 1, 0x8, [⟨0, 64, .RO, 0⟩]⟩,  -- GLB_CORE_PRESENT R4
  ⟨0x18, 1, 0x8, [⟨0, 16, .RC, 0⟩, ⟨16, 16, .RC, 0⟩]⟩,  -- GLB_ERR R16
  ⟨0x20, 1, 0x8, [⟨0, 1, .RO, 0⟩, ⟨1, 10, .RO, 0⟩, ⟨16, 16, .RO, 0⟩, ⟨32, 10, .RO, 0⟩, ⟨42, 10, .RO, 0⟩]⟩,  -- GLB_RAKE_STATUS R516
  ⟨0x28, 1, 0x8, [⟨0, 6, .RW, 0⟩, ⟨6, 4, .RW, 0⟩, ⟨10, 4, .RW, 0⟩]⟩,  -- GLB_RAKE_SEL R516
  ⟨0x30, 1, 0x8, [⟨0, 64, .RW, 0⟩]⟩]  -- GLB_RAKE_DATA R516

/-- The registers of class CORE. -/
def regsCORE : List RegSpec := [
  ⟨0x0, 1, 0x8, [⟨0, 6, .RO, 0⟩, ⟨8, 8, .RO, 1⟩]⟩,  -- CORE_ID R517
  ⟨0x8, 1, 0x8, [⟨0, 16, .RC, 0⟩, ⟨16, 16, .RC, 0⟩]⟩,  -- CORE_ERR R16
  ⟨0x10, 1, 0x8, [⟨0, 32, .RC, 0⟩, ⟨32, 16, .RC, 0⟩]⟩,  -- CORE_STORE_ECC R517
  ⟨0x18, 1, 0x8, [⟨0, 14, .RO, 0⟩, ⟨14, 1, .RO, 0⟩]⟩]  -- CORE_CONTEXT R368

/-- The registers of class MATRIX. -/
def regsMATRIX : List RegSpec := [
  ⟨0x0, 1, 0x8, [⟨0, 1, .RO, 0⟩, ⟨1, 6, .RO, 0⟩, ⟨8, 8, .RO, 1⟩]⟩,  -- MAT_ID R149
  ⟨0x8, 1, 0x8, [⟨0, 1, .RW, 0⟩, ⟨1, 1, .RW, 0⟩]⟩,  -- MAT_CTRL R143
  ⟨0x10, 1, 0x8, [⟨0, 1, .RO, 0⟩, ⟨1, 1, .RO, 0⟩, ⟨2, 1, .RO, 0⟩, ⟨3, 1, .RO, 0⟩, ⟨4, 3, .RO, 0⟩, ⟨7, 4, .RO, 0⟩, ⟨11, 1, .RO, 0⟩]⟩,  -- MAT_STATE R138
  ⟨0x18, 1, 0x8, [⟨0, 4, .RO, 0⟩, ⟨4, 5, .RO, 0⟩]⟩,  -- MAT_FUSE R135
  ⟨0x20, 1, 0x8, [⟨0, 4, .RW, 15⟩, ⟨4, 5, .RW, 31⟩]⟩,  -- MAT_REPAIR R136
  ⟨0x28, 1, 0x8, [⟨0, 16, .RC, 0⟩, ⟨16, 16, .RC, 0⟩]⟩,  -- MAT_ERR R16
  ⟨0x40, 1, 0x8, [⟨0, 16, .RO, 0⟩, ⟨16, 48, .RO, 0⟩]⟩,  -- MAT_LAST_PASS R124
  ⟨0x48, 1, 0x8, [⟨0, 16, .RC, 0⟩, ⟨16, 32, .RC, 0⟩, ⟨48, 12, .RC, 0⟩, ⟨60, 1, .RC, 0⟩, ⟨61, 1, .RC, 0⟩]⟩,  -- MAT_CHK_LOG R142
  ⟨0x50, 3, 0x8, [⟨0, 64, .RO, 0⟩]⟩,  -- MAT_SELFTEST R137
  ⟨0x100, 1, 0x8, [⟨0, 64, .RC, 0⟩]⟩,  -- MAT_STAT_PASSES R149
  ⟨0x108, 1, 0x8, [⟨0, 64, .RC, 0⟩]⟩,  -- MAT_STAT_SKIPS R149
  ⟨0x110, 1, 0x8, [⟨0, 64, .RC, 0⟩]⟩,  -- MAT_STAT_GROUPS R149
  ⟨0x118, 1, 0x8, [⟨0, 64, .RC, 0⟩]⟩,  -- MAT_STAT_W_STALL R149
  ⟨0x120, 1, 0x8, [⟨0, 64, .RC, 0⟩]⟩,  -- MAT_STAT_DRAIN_STALL R149
  ⟨0x128, 1, 0x8, [⟨0, 64, .RC, 0⟩]⟩,  -- MAT_STAT_CHK_MISMATCH R149
  ⟨0x130, 1, 0x8, [⟨0, 64, .RC, 0⟩]⟩,  -- MAT_STAT_RAMPS R149
  ⟨0x138, 1, 0x8, [⟨0, 64, .RC, 0⟩]⟩,  -- MAT_STAT_POISON R149
  ⟨0x140, 1, 0x8, [⟨0, 64, .RC, 0⟩]⟩]  -- MAT_STAT_ACC_CORRECTED R149

/-- The registers of class CHAIN. -/
def regsCHAIN : List RegSpec := [
  ⟨0x0, 1, 0x8, [⟨0, 6, .RO, 0⟩, ⟨8, 8, .RO, 1⟩, ⟨16, 8, .RO, 1⟩]⟩,  -- CHN_ID R171
  ⟨0x8, 1, 0x8, [⟨0, 1, .RW, 0⟩]⟩,  -- CHN_CTRL R164
  ⟨0x10, 1, 0x8, [⟨0, 1, .RO, 0⟩, ⟨1, 3, .RO, 0⟩, ⟨4, 2, .RO, 0⟩]⟩,  -- CHN_STATE R165
  ⟨0x18, 1, 0x8, [⟨0, 16, .RC, 0⟩, ⟨16, 16, .RC, 0⟩]⟩,  -- CHN_ERR R16
  ⟨0x100, 1, 0x8, [⟨0, 64, .RC, 0⟩]⟩,  -- CHN_STAT_CHAINS R171
  ⟨0x108, 1, 0x8, [⟨0, 64, .RC, 0⟩]⟩,  -- CHN_STAT_ELEMS R171
  ⟨0x110, 1, 0x8, [⟨0, 64, .RC, 0⟩]⟩,  -- CHN_STAT_NAN_OUT R171
  ⟨0x118, 1, 0x8, [⟨0, 64, .RC, 0⟩]⟩,  -- CHN_STAT_SAT R171
  ⟨0x120, 1, 0x8, [⟨0, 64, .RC, 0⟩]⟩,  -- CHN_STAT_MX_NAN_BLOCKS R171
  ⟨0x128, 1, 0x8, [⟨0, 64, .RC, 0⟩]⟩,  -- CHN_STAT_POISON R171
  ⟨0x130, 1, 0x8, [⟨0, 64, .RC, 0⟩]⟩,  -- CHN_STAT_STREAM_WAIT R171
  ⟨0x200, 32, 0x8, [⟨0, 64, .RO, 0⟩]⟩,  -- CHN_SUM R163
  ⟨0x400, 1, 0x8, [⟨0, 16, .RC, 0⟩, ⟨16, 16, .RC, 0⟩]⟩,  -- CHN_CMB_ERR R110
  ⟨0x440, 1, 0x8, [⟨0, 64, .RC, 0⟩]⟩,  -- CHN_CMB_TOKENS R110
  ⟨0x448, 1, 0x8, [⟨0, 64, .RC, 0⟩]⟩,  -- CHN_CMB_BITTERN_TOKENS R110
  ⟨0x450, 1, 0x8, [⟨0, 64, .RC, 0⟩]⟩,  -- CHN_CMB_LOST_SEATS R110
  ⟨0x458, 1, 0x8, [⟨0, 64, .RC, 0⟩]⟩,  -- CHN_CMB_ZERO_NORM R110
  ⟨0x460, 1, 0x8, [⟨0, 64, .RC, 0⟩]⟩]  -- CHN_CMB_NAN_TOKENS R110

/-- The registers of class SEQ. -/
def regsSEQ : List RegSpec := [
  ⟨0x0, 1, 0x8, [⟨0, 6, .RO, 0⟩, ⟨8, 8, .RO, 1⟩, ⟨16, 8, .RO, 1⟩]⟩,  -- SEQ_ID R205
  ⟨0x8, 1, 0x8, [⟨0, 1, .RW, 0⟩, ⟨16, 16, .RW, 1000⟩]⟩,  -- SEQ_CTRL R172
  ⟨0x10, 1, 0x8, [⟨0, 3, .RO, 0⟩, ⟨16, 14, .RO, 0⟩, ⟨32, 16, .RO, 0⟩]⟩,  -- SEQ_STATE R174
  ⟨0x18, 1, 0x8, [⟨0, 16, .RC, 0⟩, ⟨16, 16, .RC, 0⟩]⟩,  -- SEQ_ERR R16
  ⟨0x20, 1, 0x8, [⟨0, 16, .RC, 0⟩, ⟨16, 16, .RC, 0⟩, ⟨32, 14, .RC, 0⟩, ⟨63, 1, .RC, 0⟩]⟩,  -- SEQ_FAULT R204
  ⟨0x28, 1, 0x8, [⟨0, 32, .RC, 0⟩]⟩,  -- SEQ_FAULT_INSN R202
  ⟨0x30, 1, 0x8, [⟨0, 16, .RW, 0⟩]⟩,  -- SEQ_IMEM_ADDR R179
  ⟨0x38, 1, 0x8, [⟨0, 32, .RW, 0⟩]⟩,  -- SEQ_IMEM_DATA R179
  ⟨0x40, 1, 0x8, [⟨0, 32, .RC, 0⟩, ⟨32, 16, .RC, 0⟩]⟩,  -- SEQ_IMEM_ECC R180
  ⟨0x100, 1, 0x8, [⟨0, 64, .RC, 0⟩]⟩,  -- SEQ_STAT_PROGRAMS R205
  ⟨0x108, 1, 0x8, [⟨0, 64, .RC, 0⟩]⟩,  -- SEQ_STAT_INSNS R205
  ⟨0x110, 1, 0x8, [⟨0, 64, .RC, 0⟩]⟩,  -- SEQ_STAT_ISSUES R205
  ⟨0x118, 1, 0x8, [⟨0, 64, .RC, 0⟩]⟩,  -- SEQ_STAT_ISSUE_STALL R205
  ⟨0x120, 1, 0x8, [⟨0, 64, .RC, 0⟩]⟩,  -- SEQ_STAT_WAIT_CYCLES R205
  ⟨0x128, 1, 0x8, [⟨0, 64, .RC, 0⟩]⟩,  -- SEQ_STAT_WAIT_LIMIT R205
  ⟨0x130, 1, 0x8, [⟨0, 64, .RC, 0⟩]⟩,  -- SEQ_STAT_OVERRUNS R205
  ⟨0x138, 1, 0x8, [⟨0, 64, .RC, 0⟩]⟩,  -- SEQ_STAT_FAULTS R205
  ⟨0x140, 1, 0x8, [⟨0, 64, .RC, 0⟩]⟩]  -- SEQ_STAT_NOT_RUN R205

/-- The registers of class ROUTER. -/
def regsROUTER : List RegSpec := [
  ⟨0x0, 1, 0x8, [⟨0, 2, .RO, 0⟩, ⟨8, 8, .RO, 1⟩]⟩,  -- ORT_ID R78
  ⟨0x8, 1, 0x8, [⟨0, 1, .RW, 0⟩, ⟨8, 8, .RW, 16⟩]⟩,  -- ORT_CTRL R77
  ⟨0x10, 1, 0x8, [⟨0, 1, .RO, 0⟩, ⟨1, 3, .RO, 0⟩, ⟨4, 5, .RO, 0⟩, ⟨16, 16, .RO, 0⟩, ⟨32, 4, .RO, 0⟩]⟩,  -- ORT_STATUS R42
  ⟨0x18, 1, 0x8, [⟨0, 16, .RC, 0⟩, ⟨16, 16, .RC, 0⟩]⟩,  -- ORT_ERR R16
  ⟨0x20, 1, 0x8, [⟨0, 64, .RO, 0⟩]⟩,  -- ORT_WINDOW_START R41
  ⟨0x28, 1, 0x8, [⟨0, 64, .RO, 0⟩]⟩,  -- ORT_WINDOW_END R41
  ⟨0x30, 1, 0x8, [⟨0, 32, .RC, 0⟩, ⟨32, 16, .RC, 0⟩]⟩,  -- ORT_STORE_ECC R49
  ⟨0x100, 1, 0x8, [⟨0, 64, .RC, 0⟩]⟩,  -- ORT_STAT_WINDOWS R78
  ⟨0x108, 1, 0x8, [⟨0, 64, .RC, 0⟩]⟩,  -- ORT_STAT_RECALLS R78
  ⟨0x110, 1, 0x8, [⟨0, 64, .RC, 0⟩]⟩,  -- ORT_STAT_SEATS_FILLED R78
  ⟨0x118, 1, 0x8, [⟨0, 64, .RC, 0⟩]⟩,  -- ORT_STAT_BITTERN_SEATS R78
  ⟨0x120, 1, 0x8, [⟨0, 64, .RC, 0⟩]⟩,  -- ORT_STAT_BITTERN_TOKENS R78
  ⟨0x128, 1, 0x8, [⟨0, 64, .RC, 0⟩]⟩,  -- ORT_STAT_PROPOSALS R78
  ⟨0x130, 1, 0x8, [⟨0, 64, .RC, 0⟩]⟩,  -- ORT_STAT_DISPLACED R78
  ⟨0x138, 1, 0x8, [⟨0, 64, .RC, 0⟩]⟩,  -- ORT_STAT_REJECTED R78
  ⟨0x140, 1, 0x8, [⟨0, 64, .RC, 0⟩]⟩,  -- ORT_STAT_OVERSUB R78
  ⟨0x148, 1, 0x8, [⟨0, 64, .RC, 0⟩]⟩,  -- ORT_STAT_EMPTY_EXPERTS R78
  ⟨0x150, 1, 0x8, [⟨0, 64, .RC, 0⟩]⟩,  -- ORT_STAT_NAN R78
  ⟨0x158, 1, 0x8, [⟨0, 64, .RC, 0⟩]⟩,  -- ORT_STAT_MISSING R78
  ⟨0x160, 1, 0x8, [⟨0, 64, .RC, 0⟩]⟩,  -- ORT_STAT_DUP R78
  ⟨0x168, 1, 0x8, [⟨0, 64, .RC, 0⟩]⟩,  -- ORT_STAT_LATE_TILES R78
  ⟨0x170, 1, 0x8, [⟨0, 64, .RC, 0⟩]⟩,  -- ORT_STAT_REFUSED R78
  ⟨0x178, 1, 0x8, [⟨0, 64, .RC, 0⟩]⟩]  -- ORT_STAT_IDLE_CYCLES R78

/-- The registers of class MEMCH. -/
def regsMEMCH : List RegSpec := [
  ⟨0x0, 1, 0x8, [⟨0, 9, .RO, 0⟩, ⟨16, 8, .RO, 1⟩]⟩,  -- MCH_ID R251
  ⟨0x8, 1, 0x8, [⟨0, 1, .RO, 0⟩, ⟨1, 1, .RO, 0⟩, ⟨2, 1, .RO, 0⟩, ⟨8, 11, .RO, 0⟩]⟩,  -- MCH_STATE R219
  ⟨0x10, 1, 0x8, [⟨0, 3, .RW, 4⟩, ⟨4, 3, .RW, 3⟩]⟩,  -- MCH_ECC_CTRL R212
  ⟨0x18, 1, 0x8, [⟨0, 16, .RC, 0⟩, ⟨16, 16, .RC, 0⟩]⟩,  -- MCH_ERR R16
  ⟨0x20, 1, 0x8, [⟨0, 48, .RC, 0⟩, ⟨63, 1, .RC, 0⟩]⟩,  -- MCH_UE_ADDR R214
  ⟨0x100, 1, 0x8, [⟨0, 64, .RC, 0⟩]⟩,  -- MCH_STAT_CE_LINES R251
  ⟨0x108, 1, 0x8, [⟨0, 64, .RC, 0⟩]⟩,  -- MCH_STAT_CE_BYTES R251
  ⟨0x110, 1, 0x8, [⟨0, 64, .RC, 0⟩]⟩,  -- MCH_STAT_UE R251
  ⟨0x118, 1, 0x8, [⟨0, 64, .RC, 0⟩]⟩,  -- MCH_STAT_POISON_READ R251
  ⟨0x120, 1, 0x8, [⟨0, 64, .RC, 0⟩]⟩,  -- MCH_STAT_RETIRED R251
  ⟨0x128, 1, 0x8, [⟨0, 64, .RC, 0⟩]⟩,  -- MCH_STAT_SCRUB_LINES R251
  ⟨0x130, 1, 0x8, [⟨0, 64, .RC, 0⟩]⟩]  -- MCH_STAT_NM_OPS R251

/-- The registers of class MBRIDGE. -/
def regsMBRIDGE : List RegSpec := [
  ⟨0x0, 1, 0x8, [⟨0, 9, .RO, 0⟩, ⟨16, 8, .RO, 1⟩]⟩,  -- MBD_ID R251
  ⟨0x8, 1, 0x8, [⟨0, 1, .RW, 0⟩, ⟨8, 8, .RW, 24⟩]⟩,  -- MBD_CTRL R216
  ⟨0x10, 1, 0x8, [⟨0, 16, .RC, 0⟩, ⟨16, 16, .RC, 0⟩]⟩,  -- MBD_ERR R16
  ⟨0x18, 1, 0x8, [⟨0, 64, .RO, 0⟩]⟩,  -- MBD_BRINE_STATUS R232
  ⟨0x100, 64, 0x20, [⟨0, 48, .WC, 0⟩]⟩,  -- MBD_BRINE_BASE R223
  ⟨0x108, 64, 0x20, [⟨0, 27, .WC, 0⟩]⟩,  -- MBD_BRINE_BLOCKS R223
  ⟨0x110, 64, 0x20, [⟨0, 48, .WC, 0⟩]⟩,  -- MBD_BRINE_INDEX R223
  ⟨0x900, 1, 0x8, [⟨0, 64, .RC, 0⟩]⟩,  -- MBD_STAT_BRINE_BLOCKS R251
  ⟨0x908, 1, 0x8, [⟨0, 64, .RC, 0⟩]⟩,  -- MBD_STAT_BRINE_CORRUPT R251
  ⟨0x910, 1, 0x8, [⟨0, 64, .RC, 0⟩]⟩,  -- MBD_STAT_BRINE_HITS R251
  ⟨0x918, 1, 0x8, [⟨0, 64, .RC, 0⟩]⟩]  -- MBD_STAT_NM_REFUSED R251

/-- The registers of class POOL. -/
def regsPOOL : List RegSpec := [
  ⟨0x0, 1, 0x8, [⟨0, 5, .WC, 8⟩, ⟨8, 21, .WC, 0⟩, ⟨32, 1, .WC, 0⟩]⟩,  -- PAN_CFG R234
  ⟨0x8, 1, 0x8, [⟨0, 48, .WC, 0⟩]⟩,  -- PAN_BASE R234
  ⟨0x10, 1, 0x8, [⟨0, 48, .WC, 0⟩]⟩,  -- PAN_STATE_BASE R234
  ⟨0x18, 1, 0x8, [⟨0, 21, .RO, 0⟩]⟩,  -- PAN_STATE R237
  ⟨0x20, 1, 0x8, [⟨0, 16, .RC, 0⟩, ⟨16, 16, .RC, 0⟩]⟩,  -- PAN_ERR R16
  ⟨0x100, 1, 0x8, [⟨0, 48, .WO, 0⟩, ⟨48, 14, .WO, 0⟩]⟩,  -- PAN_ALLOC R237
  ⟨0x108, 1, 0x8, [⟨0, 64, .WO, 0⟩]⟩,  -- PAN_RETAIN R238
  ⟨0x110, 1, 0x8, [⟨0, 64, .WO, 0⟩]⟩,  -- PAN_RELEASE R238
  ⟨0x200, 1, 0x8, [⟨0, 64, .RC, 0⟩]⟩,  -- PAN_STAT_ALLOCS R251
  ⟨0x208, 1, 0x8, [⟨0, 64, .RC, 0⟩]⟩,  -- PAN_STAT_EMPTY R251
  ⟨0x210, 1, 0x8, [⟨0, 64, .RC, 0⟩]⟩,  -- PAN_STAT_FREED R251
  ⟨0x218, 1, 0x8, [⟨0, 64, .RC, 0⟩]⟩]  -- PAN_STAT_REFUSED R251

/-- The registers of class QUEUE. -/
def regsQUEUE : List RegSpec := [
  ⟨0x0, 4, 0x4000, [⟨0, 3, .WC, 0⟩, ⟨4, 21, .WC, 0⟩, ⟨25, 16, .WC, 0⟩, ⟨41, 9, .WC, 64⟩]⟩,  -- QUE_CFG R250
  ⟨0x8, 4, 0x4000, [⟨0, 1, .WC, 0⟩, ⟨1, 1, .WC, 0⟩, ⟨2, 2, .WC, 0⟩, ⟨4, 21, .WC, 0⟩, ⟨25, 21, .WC, 0⟩]⟩,  -- QUE_WM R249
  ⟨0x10, 4, 0x4000, [⟨0, 14, .WC, 0⟩, ⟨14, 1, .WC, 0⟩, ⟨15, 1, .WC, 0⟩, ⟨16, 14, .WC, 0⟩, ⟨32, 16, .WC, 0⟩]⟩,  -- QUE_NOTIFY R247
  ⟨0x18, 4, 0x4000, [⟨0, 21, .RO, 0⟩, ⟨21, 21, .RO, 0⟩, ⟨42, 1, .RO, 0⟩, ⟨43, 1, .RO, 0⟩, ⟨44, 1, .RO, 0⟩, ⟨45, 1, .RO, 0⟩, ⟨46, 1, .RO, 0⟩]⟩,  -- QUE_STATE R241
  ⟨0x20, 4, 0x4000, [⟨0, 16, .RC, 0⟩, ⟨16, 16, .RC, 0⟩]⟩,  -- QUE_ERR R16
  ⟨0x100, 4, 0x4000, [⟨0, 48, .WO, 0⟩, ⟨48, 14, .WO, 0⟩]⟩,  -- QUE_POP R242
  ⟨0x108, 4, 0x4000, [⟨0, 14, .WO, 0⟩]⟩,  -- QUE_DROP R244
  ⟨0x200, 4, 0x4000, [⟨0, 64, .RC, 0⟩]⟩,  -- QUE_STAT_ENQUEUED R251
  ⟨0x208, 4, 0x4000, [⟨0, 64, .RC, 0⟩]⟩,  -- QUE_STAT_REFUSED R251
  ⟨0x210, 4, 0x4000, [⟨0, 64, .RC, 0⟩]⟩,  -- QUE_STAT_POPS R251
  ⟨0x218, 4, 0x4000, [⟨0, 64, .RC, 0⟩]⟩,  -- QUE_STAT_POISON R251
  ⟨0x220, 4, 0x4000, [⟨0, 64, .RC, 0⟩]⟩,  -- QUE_STAT_DROPS R251
  ⟨0x228, 4, 0x4000, [⟨0, 64, .RC, 0⟩]⟩,  -- QUE_STAT_STALE R251
  ⟨0x230, 4, 0x4000, [⟨0, 64, .RC, 0⟩]⟩]  -- QUE_STAT_HOLDS R251

/-- The registers of class LINK. -/
def regsLINK : List RegSpec := [
  ⟨0x0, 1, 0x8, [⟨0, 4, .RO, 0⟩, ⟨8, 8, .RO, 1⟩]⟩,  -- LNK_ID R327
  ⟨0x8, 1, 0x8, [⟨0, 1, .WC, 0⟩, ⟨1, 1, .WC, 0⟩, ⟨2, 2, .WC, 0⟩]⟩,  -- LNK_CFG R289
  ⟨0x10, 1, 0x8, [⟨0, 3, .RO, 0⟩, ⟨3, 3, .RO, 0⟩, ⟨16, 16, .RO, 0⟩, ⟨32, 16, .RO, 0⟩]⟩,  -- LNK_STATE R290
  ⟨0x18, 1, 0x8, [⟨0, 16, .RC, 0⟩, ⟨16, 16, .RC, 0⟩]⟩,  -- LNK_ERR R16
  ⟨0x20, 1, 0x8, [⟨0, 1, .RW, 0⟩, ⟨1, 14, .RW, 0⟩]⟩,  -- LNK_ST_SEL R300
  ⟨0x28, 1, 0x8, [⟨0, 2, .RW, 0⟩, ⟨2, 6, .RW, 0⟩, ⟨8, 16, .RW, 0⟩]⟩,  -- LNK_ST_DATA R300
  ⟨0x40, 2, 0x10, [⟨0, 64, .WC, 0⟩]⟩,  -- LNK_STh_T0 R306
  ⟨0x48, 2, 0x10, [⟨0, 14, .WC, 200⟩]⟩,  -- LNK_STh_LEN R306
  ⟨0x100, 1, 0x8, [⟨0, 64, .RC, 0⟩]⟩,  -- LNK_STAT_FLITS_TX R327
  ⟨0x108, 1, 0x8, [⟨0, 64, .RC, 0⟩]⟩,  -- LNK_STAT_VOID_TX R327
  ⟨0x110, 1, 0x8, [⟨0, 64, .RC, 0⟩]⟩,  -- LNK_STAT_CRC_ERR R327
  ⟨0x118, 1, 0x8, [⟨0, 64, .RC, 0⟩]⟩,  -- LNK_STAT_REPLAYS R327
  ⟨0x120, 1, 0x8, [⟨0, 64, .RC, 0⟩]⟩,  -- LNK_STAT_SLIPS R327
  ⟨0x128, 1, 0x8, [⟨0, 64, .RC, 0⟩]⟩,  -- LNK_STAT_LATE_FLITS R327
  ⟨0x130, 1, 0x8, [⟨0, 64, .RC, 0⟩]⟩,  -- LNK_STAT_SLUICE_MOVES R327
  ⟨0x138, 1, 0x8, [⟨0, 64, .RC, 0⟩]⟩,  -- LNK_STAT_RETRAINS R327
  ⟨0x140, 1, 0x8, [⟨0, 64, .RC, 0⟩]⟩]  -- LNK_STAT_FEC_UNCORR R327

/-- The registers of class ETH. -/
def regsETH : List RegSpec := [
  ⟨0x0, 1, 0x8, [⟨0, 4, .RO, 0⟩, ⟨8, 8, .RO, 1⟩]⟩,  -- ETH_ID R327
  ⟨0x8, 1, 0x8, [⟨0, 1, .WC, 0⟩, ⟨1, 2, .WC, 0⟩, ⟨3, 1, .WC, 0⟩, ⟨4, 1, .WC, 0⟩, ⟨5, 3, .WC, 3⟩, ⟨8, 3, .WC, 4⟩, ⟨11, 1, .WC, 0⟩, ⟨12, 1, .WC, 0⟩, ⟨16, 12, .WC, 0⟩]⟩,  -- ETH_CFG R322
  ⟨0x10, 1, 0x8, [⟨0, 2, .RO, 0⟩, ⟨2, 2, .RO, 0⟩, ⟨4, 1, .RO, 0⟩, ⟨5, 1, .RO, 0⟩, ⟨6, 1, .RO, 0⟩]⟩,  -- ETH_STATE R322
  ⟨0x18, 1, 0x8, [⟨0, 16, .RC, 0⟩, ⟨16, 16, .RC, 0⟩]⟩,  -- ETH_ERR R16
  ⟨0x20, 1, 0x8, [⟨0, 48, .RW, 0⟩]⟩,  -- ETH_MAC R322
  ⟨0x28, 1, 0x8, [⟨0, 32, .RW, 0⟩]⟩,  -- ETH_IPV4 R322
  ⟨0x30, 1, 0x8, [⟨0, 64, .RW, 0⟩]⟩,  -- ETH_IPV6_HI R322
  ⟨0x38, 1, 0x8, [⟨0, 64, .RW, 0⟩]⟩,  -- ETH_IPV6_LO R322
  ⟨0x40, 1, 0x8, [⟨0, 12, .RW, 0⟩]⟩,  -- ETH_QP_SEL R323
  ⟨0x48, 1, 0x8, [⟨0, 2, .WC, 0⟩, ⟨2, 2, .WC, 0⟩, ⟨4, 1, .WC, 0⟩, ⟨5, 1, .WC, 0⟩, ⟨6, 12, .WC, 0⟩, ⟨18, 4, .WC, 0⟩, ⟨32, 24, .WC, 0⟩]⟩,  -- ETH_QP_DATA0 R323
  ⟨0x50, 1, 0x8, [⟨0, 24, .WC, 0⟩]⟩,  -- ETH_QP_DATA1 R323
  ⟨0x58, 1, 0x8, [⟨0, 64, .WC, 0⟩]⟩,  -- ETH_QP_DATA2 R323
  ⟨0x60, 1, 0x8, [⟨0, 48, .WC, 0⟩, ⟨48, 16, .WC, 0⟩]⟩,  -- ETH_QP_DATA3 R323
  ⟨0x68, 1, 0x8, [⟨0, 64, .WC, 0⟩]⟩,  -- ETH_QP_DATA4 R323
  ⟨0x70, 1, 0x8, [⟨0, 64, .WC, 0⟩]⟩,  -- ETH_QP_DATA5 R323
  ⟨0x78, 1, 0x8, [⟨0, 16, .RO, 0⟩]⟩,  -- ETH_QP_DATA6 R323
  ⟨0x80, 1, 0x8, []⟩,  -- ETH_QP_DATA7 R323: reserved
  ⟨0x100, 1, 0x8, [⟨0, 64, .RC, 0⟩]⟩,  -- ETH_STAT_RX_FRAMES R327
  ⟨0x108, 1, 0x8, [⟨0, 64, .RC, 0⟩]⟩,  -- ETH_STAT_RX_DROPPED R327
  ⟨0x110, 1, 0x8, [⟨0, 64, .RC, 0⟩]⟩,  -- ETH_STAT_TX_FRAMES R327
  ⟨0x118, 1, 0x8, [⟨0, 64, .RC, 0⟩]⟩,  -- ETH_STAT_NAK_SENT R327
  ⟨0x120, 1, 0x8, [⟨0, 64, .RC, 0⟩]⟩,  -- ETH_STAT_PFC_SENT R327
  ⟨0x128, 1, 0x8, [⟨0, 64, .RC, 0⟩]⟩,  -- ETH_STAT_PFC_RECV R327
  ⟨0x130, 1, 0x8, [⟨0, 64, .RC, 0⟩]⟩,  -- ETH_STAT_PAUSE_RECV R327
  ⟨0x138, 1, 0x8, [⟨0, 64, .RC, 0⟩]⟩,  -- ETH_STAT_CNP_SENT R327
  ⟨0x140, 1, 0x8, [⟨0, 64, .RC, 0⟩]⟩]  -- ETH_STAT_CNP_RECV R327

/-- The registers of class FABRIC. -/
def regsFABRIC : List RegSpec := [
  ⟨0x0, 1, 0x8, [⟨8, 8, .RO, 1⟩]⟩,  -- FAB_ID R286
  ⟨0x8, 1, 0x8, [⟨0, 1, .RW, 0⟩, ⟨16, 16, .RW, 1000⟩]⟩,  -- FAB_CTRL R263
  ⟨0x10, 1, 0x8, [⟨0, 16, .RC, 0⟩, ⟨16, 16, .RC, 0⟩]⟩,  -- FAB_ERR R16
  ⟨0x18, 1, 0x8, [⟨0, 8, .RW, 0⟩, ⟨8, 16, .RW, 0⟩, ⟨24, 1, .RW, 0⟩]⟩,  -- FAB_SELF R529
  ⟨0x20, 1, 0x8, [⟨0, 16, .RW, 0⟩]⟩,  -- FAB_RGN_SEL R255
  ⟨0x28, 1, 0x8, [⟨0, 64, .WC, 0⟩]⟩,  -- FAB_RGN_KEY R257
  ⟨0x30, 1, 0x8, [⟨0, 48, .WC, 0⟩]⟩,  -- FAB_RGN_BASE R254
  ⟨0x38, 1, 0x8, [⟨0, 41, .WC, 0⟩]⟩,  -- FAB_RGN_SIZE R254
  ⟨0x40, 1, 0x8, [⟨0, 1, .WC, 0⟩, ⟨1, 1, .WC, 0⟩, ⟨2, 1, .WC, 0⟩, ⟨3, 1, .WC, 0⟩, ⟨4, 2, .WC, 0⟩, ⟨6, 2, .WC, 0⟩, ⟨8, 8, .WC, 0⟩, ⟨16, 14, .WC, 0⟩, ⟨30, 1, .WC, 0⟩, ⟨31, 1, .WC, 0⟩]⟩,  -- FAB_RGN_ATTR R255
  ⟨0x48, 1, 0x8, [⟨0, 8, .RO, 0⟩, ⟨8, 1, .RO, 0⟩]⟩,  -- FAB_RGN_STATUS R258
  ⟨0x50, 1, 0x8, [⟨0, 64, .RO, 0⟩]⟩,  -- FAB_RGN_ADV_TIME R259
  ⟨0x58, 1, 0x8, [⟨0, 16, .WO, 0⟩, ⟨16, 2, .WO, 0⟩, ⟨18, 14, .WO, 0⟩]⟩,  -- FAB_RGN_ADVANCE R258
  ⟨0x100, 4, 0x8, [⟨0, 64, .RW, 0⟩]⟩,  -- FAB_ADMIT R284
  ⟨0x200, 1, 0x8, [⟨0, 64, .RC, 0⟩]⟩,  -- FAB_STAT_REQ_SENT R286
  ⟨0x208, 1, 0x8, [⟨0, 64, .RC, 0⟩]⟩,  -- FAB_STAT_REQ_RECV R286
  ⟨0x210, 1, 0x8, [⟨0, 64, .RC, 0⟩]⟩,  -- FAB_STAT_REFUSED_OUT R286
  ⟨0x218, 1, 0x8, [⟨0, 64, .RC, 0⟩]⟩,  -- FAB_STAT_REFUSED_IN R286
  ⟨0x220, 1, 0x8, [⟨0, 64, .RC, 0⟩]⟩,  -- FAB_STAT_REVOKED_IN R286
  ⟨0x228, 1, 0x8, [⟨0, 64, .RC, 0⟩]⟩,  -- FAB_STAT_TIMEOUTS R286
  ⟨0x230, 1, 0x8, [⟨0, 64, .RC, 0⟩]⟩,  -- FAB_STAT_STALE R286
  ⟨0x238, 1, 0x8, [⟨0, 64, .RC, 0⟩]⟩,  -- FAB_STAT_LATE_ACKS R286
  ⟨0x240, 1, 0x8, [⟨0, 64, .RC, 0⟩]⟩,  -- FAB_STAT_FENCES R286
  ⟨0x248, 1, 0x8, [⟨0, 64, .RC, 0⟩]⟩,  -- FAB_STAT_RAKES R286
  ⟨0x250, 1, 0x8, [⟨0, 64, .RC, 0⟩]⟩,  -- FAB_STAT_ADVANCES R286
  ⟨0x800, 2, 0x100, [⟨0, 1, .RW, 0⟩]⟩,  -- FAB_DSP_CTRL R91
  ⟨0x808, 2, 0x100, [⟨0, 16, .RC, 0⟩, ⟨16, 16, .RC, 0⟩]⟩,  -- FAB_DSP_ERR R110
  ⟨0x840, 2, 0x100, [⟨0, 64, .RC, 0⟩]⟩,  -- FAB_DSP_FRAMES_SENT R110
  ⟨0x848, 2, 0x100, [⟨0, 64, .RC, 0⟩]⟩,  -- FAB_DSP_FRAMES_VOID R110
  ⟨0x850, 2, 0x100, [⟨0, 64, .RC, 0⟩]⟩,  -- FAB_DSP_SLOTS_VALID R110
  ⟨0x858, 2, 0x100, [⟨0, 64, .RC, 0⟩]⟩,  -- FAB_DSP_FLITS_VOID R110
  ⟨0x860, 2, 0x100, [⟨0, 64, .RC, 0⟩]⟩,  -- FAB_DSP_FRAMES_LANDED R110
  ⟨0x868, 2, 0x100, [⟨0, 64, .RC, 0⟩]⟩,  -- FAB_DSP_FRAMES_REFUSED R110
  ⟨0x870, 2, 0x100, [⟨0, 64, .RC, 0⟩]⟩,  -- FAB_DSP_LOCAL R110
  ⟨0x878, 2, 0x100, [⟨0, 64, .RC, 0⟩]⟩,  -- FAB_DSP_SLOT_SLIPS R110
  ⟨0x1000, 1, 0x8, [⟨0, 1, .RW, 0⟩]⟩,  -- FAB_RT_CTRL R308
  ⟨0x1008, 1, 0x8, [⟨0, 64, .RO, 0⟩]⟩,  -- FAB_RT_SWITCH_TIME R308
  ⟨0x1010, 1, 0x8, [⟨0, 1, .RW, 0⟩, ⟨1, 1, .RW, 0⟩, ⟨2, 16, .RW, 0⟩]⟩,  -- FAB_RT_SEL R309
  ⟨0x1018, 1, 0x8, [⟨0, 5, .RW, 0⟩, ⟨5, 1, .RW, 0⟩, ⟨6, 1, .RW, 0⟩]⟩,  -- FAB_RT_DATA R309
  ⟨0x1020, 1, 0x8, [⟨0, 24, .RW, 0⟩, ⟨24, 5, .RW, 0⟩, ⟨29, 1, .RW, 0⟩, ⟨32, 32, .RW, 2000⟩]⟩,  -- FAB_SLUICE_CFG R311
  ⟨0x1028, 1, 0x8, [⟨0, 17, .RW, 0⟩]⟩,  -- FAB_SLUICE_SEL R311
  ⟨0x1030, 1, 0x8, [⟨0, 5, .RW, 0⟩, ⟨5, 1, .RW, 0⟩]⟩,  -- FAB_SLUICE_DATA R311
  ⟨0x1040, 1, 0x8, [⟨0, 16, .RW, 0⟩]⟩,  -- FAB_RANK_SEL R317
  ⟨0x1048, 1, 0x8, [⟨0, 8, .RW, 0⟩, ⟨8, 16, .RW, 0⟩, ⟨24, 1, .RW, 0⟩]⟩,  -- FAB_RANK_DATA R317
  ⟨0x1100, 16, 0x10, [⟨0, 16, .WC, 0⟩, ⟨16, 17, .WC, 0⟩]⟩,  -- FAB_RANK_WINp_A R317
  ⟨0x1108, 16, 0x10, [⟨0, 24, .WC, 0⟩, ⟨24, 24, .WC, 0⟩]⟩,  -- FAB_RANK_WINp_B R317
  ⟨0x1200, 1, 0x8, [⟨0, 16, .RW, 4095⟩]⟩,  -- FAB_MSG_CFG R314
  ⟨0x1208, 1, 0x8, [⟨0, 4, .RW, 1⟩, ⟨4, 3, .RW, 0⟩, ⟨8, 16, .RW, 0⟩]⟩,  -- FAB_GANG R321
  ⟨0x1300, 1, 0x8, [⟨0, 64, .RC, 0⟩]⟩,  -- FAB_STAT_NO_ROUTE R327
  ⟨0x1308, 1, 0x8, [⟨0, 64, .RC, 0⟩]⟩,  -- FAB_STAT_BUDGET_DROP R327
  ⟨0x1310, 1, 0x8, [⟨0, 64, .RC, 0⟩]⟩,  -- FAB_STAT_SLUICE_MOVES R327
  ⟨0x1318, 1, 0x8, [⟨0, 64, .RC, 0⟩]⟩,  -- FAB_STAT_RANK_REFUSED R327
  ⟨0x1320, 1, 0x8, [⟨0, 64, .RC, 0⟩]⟩]  -- FAB_STAT_SWITCHES R327

/-- The registers of class COLL. -/
def regsCOLL : List RegSpec := [
  ⟨0x0, 1, 0x8, [⟨8, 8, .RO, 1⟩]⟩,  -- COL_ID R356
  ⟨0x8, 1, 0x8, [⟨0, 1, .RW, 0⟩, ⟨16, 16, .RW, 2000⟩]⟩,  -- COL_CTRL R348
  ⟨0x10, 1, 0x8, [⟨0, 7, .RO, 0⟩]⟩,  -- COL_STATE R328
  ⟨0x18, 1, 0x8, [⟨0, 16, .RC, 0⟩, ⟨16, 16, .RC, 0⟩]⟩,  -- COL_ERR R16
  ⟨0x100, 16, 0x8, [⟨0, 1, .RW, 0⟩, ⟨4, 4, .RW, 0⟩]⟩,  -- COL_PART_CFGp R351
  ⟨0x180, 16, 0x8, [⟨0, 1, .RO, 0⟩, ⟨1, 1, .RO, 0⟩, ⟨16, 16, .RO, 0⟩, ⟨32, 4, .RO, 0⟩]⟩,  -- COL_PART_STATEp R347
  ⟨0x200, 1, 0x8, [⟨0, 64, .RC, 0⟩]⟩,  -- COL_STAT_OPS R356
  ⟨0x208, 1, 0x8, [⟨0, 64, .RC, 0⟩]⟩,  -- COL_STAT_CHUNKS_SENT R356
  ⟨0x210, 1, 0x8, [⟨0, 64, .RC, 0⟩]⟩,  -- COL_STAT_CHUNKS_RECV R356
  ⟨0x218, 1, 0x8, [⟨0, 64, .RC, 0⟩]⟩,  -- COL_STAT_CRC_FAIL R356
  ⟨0x220, 1, 0x8, [⟨0, 64, .RC, 0⟩]⟩,  -- COL_STAT_MISMATCH R356
  ⟨0x228, 1, 0x8, [⟨0, 64, .RC, 0⟩]⟩,  -- COL_STAT_STEP_VOID_SENT R356
  ⟨0x230, 1, 0x8, [⟨0, 64, .RC, 0⟩]⟩,  -- COL_STAT_STEP_VOID_RECV R356
  ⟨0x238, 1, 0x8, [⟨0, 64, .RC, 0⟩]⟩,  -- COL_STAT_STEP_VOID_STALE R356
  ⟨0x240, 1, 0x8, [⟨0, 64, .RC, 0⟩]⟩,  -- COL_STAT_ROLLBACKS R356
  ⟨0x248, 1, 0x8, [⟨0, 64, .RC, 0⟩]⟩,  -- COL_STAT_EMPTY R356
  ⟨0x250, 1, 0x8, [⟨0, 64, .RC, 0⟩]⟩,  -- COL_STAT_L1_OCC R356
  ⟨0x258, 1, 0x8, [⟨0, 64, .RC, 0⟩]⟩,  -- COL_STAT_L1_BLOCKED R356
  ⟨0x260, 1, 0x8, [⟨0, 64, .RC, 0⟩]⟩,  -- COL_STAT_L2_OCC R356
  ⟨0x268, 1, 0x8, [⟨0, 64, .RC, 0⟩]⟩,  -- COL_STAT_L2_BLOCKED R356
  ⟨0x270, 1, 0x8, [⟨0, 64, .RC, 0⟩]⟩,  -- COL_STAT_TIMEOUTS R356
  ⟨0x278, 1, 0x8, [⟨0, 64, .RC, 0⟩]⟩]  -- COL_STAT_CANCELLED R356

/-- The registers of class SCHED. -/
def regsSCHED : List RegSpec := [
  ⟨0x0, 1, 0x8, [⟨0, 4, .RO, 0⟩, ⟨8, 8, .RO, 1⟩]⟩,  -- SCH_ID R393
  ⟨0x8, 1, 0x8, [⟨0, 1, .WC, 0⟩, ⟨1, 1, .WC, 0⟩]⟩,  -- SCH_PART_CFG R357
  ⟨0x10, 1, 0x8, [⟨0, 64, .WC, 0⟩]⟩,  -- SCH_PART_CORES R357
  ⟨0x18, 1, 0x8, [⟨0, 30, .WC, 1000⟩]⟩,  -- SCH_PART_FRAME R357
  ⟨0x20, 1, 0x8, [⟨0, 64, .WC, 0⟩]⟩,  -- SCH_PART_T0 R357
  ⟨0x28, 1, 0x8, [⟨0, 2, .RO, 0⟩, ⟨2, 62, .RO, 0⟩]⟩,  -- SCH_PART_STATE R359
  ⟨0x30, 1, 0x8, [⟨0, 64, .RW, 0⟩]⟩,  -- SCH_PART_STEP R369
  ⟨0x38, 1, 0x8, [⟨0, 1, .WO, 0⟩]⟩,  -- SCH_PART_STOP R359
  ⟨0x40, 1, 0x8, [⟨0, 16, .RC, 0⟩, ⟨16, 16, .RC, 0⟩]⟩,  -- SCH_ERR R16
  ⟨0x48, 1, 0x8, [⟨0, 32, .WO, 0⟩, ⟨32, 1, .WO, 0⟩, ⟨33, 1, .WO, 0⟩]⟩,  -- SCH_COMMIT R379
  ⟨0x50, 1, 0x8, [⟨0, 64, .RW, 0⟩]⟩,  -- SCH_COMMIT_STEP R380
  ⟨0x58, 1, 0x8, [⟨0, 16, .RC, 0⟩, ⟨16, 16, .RO, 0⟩]⟩,  -- SCH_COMMIT_STATUS R382
  ⟨0x80, 1, 0x8, [⟨0, 12, .RW, 0⟩]⟩,  -- SCH_TBL_SEL R364
  ⟨0x88, 4, 0x8, [⟨0, 64, .RW, 0⟩]⟩,  -- SCH_TBL_DATA R364
  ⟨0xA8, 1, 0x8, [⟨0, 13, .WC, 0⟩]⟩,  -- SCH_TBL_COUNT R365
  ⟨0x100, 1, 0x8, [⟨0, 4, .RW, 0⟩]⟩,  -- SCH_RING_SEL R375
  ⟨0x108, 1, 0x8, [⟨0, 4, .WC, 6⟩, ⟨4, 17, .WC, 0⟩, ⟨21, 14, .WC, 0⟩]⟩,  -- SCH_RING_CFG R375
  ⟨0x110, 1, 0x8, [⟨0, 48, .WC, 0⟩]⟩,  -- SCH_RING_BASE R375
  ⟨0x118, 1, 0x8, [⟨0, 48, .WC, 0⟩]⟩,  -- SCH_RING_LAND R375
  ⟨0x120, 1, 0x8, [⟨0, 48, .WC, 0⟩]⟩,  -- SCH_RING_HEAD_ADDR R375
  ⟨0x128, 1, 0x8, [⟨0, 64, .RO, 0⟩]⟩,  -- SCH_RING_HEAD R376
  ⟨0x200, 1, 0x8, [⟨0, 48, .RW, 0⟩]⟩,  -- SCH_LAUNCH_BASE R388
  ⟨0x208, 1, 0x8, [⟨0, 16, .RW, 100⟩, ⟨16, 16, .RW, 5000⟩, ⟨32, 16, .RW, 1000⟩, ⟨48, 12, .RW, 0⟩, ⟨60, 1, .RW, 0⟩]⟩,  -- SCH_LAUNCH_CFG R391
  ⟨0x210, 1, 0x8, [⟨0, 1, .WO, 0⟩]⟩,  -- SCH_LAUNCH_CTRL R390
  ⟨0x218, 1, 0x8, [⟨0, 3, .RO, 0⟩, ⟨16, 16, .RO, 0⟩]⟩,  -- SCH_LAUNCH_STATE R390
  ⟨0x300, 1, 0x8, [⟨0, 64, .RC, 0⟩]⟩,  -- SCH_STAT_FRAMES R393
  ⟨0x308, 1, 0x8, [⟨0, 64, .RC, 0⟩]⟩,  -- SCH_STAT_FRAMES_SKIPPED R393
  ⟨0x310, 1, 0x8, [⟨0, 64, .RC, 0⟩]⟩,  -- SCH_STAT_ENTRIES_RUN R393
  ⟨0x318, 1, 0x8, [⟨0, 64, .RC, 0⟩]⟩,  -- SCH_STAT_ENTRIES_SKIPPED R393
  ⟨0x320, 1, 0x8, [⟨0, 64, .RC, 0⟩]⟩,  -- SCH_STAT_TAKEN R393
  ⟨0x328, 1, 0x8, [⟨0, 64, .RC, 0⟩]⟩,  -- SCH_STAT_COMMITS R393
  ⟨0x330, 1, 0x8, [⟨0, 64, .RC, 0⟩]⟩,  -- SCH_STAT_LAUNCHES R393
  ⟨0x338, 1, 0x8, [⟨0, 64, .RC, 0⟩]⟩]  -- SCH_STAT_ABORTS R393

/-- The registers of class CTX. -/
def regsCTX : List RegSpec := [
  ⟨0x0, 32, 0x800, [⟨0, 2, .WC, 0⟩, ⟨2, 4, .WC, 0⟩, ⟨6, 1, .WC, 0⟩, ⟨7, 1, .WC, 0⟩, ⟨32, 32, .WC, 0⟩]⟩,  -- CTX_DESC0 R361
  ⟨0x8, 32, 0x800, [⟨0, 64, .WC, 0⟩]⟩,  -- CTX_DESC1 R361
  ⟨0x10, 32, 0x800, [⟨0, 8, .WC, 0⟩, ⟨8, 14, .WC, 0⟩, ⟨22, 15, .WC, 0⟩]⟩,  -- CTX_DESC2 R361
  ⟨0x18, 32, 0x800, []⟩,  -- CTX_DESC3 R361: reserved
  ⟨0x20, 32, 0x800, [⟨0, 64, .WC, 0⟩]⟩,  -- CTX_DESC4 R361
  ⟨0x28, 32, 0x800, [⟨0, 64, .WC, 0⟩]⟩,  -- CTX_DESC5 R361
  ⟨0x30, 32, 0x800, [⟨0, 64, .WC, 0⟩]⟩,  -- CTX_DESC6 R361
  ⟨0x38, 32, 0x800, [⟨0, 64, .WC, 0⟩]⟩,  -- CTX_DESC7 R361
  ⟨0x40, 32, 0x800, [⟨0, 2, .RO, 0⟩, ⟨2, 62, .RO, 0⟩]⟩,  -- CTX_STATE R361
  ⟨0x48, 32, 0x800, [⟨0, 1, .WO, 0⟩]⟩]  -- CTX_TEARDOWN R384

/-- The registers of class SYNC. -/
def regsSYNC : List RegSpec := [
  ⟨0x0, 1, 0x8, [⟨0, 14, .RW, 0⟩]⟩,  -- SYN_CNT_SEL R272
  ⟨0x8, 1, 0x8, [⟨0, 64, .RO, 0⟩]⟩,  -- SYN_CNT_COUNT R272
  ⟨0x10, 1, 0x8, [⟨0, 16, .RO, 0⟩, ⟨16, 1, .RW, 0⟩]⟩,  -- SYN_CNT_STATE R272
  ⟨0x18, 1, 0x8, [⟨0, 14, .WO, 0⟩]⟩]  -- SYN_CNT_CLEAR R272

/-- The registers of class PWR. -/
def regsPWR : List RegSpec := [
  ⟨0x0, 1, 0x8, [⟨8, 8, .RO, 1⟩]⟩,  -- PWR_ID R472
  ⟨0x8, 1, 0x8, [⟨0, 11, .WC, 0⟩, ⟨12, 12, .WC, 1000⟩, ⟨24, 8, .WC, 10⟩]⟩,  -- PWR_CTRL R455
  ⟨0x10, 1, 0x8, [⟨0, 11, .RO, 256⟩, ⟨11, 1, .RO, 0⟩, ⟨12, 1, .RO, 0⟩, ⟨13, 1, .RO, 0⟩, ⟨14, 1, .RO, 0⟩, ⟨15, 1, .RO, 0⟩, ⟨32, 11, .RO, 0⟩]⟩,  -- PWR_STATE R462
  ⟨0x18, 1, 0x8, [⟨0, 16, .RC, 0⟩, ⟨16, 16, .RC, 0⟩]⟩,  -- PWR_ERR R16
  ⟨0x20, 1, 0x8, [⟨0, 13, .RW, 5000⟩, ⟨16, 16, .RW, 60⟩]⟩,  -- PWR_SPRINT_CFG R456
  ⟨0x28, 1, 0x8, [⟨0, 32, .RO, 0⟩, ⟨32, 32, .RO, 5400000⟩]⟩,  -- PWR_LEDGER R465
  ⟨0x30, 1, 0x8, [⟨0, 4, .RW, 0⟩, ⟨4, 1, .RW, 0⟩, ⟨5, 10, .RW, 0⟩]⟩,  -- PWR_PROF_SEL R453
  ⟨0x38, 1, 0x8, [⟨0, 30, .RW, 0⟩, ⟨32, 11, .RW, 0⟩]⟩,  -- PWR_PROF_DATA R452
  ⟨0x40, 1, 0x8, [⟨0, 11, .WC, 0⟩]⟩,  -- PWR_PROF_COUNT R453
  ⟨0x80, 16, 0x8, [⟨0, 1, .WC, 0⟩]⟩,  -- PWR_PART_CFGp R456
  ⟨0x100, 1, 0x8, [⟨0, 64, .RC, 0⟩]⟩,  -- PWR_STAT_STRETCH_MS R472
  ⟨0x108, 1, 0x8, [⟨0, 64, .RC, 0⟩]⟩,  -- PWR_STAT_REFUSED R472
  ⟨0x110, 1, 0x8, [⟨0, 64, .RC, 0⟩]⟩,  -- PWR_STAT_SPRINTS R472
  ⟨0x118, 1, 0x8, [⟨0, 64, .RC, 0⟩]⟩]  -- PWR_STAT_MISMATCH R472

/-- The registers of class CLK. -/
def regsCLK : List RegSpec := [
  ⟨0x0, 1, 0x8, [⟨8, 8, .RO, 1⟩]⟩,  -- CLK_ID R472
  ⟨0x8, 1, 0x8, [⟨0, 1, .RO, 0⟩, ⟨1, 11, .RO, 0⟩, ⟨32, 12, .RO, 0⟩]⟩,  -- CLK_STATE R469
  ⟨0x10, 1, 0x8, [⟨0, 16, .RC, 0⟩, ⟨16, 16, .RC, 0⟩]⟩,  -- CLK_ERR R16
  ⟨0x18, 1, 0x8, [⟨0, 2, .RW, 0⟩, ⟨2, 2, .RW, 0⟩, ⟨4, 8, .RW, 0⟩]⟩,  -- CLK_TB_CFG R470
  ⟨0x20, 1, 0x8, [⟨0, 1, .RO, 0⟩, ⟨32, 32, .RO, 0⟩]⟩,  -- CLK_TB_STATE R470
  ⟨0x100, 1, 0x8, [⟨0, 64, .RC, 0⟩]⟩,  -- CLK_STAT_UNLOCKS R472
  ⟨0x108, 1, 0x8, [⟨0, 64, .RC, 0⟩]⟩]  -- CLK_STAT_PLL_UNLOCKS R472

/-- The registers of class MGMT. -/
def regsMGMT : List RegSpec := [
  ⟨0x0, 1, 0x8, [⟨8, 8, .RO, 1⟩]⟩,  -- MGT_ID R451
  ⟨0x8, 1, 0x8, [⟨0, 4, .RO, 0⟩, ⟨4, 1, .RO, 0⟩, ⟨5, 1, .RO, 0⟩, ⟨6, 1, .RO, 0⟩, ⟨16, 16, .RO, 0⟩, ⟨32, 32, .RO, 0⟩]⟩,  -- MGT_BOOT R425
  ⟨0x10, 1, 0x8, [⟨0, 1, .RW, 0⟩, ⟨1, 12, .RW, 0⟩, ⟨13, 1, .RW, 0⟩]⟩,  -- MGT_CTRL R444
  ⟨0x18, 1, 0x8, [⟨0, 16, .RC, 0⟩, ⟨16, 16, .RC, 0⟩]⟩,  -- MGT_ERR R16
  ⟨0x20, 1, 0x8, [⟨0, 16, .RC, 0⟩, ⟨16, 16, .RC, 0⟩, ⟨63, 1, .RC, 0⟩]⟩,  -- MGT_ALERT R440
  ⟨0x28, 1, 0x8, [⟨0, 32, .RO, 0⟩, ⟨32, 32, .RO, 0⟩]⟩,  -- MGT_BOOT_COUNT R419
  ⟨0x30, 1, 0x8, [⟨0, 32, .RW, 0⟩]⟩,  -- MGT_LOG_SEL R437
  ⟨0x38, 4, 0x8, [⟨0, 64, .RO, 0⟩]⟩,  -- MGT_LOG_DATA R437
  ⟨0x58, 1, 0x8, [⟨0, 7, .RW, 0⟩]⟩,  -- MGT_SENSOR_SEL R443
  ⟨0x60, 1, 0x8, [⟨0, 16, .RO, 0⟩, ⟨16, 8, .RO, 0⟩]⟩,  -- MGT_SENSOR_DATA R443
  ⟨0x68, 1, 0x8, [⟨0, 8, .RO, 0⟩, ⟨16, 16, .RO, 0⟩]⟩,  -- MGT_DUMP R441
  ⟨0x70, 1, 0x8, [⟨0, 3, .RO, 0⟩, ⟨16, 16, .RO, 0⟩, ⟨32, 32, .RO, 0⟩]⟩,  -- MGT_UPDATE R445
  ⟨0x78, 1, 0x8, [⟨0, 48, .RW, 0⟩]⟩,  -- MGT_REPLY_BASE R444
  ⟨0x100, 1, 0x8, [⟨0, 64, .RC, 0⟩]⟩,  -- MGT_STAT_LOG_ENTRIES R451
  ⟨0x108, 1, 0x8, [⟨0, 64, .RC, 0⟩]⟩,  -- MGT_STAT_LOG_DROPPED R451
  ⟨0x110, 1, 0x8, [⟨0, 64, .RC, 0⟩]⟩,  -- MGT_STAT_FLASH_COMMITS R451
  ⟨0x118, 1, 0x8, [⟨0, 64, .RC, 0⟩]⟩,  -- MGT_STAT_MON_BAD_FRAMES R451
  ⟨0x120, 1, 0x8, [⟨0, 64, .RC, 0⟩]⟩,  -- MGT_STAT_UNLOCKS R451
  ⟨0x128, 1, 0x8, [⟨0, 64, .RC, 0⟩]⟩,  -- MGT_STAT_UNLOCK_FAILS R451
  ⟨0x130, 1, 0x8, [⟨0, 64, .RC, 0⟩]⟩]  -- MGT_STAT_UPDATES R451

/-- The registers of class SEC. -/
def regsSEC : List RegSpec := [
  ⟨0x0, 1, 0x8, [⟨8, 8, .RO, 1⟩]⟩,  -- SEC_ID R451
  ⟨0x8, 2, 0x8, [⟨0, 64, .RO, 0⟩]⟩,  -- SEC_DEVICE_ID R451
  ⟨0x18, 1, 0x8, [⟨0, 7, .RO, 0⟩, ⟨8, 7, .RO, 0⟩]⟩,  -- SEC_SVN R430
  ⟨0x20, 1, 0x8, [⟨0, 4, .RO, 0⟩, ⟨4, 4, .RO, 0⟩]⟩,  -- SEC_KEYS R421
  ⟨0x28, 1, 0x8, [⟨0, 1, .RO, 0⟩, ⟨8, 5, .RO, 0⟩, ⟨32, 32, .RO, 0⟩]⟩,  -- SEC_MON R450
  ⟨0x30, 1, 0x8, [⟨0, 2, .RW, 0⟩, ⟨2, 3, .RW, 0⟩]⟩,  -- SEC_MEAS_SEL R434
  ⟨0x38, 1, 0x8, [⟨0, 64, .RO, 0⟩]⟩]  -- SEC_MEAS_DATA R434

/-- The registers of class RAS. -/
def regsRAS : List RegSpec := [
  ⟨0x0, 1, 0x8, [⟨8, 8, .RO, 1⟩]⟩,  -- RAS_ID R504
  ⟨0x8, 1, 0x8, [⟨0, 16, .RW, 1000⟩, ⟨16, 8, .RW, 10⟩, ⟨24, 8, .RW, 60⟩, ⟨32, 1, .RW, 1⟩]⟩,  -- RAS_CTRL R474
  ⟨0x10, 1, 0x8, [⟨0, 2, .RO, 0⟩, ⟨2, 1, .RO, 0⟩, ⟨3, 1, .RO, 0⟩, ⟨4, 3, .RO, 0⟩]⟩,  -- RAS_STATE R483
  ⟨0x18, 1, 0x8, [⟨0, 16, .RC, 0⟩, ⟨16, 16, .RC, 0⟩]⟩,  -- RAS_ERR R16
  ⟨0x20, 1, 0x8, [⟨0, 16, .RO, 0⟩, ⟨16, 3, .RO, 0⟩, ⟨20, 4, .RO, 0⟩, ⟨24, 16, .RO, 0⟩]⟩,  -- RAS_CAPTURE R476
  ⟨0x28, 1, 0x8, [⟨0, 3, .WO, 0⟩, ⟨4, 6, .WO, 0⟩, ⟨10, 16, .WO, 0⟩]⟩,  -- RAS_ESCALATE R477
  ⟨0x40, 1, 0x8, [⟨0, 1, .WC, 0⟩, ⟨16, 16, .WC, 100⟩, ⟨32, 16, .WC, 500⟩, ⟨48, 16, .WC, 200⟩]⟩,  -- RAS_MBR_CFG R489
  ⟨0x48, 1, 0x8, [⟨0, 8, .RW, 0⟩]⟩,  -- RAS_MBR_SEL R489
  ⟨0x50, 1, 0x8, [⟨0, 1, .WC, 0⟩, ⟨1, 1, .WC, 0⟩, ⟨8, 8, .WC, 1⟩]⟩,  -- RAS_MBR_DATA R489
  ⟨0x58, 1, 0x8, [⟨0, 1, .WO, 0⟩, ⟨1, 1, .WO, 0⟩]⟩,  -- RAS_MBR_CTRL R496
  ⟨0x60, 1, 0x8, [⟨0, 3, .RO, 0⟩, ⟨8, 17, .RO, 0⟩, ⟨25, 17, .RO, 0⟩, ⟨42, 9, .RO, 0⟩, ⟨51, 8, .RO, 0⟩]⟩,  -- RAS_MBR_STATE R493
  ⟨0x80, 4, 0x8, [⟨0, 64, .RO, 0⟩]⟩,  -- RAS_MBR_VIEW R493
  ⟨0xA0, 4, 0x8, [⟨0, 64, .RO, 0⟩]⟩,  -- RAS_MBR_REACH R492
  ⟨0x100, 1, 0x8, [⟨0, 64, .RC, 0⟩]⟩,  -- RAS_STAT_CONTEXT R504
  ⟨0x108, 1, 0x8, [⟨0, 64, .RC, 0⟩]⟩,  -- RAS_STAT_ENGINE R504
  ⟨0x110, 1, 0x8, [⟨0, 64, .RC, 0⟩]⟩,  -- RAS_STAT_PARTITION R504
  ⟨0x118, 1, 0x8, [⟨0, 64, .RC, 0⟩]⟩,  -- RAS_STAT_CHIP R504
  ⟨0x120, 1, 0x8, [⟨0, 64, .RC, 0⟩]⟩,  -- RAS_STAT_MERGED R504
  ⟨0x128, 1, 0x8, [⟨0, 64, .RC, 0⟩]⟩,  -- RAS_STAT_REMOVED R504
  ⟨0x130, 1, 0x8, [⟨0, 64, .RC, 0⟩]⟩,  -- RAS_STAT_JOINS R504
  ⟨0x138, 1, 0x8, [⟨0, 64, .RC, 0⟩]⟩]  -- RAS_STAT_HB_FOREIGN R504

/-- The registers of class DET. -/
def regsDET : List RegSpec := [
  ⟨0x0, 1, 0x8, [⟨8, 8, .RO, 1⟩]⟩,  -- DET_ID R416
  ⟨0x8, 1, 0x8, [⟨0, 8, .RO, 0⟩, ⟨8, 8, .RO, 1⟩, ⟨16, 8, .RO, 1⟩]⟩,  -- DET_CLASS R399
  ⟨0x10, 1, 0x8, [⟨0, 1, .RW, 0⟩, ⟨16, 16, .RW, 0⟩]⟩,  -- DET_CTRL R403
  ⟨0x18, 1, 0x8, [⟨0, 16, .RC, 0⟩, ⟨16, 16, .RC, 0⟩]⟩,  -- DET_ERR R16
  ⟨0x20, 1, 0x8, [⟨0, 48, .WO, 0⟩]⟩,  -- DET_RNG_FILL R402
  ⟨0x28, 1, 0x8, [⟨0, 64, .RW, 0⟩]⟩,  -- DET_IMAGE_ID R399
  ⟨0x40, 1, 0x8, [⟨0, 48, .WC, 0⟩]⟩,  -- DET_LOG_BASE R406
  ⟨0x48, 1, 0x8, [⟨0, 40, .WC, 0⟩]⟩,  -- DET_LOG_SIZE R406
  ⟨0x50, 1, 0x8, [⟨0, 48, .WC, 0⟩]⟩,  -- DET_LOG_TAIL_ADDR R406
  ⟨0x58, 1, 0x8, [⟨0, 64, .RO, 0⟩]⟩,  -- DET_LOG_HEAD R406
  ⟨0x60, 1, 0x8, [⟨0, 48, .WC, 0⟩]⟩,  -- DET_REPLAY_BASE R411
  ⟨0x68, 1, 0x8, [⟨0, 40, .WC, 0⟩]⟩,  -- DET_REPLAY_SIZE R411
  ⟨0x70, 1, 0x8, [⟨0, 16, .WC, 0⟩]⟩,  -- DET_REPLAY_PARTS R411
  ⟨0x100, 1, 0x8, [⟨0, 64, .RC, 0⟩]⟩,  -- DET_STAT_FILL_BLOCKS R416
  ⟨0x108, 1, 0x8, [⟨0, 64, .RC, 0⟩]⟩,  -- DET_STAT_RECORDS R416
  ⟨0x110, 1, 0x8, [⟨0, 64, .RC, 0⟩]⟩,  -- DET_STAT_LOST R416
  ⟨0x118, 1, 0x8, [⟨0, 64, .RC, 0⟩]⟩,  -- DET_STAT_REPLAY_HITS R416
  ⟨0x120, 1, 0x8, [⟨0, 64, .RC, 0⟩]⟩,  -- DET_STAT_REPLAY_MISS R416
  ⟨0x128, 1, 0x8, [⟨0, 64, .RC, 0⟩]⟩]  -- DET_STAT_STEP_WRAPS R416

/-- The registers of a class (R506). -/
def classRegs (c : Nat) : List RegSpec :=
  match c with
  | 0 => regsGLOBAL
  | 1 => regsCORE
  | 2 => regsMATRIX
  | 3 => regsCHAIN
  | 4 => regsSEQ
  | 5 => regsROUTER
  | 6 => regsMEMCH
  | 7 => regsMBRIDGE
  | 8 => regsPOOL
  | 9 => regsQUEUE
  | 10 => regsLINK
  | 11 => regsETH
  | 12 => regsFABRIC
  | 13 => regsCOLL
  | 14 => regsSCHED
  | 15 => regsCTX
  | 16 => regsSYNC
  | 17 => regsPWR
  | 18 => regsCLK
  | 19 => regsMGMT
  | 20 => regsSEC
  | 21 => regsRAS
  | 22 => regsDET
  | _ => []

namespace Reg

def GLB_ID : Nat := 0x0
def GLB_ID_STEPPING : Fld := ⟨0x0, 0, 8⟩
def GLB_ID_REVISION : Fld := ⟨0x0, 8, 8⟩
def GLB_ID_GRADE : Fld := ⟨0x0, 16, 1⟩
def GLB_ID_PART : Fld := ⟨0x0, 32, 16⟩
def GLB_IDCODE : Nat := 0x8
def GLB_IDCODE_IDCODE : Fld := ⟨0x8, 0, 32⟩
def GLB_CORE_PRESENT : Nat := 0x10
def GLB_CORE_PRESENT_CORE_MASK : Fld := ⟨0x10, 0, 64⟩
def GLB_ERR : Nat := 0x18
def GLB_ERR_CODE : Fld := ⟨0x18, 0, 16⟩
def GLB_ERR_COUNT : Fld := ⟨0x18, 16, 16⟩
def GLB_RAKE_STATUS : Nat := 0x20
def GLB_RAKE_STATUS_DIFF : Fld := ⟨0x20, 0, 1⟩
def GLB_RAKE_STATUS_READ_COUNT : Fld := ⟨0x20, 1, 10⟩
def GLB_RAKE_STATUS_WRITE_CODE : Fld := ⟨0x20, 16, 16⟩
def GLB_RAKE_STATUS_WRITE_INSTANCE : Fld := ⟨0x20, 32, 10⟩
def GLB_RAKE_STATUS_REFUSED : Fld := ⟨0x20, 42, 10⟩
def GLB_RAKE_SEL : Nat := 0x28
def GLB_RAKE_SEL_CLASS : Fld := ⟨0x28, 0, 6⟩
def GLB_RAKE_SEL_GROUP : Fld := ⟨0x28, 6, 4⟩
def GLB_RAKE_SEL_WORD : Fld := ⟨0x28, 10, 4⟩
def GLB_RAKE_DATA : Nat := 0x30
def GLB_RAKE_DATA_MASK : Fld := ⟨0x30, 0, 64⟩
def CORE_ID : Nat := 0x4000000
def CORE_ID_CORE : Fld := ⟨0x4000000, 0, 6⟩
def CORE_ID_REVISION : Fld := ⟨0x4000000, 8, 8⟩
def CORE_ERR : Nat := 0x4000008
def CORE_ERR_CODE : Fld := ⟨0x4000008, 0, 16⟩
def CORE_ERR_COUNT : Fld := ⟨0x4000008, 16, 16⟩
def CORE_STORE_ECC : Nat := 0x4000010
def CORE_STORE_ECC_CORRECTED : Fld := ⟨0x4000010, 0, 32⟩
def CORE_STORE_ECC_UNCORRECTED : Fld := ⟨0x4000010, 32, 16⟩
def CORE_CONTEXT : Nat := 0x4000018
def CORE_CONTEXT_CONTEXT : Fld := ⟨0x4000018, 0, 14⟩
def CORE_CONTEXT_VALID : Fld := ⟨0x4000018, 14, 1⟩
def MAT_ID : Nat := 0x8000000
def MAT_ID_ARRAY : Fld := ⟨0x8000000, 0, 1⟩
def MAT_ID_CORE : Fld := ⟨0x8000000, 1, 6⟩
def MAT_ID_REVISION : Fld := ⟨0x8000000, 8, 8⟩
def MAT_CTRL : Nat := 0x8000008
def MAT_CTRL_ENABLE : Fld := ⟨0x8000008, 0, 1⟩
def MAT_CTRL_CHECKSUM_REQ : Fld := ⟨0x8000008, 1, 1⟩
def MAT_STATE : Nat := 0x8000010
def MAT_STATE_REPAIRED : Fld := ⟨0x8000010, 0, 1⟩
def MAT_STATE_CHECKSUM : Fld := ⟨0x8000010, 1, 1⟩
def MAT_STATE_OFF : Fld := ⟨0x8000010, 2, 1⟩
def MAT_STATE_BUSY : Fld := ⟨0x8000010, 3, 1⟩
def MAT_STATE_QUEUED : Fld := ⟨0x8000010, 4, 3⟩
def MAT_STATE_RAMP : Fld := ⟨0x8000010, 7, 4⟩
def MAT_STATE_SELFTEST_DONE : Fld := ⟨0x8000010, 11, 1⟩
def MAT_FUSE : Nat := 0x8000018
def MAT_FUSE_ROW_SKIP : Fld := ⟨0x8000018, 0, 4⟩
def MAT_FUSE_COL_SKIP : Fld := ⟨0x8000018, 4, 5⟩
def MAT_REPAIR : Nat := 0x8000020
def MAT_REPAIR_ROW : Fld := ⟨0x8000020, 0, 4⟩
def MAT_REPAIR_COL : Fld := ⟨0x8000020, 4, 5⟩
def MAT_ERR : Nat := 0x8000028
def MAT_ERR_CODE : Fld := ⟨0x8000028, 0, 16⟩
def MAT_ERR_COUNT : Fld := ⟨0x8000028, 16, 16⟩
def MAT_LAST_PASS : Nat := 0x8000040
def MAT_LAST_PASS_TAG : Fld := ⟨0x8000040, 0, 16⟩
def MAT_LAST_PASS_CYCLES : Fld := ⟨0x8000040, 16, 48⟩
def MAT_CHK_LOG : Nat := 0x8000048
def MAT_CHK_LOG_TAG : Fld := ⟨0x8000048, 0, 16⟩
def MAT_CHK_LOG_NTILE : Fld := ⟨0x8000048, 16, 32⟩
def MAT_CHK_LOG_KSTEP : Fld := ⟨0x8000048, 48, 12⟩
def MAT_CHK_LOG_CHECK : Fld := ⟨0x8000048, 60, 1⟩
def MAT_CHK_LOG_VALID : Fld := ⟨0x8000048, 61, 1⟩
def MAT_SELFTEST : Nat := 0x8000050
def MAT_SELFTEST_FAULTY : Fld := ⟨0x8000050, 0, 64⟩
def MAT_STAT_PASSES : Nat := 0x8000100
def MAT_STAT_PASSES_COUNT : Fld := ⟨0x8000100, 0, 64⟩
def MAT_STAT_SKIPS : Nat := 0x8000108
def MAT_STAT_SKIPS_COUNT : Fld := ⟨0x8000108, 0, 64⟩
def MAT_STAT_GROUPS : Nat := 0x8000110
def MAT_STAT_GROUPS_COUNT : Fld := ⟨0x8000110, 0, 64⟩
def MAT_STAT_W_STALL : Nat := 0x8000118
def MAT_STAT_W_STALL_COUNT : Fld := ⟨0x8000118, 0, 64⟩
def MAT_STAT_DRAIN_STALL : Nat := 0x8000120
def MAT_STAT_DRAIN_STALL_COUNT : Fld := ⟨0x8000120, 0, 64⟩
def MAT_STAT_CHK_MISMATCH : Nat := 0x8000128
def MAT_STAT_CHK_MISMATCH_COUNT : Fld := ⟨0x8000128, 0, 64⟩
def MAT_STAT_RAMPS : Nat := 0x8000130
def MAT_STAT_RAMPS_COUNT : Fld := ⟨0x8000130, 0, 64⟩
def MAT_STAT_POISON : Nat := 0x8000138
def MAT_STAT_POISON_COUNT : Fld := ⟨0x8000138, 0, 64⟩
def MAT_STAT_ACC_CORRECTED : Nat := 0x8000140
def MAT_STAT_ACC_CORRECTED_COUNT : Fld := ⟨0x8000140, 0, 64⟩
def CHN_ID : Nat := 0xC000000
def CHN_ID_CORE : Fld := ⟨0xC000000, 0, 6⟩
def CHN_ID_REVISION : Fld := ⟨0xC000000, 8, 8⟩
def CHN_ID_TT_REV : Fld := ⟨0xC000000, 16, 8⟩
def CHN_CTRL : Nat := 0xC000008
def CHN_CTRL_ENABLE : Fld := ⟨0xC000008, 0, 1⟩
def CHN_STATE : Nat := 0xC000010
def CHN_STATE_BUSY : Fld := ⟨0xC000010, 0, 1⟩
def CHN_STATE_QUEUED : Fld := ⟨0xC000010, 1, 3⟩
def CHN_STATE_STREAM_WAIT : Fld := ⟨0xC000010, 4, 2⟩
def CHN_ERR : Nat := 0xC000018
def CHN_ERR_CODE : Fld := ⟨0xC000018, 0, 16⟩
def CHN_ERR_COUNT : Fld := ⟨0xC000018, 16, 16⟩
def CHN_STAT_CHAINS : Nat := 0xC000100
def CHN_STAT_CHAINS_COUNT : Fld := ⟨0xC000100, 0, 64⟩
def CHN_STAT_ELEMS : Nat := 0xC000108
def CHN_STAT_ELEMS_COUNT : Fld := ⟨0xC000108, 0, 64⟩
def CHN_STAT_NAN_OUT : Nat := 0xC000110
def CHN_STAT_NAN_OUT_COUNT : Fld := ⟨0xC000110, 0, 64⟩
def CHN_STAT_SAT : Nat := 0xC000118
def CHN_STAT_SAT_COUNT : Fld := ⟨0xC000118, 0, 64⟩
def CHN_STAT_MX_NAN_BLOCKS : Nat := 0xC000120
def CHN_STAT_MX_NAN_BLOCKS_COUNT : Fld := ⟨0xC000120, 0, 64⟩
def CHN_STAT_POISON : Nat := 0xC000128
def CHN_STAT_POISON_COUNT : Fld := ⟨0xC000128, 0, 64⟩
def CHN_STAT_STREAM_WAIT : Nat := 0xC000130
def CHN_STAT_STREAM_WAIT_COUNT : Fld := ⟨0xC000130, 0, 64⟩
def CHN_SUM : Nat := 0xC000200
def CHN_SUM_VALUE : Fld := ⟨0xC000200, 0, 64⟩
def CHN_CMB_ERR : Nat := 0xC000400
def CHN_CMB_ERR_CODE : Fld := ⟨0xC000400, 0, 16⟩
def CHN_CMB_ERR_COUNT : Fld := ⟨0xC000400, 16, 16⟩
def CHN_CMB_TOKENS : Nat := 0xC000440
def CHN_CMB_TOKENS_COUNT : Fld := ⟨0xC000440, 0, 64⟩
def CHN_CMB_BITTERN_TOKENS : Nat := 0xC000448
def CHN_CMB_BITTERN_TOKENS_COUNT : Fld := ⟨0xC000448, 0, 64⟩
def CHN_CMB_LOST_SEATS : Nat := 0xC000450
def CHN_CMB_LOST_SEATS_COUNT : Fld := ⟨0xC000450, 0, 64⟩
def CHN_CMB_ZERO_NORM : Nat := 0xC000458
def CHN_CMB_ZERO_NORM_COUNT : Fld := ⟨0xC000458, 0, 64⟩
def CHN_CMB_NAN_TOKENS : Nat := 0xC000460
def CHN_CMB_NAN_TOKENS_COUNT : Fld := ⟨0xC000460, 0, 64⟩
def SEQ_ID : Nat := 0x10000000
def SEQ_ID_CORE : Fld := ⟨0x10000000, 0, 6⟩
def SEQ_ID_REVISION : Fld := ⟨0x10000000, 8, 8⟩
def SEQ_ID_ISA : Fld := ⟨0x10000000, 16, 8⟩
def SEQ_CTRL : Nat := 0x10000008
def SEQ_CTRL_RUN : Fld := ⟨0x10000008, 0, 1⟩
def SEQ_CTRL_WAIT_LIMIT : Fld := ⟨0x10000008, 16, 16⟩
def SEQ_STATE : Nat := 0x10000010
def SEQ_STATE_STATE : Fld := ⟨0x10000010, 0, 3⟩
def SEQ_STATE_CONTEXT : Fld := ⟨0x10000010, 16, 14⟩
def SEQ_STATE_PC : Fld := ⟨0x10000010, 32, 16⟩
def SEQ_ERR : Nat := 0x10000018
def SEQ_ERR_CODE : Fld := ⟨0x10000018, 0, 16⟩
def SEQ_ERR_COUNT : Fld := ⟨0x10000018, 16, 16⟩
def SEQ_FAULT : Nat := 0x10000020
def SEQ_FAULT_CODE : Fld := ⟨0x10000020, 0, 16⟩
def SEQ_FAULT_PC : Fld := ⟨0x10000020, 16, 16⟩
def SEQ_FAULT_CONTEXT : Fld := ⟨0x10000020, 32, 14⟩
def SEQ_FAULT_VALID : Fld := ⟨0x10000020, 63, 1⟩
def SEQ_FAULT_INSN : Nat := 0x10000028
def SEQ_FAULT_INSN_INSN : Fld := ⟨0x10000028, 0, 32⟩
def SEQ_IMEM_ADDR : Nat := 0x10000030
def SEQ_IMEM_ADDR_INDEX : Fld := ⟨0x10000030, 0, 16⟩
def SEQ_IMEM_DATA : Nat := 0x10000038
def SEQ_IMEM_DATA_INSN : Fld := ⟨0x10000038, 0, 32⟩
def SEQ_IMEM_ECC : Nat := 0x10000040
def SEQ_IMEM_ECC_CORRECTED : Fld := ⟨0x10000040, 0, 32⟩
def SEQ_IMEM_ECC_UNCORRECTED : Fld := ⟨0x10000040, 32, 16⟩
def SEQ_STAT_PROGRAMS : Nat := 0x10000100
def SEQ_STAT_PROGRAMS_COUNT : Fld := ⟨0x10000100, 0, 64⟩
def SEQ_STAT_INSNS : Nat := 0x10000108
def SEQ_STAT_INSNS_COUNT : Fld := ⟨0x10000108, 0, 64⟩
def SEQ_STAT_ISSUES : Nat := 0x10000110
def SEQ_STAT_ISSUES_COUNT : Fld := ⟨0x10000110, 0, 64⟩
def SEQ_STAT_ISSUE_STALL : Nat := 0x10000118
def SEQ_STAT_ISSUE_STALL_COUNT : Fld := ⟨0x10000118, 0, 64⟩
def SEQ_STAT_WAIT_CYCLES : Nat := 0x10000120
def SEQ_STAT_WAIT_CYCLES_COUNT : Fld := ⟨0x10000120, 0, 64⟩
def SEQ_STAT_WAIT_LIMIT : Nat := 0x10000128
def SEQ_STAT_WAIT_LIMIT_COUNT : Fld := ⟨0x10000128, 0, 64⟩
def SEQ_STAT_OVERRUNS : Nat := 0x10000130
def SEQ_STAT_OVERRUNS_COUNT : Fld := ⟨0x10000130, 0, 64⟩
def SEQ_STAT_FAULTS : Nat := 0x10000138
def SEQ_STAT_FAULTS_COUNT : Fld := ⟨0x10000138, 0, 64⟩
def SEQ_STAT_NOT_RUN : Nat := 0x10000140
def SEQ_STAT_NOT_RUN_COUNT : Fld := ⟨0x10000140, 0, 64⟩
def ORT_ID : Nat := 0x14000000
def ORT_ID_ROUTER : Fld := ⟨0x14000000, 0, 2⟩
def ORT_ID_REVISION : Fld := ⟨0x14000000, 8, 8⟩
def ORT_CTRL : Nat := 0x14000008
def ORT_CTRL_ENABLE : Fld := ⟨0x14000008, 0, 1⟩
def ORT_CTRL_NAN_LOG_LIMIT : Fld := ⟨0x14000008, 8, 8⟩
def ORT_STATUS : Nat := 0x14000010
def ORT_STATUS_BUSY : Fld := ⟨0x14000010, 0, 1⟩
def ORT_STATUS_PHASE : Fld := ⟨0x14000010, 1, 3⟩
def ORT_STATUS_ROUND : Fld := ⟨0x14000010, 4, 5⟩
def ORT_STATUS_TAG : Fld := ⟨0x14000010, 16, 16⟩
def ORT_STATUS_GROUP : Fld := ⟨0x14000010, 32, 4⟩
def ORT_ERR : Nat := 0x14000018
def ORT_ERR_CODE : Fld := ⟨0x14000018, 0, 16⟩
def ORT_ERR_COUNT : Fld := ⟨0x14000018, 16, 16⟩
def ORT_WINDOW_START : Nat := 0x14000020
def ORT_WINDOW_START_TIME : Fld := ⟨0x14000020, 0, 64⟩
def ORT_WINDOW_END : Nat := 0x14000028
def ORT_WINDOW_END_TIME : Fld := ⟨0x14000028, 0, 64⟩
def ORT_STORE_ECC : Nat := 0x14000030
def ORT_STORE_ECC_CORRECTED : Fld := ⟨0x14000030, 0, 32⟩
def ORT_STORE_ECC_UNCORRECTED : Fld := ⟨0x14000030, 32, 16⟩
def ORT_STAT_WINDOWS : Nat := 0x14000100
def ORT_STAT_WINDOWS_COUNT : Fld := ⟨0x14000100, 0, 64⟩
def ORT_STAT_RECALLS : Nat := 0x14000108
def ORT_STAT_RECALLS_COUNT : Fld := ⟨0x14000108, 0, 64⟩
def ORT_STAT_SEATS_FILLED : Nat := 0x14000110
def ORT_STAT_SEATS_FILLED_COUNT : Fld := ⟨0x14000110, 0, 64⟩
def ORT_STAT_BITTERN_SEATS : Nat := 0x14000118
def ORT_STAT_BITTERN_SEATS_COUNT : Fld := ⟨0x14000118, 0, 64⟩
def ORT_STAT_BITTERN_TOKENS : Nat := 0x14000120
def ORT_STAT_BITTERN_TOKENS_COUNT : Fld := ⟨0x14000120, 0, 64⟩
def ORT_STAT_PROPOSALS : Nat := 0x14000128
def ORT_STAT_PROPOSALS_COUNT : Fld := ⟨0x14000128, 0, 64⟩
def ORT_STAT_DISPLACED : Nat := 0x14000130
def ORT_STAT_DISPLACED_COUNT : Fld := ⟨0x14000130, 0, 64⟩
def ORT_STAT_REJECTED : Nat := 0x14000138
def ORT_STAT_REJECTED_COUNT : Fld := ⟨0x14000138, 0, 64⟩
def ORT_STAT_OVERSUB : Nat := 0x14000140
def ORT_STAT_OVERSUB_COUNT : Fld := ⟨0x14000140, 0, 64⟩
def ORT_STAT_EMPTY_EXPERTS : Nat := 0x14000148
def ORT_STAT_EMPTY_EXPERTS_COUNT : Fld := ⟨0x14000148, 0, 64⟩
def ORT_STAT_NAN : Nat := 0x14000150
def ORT_STAT_NAN_COUNT : Fld := ⟨0x14000150, 0, 64⟩
def ORT_STAT_MISSING : Nat := 0x14000158
def ORT_STAT_MISSING_COUNT : Fld := ⟨0x14000158, 0, 64⟩
def ORT_STAT_DUP : Nat := 0x14000160
def ORT_STAT_DUP_COUNT : Fld := ⟨0x14000160, 0, 64⟩
def ORT_STAT_LATE_TILES : Nat := 0x14000168
def ORT_STAT_LATE_TILES_COUNT : Fld := ⟨0x14000168, 0, 64⟩
def ORT_STAT_REFUSED : Nat := 0x14000170
def ORT_STAT_REFUSED_COUNT : Fld := ⟨0x14000170, 0, 64⟩
def ORT_STAT_IDLE_CYCLES : Nat := 0x14000178
def ORT_STAT_IDLE_CYCLES_COUNT : Fld := ⟨0x14000178, 0, 64⟩
def MCH_ID : Nat := 0x18000000
def MCH_ID_INDEX : Fld := ⟨0x18000000, 0, 9⟩
def MCH_ID_REVISION : Fld := ⟨0x18000000, 16, 8⟩
def MCH_STATE : Nat := 0x18000008
def MCH_STATE_TRAINED : Fld := ⟨0x18000008, 0, 1⟩
def MCH_STATE_DEAD : Fld := ⟨0x18000008, 1, 1⟩
def MCH_STATE_SELF_REFRESH : Fld := ⟨0x18000008, 2, 1⟩
def MCH_STATE_SPARES_USED : Fld := ⟨0x18000008, 8, 11⟩
def MCH_ECC_CTRL : Nat := 0x18000010
def MCH_ECC_CTRL_CORR_LIMIT : Fld := ⟨0x18000010, 0, 3⟩
def MCH_ECC_CTRL_RETIRE_BYTES : Fld := ⟨0x18000010, 4, 3⟩
def MCH_ERR : Nat := 0x18000018
def MCH_ERR_CODE : Fld := ⟨0x18000018, 0, 16⟩
def MCH_ERR_COUNT : Fld := ⟨0x18000018, 16, 16⟩
def MCH_UE_ADDR : Nat := 0x18000020
def MCH_UE_ADDR_ADDR : Fld := ⟨0x18000020, 0, 48⟩
def MCH_UE_ADDR_VALID : Fld := ⟨0x18000020, 63, 1⟩
def MCH_STAT_CE_LINES : Nat := 0x18000100
def MCH_STAT_CE_LINES_COUNT : Fld := ⟨0x18000100, 0, 64⟩
def MCH_STAT_CE_BYTES : Nat := 0x18000108
def MCH_STAT_CE_BYTES_COUNT : Fld := ⟨0x18000108, 0, 64⟩
def MCH_STAT_UE : Nat := 0x18000110
def MCH_STAT_UE_COUNT : Fld := ⟨0x18000110, 0, 64⟩
def MCH_STAT_POISON_READ : Nat := 0x18000118
def MCH_STAT_POISON_READ_COUNT : Fld := ⟨0x18000118, 0, 64⟩
def MCH_STAT_RETIRED : Nat := 0x18000120
def MCH_STAT_RETIRED_COUNT : Fld := ⟨0x18000120, 0, 64⟩
def MCH_STAT_SCRUB_LINES : Nat := 0x18000128
def MCH_STAT_SCRUB_LINES_COUNT : Fld := ⟨0x18000128, 0, 64⟩
def MCH_STAT_NM_OPS : Nat := 0x18000130
def MCH_STAT_NM_OPS_COUNT : Fld := ⟨0x18000130, 0, 64⟩
def MBD_ID : Nat := 0x1C000000
def MBD_ID_INDEX : Fld := ⟨0x1C000000, 0, 9⟩
def MBD_ID_REVISION : Fld := ⟨0x1C000000, 16, 8⟩
def MBD_CTRL : Nat := 0x1C000008
def MBD_CTRL_NM_ENABLE : Fld := ⟨0x1C000008, 0, 1⟩
def MBD_CTRL_SCRUB_HOURS : Fld := ⟨0x1C000008, 8, 8⟩
def MBD_ERR : Nat := 0x1C000010
def MBD_ERR_CODE : Fld := ⟨0x1C000010, 0, 16⟩
def MBD_ERR_COUNT : Fld := ⟨0x1C000010, 16, 16⟩
def MBD_BRINE_STATUS : Nat := 0x1C000018
def MBD_BRINE_STATUS_ON : Fld := ⟨0x1C000018, 0, 64⟩
def MBD_BRINE_BASE : Nat := 0x1C000100
def MBD_BRINE_BASE_VIEW_BASE : Fld := ⟨0x1C000100, 0, 48⟩
def MBD_BRINE_BLOCKS : Nat := 0x1C000108
def MBD_BRINE_BLOCKS_VIEW_BLOCKS : Fld := ⟨0x1C000108, 0, 27⟩
def MBD_BRINE_INDEX : Nat := 0x1C000110
def MBD_BRINE_INDEX_INDEX_BASE : Fld := ⟨0x1C000110, 0, 48⟩
def MBD_STAT_BRINE_BLOCKS : Nat := 0x1C000900
def MBD_STAT_BRINE_BLOCKS_COUNT : Fld := ⟨0x1C000900, 0, 64⟩
def MBD_STAT_BRINE_CORRUPT : Nat := 0x1C000908
def MBD_STAT_BRINE_CORRUPT_COUNT : Fld := ⟨0x1C000908, 0, 64⟩
def MBD_STAT_BRINE_HITS : Nat := 0x1C000910
def MBD_STAT_BRINE_HITS_COUNT : Fld := ⟨0x1C000910, 0, 64⟩
def MBD_STAT_NM_REFUSED : Nat := 0x1C000918
def MBD_STAT_NM_REFUSED_COUNT : Fld := ⟨0x1C000918, 0, 64⟩
def PAN_CFG : Nat := 0x20000000
def PAN_CFG_BUF_LOG2 : Fld := ⟨0x20000000, 0, 5⟩
def PAN_CFG_COUNT : Fld := ⟨0x20000000, 8, 21⟩
def PAN_CFG_SHARED : Fld := ⟨0x20000000, 32, 1⟩
def PAN_BASE : Nat := 0x20000008
def PAN_BASE_BASE : Fld := ⟨0x20000008, 0, 48⟩
def PAN_STATE_BASE : Nat := 0x20000010
def PAN_STATE_BASE_STATE_BASE : Fld := ⟨0x20000010, 0, 48⟩
def PAN_STATE : Nat := 0x20000018
def PAN_STATE_FREE : Fld := ⟨0x20000018, 0, 21⟩
def PAN_ERR : Nat := 0x20000020
def PAN_ERR_CODE : Fld := ⟨0x20000020, 0, 16⟩
def PAN_ERR_COUNT : Fld := ⟨0x20000020, 16, 16⟩
def PAN_ALLOC : Nat := 0x20000100
def PAN_ALLOC_RESULT : Fld := ⟨0x20000100, 0, 48⟩
def PAN_ALLOC_COMPLETION : Fld := ⟨0x20000100, 48, 14⟩
def PAN_RETAIN : Nat := 0x20000108
def PAN_RETAIN_HANDLE_N : Fld := ⟨0x20000108, 0, 64⟩
def PAN_RELEASE : Nat := 0x20000110
def PAN_RELEASE_HANDLE : Fld := ⟨0x20000110, 0, 64⟩
def PAN_STAT_ALLOCS : Nat := 0x20000200
def PAN_STAT_ALLOCS_COUNT : Fld := ⟨0x20000200, 0, 64⟩
def PAN_STAT_EMPTY : Nat := 0x20000208
def PAN_STAT_EMPTY_COUNT : Fld := ⟨0x20000208, 0, 64⟩
def PAN_STAT_FREED : Nat := 0x20000210
def PAN_STAT_FREED_COUNT : Fld := ⟨0x20000210, 0, 64⟩
def PAN_STAT_REFUSED : Nat := 0x20000218
def PAN_STAT_REFUSED_COUNT : Fld := ⟨0x20000218, 0, 64⟩
def QUE_CFG : Nat := 0x24000000
def QUE_CFG_TYPE : Fld := ⟨0x24000000, 0, 3⟩
def QUE_CFG_DEPTH : Fld := ⟨0x24000000, 4, 21⟩
def QUE_CFG_SRAM_BASE : Fld := ⟨0x24000000, 25, 16⟩
def QUE_CFG_RECV_MAX : Fld := ⟨0x24000000, 41, 9⟩
def QUE_WM : Nat := 0x24000008
def QUE_WM_WM_EN : Fld := ⟨0x24000008, 0, 1⟩
def QUE_WM_PRIORITY : Fld := ⟨0x24000008, 1, 1⟩
def QUE_WM_PORT : Fld := ⟨0x24000008, 2, 2⟩
def QUE_WM_HIGH : Fld := ⟨0x24000008, 4, 21⟩
def QUE_WM_LOW : Fld := ⟨0x24000008, 25, 21⟩
def QUE_NOTIFY : Nat := 0x24000010
def QUE_NOTIFY_ARRIVAL : Fld := ⟨0x24000010, 0, 14⟩
def QUE_NOTIFY_NOTIFY_EN : Fld := ⟨0x24000010, 14, 1⟩
def QUE_NOTIFY_OWNER_EN : Fld := ⟨0x24000010, 15, 1⟩
def QUE_NOTIFY_OWNER : Fld := ⟨0x24000010, 16, 14⟩
def QUE_NOTIFY_STALE_US : Fld := ⟨0x24000010, 32, 16⟩
def QUE_STATE : Nat := 0x24000018
def QUE_STATE_WORDS : Fld := ⟨0x24000018, 0, 21⟩
def QUE_STATE_PACKETS : Fld := ⟨0x24000018, 21, 21⟩
def QUE_STATE_HOLD : Fld := ⟨0x24000018, 42, 1⟩
def QUE_STATE_STALE : Fld := ⟨0x24000018, 43, 1⟩
def QUE_STATE_FLUSHED : Fld := ⟨0x24000018, 44, 1⟩
def QUE_STATE_PARTIAL : Fld := ⟨0x24000018, 45, 1⟩
def QUE_STATE_CLOSED : Fld := ⟨0x24000018, 46, 1⟩
def QUE_ERR : Nat := 0x24000020
def QUE_ERR_CODE : Fld := ⟨0x24000020, 0, 16⟩
def QUE_ERR_COUNT : Fld := ⟨0x24000020, 16, 16⟩
def QUE_POP : Nat := 0x24000100
def QUE_POP_DEST : Fld := ⟨0x24000100, 0, 48⟩
def QUE_POP_COMPLETION : Fld := ⟨0x24000100, 48, 14⟩
def QUE_DROP : Nat := 0x24000108
def QUE_DROP_COMPLETION : Fld := ⟨0x24000108, 0, 14⟩
def QUE_STAT_ENQUEUED : Nat := 0x24000200
def QUE_STAT_ENQUEUED_COUNT : Fld := ⟨0x24000200, 0, 64⟩
def QUE_STAT_REFUSED : Nat := 0x24000208
def QUE_STAT_REFUSED_COUNT : Fld := ⟨0x24000208, 0, 64⟩
def QUE_STAT_POPS : Nat := 0x24000210
def QUE_STAT_POPS_COUNT : Fld := ⟨0x24000210, 0, 64⟩
def QUE_STAT_POISON : Nat := 0x24000218
def QUE_STAT_POISON_COUNT : Fld := ⟨0x24000218, 0, 64⟩
def QUE_STAT_DROPS : Nat := 0x24000220
def QUE_STAT_DROPS_COUNT : Fld := ⟨0x24000220, 0, 64⟩
def QUE_STAT_STALE : Nat := 0x24000228
def QUE_STAT_STALE_COUNT : Fld := ⟨0x24000228, 0, 64⟩
def QUE_STAT_HOLDS : Nat := 0x24000230
def QUE_STAT_HOLDS_COUNT : Fld := ⟨0x24000230, 0, 64⟩
def LNK_ID : Nat := 0x28000000
def LNK_ID_INST : Fld := ⟨0x28000000, 0, 4⟩
def LNK_ID_REVISION : Fld := ⟨0x28000000, 8, 8⟩
def LNK_CFG : Nat := 0x28000008
def LNK_CFG_ENABLE : Fld := ⟨0x28000008, 0, 1⟩
def LNK_CFG_SPLIT : Fld := ⟨0x28000008, 1, 1⟩
def LNK_CFG_MEDIUM : Fld := ⟨0x28000008, 2, 2⟩
def LNK_STATE : Nat := 0x28000010
def LNK_STATE_STATE0 : Fld := ⟨0x28000010, 0, 3⟩
def LNK_STATE_STATE1 : Fld := ⟨0x28000010, 3, 3⟩
def LNK_STATE_DELAY0 : Fld := ⟨0x28000010, 16, 16⟩
def LNK_STATE_DELAY1 : Fld := ⟨0x28000010, 32, 16⟩
def LNK_ERR : Nat := 0x28000018
def LNK_ERR_CODE : Fld := ⟨0x28000018, 0, 16⟩
def LNK_ERR_COUNT : Fld := ⟨0x28000018, 16, 16⟩
def LNK_ST_SEL : Nat := 0x28000020
def LNK_ST_SEL_HALF : Fld := ⟨0x28000020, 0, 1⟩
def LNK_ST_SEL_INDEX : Fld := ⟨0x28000020, 1, 14⟩
def LNK_ST_DATA : Nat := 0x28000028
def LNK_ST_DATA_KIND : Fld := ⟨0x28000028, 0, 2⟩
def LNK_ST_DATA_SOURCE : Fld := ⟨0x28000028, 2, 6⟩
def LNK_ST_DATA_XFER_ID : Fld := ⟨0x28000028, 8, 16⟩
def LNK_STh_T0 : Nat := 0x28000040
def LNK_STh_T0_T0 : Fld := ⟨0x28000040, 0, 64⟩
def LNK_STh_LEN : Nat := 0x28000048
def LNK_STh_LEN_LEN : Fld := ⟨0x28000048, 0, 14⟩
def LNK_STAT_FLITS_TX : Nat := 0x28000100
def LNK_STAT_FLITS_TX_COUNT : Fld := ⟨0x28000100, 0, 64⟩
def LNK_STAT_VOID_TX : Nat := 0x28000108
def LNK_STAT_VOID_TX_COUNT : Fld := ⟨0x28000108, 0, 64⟩
def LNK_STAT_CRC_ERR : Nat := 0x28000110
def LNK_STAT_CRC_ERR_COUNT : Fld := ⟨0x28000110, 0, 64⟩
def LNK_STAT_REPLAYS : Nat := 0x28000118
def LNK_STAT_REPLAYS_COUNT : Fld := ⟨0x28000118, 0, 64⟩
def LNK_STAT_SLIPS : Nat := 0x28000120
def LNK_STAT_SLIPS_COUNT : Fld := ⟨0x28000120, 0, 64⟩
def LNK_STAT_LATE_FLITS : Nat := 0x28000128
def LNK_STAT_LATE_FLITS_COUNT : Fld := ⟨0x28000128, 0, 64⟩
def LNK_STAT_SLUICE_MOVES : Nat := 0x28000130
def LNK_STAT_SLUICE_MOVES_COUNT : Fld := ⟨0x28000130, 0, 64⟩
def LNK_STAT_RETRAINS : Nat := 0x28000138
def LNK_STAT_RETRAINS_COUNT : Fld := ⟨0x28000138, 0, 64⟩
def LNK_STAT_FEC_UNCORR : Nat := 0x28000140
def LNK_STAT_FEC_UNCORR_COUNT : Fld := ⟨0x28000140, 0, 64⟩
def ETH_ID : Nat := 0x2C000000
def ETH_ID_INST : Fld := ⟨0x2C000000, 0, 4⟩
def ETH_ID_REVISION : Fld := ⟨0x2C000000, 8, 8⟩
def ETH_CFG : Nat := 0x2C000008
def ETH_CFG_ENABLE : Fld := ⟨0x2C000008, 0, 1⟩
def ETH_CFG_SPEED : Fld := ⟨0x2C000008, 1, 2⟩
def ETH_CFG_MEDIUM : Fld := ⟨0x2C000008, 3, 1⟩
def ETH_CFG_AN_EN : Fld := ⟨0x2C000008, 4, 1⟩
def ETH_CFG_PRIO0 : Fld := ⟨0x2C000008, 5, 3⟩
def ETH_CFG_PRIO1 : Fld := ⟨0x2C000008, 8, 3⟩
def ETH_CFG_ECN_EN : Fld := ⟨0x2C000008, 11, 1⟩
def ETH_CFG_PTP_EN : Fld := ⟨0x2C000008, 12, 1⟩
def ETH_CFG_VID : Fld := ⟨0x2C000008, 16, 12⟩
def ETH_STATE : Nat := 0x2C000010
def ETH_STATE_LINK : Fld := ⟨0x2C000010, 0, 2⟩
def ETH_STATE_RATE : Fld := ⟨0x2C000010, 2, 2⟩
def ETH_STATE_PAUSED0 : Fld := ⟨0x2C000010, 4, 1⟩
def ETH_STATE_PAUSED1 : Fld := ⟨0x2C000010, 5, 1⟩
def ETH_STATE_HOLD : Fld := ⟨0x2C000010, 6, 1⟩
def ETH_ERR : Nat := 0x2C000018
def ETH_ERR_CODE : Fld := ⟨0x2C000018, 0, 16⟩
def ETH_ERR_COUNT : Fld := ⟨0x2C000018, 16, 16⟩
def ETH_MAC : Nat := 0x2C000020
def ETH_MAC_MAC : Fld := ⟨0x2C000020, 0, 48⟩
def ETH_IPV4 : Nat := 0x2C000028
def ETH_IPV4_IPV4 : Fld := ⟨0x2C000028, 0, 32⟩
def ETH_IPV6_HI : Nat := 0x2C000030
def ETH_IPV6_HI_HI : Fld := ⟨0x2C000030, 0, 64⟩
def ETH_IPV6_LO : Nat := 0x2C000038
def ETH_IPV6_LO_LO : Fld := ⟨0x2C000038, 0, 64⟩
def ETH_QP_SEL : Nat := 0x2C000040
def ETH_QP_SEL_QP : Fld := ⟨0x2C000040, 0, 12⟩
def ETH_QP_DATA : Nat := 0x2C000048
def ETH_QP_DATA_DATA : Fld := ⟨0x2C000048, 0, 64⟩
def ETH_STAT_RX_FRAMES : Nat := 0x2C000100
def ETH_STAT_RX_FRAMES_COUNT : Fld := ⟨0x2C000100, 0, 64⟩
def ETH_STAT_RX_DROPPED : Nat := 0x2C000108
def ETH_STAT_RX_DROPPED_COUNT : Fld := ⟨0x2C000108, 0, 64⟩
def ETH_STAT_TX_FRAMES : Nat := 0x2C000110
def ETH_STAT_TX_FRAMES_COUNT : Fld := ⟨0x2C000110, 0, 64⟩
def ETH_STAT_NAK_SENT : Nat := 0x2C000118
def ETH_STAT_NAK_SENT_COUNT : Fld := ⟨0x2C000118, 0, 64⟩
def ETH_STAT_PFC_SENT : Nat := 0x2C000120
def ETH_STAT_PFC_SENT_COUNT : Fld := ⟨0x2C000120, 0, 64⟩
def ETH_STAT_PFC_RECV : Nat := 0x2C000128
def ETH_STAT_PFC_RECV_COUNT : Fld := ⟨0x2C000128, 0, 64⟩
def ETH_STAT_PAUSE_RECV : Nat := 0x2C000130
def ETH_STAT_PAUSE_RECV_COUNT : Fld := ⟨0x2C000130, 0, 64⟩
def ETH_STAT_CNP_SENT : Nat := 0x2C000138
def ETH_STAT_CNP_SENT_COUNT : Fld := ⟨0x2C000138, 0, 64⟩
def ETH_STAT_CNP_RECV : Nat := 0x2C000140
def ETH_STAT_CNP_RECV_COUNT : Fld := ⟨0x2C000140, 0, 64⟩
def FAB_ID : Nat := 0x30000000
def FAB_ID_REVISION : Fld := ⟨0x30000000, 8, 8⟩
def FAB_CTRL : Nat := 0x30000008
def FAB_CTRL_ENABLE : Fld := ⟨0x30000008, 0, 1⟩
def FAB_CTRL_REQ_TIMEOUT : Fld := ⟨0x30000008, 16, 16⟩
def FAB_ERR : Nat := 0x30000010
def FAB_ERR_CODE : Fld := ⟨0x30000010, 0, 16⟩
def FAB_ERR_COUNT : Fld := ⟨0x30000010, 16, 16⟩
def FAB_SELF : Nat := 0x30000018
def FAB_SELF_MEMBER : Fld := ⟨0x30000018, 0, 8⟩
def FAB_SELF_SALTERN : Fld := ⟨0x30000018, 8, 16⟩
def FAB_SELF_IN_SALTERN : Fld := ⟨0x30000018, 24, 1⟩
def FAB_RGN_SEL : Nat := 0x30000020
def FAB_RGN_SEL_INDEX : Fld := ⟨0x30000020, 0, 16⟩
def FAB_RGN_KEY : Nat := 0x30000028
def FAB_RGN_KEY_KEY : Fld := ⟨0x30000028, 0, 64⟩
def FAB_RGN_BASE : Nat := 0x30000030
def FAB_RGN_BASE_BASE : Fld := ⟨0x30000030, 0, 48⟩
def FAB_RGN_SIZE : Nat := 0x30000038
def FAB_RGN_SIZE_SIZE : Fld := ⟨0x30000038, 0, 41⟩
def FAB_RGN_ATTR : Nat := 0x30000040
def FAB_RGN_ATTR_RD : Fld := ⟨0x30000040, 0, 1⟩
def FAB_RGN_ATTR_WR : Fld := ⟨0x30000040, 1, 1⟩
def FAB_RGN_ATTR_AT : Fld := ⟨0x30000040, 2, 1⟩
def FAB_RGN_ATTR_RED : Fld := ⟨0x30000040, 3, 1⟩
def FAB_RGN_ATTR_STATE : Fld := ⟨0x30000040, 4, 2⟩
def FAB_RGN_ATTR_SCOPE : Fld := ⟨0x30000040, 6, 2⟩
def FAB_RGN_ATTR_SCOPE_MEMBER : Fld := ⟨0x30000040, 8, 8⟩
def FAB_RGN_ATTR_OWNER : Fld := ⟨0x30000040, 16, 14⟩
def FAB_RGN_ATTR_OWNER_EN : Fld := ⟨0x30000040, 30, 1⟩
def FAB_RGN_ATTR_HOST_EN : Fld := ⟨0x30000040, 31, 1⟩
def FAB_RGN_STATUS : Nat := 0x30000048
def FAB_RGN_STATUS_EPOCH : Fld := ⟨0x30000048, 0, 8⟩
def FAB_RGN_STATUS_REVOKING : Fld := ⟨0x30000048, 8, 1⟩
def FAB_RGN_ADV_TIME : Nat := 0x30000050
def FAB_RGN_ADV_TIME_TIME : Fld := ⟨0x30000050, 0, 64⟩
def FAB_RGN_ADVANCE : Nat := 0x30000058
def FAB_RGN_ADVANCE_INDEX : Fld := ⟨0x30000058, 0, 16⟩
def FAB_RGN_ADVANCE_MODE : Fld := ⟨0x30000058, 16, 2⟩
def FAB_RGN_ADVANCE_CTX : Fld := ⟨0x30000058, 18, 14⟩
def FAB_ADMIT : Nat := 0x30000100
def FAB_ADMIT_ADMIT : Fld := ⟨0x30000100, 0, 64⟩
def FAB_STAT_REQ_SENT : Nat := 0x30000200
def FAB_STAT_REQ_SENT_COUNT : Fld := ⟨0x30000200, 0, 64⟩
def FAB_STAT_REQ_RECV : Nat := 0x30000208
def FAB_STAT_REQ_RECV_COUNT : Fld := ⟨0x30000208, 0, 64⟩
def FAB_STAT_REFUSED_OUT : Nat := 0x30000210
def FAB_STAT_REFUSED_OUT_COUNT : Fld := ⟨0x30000210, 0, 64⟩
def FAB_STAT_REFUSED_IN : Nat := 0x30000218
def FAB_STAT_REFUSED_IN_COUNT : Fld := ⟨0x30000218, 0, 64⟩
def FAB_STAT_REVOKED_IN : Nat := 0x30000220
def FAB_STAT_REVOKED_IN_COUNT : Fld := ⟨0x30000220, 0, 64⟩
def FAB_STAT_TIMEOUTS : Nat := 0x30000228
def FAB_STAT_TIMEOUTS_COUNT : Fld := ⟨0x30000228, 0, 64⟩
def FAB_STAT_STALE : Nat := 0x30000230
def FAB_STAT_STALE_COUNT : Fld := ⟨0x30000230, 0, 64⟩
def FAB_STAT_LATE_ACKS : Nat := 0x30000238
def FAB_STAT_LATE_ACKS_COUNT : Fld := ⟨0x30000238, 0, 64⟩
def FAB_STAT_FENCES : Nat := 0x30000240
def FAB_STAT_FENCES_COUNT : Fld := ⟨0x30000240, 0, 64⟩
def FAB_STAT_RAKES : Nat := 0x30000248
def FAB_STAT_RAKES_COUNT : Fld := ⟨0x30000248, 0, 64⟩
def FAB_STAT_ADVANCES : Nat := 0x30000250
def FAB_STAT_ADVANCES_COUNT : Fld := ⟨0x30000250, 0, 64⟩
def FAB_DSP_CTRL : Nat := 0x30000800
def FAB_DSP_CTRL_ENABLE : Fld := ⟨0x30000800, 0, 1⟩
def FAB_DSP_ERR : Nat := 0x30000808
def FAB_DSP_ERR_CODE : Fld := ⟨0x30000808, 0, 16⟩
def FAB_DSP_ERR_COUNT : Fld := ⟨0x30000808, 16, 16⟩
def FAB_DSP_FRAMES_SENT : Nat := 0x30000840
def FAB_DSP_FRAMES_SENT_COUNT : Fld := ⟨0x30000840, 0, 64⟩
def FAB_DSP_FRAMES_VOID : Nat := 0x30000848
def FAB_DSP_FRAMES_VOID_COUNT : Fld := ⟨0x30000848, 0, 64⟩
def FAB_DSP_SLOTS_VALID : Nat := 0x30000850
def FAB_DSP_SLOTS_VALID_COUNT : Fld := ⟨0x30000850, 0, 64⟩
def FAB_DSP_FLITS_VOID : Nat := 0x30000858
def FAB_DSP_FLITS_VOID_COUNT : Fld := ⟨0x30000858, 0, 64⟩
def FAB_DSP_FRAMES_LANDED : Nat := 0x30000860
def FAB_DSP_FRAMES_LANDED_COUNT : Fld := ⟨0x30000860, 0, 64⟩
def FAB_DSP_FRAMES_REFUSED : Nat := 0x30000868
def FAB_DSP_FRAMES_REFUSED_COUNT : Fld := ⟨0x30000868, 0, 64⟩
def FAB_DSP_LOCAL : Nat := 0x30000870
def FAB_DSP_LOCAL_COUNT : Fld := ⟨0x30000870, 0, 64⟩
def FAB_DSP_SLOT_SLIPS : Nat := 0x30000878
def FAB_DSP_SLOT_SLIPS_COUNT : Fld := ⟨0x30000878, 0, 64⟩
def FAB_RT_CTRL : Nat := 0x30001000
def FAB_RT_CTRL_INJECT_EPOCH : Fld := ⟨0x30001000, 0, 1⟩
def FAB_RT_SWITCH_TIME : Nat := 0x30001008
def FAB_RT_SWITCH_TIME_TIME : Fld := ⟨0x30001008, 0, 64⟩
def FAB_RT_SEL : Nat := 0x30001010
def FAB_RT_SEL_BANK : Fld := ⟨0x30001010, 0, 1⟩
def FAB_RT_SEL_TABLE : Fld := ⟨0x30001010, 1, 1⟩
def FAB_RT_SEL_INDEX : Fld := ⟨0x30001010, 2, 16⟩
def FAB_RT_DATA : Nat := 0x30001018
def FAB_RT_DATA_LPORT : Fld := ⟨0x30001018, 0, 5⟩
def FAB_RT_DATA_VALID : Fld := ⟨0x30001018, 5, 1⟩
def FAB_RT_DATA_LOCAL : Fld := ⟨0x30001018, 6, 1⟩
def FAB_SLUICE_CFG : Nat := 0x30001020
def FAB_SLUICE_CFG_ROOT : Fld := ⟨0x30001020, 0, 24⟩
def FAB_SLUICE_CFG_UP_PORT : Fld := ⟨0x30001020, 24, 5⟩
def FAB_SLUICE_CFG_UP_EN : Fld := ⟨0x30001020, 29, 1⟩
def FAB_SLUICE_CFG_THRESH_NS : Fld := ⟨0x30001020, 32, 32⟩
def FAB_SLUICE_SEL : Nat := 0x30001028
def FAB_SLUICE_SEL_INDEX : Fld := ⟨0x30001028, 0, 17⟩
def FAB_SLUICE_DATA : Nat := 0x30001030
def FAB_SLUICE_DATA_LPORT : Fld := ⟨0x30001030, 0, 5⟩
def FAB_SLUICE_DATA_BELOW : Fld := ⟨0x30001030, 5, 1⟩
def FAB_RANK_SEL : Nat := 0x30001040
def FAB_RANK_SEL_INDEX : Fld := ⟨0x30001040, 0, 16⟩
def FAB_RANK_DATA : Nat := 0x30001048
def FAB_RANK_DATA_MEMBER : Fld := ⟨0x30001048, 0, 8⟩
def FAB_RANK_DATA_SALTERN : Fld := ⟨0x30001048, 8, 16⟩
def FAB_RANK_DATA_VALID : Fld := ⟨0x30001048, 24, 1⟩
def FAB_RANK_WINp_A : Nat := 0x30001100
def FAB_RANK_WINp_A_BASE : Fld := ⟨0x30001100, 0, 16⟩
def FAB_RANK_WINp_A_SIZE : Fld := ⟨0x30001100, 16, 17⟩
def FAB_RANK_WINp_B : Nat := 0x30001108
def FAB_RANK_WINp_B_RANK_LO : Fld := ⟨0x30001108, 0, 24⟩
def FAB_RANK_WINp_B_SELF_RANK : Fld := ⟨0x30001108, 24, 24⟩
def FAB_MSG_CFG : Nat := 0x30001200
def FAB_MSG_CFG_DEFAULT_BUDGET : Fld := ⟨0x30001200, 0, 16⟩
def FAB_GANG : Nat := 0x30001208
def FAB_GANG_SIZE : Fld := ⟨0x30001208, 0, 4⟩
def FAB_GANG_INDEX : Fld := ⟨0x30001208, 4, 3⟩
def FAB_GANG_PORTS : Fld := ⟨0x30001208, 8, 16⟩
def FAB_STAT_NO_ROUTE : Nat := 0x30001300
def FAB_STAT_NO_ROUTE_COUNT : Fld := ⟨0x30001300, 0, 64⟩
def FAB_STAT_BUDGET_DROP : Nat := 0x30001308
def FAB_STAT_BUDGET_DROP_COUNT : Fld := ⟨0x30001308, 0, 64⟩
def FAB_STAT_SLUICE_MOVES : Nat := 0x30001310
def FAB_STAT_SLUICE_MOVES_COUNT : Fld := ⟨0x30001310, 0, 64⟩
def FAB_STAT_RANK_REFUSED : Nat := 0x30001318
def FAB_STAT_RANK_REFUSED_COUNT : Fld := ⟨0x30001318, 0, 64⟩
def FAB_STAT_SWITCHES : Nat := 0x30001320
def FAB_STAT_SWITCHES_COUNT : Fld := ⟨0x30001320, 0, 64⟩
def COL_ID : Nat := 0x34000000
def COL_ID_REVISION : Fld := ⟨0x34000000, 8, 8⟩
def COL_CTRL : Nat := 0x34000008
def COL_CTRL_ENABLE : Fld := ⟨0x34000008, 0, 1⟩
def COL_CTRL_CHUNK_TIMEOUT : Fld := ⟨0x34000008, 16, 16⟩
def COL_STATE : Nat := 0x34000010
def COL_STATE_ACTIVE : Fld := ⟨0x34000010, 0, 7⟩
def COL_ERR : Nat := 0x34000018
def COL_ERR_CODE : Fld := ⟨0x34000018, 0, 16⟩
def COL_ERR_COUNT : Fld := ⟨0x34000018, 16, 16⟩
def COL_PART_CFGp : Nat := 0x34000100
def COL_PART_CFGp_STEP_DB : Fld := ⟨0x34000100, 0, 1⟩
def COL_PART_CFGp_ROLLBACK_MAX : Fld := ⟨0x34000100, 4, 4⟩
def COL_PART_STATEp : Nat := 0x34000180
def COL_PART_STATEp_VOID_CUR : Fld := ⟨0x34000180, 0, 1⟩
def COL_PART_STATEp_VOID_NEXT : Fld := ⟨0x34000180, 1, 1⟩
def COL_PART_STATEp_VOID_CODE : Fld := ⟨0x34000180, 16, 16⟩
def COL_PART_STATEp_ROLLBACKS : Fld := ⟨0x34000180, 32, 4⟩
def COL_STAT_OPS : Nat := 0x34000200
def COL_STAT_OPS_COUNT : Fld := ⟨0x34000200, 0, 64⟩
def COL_STAT_CHUNKS_SENT : Nat := 0x34000208
def COL_STAT_CHUNKS_SENT_COUNT : Fld := ⟨0x34000208, 0, 64⟩
def COL_STAT_CHUNKS_RECV : Nat := 0x34000210
def COL_STAT_CHUNKS_RECV_COUNT : Fld := ⟨0x34000210, 0, 64⟩
def COL_STAT_CRC_FAIL : Nat := 0x34000218
def COL_STAT_CRC_FAIL_COUNT : Fld := ⟨0x34000218, 0, 64⟩
def COL_STAT_MISMATCH : Nat := 0x34000220
def COL_STAT_MISMATCH_COUNT : Fld := ⟨0x34000220, 0, 64⟩
def COL_STAT_STEP_VOID_SENT : Nat := 0x34000228
def COL_STAT_STEP_VOID_SENT_COUNT : Fld := ⟨0x34000228, 0, 64⟩
def COL_STAT_STEP_VOID_RECV : Nat := 0x34000230
def COL_STAT_STEP_VOID_RECV_COUNT : Fld := ⟨0x34000230, 0, 64⟩
def COL_STAT_STEP_VOID_STALE : Nat := 0x34000238
def COL_STAT_STEP_VOID_STALE_COUNT : Fld := ⟨0x34000238, 0, 64⟩
def COL_STAT_ROLLBACKS : Nat := 0x34000240
def COL_STAT_ROLLBACKS_COUNT : Fld := ⟨0x34000240, 0, 64⟩
def COL_STAT_EMPTY : Nat := 0x34000248
def COL_STAT_EMPTY_COUNT : Fld := ⟨0x34000248, 0, 64⟩
def COL_STAT_L1_OCC : Nat := 0x34000250
def COL_STAT_L1_OCC_COUNT : Fld := ⟨0x34000250, 0, 64⟩
def COL_STAT_L1_BLOCKED : Nat := 0x34000258
def COL_STAT_L1_BLOCKED_COUNT : Fld := ⟨0x34000258, 0, 64⟩
def COL_STAT_L2_OCC : Nat := 0x34000260
def COL_STAT_L2_OCC_COUNT : Fld := ⟨0x34000260, 0, 64⟩
def COL_STAT_L2_BLOCKED : Nat := 0x34000268
def COL_STAT_L2_BLOCKED_COUNT : Fld := ⟨0x34000268, 0, 64⟩
def COL_STAT_TIMEOUTS : Nat := 0x34000270
def COL_STAT_TIMEOUTS_COUNT : Fld := ⟨0x34000270, 0, 64⟩
def COL_STAT_CANCELLED : Nat := 0x34000278
def COL_STAT_CANCELLED_COUNT : Fld := ⟨0x34000278, 0, 64⟩
def SCH_ID : Nat := 0x38000000
def SCH_ID_INST : Fld := ⟨0x38000000, 0, 4⟩
def SCH_ID_REVISION : Fld := ⟨0x38000000, 8, 8⟩
def SCH_PART_CFG : Nat := 0x38000008
def SCH_PART_CFG_ENABLE : Fld := ⟨0x38000008, 0, 1⟩
def SCH_PART_CFG_START_MODE : Fld := ⟨0x38000008, 1, 1⟩
def SCH_PART_CORES : Nat := 0x38000010
def SCH_PART_CORES_CORES : Fld := ⟨0x38000010, 0, 64⟩
def SCH_PART_FRAME : Nat := 0x38000018
def SCH_PART_FRAME_FRAME_NS : Fld := ⟨0x38000018, 0, 30⟩
def SCH_PART_T0 : Nat := 0x38000020
def SCH_PART_T0_T0 : Fld := ⟨0x38000020, 0, 64⟩
def SCH_PART_STATE : Nat := 0x38000028
def SCH_PART_STATE_STATE : Fld := ⟨0x38000028, 0, 2⟩
def SCH_PART_STATE_FRAME : Fld := ⟨0x38000028, 2, 62⟩
def SCH_PART_STEP : Nat := 0x38000030
def SCH_PART_STEP_STEP : Fld := ⟨0x38000030, 0, 64⟩
def SCH_PART_STOP : Nat := 0x38000038
def SCH_PART_STOP_STOP : Fld := ⟨0x38000038, 0, 1⟩
def SCH_ERR : Nat := 0x38000040
def SCH_ERR_CODE : Fld := ⟨0x38000040, 0, 16⟩
def SCH_ERR_COUNT : Fld := ⟨0x38000040, 16, 16⟩
def SCH_COMMIT : Nat := 0x38000048
def SCH_COMMIT_ADDR : Fld := ⟨0x38000048, 0, 32⟩
def SCH_COMMIT_AT_STEP : Fld := ⟨0x38000048, 32, 1⟩
def SCH_COMMIT_CANCEL : Fld := ⟨0x38000048, 33, 1⟩
def SCH_COMMIT_STEP : Nat := 0x38000050
def SCH_COMMIT_STEP_STEP : Fld := ⟨0x38000050, 0, 64⟩
def SCH_COMMIT_STATUS : Nat := 0x38000058
def SCH_COMMIT_STATUS_CODE : Fld := ⟨0x38000058, 0, 16⟩
def SCH_COMMIT_STATUS_PENDING : Fld := ⟨0x38000058, 16, 16⟩
def SCH_TBL_SEL : Nat := 0x38000080
def SCH_TBL_SEL_INDEX : Fld := ⟨0x38000080, 0, 12⟩
def SCH_TBL_DATA : Nat := 0x38000088
def SCH_TBL_DATA_DATA : Fld := ⟨0x38000088, 0, 64⟩
def SCH_TBL_COUNT : Nat := 0x380000A8
def SCH_TBL_COUNT_COUNT : Fld := ⟨0x380000A8, 0, 13⟩
def SCH_RING_SEL : Nat := 0x38000100
def SCH_RING_SEL_RING : Fld := ⟨0x38000100, 0, 4⟩
def SCH_RING_CFG : Nat := 0x38000108
def SCH_RING_CFG_ENTRY_LOG2 : Fld := ⟨0x38000108, 0, 4⟩
def SCH_RING_CFG_COUNT : Fld := ⟨0x38000108, 4, 17⟩
def SCH_RING_CFG_COUNTER : Fld := ⟨0x38000108, 21, 14⟩
def SCH_RING_BASE : Nat := 0x38000110
def SCH_RING_BASE_BASE : Fld := ⟨0x38000110, 0, 48⟩
def SCH_RING_LAND : Nat := 0x38000118
def SCH_RING_LAND_LAND : Fld := ⟨0x38000118, 0, 48⟩
def SCH_RING_HEAD_ADDR : Nat := 0x38000120
def SCH_RING_HEAD_ADDR_HEAD_ADDR : Fld := ⟨0x38000120, 0, 48⟩
def SCH_RING_HEAD : Nat := 0x38000128
def SCH_RING_HEAD_H : Fld := ⟨0x38000128, 0, 64⟩
def SCH_LAUNCH_BASE : Nat := 0x38000200
def SCH_LAUNCH_BASE_BASE : Fld := ⟨0x38000200, 0, 48⟩
def SCH_LAUNCH_CFG : Nat := 0x38000208
def SCH_LAUNCH_CFG_CHILD_TIMEOUT_US : Fld := ⟨0x38000208, 0, 16⟩
def SCH_LAUNCH_CFG_READY_TIMEOUT_US : Fld := ⟨0x38000208, 16, 16⟩
def SCH_LAUNCH_CFG_LEAD_US : Fld := ⟨0x38000208, 32, 16⟩
def SCH_LAUNCH_CFG_QUEUE : Fld := ⟨0x38000208, 48, 12⟩
def SCH_LAUNCH_CFG_QUEUE_EN : Fld := ⟨0x38000208, 60, 1⟩
def SCH_LAUNCH_CTRL : Nat := 0x38000210
def SCH_LAUNCH_CTRL_START : Fld := ⟨0x38000210, 0, 1⟩
def SCH_LAUNCH_STATE : Nat := 0x38000218
def SCH_LAUNCH_STATE_PHASE : Fld := ⟨0x38000218, 0, 3⟩
def SCH_LAUNCH_STATE_CODE : Fld := ⟨0x38000218, 16, 16⟩
def SCH_STAT_FRAMES : Nat := 0x38000300
def SCH_STAT_FRAMES_COUNT : Fld := ⟨0x38000300, 0, 64⟩
def SCH_STAT_FRAMES_SKIPPED : Nat := 0x38000308
def SCH_STAT_FRAMES_SKIPPED_COUNT : Fld := ⟨0x38000308, 0, 64⟩
def SCH_STAT_ENTRIES_RUN : Nat := 0x38000310
def SCH_STAT_ENTRIES_RUN_COUNT : Fld := ⟨0x38000310, 0, 64⟩
def SCH_STAT_ENTRIES_SKIPPED : Nat := 0x38000318
def SCH_STAT_ENTRIES_SKIPPED_COUNT : Fld := ⟨0x38000318, 0, 64⟩
def SCH_STAT_TAKEN : Nat := 0x38000320
def SCH_STAT_TAKEN_COUNT : Fld := ⟨0x38000320, 0, 64⟩
def SCH_STAT_COMMITS : Nat := 0x38000328
def SCH_STAT_COMMITS_COUNT : Fld := ⟨0x38000328, 0, 64⟩
def SCH_STAT_LAUNCHES : Nat := 0x38000330
def SCH_STAT_LAUNCHES_COUNT : Fld := ⟨0x38000330, 0, 64⟩
def SCH_STAT_ABORTS : Nat := 0x38000338
def SCH_STAT_ABORTS_COUNT : Fld := ⟨0x38000338, 0, 64⟩
def CTX_DESC0 : Nat := 0x3C000000
def CTX_DESC0_DESC : Fld := ⟨0x3C000000, 0, 64⟩
def CTX_DESC1 : Nat := 0x3C000008
def CTX_DESC1_DESC : Fld := ⟨0x3C000008, 0, 64⟩
def CTX_DESC2 : Nat := 0x3C000010
def CTX_DESC2_DESC : Fld := ⟨0x3C000010, 0, 64⟩
def CTX_DESC3 : Nat := 0x3C000018
def CTX_DESC3_DESC : Fld := ⟨0x3C000018, 0, 64⟩
def CTX_DESC4 : Nat := 0x3C000020
def CTX_DESC4_DESC : Fld := ⟨0x3C000020, 0, 64⟩
def CTX_DESC5 : Nat := 0x3C000028
def CTX_DESC5_DESC : Fld := ⟨0x3C000028, 0, 64⟩
def CTX_DESC6 : Nat := 0x3C000030
def CTX_DESC6_DESC : Fld := ⟨0x3C000030, 0, 64⟩
def CTX_DESC7 : Nat := 0x3C000038
def CTX_DESC7_DESC : Fld := ⟨0x3C000038, 0, 64⟩
def CTX_STATE : Nat := 0x3C000040
def CTX_STATE_STATE : Fld := ⟨0x3C000040, 0, 2⟩
def CTX_STATE_TIME : Fld := ⟨0x3C000040, 2, 62⟩
def CTX_TEARDOWN : Nat := 0x3C000048
def CTX_TEARDOWN_TEARDOWN : Fld := ⟨0x3C000048, 0, 1⟩
def SYN_CNT_SEL : Nat := 0x40000000
def SYN_CNT_SEL_INDEX : Fld := ⟨0x40000000, 0, 14⟩
def SYN_CNT_COUNT : Nat := 0x40000008
def SYN_CNT_COUNT_COUNT : Fld := ⟨0x40000008, 0, 64⟩
def SYN_CNT_STATE : Nat := 0x40000010
def SYN_CNT_STATE_ERR : Fld := ⟨0x40000010, 0, 16⟩
def SYN_CNT_STATE_REMOTE : Fld := ⟨0x40000010, 16, 1⟩
def SYN_CNT_CLEAR : Nat := 0x40000018
def SYN_CNT_CLEAR_INDEX : Fld := ⟨0x40000018, 0, 14⟩
def PWR_ID : Nat := 0x44000000
def PWR_ID_REVISION : Fld := ⟨0x44000000, 8, 8⟩
def PWR_CTRL : Nat := 0x44000008
def PWR_CTRL_BASE_W : Fld := ⟨0x44000008, 0, 11⟩
def PWR_CTRL_LEAD_NS : Fld := ⟨0x44000008, 12, 12⟩
def PWR_CTRL_TOL_PCT : Fld := ⟨0x44000008, 24, 8⟩
def PWR_STATE : Nat := 0x44000010
def PWR_STATE_STRETCH : Fld := ⟨0x44000010, 0, 11⟩
def PWR_STATE_TH : Fld := ⟨0x44000010, 11, 1⟩
def PWR_STATE_PW : Fld := ⟨0x44000010, 12, 1⟩
def PWR_STATE_LG : Fld := ⟨0x44000010, 13, 1⟩
def PWR_STATE_SPRINT_OPEN : Fld := ⟨0x44000010, 14, 1⟩
def PWR_STATE_EXHAUSTED : Fld := ⟨0x44000010, 15, 1⟩
def PWR_STATE_AVG_W : Fld := ⟨0x44000010, 32, 11⟩
def PWR_ERR : Nat := 0x44000018
def PWR_ERR_CODE : Fld := ⟨0x44000018, 0, 16⟩
def PWR_ERR_COUNT : Fld := ⟨0x44000018, 16, 16⟩
def PWR_SPRINT_CFG : Nat := 0x44000020
def PWR_SPRINT_CFG_SPRINT_MAX_MS : Fld := ⟨0x44000020, 0, 13⟩
def PWR_SPRINT_CFG_COOLDOWN_S : Fld := ⟨0x44000020, 16, 16⟩
def PWR_LEDGER : Nat := 0x44000028
def PWR_LEDGER_USED_S : Fld := ⟨0x44000028, 0, 32⟩
def PWR_LEDGER_BUDGET_S : Fld := ⟨0x44000028, 32, 32⟩
def PWR_PROF_SEL : Nat := 0x44000030
def PWR_PROF_SEL_PART : Fld := ⟨0x44000030, 0, 4⟩
def PWR_PROF_SEL_KIND : Fld := ⟨0x44000030, 4, 1⟩
def PWR_PROF_SEL_INDEX : Fld := ⟨0x44000030, 5, 10⟩
def PWR_PROF_DATA : Nat := 0x44000038
def PWR_PROF_DATA_OFFSET_NS : Fld := ⟨0x44000038, 0, 30⟩
def PWR_PROF_DATA_POWER_W : Fld := ⟨0x44000038, 32, 11⟩
def PWR_PROF_COUNT : Nat := 0x44000040
def PWR_PROF_COUNT_COUNT : Fld := ⟨0x44000040, 0, 11⟩
def PWR_PART_CFGp : Nat := 0x44000080
def PWR_PART_CFGp_SPRINT : Fld := ⟨0x44000080, 0, 1⟩
def PWR_STAT_STRETCH_MS : Nat := 0x44000100
def PWR_STAT_STRETCH_MS_COUNT : Fld := ⟨0x44000100, 0, 64⟩
def PWR_STAT_REFUSED : Nat := 0x44000108
def PWR_STAT_REFUSED_COUNT : Fld := ⟨0x44000108, 0, 64⟩
def PWR_STAT_SPRINTS : Nat := 0x44000110
def PWR_STAT_SPRINTS_COUNT : Fld := ⟨0x44000110, 0, 64⟩
def PWR_STAT_MISMATCH : Nat := 0x44000118
def PWR_STAT_MISMATCH_COUNT : Fld := ⟨0x44000118, 0, 64⟩
def CLK_ID : Nat := 0x48000000
def CLK_ID_REVISION : Fld := ⟨0x48000000, 8, 8⟩
def CLK_STATE : Nat := 0x48000008
def CLK_STATE_REFCLK_OK : Fld := ⟨0x48000008, 0, 1⟩
def CLK_STATE_PLL_LOCK : Fld := ⟨0x48000008, 1, 11⟩
def CLK_STATE_CCLK_MHZ : Fld := ⟨0x48000008, 32, 12⟩
def CLK_ERR : Nat := 0x48000010
def CLK_ERR_CODE : Fld := ⟨0x48000010, 0, 16⟩
def CLK_ERR_COUNT : Fld := ⟨0x48000010, 16, 16⟩
def CLK_TB_CFG : Nat := 0x48000018
def CLK_TB_CFG_SOURCE : Fld := ⟨0x48000018, 0, 2⟩
def CLK_TB_CFG_PTP_PORT : Fld := ⟨0x48000018, 2, 2⟩
def CLK_TB_CFG_TB_MASTER : Fld := ⟨0x48000018, 4, 8⟩
def CLK_TB_STATE : Nat := 0x48000020
def CLK_TB_STATE_LOCKED : Fld := ⟨0x48000020, 0, 1⟩
def CLK_TB_STATE_OFFSET_NS : Fld := ⟨0x48000020, 32, 32⟩
def CLK_STAT_UNLOCKS : Nat := 0x48000100
def CLK_STAT_UNLOCKS_COUNT : Fld := ⟨0x48000100, 0, 64⟩
def CLK_STAT_PLL_UNLOCKS : Nat := 0x48000108
def CLK_STAT_PLL_UNLOCKS_COUNT : Fld := ⟨0x48000108, 0, 64⟩
def MGT_ID : Nat := 0x4C000000
def MGT_ID_REVISION : Fld := ⟨0x4C000000, 8, 8⟩
def MGT_BOOT : Nat := 0x4C000008
def MGT_BOOT_STATE : Fld := ⟨0x4C000008, 0, 4⟩
def MGT_BOOT_WARM : Fld := ⟨0x4C000008, 4, 1⟩
def MGT_BOOT_DET_MISMATCH : Fld := ⟨0x4C000008, 5, 1⟩
def MGT_BOOT_UNLOCKED : Fld := ⟨0x4C000008, 6, 1⟩
def MGT_BOOT_CODE : Fld := ⟨0x4C000008, 16, 16⟩
def MGT_BOOT_RECORD : Fld := ⟨0x4C000008, 32, 32⟩
def MGT_CTRL : Nat := 0x4C000010
def MGT_CTRL_REQ_EN : Fld := ⟨0x4C000010, 0, 1⟩
def MGT_CTRL_REQ_QUEUE : Fld := ⟨0x4C000010, 1, 12⟩
def MGT_CTRL_SERVE_EN : Fld := ⟨0x4C000010, 13, 1⟩
def MGT_ERR : Nat := 0x4C000018
def MGT_ERR_CODE : Fld := ⟨0x4C000018, 0, 16⟩
def MGT_ERR_COUNT : Fld := ⟨0x4C000018, 16, 16⟩
def MGT_ALERT : Nat := 0x4C000020
def MGT_ALERT_CODE : Fld := ⟨0x4C000020, 0, 16⟩
def MGT_ALERT_COUNT : Fld := ⟨0x4C000020, 16, 16⟩
def MGT_ALERT_VALID : Fld := ⟨0x4C000020, 63, 1⟩
def MGT_BOOT_COUNT : Nat := 0x4C000028
def MGT_BOOT_COUNT_COLD : Fld := ⟨0x4C000028, 0, 32⟩
def MGT_BOOT_COUNT_WARM : Fld := ⟨0x4C000028, 32, 32⟩
def MGT_LOG_SEL : Nat := 0x4C000030
def MGT_LOG_SEL_SEQ : Fld := ⟨0x4C000030, 0, 32⟩
def MGT_LOG_DATA : Nat := 0x4C000038
def MGT_LOG_DATA_DATA : Fld := ⟨0x4C000038, 0, 64⟩
def MGT_SENSOR_SEL : Nat := 0x4C000058
def MGT_SENSOR_SEL_ID : Fld := ⟨0x4C000058, 0, 7⟩
def MGT_SENSOR_DATA : Nat := 0x4C000060
def MGT_SENSOR_DATA_VALUE : Fld := ⟨0x4C000060, 0, 16⟩
def MGT_SENSOR_DATA_STATUS : Fld := ⟨0x4C000060, 16, 8⟩
def MGT_DUMP : Nat := 0x4C000068
def MGT_DUMP_STATE : Fld := ⟨0x4C000068, 0, 8⟩
def MGT_DUMP_CODE : Fld := ⟨0x4C000068, 16, 16⟩
def MGT_UPDATE : Nat := 0x4C000070
def MGT_UPDATE_PHASE : Fld := ⟨0x4C000070, 0, 3⟩
def MGT_UPDATE_CODE : Fld := ⟨0x4C000070, 16, 16⟩
def MGT_UPDATE_MIB_DONE : Fld := ⟨0x4C000070, 32, 32⟩
def MGT_REPLY_BASE : Nat := 0x4C000078
def MGT_REPLY_BASE_BASE : Fld := ⟨0x4C000078, 0, 48⟩
def MGT_STAT_LOG_ENTRIES : Nat := 0x4C000100
def MGT_STAT_LOG_ENTRIES_COUNT : Fld := ⟨0x4C000100, 0, 64⟩
def MGT_STAT_LOG_DROPPED : Nat := 0x4C000108
def MGT_STAT_LOG_DROPPED_COUNT : Fld := ⟨0x4C000108, 0, 64⟩
def MGT_STAT_FLASH_COMMITS : Nat := 0x4C000110
def MGT_STAT_FLASH_COMMITS_COUNT : Fld := ⟨0x4C000110, 0, 64⟩
def MGT_STAT_MON_BAD_FRAMES : Nat := 0x4C000118
def MGT_STAT_MON_BAD_FRAMES_COUNT : Fld := ⟨0x4C000118, 0, 64⟩
def MGT_STAT_UNLOCKS : Nat := 0x4C000120
def MGT_STAT_UNLOCKS_COUNT : Fld := ⟨0x4C000120, 0, 64⟩
def MGT_STAT_UNLOCK_FAILS : Nat := 0x4C000128
def MGT_STAT_UNLOCK_FAILS_COUNT : Fld := ⟨0x4C000128, 0, 64⟩
def MGT_STAT_UPDATES : Nat := 0x4C000130
def MGT_STAT_UPDATES_COUNT : Fld := ⟨0x4C000130, 0, 64⟩
def SEC_ID : Nat := 0x50000000
def SEC_ID_REVISION : Fld := ⟨0x50000000, 8, 8⟩
def SEC_DEVICE_ID : Nat := 0x50000008
def SEC_DEVICE_ID_ID : Fld := ⟨0x50000008, 0, 64⟩
def SEC_SVN : Nat := 0x50000018
def SEC_SVN_FUSED_MIN : Fld := ⟨0x50000018, 0, 7⟩
def SEC_SVN_IMAGE : Fld := ⟨0x50000018, 8, 7⟩
def SEC_KEYS : Nat := 0x50000020
def SEC_KEYS_PROVISIONED : Fld := ⟨0x50000020, 0, 4⟩
def SEC_KEYS_REVOKED : Fld := ⟨0x50000020, 4, 4⟩
def SEC_MON : Nat := 0x50000028
def SEC_MON_UNLOCKED : Fld := ⟨0x50000028, 0, 1⟩
def SEC_MON_PERMS : Fld := ⟨0x50000028, 8, 5⟩
def SEC_MON_SECONDS_LEFT : Fld := ⟨0x50000028, 32, 32⟩
def SEC_MEAS_SEL : Nat := 0x50000030
def SEC_MEAS_SEL_REG : Fld := ⟨0x50000030, 0, 2⟩
def SEC_MEAS_SEL_WORD : Fld := ⟨0x50000030, 2, 3⟩
def SEC_MEAS_DATA : Nat := 0x50000038
def SEC_MEAS_DATA_VALUE : Fld := ⟨0x50000038, 0, 64⟩
def RAS_ID : Nat := 0x54000000
def RAS_ID_REVISION : Fld := ⟨0x54000000, 8, 8⟩
def RAS_CTRL : Nat := 0x54000008
def RAS_CTRL_ENGINE_WD_MS : Fld := ⟨0x54000008, 0, 16⟩
def RAS_CTRL_REPEAT_S : Fld := ⟨0x54000008, 16, 8⟩
def RAS_CTRL_CHIP_WINDOW_S : Fld := ⟨0x54000008, 24, 8⟩
def RAS_CTRL_FALLOW_EN : Fld := ⟨0x54000008, 32, 1⟩
def RAS_STATE : Nat := 0x54000010
def RAS_STATE_CHIP_FAILS : Fld := ⟨0x54000010, 0, 2⟩
def RAS_STATE_FALLOW : Fld := ⟨0x54000010, 2, 1⟩
def RAS_STATE_CYCLE_REQ : Fld := ⟨0x54000010, 3, 1⟩
def RAS_STATE_BUSY_LEVEL : Fld := ⟨0x54000010, 4, 3⟩
def RAS_ERR : Nat := 0x54000018
def RAS_ERR_CODE : Fld := ⟨0x54000018, 0, 16⟩
def RAS_ERR_COUNT : Fld := ⟨0x54000018, 16, 16⟩
def RAS_CAPTURE : Nat := 0x54000020
def RAS_CAPTURE_CODE : Fld := ⟨0x54000020, 0, 16⟩
def RAS_CAPTURE_LEVEL : Fld := ⟨0x54000020, 16, 3⟩
def RAS_CAPTURE_DIE : Fld := ⟨0x54000020, 20, 4⟩
def RAS_CAPTURE_INSTANCE : Fld := ⟨0x54000020, 24, 16⟩
def RAS_ESCALATE : Nat := 0x54000028
def RAS_ESCALATE_LEVEL : Fld := ⟨0x54000028, 0, 3⟩
def RAS_ESCALATE_CLASS : Fld := ⟨0x54000028, 4, 6⟩
def RAS_ESCALATE_TARGET : Fld := ⟨0x54000028, 10, 16⟩
def RAS_MBR_CFG : Nat := 0x54000040
def RAS_MBR_CFG_ENABLE : Fld := ⟨0x54000040, 0, 1⟩
def RAS_MBR_CFG_HB_INTERVAL_US : Fld := ⟨0x54000040, 16, 16⟩
def RAS_MBR_CFG_HB_TIMEOUT_US : Fld := ⟨0x54000040, 32, 16⟩
def RAS_MBR_CFG_SETTLE_US : Fld := ⟨0x54000040, 48, 16⟩
def RAS_MBR_SEL : Nat := 0x54000048
def RAS_MBR_SEL_INDEX : Fld := ⟨0x54000048, 0, 8⟩
def RAS_MBR_DATA : Nat := 0x54000050
def RAS_MBR_DATA_CONFIGURED : Fld := ⟨0x54000050, 0, 1⟩
def RAS_MBR_DATA_TIE : Fld := ⟨0x54000050, 1, 1⟩
def RAS_MBR_DATA_WEIGHT : Fld := ⟨0x54000050, 8, 8⟩
def RAS_MBR_CTRL : Nat := 0x54000058
def RAS_MBR_CTRL_REJOIN : Fld := ⟨0x54000058, 0, 1⟩
def RAS_MBR_CTRL_LEAVE : Fld := ⟨0x54000058, 1, 1⟩
def RAS_MBR_STATE : Nat := 0x54000060
def RAS_MBR_STATE_STATE : Fld := ⟨0x54000060, 0, 3⟩
def RAS_MBR_STATE_VIEW_WEIGHT : Fld := ⟨0x54000060, 8, 17⟩
def RAS_MBR_STATE_REACH_WEIGHT : Fld := ⟨0x54000060, 25, 17⟩
def RAS_MBR_STATE_VIEW_COUNT : Fld := ⟨0x54000060, 42, 9⟩
def RAS_MBR_STATE_SW : Fld := ⟨0x54000060, 51, 8⟩
def RAS_MBR_VIEW : Nat := 0x54000080
def RAS_MBR_VIEW_VIEW : Fld := ⟨0x54000080, 0, 64⟩
def RAS_MBR_REACH : Nat := 0x540000A0
def RAS_MBR_REACH_REACH : Fld := ⟨0x540000A0, 0, 64⟩
def RAS_STAT_CONTEXT : Nat := 0x54000100
def RAS_STAT_CONTEXT_COUNT : Fld := ⟨0x54000100, 0, 64⟩
def RAS_STAT_ENGINE : Nat := 0x54000108
def RAS_STAT_ENGINE_COUNT : Fld := ⟨0x54000108, 0, 64⟩
def RAS_STAT_PARTITION : Nat := 0x54000110
def RAS_STAT_PARTITION_COUNT : Fld := ⟨0x54000110, 0, 64⟩
def RAS_STAT_CHIP : Nat := 0x54000118
def RAS_STAT_CHIP_COUNT : Fld := ⟨0x54000118, 0, 64⟩
def RAS_STAT_MERGED : Nat := 0x54000120
def RAS_STAT_MERGED_COUNT : Fld := ⟨0x54000120, 0, 64⟩
def RAS_STAT_REMOVED : Nat := 0x54000128
def RAS_STAT_REMOVED_COUNT : Fld := ⟨0x54000128, 0, 64⟩
def RAS_STAT_JOINS : Nat := 0x54000130
def RAS_STAT_JOINS_COUNT : Fld := ⟨0x54000130, 0, 64⟩
def RAS_STAT_HB_FOREIGN : Nat := 0x54000138
def RAS_STAT_HB_FOREIGN_COUNT : Fld := ⟨0x54000138, 0, 64⟩
def DET_ID : Nat := 0x58000000
def DET_ID_REVISION : Fld := ⟨0x58000000, 8, 8⟩
def DET_CLASS : Nat := 0x58000008
def DET_CLASS_STEPPING : Fld := ⟨0x58000008, 0, 8⟩
def DET_CLASS_ARITH_REV : Fld := ⟨0x58000008, 8, 8⟩
def DET_CLASS_TT_REV : Fld := ⟨0x58000008, 16, 8⟩
def DET_CTRL : Nat := 0x58000010
def DET_CTRL_RNG_EN : Fld := ⟨0x58000010, 0, 1⟩
def DET_CTRL_LOG_PARTS : Fld := ⟨0x58000010, 16, 16⟩
def DET_ERR : Nat := 0x58000018
def DET_ERR_CODE : Fld := ⟨0x58000018, 0, 16⟩
def DET_ERR_COUNT : Fld := ⟨0x58000018, 16, 16⟩
def DET_RNG_FILL : Nat := 0x58000020
def DET_RNG_FILL_DESC : Fld := ⟨0x58000020, 0, 48⟩
def DET_IMAGE_ID : Nat := 0x58000028
def DET_IMAGE_ID_IMAGE_ID : Fld := ⟨0x58000028, 0, 64⟩
def DET_LOG_BASE : Nat := 0x58000040
def DET_LOG_BASE_BASE : Fld := ⟨0x58000040, 0, 48⟩
def DET_LOG_SIZE : Nat := 0x58000048
def DET_LOG_SIZE_SIZE : Fld := ⟨0x58000048, 0, 40⟩
def DET_LOG_TAIL_ADDR : Nat := 0x58000050
def DET_LOG_TAIL_ADDR_TAIL_ADDR : Fld := ⟨0x58000050, 0, 48⟩
def DET_LOG_HEAD : Nat := 0x58000058
def DET_LOG_HEAD_HEAD : Fld := ⟨0x58000058, 0, 64⟩
def DET_REPLAY_BASE : Nat := 0x58000060
def DET_REPLAY_BASE_BASE : Fld := ⟨0x58000060, 0, 48⟩
def DET_REPLAY_SIZE : Nat := 0x58000068
def DET_REPLAY_SIZE_SIZE : Fld := ⟨0x58000068, 0, 40⟩
def DET_REPLAY_PARTS : Nat := 0x58000070
def DET_REPLAY_PARTS_PARTS : Fld := ⟨0x58000070, 0, 16⟩
def DET_STAT_FILL_BLOCKS : Nat := 0x58000100
def DET_STAT_FILL_BLOCKS_COUNT : Fld := ⟨0x58000100, 0, 64⟩
def DET_STAT_RECORDS : Nat := 0x58000108
def DET_STAT_RECORDS_COUNT : Fld := ⟨0x58000108, 0, 64⟩
def DET_STAT_LOST : Nat := 0x58000110
def DET_STAT_LOST_COUNT : Fld := ⟨0x58000110, 0, 64⟩
def DET_STAT_REPLAY_HITS : Nat := 0x58000118
def DET_STAT_REPLAY_HITS_COUNT : Fld := ⟨0x58000118, 0, 64⟩
def DET_STAT_REPLAY_MISS : Nat := 0x58000120
def DET_STAT_REPLAY_MISS_COUNT : Fld := ⟨0x58000120, 0, 64⟩
def DET_STAT_STEP_WRAPS : Nat := 0x58000128
def DET_STAT_STEP_WRAPS_COUNT : Fld := ⟨0x58000128, 0, 64⟩

end Reg

end Sys2Proof.Machine
end

