-- ==== Sys2Proof/Machine/State.lean ====
section
/-! DEFINITION. The state of the block as plain data: every register, buffer, table, counter, mode and pin of the spec,
the queue of waiting commands, and the state right after reset. -/

namespace Sys2Proof.Machine

/-- A fault stops the machine. The spec stops the block nowhere: every breach is a refusal with a code or a defined
fault code in its registers (R6), so no meaning answers one; the type has no constructor (safe: nothing is hidden). -/
inductive Fault where
deriving DecidableEq, Repr

/-- Why a command has no meaning. -/
inductive Refusal where
  /-- Raised by the dispatcher for a row not modelled; the string is the row's mnemonic. Safe: nothing runs. -/
  | notModelled (mnemonic : String)
deriving DecidableEq, Repr

/-- A source of error codes: a block instance on its die (R437, R438). `cls` is the class of R506, `inst` the
instance, `die` the DIE field of R437. -/
structure Site where
  cls : Nat
  inst : Nat
  die : Nat
deriving DecidableEq, Repr

/-- One entry of the error log (R437); its CRC is computed where the entry is read. -/
structure LogEntry where
  time : Nat
  code : Nat
  count : Nat
  severity : Nat
  dropped : Bool
  die : Nat
  inst : Nat
  detail : Nat
  seq : Nat
deriving DecidableEq, Repr

/-- The occurrence that a log site passed last (R438): when, its code and severity, the SEQ of its entry, whether it merged into that
entry, and whether it set MGT_ALERT's CODE. -/
structure LogPass where
  time : Nat
  code : Nat
  severity : Nat
  seq : Nat
  merged : Bool
  first : Bool
deriving DecidableEq, Repr

/-- What a log site remembers (R438): the MGCLK cycle, plus one, in which it last passed an occurrence, whether
an occurrence was dropped since its last entry, and the occurrence passed. -/
structure LogSite where
  lastCycle : Nat
  dropped : Bool
  pass : Option LogPass
deriving DecidableEq, Repr

/-- The error log (R437 to R440): the ring in MC SRAM, newest first, the next SEQ, the sites, and the first SEQ not
yet copied to the LPDDR6 mirror and to the flash log area. -/
structure LogState where
  entries : List LogEntry
  nextSeq : Nat
  sites : SMap LogSite
  mirrored : Nat
  flashed : Nat
deriving DecidableEq, Repr

/-- What a word of memory holds besides its data: nothing, an error that a read corrects, poison, or an uncorrectable
error (R214, R517). -/
inductive Bad where
  | ok | ce | poison | ue
deriving DecidableEq, Repr

/-- An address range whose contents the spec leaves undefined: first address, length, and the number of the event
that left it so (log entry 4). -/
structure Scratch where
  base : Nat
  len : Nat
  tag : Nat
deriving DecidableEq, Repr

/-- An arrival counter (R272). -/
structure Counter where
  count : Word
  err : Nat
  remote : Bool
deriving DecidableEq, Repr

/-- Fused facts of the part (R4, R5, R135, R421, R430, R451): grade (true: B), enabled cores, stepping, the device
identifier's two words, the fused minimum SVN, provisioned and revoked key masks, key hashes, the fused row and
column skips of each array, and the 32-byte seed of the identity key. -/
structure Fuses where
  gradeB : Bool
  corePresent : Word
  stepping : Nat
  deviceId : List Word
  minSvn : Nat
  keysProvisioned : Nat
  keysRevoked : Nat
  keyHashes : List Bytes
  skips : SMap (Nat × Nat)
  idSeed : Bytes
deriving DecidableEq, Repr

/-- The selection and the outcome register that each requester has of its own for rake accesses (R516). -/
structure RakeReq where
  sel : Word
  status : Word
deriving DecidableEq, Repr

/-- The TAP (R522 to R524): the instruction register's value, the boundary register, and whether the boundary cells
drive the lands. -/
structure Tap where
  ir : Nat
  boundary : BitVec 489
  driving : Bool
deriving DecidableEq, Repr

/-- MODEL'S OWN: what waits outside for the commands whose rows name no operand, first in first out: what the boundary scans of the
EXTEST instructions meet, and what the boots that exceed a bound meet (log entry 166). -/
structure Inputs where
  scans : List BoundaryScan
  stalls : List StageStall
deriving DecidableEq, Repr

/-- An entry of a quota table (R60): QUOTA, EXCLUDE, DEST_RANK, SLOT_BASE. -/
structure QuotaEntry where
  quota : Nat
  exclude : Bool
  destRank : Nat
  slotBase : Nat
deriving DecidableEq, Repr

/-- The phases of a window (R42). -/
inductive WinPhase where
  | load | select | matching | wait | publish
deriving DecidableEq, Repr

/-- A ROUTE or RECALL command as the router reads it from its descriptor (R76). In a RECALL, `tokens` is Qg and
`experts` the candidate count. -/
structure RouterCmd where
  isRecall : Bool
  mask : Nat
  tag : Nat
  candidates : Nat
  seats : Nat
  rounds : Nat
  push : Bool
  bf16 : Bool
  biasEn : Bool
  tokens : Nat
  experts : Nat
  windowCycles : Nat
  logitBase : Nat
  logitStride : Nat
  biasBase : Nat
  qtOffset : Nat
  seatOut : Nat
  heldOut : Nat
  summaryOut : Nat
  workOffset : Nat
  completion : Nat
  queries : Nat
  topk : Nat
  candBase : Nat
deriving DecidableEq, Repr

/-- A score kept for a (token, expert) pair, or a candidate of a query: the score as published and the score as
ranked, both FP32 (R53, R56). -/
structure Score where
  row : Nat
  col : Nat
  gate : BitVec 32
  rank : BitVec 32
deriving DecidableEq, Repr

/-- A proposal of the matching (R61). -/
structure Proposal where
  score : BitVec 32
  tok : Nat
  rank : Nat
deriving DecidableEq, Repr

/-- One routing or recall window of a router (R41, R61, R72): the command, who issued it, what it has received, its
lists, the matching's state after the last round, and what it has met. -/
structure Window where
  cmd : RouterCmd
  context : Nat
  step : Nat
  start : Nat
  pos : Nat
  table : List QuotaEntry
  tableId : Nat
  bias : SMap (BitVec 32)
  biasBad : List Nat
  scores : List Score
  lists : SMap (List Score)
  nextRank : SMap Nat
  freeSeats : SMap Nat
  held : SMap (List Proposal)
  lostAt : List Nat
  proposals : Nat
  rejected : Nat
  displaced : Nat
  nan : Nat
  missing : Nat
  round : Nat
  lastRound : Nat
  fault : Bool
  nanLimit : Nat
  lateLogged : Bool
  dupLogged : Bool
  poisonLogged : Bool
deriving DecidableEq, Repr

/-- An Octine router (R40): its window if one runs, and the completions that still wait for an acknowledgement of a
published write (R43), each with its counter, its code, its window's end and its context. -/
structure Router where
  phase : Option WinPhase
  win : Option Window
  unacked : List (Nat × Nat × Nat × Nat)
deriving DecidableEq, Repr

/-- A command an engine has accepted: its descriptor, the core that issued it and its context. -/
structure Cmd where
  desc : Desc
  core : Nat
  context : Nat
deriving DecidableEq, Repr

/-- What becomes of a pass's stream (R165, R166): not begun, taken by the chain engine, or discarded by it. -/
inductive StreamState where
  | waiting | taken | discarded
deriving DecidableEq, Repr

/-- A pass or LANE that has started (R128): when, and its stream; since when the array has been at full activity for it (of a skipped
pass: whether it was when it started); whether the array ramped up from idle for it (R132), and whether no further pass was queued at
cycle O - 48 of a skipped one (R134); the cycles that its stream stood still (R128), and when that began (R474). -/
structure RunPass where
  cmd : Cmd
  start : Nat
  stream : StreamState
  full : Option Nat
  climbed : Bool
  late : Bool := false
  stall : Nat := 0
  moved : Nat := 0
deriving DecidableEq, Repr

/-- A matrix array: its queue, the passes in progress, oldest first, its activity step 0 to 8 (R124, R131); the shadow and the active
weight register of each of its 128 logical cubes, row-major, the weights with their scales (R111, R129); and the two
accumulator banks, token by token the columns of the N tile each held last (R127). -/
structure MatArray where
  queue : List Cmd
  running : List RunPass
  ramp : Nat
  shadow : List (List FpVal)
  active : List (List FpVal)
  banks : SMap (List (List (BitVec 32)))
deriving DecidableEq, Repr

/-- The chain or combine command that runs: when it started, and the stream it takes: whether its shape matched and
the elements that have arrived, row by row (R165 to R167), with the code of the pass they come from (R100), and when it began
or ended (R474). -/
structure RunChain where
  cmd : Cmd
  start : Nat
  begun : Bool
  mismatch : Bool
  rows : Option (List (List Nat))
  spoilt : Nat
  moved : Nat := 0
deriving DecidableEq, Repr

/-- A chain engine: its queue and the running command (R164, R167). -/
structure ChainEngine where
  queue : List Cmd
  running : Option RunChain
deriving DecidableEq, Repr

/-- A memory channel's remap table (R217, R218): the granules retired, newest first, each with the number of the spare that
holds its lines. -/
structure Channel where
  retired : List (Nat × Nat)
deriving DecidableEq, Repr

/-- A brine view being committed on: its fields while a bridge scans its index, the SCHED instance that received the
COMMIT, and whether it was one at a step (R227, R232, R382). -/
structure BrineScan where
  base : Nat
  blocks : Nat
  index : Nat
  via : Nat := 0
  atStep : Bool := false
deriving DecidableEq, Repr

/-- The free state of a pool (R234): for pools 0 to 3 the allocated indices, for the others nothing here (their stack
lies in memory). -/
structure Pool where
  used : List Nat
deriving DecidableEq, Repr

/-- A packet of a queue (R240): SOURCE, TAG and payload, and its words that fail parity: 0 the framing word, k + 1 payload word k
(R239). -/
structure Packet where
  source : Nat
  tag : Nat
  payload : Bytes
  bad : List Nat
deriving DecidableEq, Repr

/-- A queue (R241, R242): its packets, oldest first, the bytes of the head already consumed, and the time-base value
from which R247 counts. -/
structure Queue where
  packets : List Packet
  consumed : Nat
  since : Nat
deriving DecidableEq, Repr

/-- A region descriptor (R254 to R259): its committed fields, its epoch, whether an advance is pending and when the last
one took effect. -/
structure Region where
  key : Nat
  base : Nat
  size : Nat
  attr : Nat
  epoch : Nat
  revoking : Bool
  advTime : Option Nat
deriving DecidableEq, Repr

/-- Who waits for the acknowledgement of a request (R263): a pump command with the request's place in its order, a frame
or scheduled transfer of one, the collective engine. -/
inductive Owner where
  | pump (seq index : Nat)
  | job (seq index : Nat)
  | coll (seq index : Nat)
deriving DecidableEq, Repr

/-- A request sent and not yet acknowledged (R263): its number, its owner, its type, where a READ's bytes or an atomic's
old value go and how many bytes, and when it was sent. -/
structure Sent where
  id : Nat
  owner : Owner
  typ : Nat
  target : Nat
  len : Nat
  time : Nat
deriving DecidableEq, Repr

/-- How far a frame of a DISPATCH or RETURN, or the transfer of a scheduled COPY, has come (R92, R93). -/
inductive JobState where
  | waiting | sent | landed
deriving DecidableEq, Repr

/-- A frame of a DISPATCH or RETURN, or the transfer of a scheduled COPY: its entry, whether it is LOCAL, its transfer,
its state, and the first code it met. -/
structure Job where
  index : Nat
  loc : Bool
  xfer : Nat
  state : JobState
  code : Nat
deriving DecidableEq, Repr

/-- A pump command in flight (R263 to R276, R529): its issue stamp, die, issuer (none: the MC), context, descriptor, the
key, epoch and mode of its context at acceptance, when it was accepted, when it last made progress (R474), whether it has
started, the code with which it was
stopped (0: not stopped), the commands a FENCE covers, whether a covered request timed out, the first code in
request order, and its frames. -/
structure PumpCmd where
  seq : Nat
  die : Nat
  core : Option Nat
  context : Nat
  desc : Desc
  key : Nat
  epoch : Nat
  strict : Bool
  accepted : Nat
  moved : Nat
  started : Bool
  cancelled : Nat
  covers : List Nat
  timedOut : Bool
  first : Option (Nat × Nat)
  jobs : List Job
deriving DecidableEq, Repr

/-- What a destination remembers of a source's command (R273, R302): the first code since the last LAST request, and
the parts of a demoted frame. -/
structure SourceRun where
  code : Nat
  parts : List Pkt
deriving DecidableEq, Repr

/-- A slot-table entry (R300, R301). -/
inductive SlotEntry where
  | idle
  | shared
  | tc0 (source xfer : Nat)
deriving DecidableEq, Repr

/-- A slot table: T0, LEN and the entries that differ from its background (R300, R305). -/
structure SlotTable where
  t0 : Nat
  len : Nat
  entries : SMap SlotEntry
deriving DecidableEq, Repr

/-- A flit kept for replay or waiting to be sent late (R294, R304). -/
structure TxFlit where
  seq : Nat
  header : Nat
  body : Option Bytes
deriving DecidableEq, Repr

/-- A packet at this hop: the epoch bank it was injected under, whether it is on the sluice, when it came, and the
receive buffer it holds: logical port, credit channel, flits (none: this device originated it) (R308, R312). -/
structure Routed where
  pkt : Pkt
  bank : Nat
  sluice : Bool
  since : Nat
  buffer : Option (Nat × Nat × Nat)
deriving DecidableEq, Repr

/-- A packet in a transmit channel: the flits already sent (R303), and the BUDGET with which it came (R315). -/
structure TxPacket where
  r : Routed
  sent : Nat
  budget : Nat
deriving DecidableEq, Repr

/-- An occurrence of a TC0 transfer being sent (R302): the job, the table cycle, the link slots used, the header in SIDE,
the flits: a body or void; the link die of the pump; whether it is a frame, and a void one; the flits with which the row of a valid
slot ends; and whether a flit of it has been late (R304). -/
structure Sending where
  seq : Nat
  index : Nat
  cycle : Nat
  used : Nat
  side : Bytes
  flits : List (Option Bytes)
  die : Nat
  frame : Bool
  void : Bool
  ends : List Nat
  slow : Bool
deriving DecidableEq, Repr

/-- The arriving flits of a TC0 transfer by position (R298, R304): body or void, SIDE bytes, the positions
whose data is still to come, the last position, and the SEQ of each flit. -/
structure Arriving where
  flits : SMap (Option Bytes)
  side : SMap Nat
  holes : List Nat
  final : Option Nat
  seqs : SMap Nat
deriving DecidableEq, Repr

/-- A TC0 flit held for forwarding (R304): transfer, position, header, body. -/
structure Held0 where
  xfer : Nat
  pos : Nat
  header : Nat
  body : Option Bytes
deriving DecidableEq, Repr

/-- A logical port (R288 to R304): the transmit sequence and replay buffer, the receive sequence, the flits held after a gap, how often
each missing SEQ was requested here and each unacknowledged one by the peer, the credits held, granted and to be returned for the six
channels, the transmit queues, which of TC1 and TC2 goes next, the packet bodies being assembled, the packets waiting to be routed, the
TC0 arrivals, the flits to forward, the flits to send late, the transfers already marked late, the position each forwarded transfer has
reached and where it ended, the next link slot, the active, staged and pending slot tables, the entries staged since the last COMMIT
(R379), and the SCHED instance of the pending one's COMMIT with whether it was one at a step (R382). -/
structure LPort where
  nextSeq : Nat
  unacked : List TxFlit
  resend : List Nat
  expect : Nat
  held : List (Nat × Flit)
  asks : SMap Nat
  asked : SMap Nat
  nak : Bool
  credits : List Nat
  room : List Nat
  due : List Nat
  queues : List (List TxPacket)
  turn : List Bool
  asm : List (List Byte)
  hop : List Routed
  arriving : SMap Arriving
  forward : List Held0
  late : List TxFlit
  lateLogged : List Nat
  passed : SMap Nat
  ended : SMap Nat
  nextSlot : Nat
  active : SlotTable
  staged : SlotTable
  since : SMap SlotEntry
  swap : Option (SlotTable × Nat)
  swapBy : Nat × Bool
deriving DecidableEq, Repr

/-- A queue pair (R323, R325): its 64-byte context, the time of the last CNP sent to its source, its READ-response rate
in Mb/s (none: the line rate), and when the rate last changed. -/
structure Qp where
  words : List Word
  cnpSent : Option Nat
  rate : Option Nat
  rateSince : Nat
deriving DecidableEq, Repr

/-- What an Ethernet port sends: R322 to R326. -/
inductive EthOut where
  /-- A PFC frame: priority, pause or resume (R324). -/
  | pfc (prio : Nat) (pause : Bool)
  /-- A RoCEv2 response of a QP: the code (0: positive), the PSN and the data (R323). -/
  | roce (qp code psn : Nat) (data : Bytes)
  /-- An RNR NAK of a QP (R323). -/
  | rnr (qp psn : Nat)
  /-- A CNP towards the source QP (R325). -/
  | cnp (qp : Nat)
  /-- An ARP answer: the address answered and the MAC (R322). -/
  | arp (addr mac : Nat)
  /-- A neighbour-discovery answer: the address answered and the MAC (R322). -/
  | neighbour (addr mac : Nat)
  /-- A one-step Delay_Req on a transport with its time stamp (R326). -/
  | delayReq (transport : PtpTransport) (time : Nat)
deriving DecidableEq, Repr

/-- The 802.1Q tag of a frame sent: its VID, 0 in a priority-tagged frame, and its PCP; none: the spec names no priority for the
frame, and its PCP is open (R322; log entry 147). -/
structure EthTag where
  vid : Nat
  pcp : Option Nat
deriving DecidableEq, Repr

/-- A frame that waits for its priority to resume (R324). -/
structure EthWaiting where
  prio : Nat
  frame : EthOut
deriving DecidableEq, Repr

/-- The PTP clock of an Ethernet port (R326): a two-step Sync that waits for its Follow_Up (its sequence number, its arrival), the
last Sync's origin time and arrival, when the last Delay_Req left, the path delay, and the transport last heard. -/
structure PtpPort where
  twoStep : Option (Nat × Nat)
  last : Option (Nat × Nat)
  asked : Option Nat
  delay : Nat
  transport : PtpTransport
deriving DecidableEq, Repr

/-- What an Ethernet port remembers (R324, R326): until when each priority is paused, when XOFF was last sent for it, the frames
that wait for a paused priority, oldest first, and its PTP clock. -/
structure EthPort where
  pausedUntil : List Nat
  xoffAt : List Nat
  waiting : List EthWaiting
  ptp : PtpPort
deriving DecidableEq, Repr

/-- A member of a group (R329): job rank, position in its saltern, saltern ordinal, and its device. -/
structure Member where
  rank : Nat
  pos : Nat
  sord : Nat
  dev : Nat
deriving DecidableEq, Repr

/-- A move of a collective (R335): level, sender and receiver as group indices (equal: local), KIND, segment or block,
chunk. -/
structure Move where
  level : Nat
  frm : Nat
  dst : Nat
  kind : Nat
  seg : Nat
  chunk : Nat
deriving DecidableEq, Repr

/-- What a value held for a chunk is (R342). -/
inductive ValKind where
  | contribution | partialOwn | partialIn | data | result
deriving DecidableEq, Repr

/-- A value held for a chunk: its kind, its segment and chunk, the POS or SORD it came from, its bytes (none: EMPTY), and
whether it is poisoned (R342, R343). -/
structure ChunkVal where
  what : ValKind
  seg : Nat
  chunk : Nat
  idx : Nat
  data : Option Bytes
  poison : Bool
deriving DecidableEq, Repr

/-- A level-2 chunk being assembled: the header of its first piece and the pieces by index (R339). -/
structure Assembly where
  move : Move
  header : Bytes
  pieces : SMap Bytes
deriving DecidableEq, Repr

/-- An accepted collective command (R328 to R345): its stamp, issuer, context, partition and descriptor; the key, epoch,
mode and step at acceptance; the group, this member's index, the fusion table (SRC, DST_OFF, LENGTH), the size table
(send, receive), the fusion entries' operations and SHAPE; whether it is active; when it was accepted or started; when it last made
progress (R474); the values it holds;
the moves sent, those without a credit, those received, and when each was last heard of; the chunks being assembled; the
first code; whether it has ended early. -/
structure Coll where
  seq : Nat
  core : Nat
  context : Nat
  part : Nat
  desc : Desc
  key : Nat
  epoch : Nat
  strict : Bool
  step : Nat
  members : List Member
  self : Nat
  salterns : Nat
  fusion : List (Nat × Nat × Nat)
  sizes : List (Nat × Nat)
  ops : List Nat
  shape : Nat
  active : Bool
  since : Nat
  moved : Nat
  vals : List ChunkVal
  sent : List Move
  owed : List Move
  got : List Move
  times : List (Move × Nat)
  asm : List Assembly
  code : Nat
  ended : Bool
deriving DecidableEq, Repr

/-- What a sequencer waits for: nothing; a counter, the count, rd and since when (R196); a time (R198); the acceptance of
a descriptor by a target, since when (R194); a load of `size` bytes into rd, since when (R189). -/
inductive SeqHold where
  | none
  | wait (counter target rd since : Nat)
  | waitt (time : Nat)
  | issue (target : Nat) (desc : Desc) (since : Nat)
  | load (addr size rd since : Nat)
deriving DecidableEq, Repr

/-- A program that a teardown has stopped (R176): the instant, and SEQ_STATE.STATE, what it waited for and its refused store then. -/
structure Stopped where
  at_ : Nat
  phase : Nat
  hold : SeqHold
  refused : Option (Nat × Nat × Nat)
deriving DecidableEq, Repr

/-- A sequencer (R172 to R204): s1 to s31, p1 to p7 as bits, what it waits for, a refused store not yet taken as a fault
(code, pc, word), the argument word, the entry index, the schedule entry and partition that started it, and its slot
start; the program that a teardown has stopped. SEQ_STATE holds STATE, CONTEXT and PC. -/
structure Seq where
  regs : SMap Word
  preds : Nat
  hold : SeqHold
  refused : Option (Nat × Nat × Nat)
  arg : Nat
  entry : Nat
  slot : Nat
  part : Nat
  slotStart : Nat
  torn : Option Stopped
deriving DecidableEq, Repr

/-- A context being torn down: the instant t0, and whether it has been found slow (R385 to R387). -/
structure Torn where
  at_ : Nat
  slow : Bool
deriving DecidableEq, Repr

/-- An input ring (R375, R376): its committed registers, H and T. -/
structure Ring where
  cfg : Word
  base : Word
  land : Word
  headAddr : Word
  head : Nat
  take : Nat
deriving DecidableEq, Repr

/-- A partition's schedule (R357 to R378): the active and the staged table by index, the words staged since the last COMMIT of the table
by index * 4 + word (R379), the rings, the state it takes at the next frame boundary, the start of its current and next frames, the next
frame's index, the stretch in force, the next entry, whether the frame starts no entry, the contexts that took part in the step, the
step's HAZARD bits, whether a record of the step was lost, whether that has been logged, and the pops of this run of the step by
entry * 4096 + queue (R408). -/
structure Part where
  table : SMap (List Word)
  staged : SMap (List Word)
  since : SMap Word
  rings : SMap Ring
  stopTo : Option Nat
  frameAt : Nat
  nextFrame : Nat
  index : Nat
  stretch : Nat
  entry : Nat
  skip : Bool
  took : List Nat
  hazard : Nat
  lost : Bool
  lostLogged : Bool
  pops : SMap Nat
deriving DecidableEq, Repr

/-- A packet of a launch that waits for the ACK of an entry: the entry, the phase, when it was sent (R391). -/
structure LaunchWait where
  entry : Nat
  phase : Nat
  since : Nat
deriving DecidableEq, Repr

/-- A launch through a SCHED instance (R388 to R392): JOB_ID, the ACKs awaited, the members whose READY came, when it
began, T_START, the jobs aborted since SCH_LAUNCH_BASE was written, and whether this device is a MEMBER of it. -/
structure Launch where
  job : Nat
  waits : List LaunchWait
  ready : List Nat
  since : Nat
  tStart : Option Nat
  aborted : List Nat
  member : Bool
deriving DecidableEq, Repr

/-- The commit groups (R379). -/
inductive Group where
  | partition (p : Nat) | table (p : Nat) | ring (p r : Nat) | context (c : Nat) | region (r : Nat) | rank (p : Nat)
  | lnkCfg (n : Nat) | linkTable (l : Nat) | ethCfg (n : Nat) | qp (q : Nat) | queCfg (q : Nat) | queWm (q : Nat)
  | queNotify (q : Nat) | pool (p : Nat) | brine (b v : Nat) | profile (p k : Nat) | pwrCtrl | pwrPart (p : Nat)
  | membership | detLog | detReplay
deriving DecidableEq, Repr

/-- Who waits for both copies of a FABRIC group to apply its COMMIT (R380): nobody, the writer of a CSR access, the monitor. -/
inductive CommitAck where
  | none | csr | monitor
deriving DecidableEq, Repr

/-- A pending commit (R379 to R382): its group, the SCHED instance that received it, the named step, whether it is due at
the next safe point, what it captured (the staged registers, the staged slot table, the staged entries), and who waits for both copies
of a FABRIC group. -/
structure Pend where
  group : Group
  via : Nat
  atStep : Option Nat
  due : Bool
  staged : SMap Word
  slots : SlotTable
  words : SMap (List Word)
  ack : CommitAck := .none
deriving DecidableEq, Repr

/-- A keystream fill accepted by the DET unit (R402 to R404): context, stage, step, first element, blocks, destination,
completion counter; when it came to the front of the queue (R474). -/
structure Fill where
  ctx : Nat
  stage : Nat
  step : Nat
  first : Nat
  blocks : Nat
  dest : Nat
  completion : Nat
  since : Nat
deriving DecidableEq, Repr

/-- A copy of a block of the persistent area (R419): its sequence number, whether its CRC-32C fits its bytes, and what it holds. -/
structure Copy (α : Type) where
  seq : Nat
  good : Bool
  block : α
deriving DecidableEq, Repr

/-- The two copies of a block type of the persistent area, each alone in its erase sector (R419); none: an erased sector. -/
structure Kept (α : Type) where
  copy0 : Option (Copy α)
  copy1 : Option (Copy α)
deriving DecidableEq, Repr

/-- The wear ledger's block (R465): the count in ms, the powered ms, the highest temperature of the die and the memory sensors, in
1/16 °C. -/
structure Ledger where
  usedMs : Nat
  poweredMs : Nat
  highest : List Int
deriving DecidableEq, Repr

/-- What of the flash's log and persistent areas a write in progress changes (R419, R439): the newest `n` entries of the log, or the
newest copy of the retirement list, of the certificate or of the boot counters. -/
inductive FlashPart where
  | log (n : Nat) | retirement | certificate | counts
deriving DecidableEq, Repr

/-- The power plane (R452 to R468): active profiles by 2p + KIND and staged entries by (2p + KIND) * 1024 + INDEX, the VIN power samples
in 100 mW, newest first, the three stretch demands, the ledger in ms, its block in the persistent area in two copies, when it was last
written and the time of a write that is not known to have ended, the open sprint window and when the last one closed, consecutive
samples above the prediction, when that was last logged, since when each core-die sensor has been at its maximum with s at 1,024, the
load last announced to the regulators, the powered ms and the highest temperature of the die and the memory sensors, in 1/16 °C. -/
structure Power where
  profiles : SMap (List Word)
  staged : SMap Word
  samples : List Nat
  sTh : Nat
  sPw : Nat
  sLg : Nat
  usedMs : Nat
  saved : Kept Ledger
  savedAt : Nat
  saving : Option Nat
  sprintAt : Option Nat
  sprintClosed : Option Nat
  overRun : Nat
  mismatchAt : Option Nat
  hotSince : SMap Nat
  announced : Nat
  poweredMs : Nat
  highest : List Int
deriving DecidableEq, Repr

/-- The pins of power and reset (R466 to R468, R484, R520): PWR_EN, VIN in range, PWR_GOOD, the falling edge seen since a
failed rise, THERM_TRIP_N low, RESET_N low, since when PWR_EN is up. -/
structure Pins where
  pwrEn : Bool
  vinOk : Bool
  pwrGood : Bool
  failed : Bool
  trip : Bool
  resetLow : Bool
  riseAt : Nat
deriving DecidableEq, Repr

/-- The clocks (R469 to R471): when each PLL lost lock, consecutive measurements within the bound, when the source was last
heard, how long the count is still held, and the steering accumulator: the offset still to be corrected by rate, and the counts
since it last added or dropped one. -/
structure Clock where
  unlocked : SMap Nat
  good : Nat
  heard : Nat
  holdNs : Nat
  slew : Int
  counts : Nat
deriving DecidableEq, Repr

/-- The configuration flash (R417 to R419, R439): whether it answers as R417 asks, its capacity, the image's bytes where they differ from erased
ones, the log area's entries as their 32 bytes, newest first, the persistent area (the retired granules by channel, the boot
counters and the device certificate, each in two copies; the ledger's lie in the power plane), and the last write begun with its time. -/
structure Flash where
  good : Bool
  capacity : Nat
  image : SMap Byte
  log : List Bytes
  retired : Kept (SMap (List (Nat × Nat)))
  counts : Kept Nat
  certificate : Kept Bytes
  writing : Option (FlashPart × Nat)
deriving DecidableEq, Repr

/-- Who started an update or waits for its reply (R445). -/
inductive UpdateBy where
  | i3c | queue (slot : Nat) | monitor
deriving DecidableEq, Repr

/-- A neighbour being asked for its image (R432): the logical port, when the last request went out, how often it was
repeated, and until when the ROM waits before it starts again. -/
structure Asking where
  port : Nat
  sentAt : Nat
  repeats : Nat
  resumeAt : Option Nat
deriving DecidableEq, Repr

/-- What a transfer of monitor frames is for (R448): an image of n bytes, a token, a memory write. -/
inductive XferKind where
  | load (n : Nat) | token | memWrite (a : Nat)
deriving DecidableEq, Repr

/-- A transfer of binary frames (R448): what for, the next SEQ, the bytes taken, the refusals of the current SEQ, the last
frame's time. -/
structure Xfer where
  kind : XferKind
  seq : Nat
  data : Bytes
  refusals : Nat
  since : Nat
deriving DecidableEq, Repr

/-- The monitor (R446 to R450): the unlock's end, the nonce with its time, failures in a row, the back-off's end, the rate, the rate asked for
with its time, the previous rate with the end of the revert watch, and the running transfer. -/
structure Monitor where
  unlockedTo : Option Nat
  nonce : Option (Bytes × Nat)
  fails : Nat
  backoffTo : Nat
  baud : Nat
  newBaud : Option (Nat × Nat)
  revert : Option (Nat × Nat)
  xfer : Option Xfer
deriving DecidableEq, Repr

/-- The management controller (R417 to R451): the boot that is due (true: cold), the image header and configuration section
kept in MC SRAM, the measurements, the running update (address, length, who), the I3C dynamic address, the reply number,
and recovery: the bytes loaded from a neighbour so far and the neighbour asked. -/
structure Mgmt where
  boot : Option Bool
  header : Bytes
  config : Bytes
  meas : List Bytes
  update : Option (Nat × Nat × UpdateBy)
  i3cAddr : Option Nat
  replies : Nat
  load : Bytes
  asking : Option Asking
  monitor : Monitor
deriving DecidableEq, Repr

/-- A running escalation (R475 to R478): the level, the class and instance of its target, its code, the die captured, and since when. -/
structure Esc where
  level : Nat
  cls : Nat
  inst : Nat
  code : Nat
  die : Nat
  since : Nat
deriving DecidableEq, Repr

/-- A member's last HEARTBEAT (R491, R492), its STATE and FLAGS, and when one of STATE 1 or 2 last came. -/
structure Heard where
  time : Option Nat
  state : Nat
  flags : Nat
deriving DecidableEq, Repr

/-- A join in progress (R498, R499): when the first JOIN_REQ went out, the members whose good JOIN_ACK came, the view taken
from the first. -/
structure Joining where
  since : Nat
  acks : List Nat
  view : Option (List Nat)
deriving DecidableEq, Repr

/-- Faults and membership (R474 to R503): the running escalations, the last engine-level reset by class * 1024 + instance and partition-level reset,
when the boot reached RUNNING, the dies captured by failed chip-level resets, the committed and staged member entries, what was last heard of each
member, when R last changed, the last heartbeat sent, the join, when JOIN_REQ may be sent again, when LEAVE was written, the advances still owed to
each region by a catch-up, and the sweep count that this device takes after them (R499). -/
structure Ras where
  escs : List Esc
  engineResets : SMap Nat
  partResets : SMap Nat
  runningAt : Option Nat
  failDies : List Nat
  members : SMap Word
  staged : SMap Word
  heard : SMap Heard
  changedAt : Option Nat
  lastBeat : Option Nat
  join : Option Joining
  joinAfter : Nat
  leftAt : Option Nat
  owed : SMap Nat
  sweepTo : Option Nat
deriving DecidableEq, Repr

/-- A sensor's last sample: the value (two's complement of 16 bits where signed), whether it is good, and when (R443). -/
structure Sensor where
  value : Nat
  ok : Bool
  time : Nat
deriving DecidableEq, Repr

/-- What the block sends on its ports. -/
inductive Out where
  /-- A TDO bit string shifted out by the TAP (R522). -/
  | tdo (value : Nat)
  /-- The answer of a line read: address, data, code (R214). -/
  | lineData (addr : Nat) (data : Bytes) (code : Nat)
  /-- The answer of an atomic: address, old value, code (R220). -/
  | atomicResult (addr old code : Nat)
  /-- The answer of a reduce or a write: address, code (R220). -/
  | done (addr code : Nat)
  /-- An Ethernet frame on a port, whether its IP packet is marked ECT(0) (R325), and its 802.1Q tag (R322). -/
  | eth (port : Nat) (ect : Bool) (tag : Option EthTag) (frame : EthOut)
  /-- A flit on a logical port: the 80 header bits, the CRC, the body of a DATA flit (R292, R293). -/
  | flit (lport header crc : Nat) (body : Option Bytes)
  /-- The load announced to the core-die regulators, in W (R457). -/
  | feed (watts : Nat)
  /-- An I3C answer: taken (false: NACK), the status byte, the code and the response (R443). -/
  | i3c (ack : Bool) (status code : Nat) (data : Bytes)
  /-- A monitor answer: the code (0: OK) and the bytes its lines give (R446). -/
  | monitor (code : Nat) (data : Bytes)
  /-- The answer to a monitor frame: its SEQ and the code (0: A) (R448). -/
  | frame (seq code : Nat)
  /-- The answer of a CSR access to its requester: the code (0: none) and the value of a read (R508, R512, R513). -/
  | csr (code value : Nat)
deriving DecidableEq, Repr

/-- The machine state. -/
structure State where
  /-- The time base in nanoseconds (R29). -/
  tb : Nat
  /-- MODEL'S OWN: the number of the next free value (log entry 3). -/
  free : Nat
  /-- Every CSR by CSR address where it differs from its reset value (R505). -/
  regs : SMap Word
  /-- Staged values of WC registers by CSR address (R9, R379). -/
  staged : SMap Word
  /-- GLB_RAKE_SEL and GLB_RAKE_STATUS of each requester: 0 the MC path, n + 1 sequencer n (R516). -/
  rake : SMap RakeReq
  /-- RAKE_GROUPn masks: key class * 1024 + group * 64 + word (R516). -/
  rakeMask : SMap Word
  /-- The error log (R437 to R440). -/
  log : LogState
  /-- Bytes of LPDDR6, core store and router store by physical address (R30). -/
  mem : SMap Byte
  /-- Marks of 8-byte words by physical address / 8: correctable errors, poison, uncorrectable errors (R214, R517). -/
  bad : SMap Bad
  /-- Areas with undefined contents (R46, R48; log entry 4). -/
  scratch : List Scratch
  /-- Fused facts of the part (R4). -/
  fuses : Fuses
  /-- The boundary-scan TAP (R522). -/
  tap : Tap
  /-- The 16,384 arrival counters (R272). -/
  counters : SMap Counter
  /-- The four Octine routers (R40). -/
  routers : SMap Router
  /-- The core die is powered (R23, R461; log entry 1). -/
  coreOn : Bool
  /-- The remap tables of the 384 memory channels (R218). -/
  channels : SMap Channel
  /-- Brine views under scan: key bridge * 64 + view (R227). -/
  brineScans : SMap BrineScan
  /-- The last 256 blocks each bridge has decoded, newest first: view * 2^26 + block, and the decoded bytes (R233). -/
  brineKept : SMap (List (Nat × Bytes))
  /-- The 64 pan pools (R234). -/
  pools : SMap Pool
  /-- The 4,096 queues (R239). -/
  queues : SMap Queue
  /-- The 128 matrix arrays (R111). -/
  arrays : SMap MatArray
  /-- Results of passes and chain commands that failed: where they lie, their bytes, the first failing code (R85, R100). -/
  spoilt : List (Nat × Nat × Nat)
  /-- The 64 chain engines (R164). -/
  chains : SMap ChainEngine
  /-- The 65,536 region descriptors (R254 to R261). -/
  regions : SMap Region
  /-- Pump commands accepted and not yet complete, in request order (R265, R529). -/
  pumps : List PumpCmd
  /-- The issue stamp of the next pump command or collective (R265). -/
  pumpSeq : Nat
  /-- Requests without an acknowledgement (R263). -/
  outstanding : List Sent
  /-- REQ_ID of the next request (R297). -/
  nextReq : Nat
  /-- What the destination side remembers of each source member's current command (R273, R302). -/
  sources : SMap SourceRun
  /-- Packets this device originates that have not been routed yet, oldest first (R307, R308). -/
  injected : List Routed
  /-- The 32 logical ports (R288). -/
  lports : SMap LPort
  /-- TC0 transfers being sent: logical port * 65536 + XFER_ID (R302). -/
  sending : SMap Sending
  /-- One more than the last table cycle to which a command of a LOCAL transfer was bound, same key (R302). -/
  bound : SMap Nat
  /-- The route tables: bank * 2^17 + table * 2^16 + index, the value of FAB_RT_DATA (R308, R309). -/
  routes : SMap Nat
  /-- The sluice tables by FAB_SLUICE_SEL.INDEX, the value of FAB_SLUICE_DATA (R311). -/
  sluices : SMap Nat
  /-- The sluice registers are locked (R313). -/
  sluiceLocked : Bool
  /-- The rank translation table, the value of FAB_RANK_DATA (R317). -/
  ranks : SMap Nat
  /-- The 4,096 queue pairs (R323). -/
  qps : SMap Qp
  /-- What the four Ethernet ports remember (R324, R326). -/
  ethPorts : SMap EthPort
  /-- Collective commands accepted and not complete, in order of acceptance (R328). -/
  colls : List Coll
  /-- Completed chunk headers by region * 2^40 + offset that the collective engine has not consumed (R339). -/
  chunkHeaders : List (Nat × Bytes)
  /-- The code that set VOID_NEXT of each partition (R347). -/
  voidNextCode : SMap Nat
  /-- The 64 core sequencers (R172). -/
  seqs : SMap Seq
  /-- The instruction stores: core * 65,536 + index (R179). -/
  imem : SMap Nat
  /-- The contexts in TEARDOWN or QUARANTINE (R385 to R387). -/
  torn : SMap Torn
  /-- The 16 partitions' schedules (R357). -/
  parts : SMap Part
  /-- The launch of each SCHED instance (R388). -/
  launches : SMap Launch
  /-- The pending commits, oldest first (R379). -/
  pends : List Pend
  /-- The fills of the DET unit, oldest first (R402). -/
  fills : List Fill
  /-- Records waiting for log space, oldest first (R407). -/
  detBuffer : List Bytes
  /-- The last legal tail count (R406). -/
  detTail : Nat
  /-- An illegal tail count has been logged and no legal one has appeared (R406). -/
  detTailBad : Bool
  /-- The power plane (R452 to R465). -/
  power : Power
  /-- The power and reset pins (R466 to R468, R520). -/
  pins : Pins
  /-- The clocks and the steering of the time base (R469 to R471). -/
  clock : Clock
  /-- The sensors by ID (R443). -/
  sensors : SMap Sensor
  /-- The configuration flash (R417 to R419). -/
  flash : Flash
  /-- The management controller (R417 to R450). -/
  mgmt : Mgmt
  /-- Faults and membership (R474 to R503). -/
  ras : Ras
  /-- MODEL'S OWN: what the block has sent on its ports, newest first (log entry 5). -/
  out : List Out
  /-- MODEL'S OWN: what the commands that wait will meet outside the block (log entry 166). -/
  inputs : Inputs
  /-- The commands that are waiting, first in first out. -/
  pending : List Instr
deriving DecidableEq, Repr

/-- The machine right after reset: every register at its reset value, no sequence of the boot run (log entry 1). -/
def State.reset : State :=
  { tb := 0,
    free := 0,
    regs := [],
    staged := [],
    rake := [],
    rakeMask := [],
    log := ⟨[], 0, [], 0, 0⟩,
    mem := [],
    bad := [],
    scratch := [],
    fuses := ⟨false, BitVec.allOnes 64, 0x10, [0, 0], 0, 0, 0, [], [], List.replicate 32 0⟩,
    tap := ⟨1, 0, false⟩,
    counters := [],
    routers := [],
    coreOn := true,
    channels := [],
    brineScans := [],
    brineKept := [],
    pools := [],
    queues := [],
    arrays := [],
    spoilt := [],
    chains := [],
    regions := [],
    pumps := [],
    pumpSeq := 0,
    outstanding := [],
    nextReq := 0,
    sources := [],
    injected := [],
    lports := [],
    sending := [],
    bound := [],
    routes := [],
    sluices := [],
    sluiceLocked := false,
    ranks := [],
    qps := [],
    ethPorts := [],
    colls := [],
    chunkHeaders := [],
    voidNextCode := [],
    seqs := [],
    imem := [],
    torn := [],
    parts := [],
    launches := [],
    pends := [],
    fills := [],
    detBuffer := [],
    detTail := 0,
    detTailBad := false,
    power := ⟨[], [], [], 256, 256, 256, 0, ⟨none, none⟩, 0, none, none, none, 0, none, [], 0, 0, [0, 0]⟩,
    pins := ⟨true, true, true, false, false, false, 0⟩,
    clock := ⟨[], 0, 0, 0, 0, 0⟩,
    sensors := [],
    flash := ⟨true, 0x4000000, [], [], ⟨none, none⟩, ⟨none, none⟩, ⟨none, none⟩, none⟩,
    mgmt := ⟨some true, [], [], List.replicate 4 (List.replicate 48 0), none, none, 0, [], none, ⟨none, none, 0, 0, 115200, none, none, none⟩⟩,
    ras := ⟨[], [], [], none, [], [], [], [], none, none, none, 0, none, [], none⟩,
    out := [],
    inputs := ⟨[], []⟩,
    pending := [] }

/-- What a step answers. -/
abbrev Result := Host.Outcome State Fault Refusal

end Sys2Proof.Machine
end

