-- ==== Sys2Proof/Machine/Ops.lean ====
section
/-! DEFINITION. The named operations over the state that every meaning is built from: registers and their fields,
statistics, the error log and ALERT_N, arrival counters, memory, physical addresses, free values. -/

namespace Sys2Proof.Machine

/-! ### Registers -/

/-- The class, instance and byte offset of a CSR address (R505). -/
def csrClass (a : Nat) : Nat := bits a 26 6
def csrInst (a : Nat) : Nat := bits a 16 10
def csrOff (a : Nat) : Nat := bits a 0 16

/-- Where instance `i` of a class lies after instance 0 (R505). -/
def instDelta (i : Nat) : Nat := i * 0x10000

/-- Where queue `q` lies: four queues an instance (R251). -/
def queueDelta (q : Nat) : Nat := (q / 4) * 0x10000 + (q % 4) * 0x4000

/-- Where context `c` lies: 32 contexts an instance (R361). -/
def ctxDelta (c : Nat) : Nat := (c / 32) * 0x10000 + (c % 32) * 0x800

/-- The register of a class that an offset falls in, if any. -/
def findReg (rs : List RegSpec) (off : Nat) : Option RegSpec :=
  rs.find? (fun r => decide (r.off ≤ off) && decide (off < r.off + r.n * r.stride) &&
    decide ((off - r.off) % r.stride < 8))

/-- The identity fields that read as the instance number (R19). -/
def idReset (cls inst off : Nat) : Nat :=
  if off ≠ 0 then 0
  else match cls with
    | 1 => inst | 3 => inst | 4 => inst | 5 => inst | 6 => inst | 7 => inst | 10 => inst | 11 => inst | 14 => inst
    | 2 => inst
    | _ => 0

/-- The reset value of the register at a CSR address: its fields' reset values and its identity (R9). -/
def regReset (a : Nat) : Word :=
  match findReg (classRegs (csrClass a)) (csrOff a) with
  | none => 0
  | some r =>
    BitVec.ofNat 64 (r.fields.foldl (fun acc f => acc + f.reset * 2 ^ f.lo) 0 + idReset (csrClass a) (csrInst a) (csrOff a))

/-- The current value of a register. -/
def State.reg (s : State) (a : Nat) : Word := s.regs.get regReset a

/-- Set a register. -/
def State.setReg (s : State) (a : Nat) (v : Word) : State := { s with regs := s.regs.set regReset a v }

/-- The current value of a field; `δ` is the distance of the instance or copy from the first. -/
def State.fld (s : State) (f : Fld) (δ : Nat := 0) : Nat := bits (s.reg (f.base + δ)).toNat f.lo f.w

/-- Set a field. -/
def State.setFld (s : State) (f : Fld) (δ v : Nat) : State :=
  s.setReg (f.base + δ) (BitVec.ofNat 64 (setBits (s.reg (f.base + δ)).toNat f.lo f.w v))

/-- Add to a field that saturates. -/
def State.bump (s : State) (f : Fld) (δ n : Nat) : State :=
  s.setFld f δ (satAdd (s.fld f δ) n (2 ^ f.w - 1))

/-- Add to a 64-bit statistics counter (R78). -/
def State.stat (s : State) (a n : Nat) : State :=
  s.setReg a (BitVec.ofNat 64 (satAdd (s.reg a).toNat n (2 ^ 64 - 1)))

/-- The staged value of a WC register: the active value where nothing is staged (R9). -/
def State.stagedReg (s : State) (a : Nat) : Word := (SMap.find? s.staged a).getD (s.reg a)

/-- The staged value of a field. -/
def State.stagedFld (s : State) (f : Fld) (δ : Nat := 0) : Nat := bits (s.stagedReg (f.base + δ)).toNat f.lo f.w

/-- Make the staged value of a WC register active; staging keeps its contents (R382). -/
def State.applyStaged (s : State) (a : Nat) : State := s.setReg a (s.stagedReg a)

/-! ### Sites, the error log and ALERT_N -/

/-- The die of a class instance (R506, R437). -/
def dieOf (cls inst : Nat) : Nat :=
  match cls with
  | 6 => 1 + inst / 48
  | 7 => 1 + inst
  | 9 => if inst < 512 then 9 else 10
  | 10 => if inst < 8 then 9 else 10
  | 11 => if inst < 2 then 9 else 10
  | 1 => 0 | 2 => 0 | 3 => 0 | 4 => 0 | 5 => 0 | 13 => 0 | 14 => 0 | 15 => 0 | 16 => 0 | 22 => 0
  | _ => 9

/-- The site of a class instance. -/
def site (cls inst : Nat) : Site := ⟨cls, inst, dieOf cls inst⟩

/-- The block that records what reaches no existing instance (R16). -/
def glbSite : Site := site 0 0

/-- The codes that raise ALERT_N, as their chapters list them (R440). -/
def raisesAlert (code : Nat) : Bool :=
  [0x0401, 0x0810, 0x080B, 0x0811, 0x100B, 0x140F, 0x1801, 0x1805, 0x1806, 0x2409, 0x2803, 0x2805, 0x2808, 0x3C06,
   0x4406, 0x4407, 0x4408, 0x4409, 0x440A, 0x440B, 0x4801, 0x4802, 0x4803, 0x4804, 0x4C0E, 0x4C10, 0x4C11, 0x4C16,
   0x5403, 0x5404, 0x5406, 0x5407, 0x540C, 0x540D, 0x540E, 0x5410].contains code
  || (decide (0x4C01 ≤ code) && decide (code ≤ 0x4C0B))

/-- The codes that only report an event (R527). -/
def informs (code : Nat) : Bool :=
  [0x1007, 0x140B, 0x140C, 0x140E, 0x1804, 0x2806, 0x2807, 0x4405, 0x440D, 0x5807].contains code

/-- The severity of an entry of its own (R527). -/
def severityOf (code : Nat) : Nat :=
  if raisesAlert code then 2 else if informs code then 0 else 1

/-! ### The persistent area (R419) -/

/-- A copy with a good CRC. -/
def Copy.valid {α : Type} (c : Option (Copy α)) : Option (Copy α) := c.filter (fun x => x.good)

/-- Copy 1 is the copy in force: good, and of the higher sequence number where both are (R419). -/
def Kept.second {α : Type} (k : Kept α) : Bool :=
  match Copy.valid k.copy0, Copy.valid k.copy1 with
  | some a, some b => decide (a.seq < b.seq)
  | none, some _ => true
  | _, none => false

/-- The copy in force. -/
def Kept.inForce {α : Type} (k : Kept α) : Option (Copy α) := if k.second then Copy.valid k.copy1 else Copy.valid k.copy0

/-- What the copy in force holds. -/
def Kept.held {α : Type} (k : Kept α) (init : α) : α := (k.inForce.map (·.block)).getD init

/-- A write goes to the sector of the copy that is not in force, under the next sequence number (R419). -/
def Kept.write {α : Type} (k : Kept α) (v : α) : Kept α :=
  match k.inForce with
  | none => { k with copy0 := some ⟨0, true, v⟩ }
  | some c => if k.second then { k with copy0 := some ⟨c.seq + 1, true, v⟩ } else { k with copy1 := some ⟨c.seq + 1, true, v⟩ }

/-- Power is lost while the copy in force was being written: its CRC is not good, and the copy before it is in force (R419). -/
def Kept.cut {α : Type} (k : Kept α) : Kept α :=
  let spoil := fun (c : Option (Copy α)) => c.map (fun x => { x with good := false })
  if k.second then { k with copy1 := spoil k.copy1 } else { k with copy0 := spoil k.copy0 }

/-- The cold boots since manufacture, the retired granules by channel and the ledger's block, from the persistent area; an empty one
holds none (R218, R419, R465). -/
def Flash.coldBoots (f : Flash) : Nat := f.counts.held 0
def Flash.retiredList (f : Flash) : SMap (List (Nat × Nat)) := f.retired.held []
def Power.savedLedger (w : Power) : Ledger := w.saved.held ⟨0, 0, [0, 0]⟩

/-- The MC writes the wear ledger's block to the persistent area (R465). -/
def State.saveLedger (s : State) : State :=
  { s with power := { s.power with saved := s.power.saved.write ⟨s.power.usedMs, s.power.poweredMs, s.power.highest⟩,
                                   savedAt := s.tb, saving := some s.tb } }

/-- Note an alert in MGT_ALERT; ALERT_N is low while VALID = 1 (R440). -/
def State.noteAlert (s : State) (code : Nat) : State :=
  if s.fld Reg.MGT_ALERT_VALID = 1 then s.bump Reg.MGT_ALERT_COUNT 0 1
  else ((s.setFld Reg.MGT_ALERT_CODE 0 code).setFld Reg.MGT_ALERT_COUNT 0 1).setFld Reg.MGT_ALERT_VALID 0 1

/-- An alert: noted, and the MC writes the ledger (R440, R465). -/
def State.alert (s : State) (code : Nat) : State := s.saveLedger.noteAlert code

/-- The key of a log site. -/
def siteKey (t : Site) : Nat := t.die * 2 ^ 32 + t.cls * 2 ^ 20 + t.inst

/-- A site that has raised nothing. -/
def siteInit : LogSite := ⟨0, false, none⟩

/-- What a log site remembers. -/
def LogState.siteOf (l : LogState) (t : Site) : LogSite := l.sites.get (fun _ => siteInit) (siteKey t)

/-- Set what a log site remembers. -/
def LogState.setSite (l : LogState) (t : Site) (x : LogSite) : LogState :=
  { l with sites := l.sites.set (fun _ => siteInit) (siteKey t) x }

/-- The MGCLK cycle of a time-base value: 400 MHz, two cycles in 5 ns. -/
def mgclkCycle (tb : Nat) : Nat := tb * 2 / 5

/-- An occurrence merges into the newest entry (R438). -/
def mergesInto (e : LogEntry) (t : Site) (code now : Nat) : Bool :=
  decide (e.code = code) && decide (e.die = t.die) && decide (e.inst = t.inst) && decide (now - e.time ≤ 1000000)

/-- The log after an occurrence that passed its site: a merge into the newest entry or a new entry (R437, R438). -/
def LogState.enter (l : LogState) (t : Site) (code sev detail now : Nat) (dropped : Bool) : LogState :=
  let fresh : LogEntry := ⟨now, code, 1, sev, dropped, t.die, t.inst, detail, l.nextSeq % 2 ^ 32⟩
  match l.entries with
  | [] => { l with entries := [fresh], nextSeq := l.nextSeq + 1 }
  | e :: es =>
    if mergesInto e t code now then { l with entries := { e with count := satAdd e.count 1 65535 } :: es }
    else { l with entries := (fresh :: e :: es).take 8192, nextSeq := l.nextSeq + 1 }

/-- An alert of an occurrence that has turned out dropped is taken back (R440). -/
def State.unalert (s : State) (first : Bool) : State :=
  let n := s.fld Reg.MGT_ALERT_COUNT
  if first ∧ n ≤ 1 then ((s.setFld Reg.MGT_ALERT_CODE 0 0).setFld Reg.MGT_ALERT_COUNT 0 0).setFld Reg.MGT_ALERT_VALID 0 0
  else s.setFld Reg.MGT_ALERT_COUNT 0 (n - 1)

/-- The alert of an occurrence that takes the place of another: it stands for that one's alert, or is one of its own, or takes that one's
back. -/
def State.moveAlert (s : State) (p : LogPass) (code sev : Nat) : State :=
  if 2 ≤ p.severity then
    if 2 ≤ sev then (if p.first then s.setFld Reg.MGT_ALERT_CODE 0 code else s) else s.unalert p.first
  else if 2 ≤ sev then s.alert code else s

/-- Of two occurrences in one cycle of the block's clock the one with the lower code has passed, not the one that the model came to
first (R438): its entry takes the other's place, or, where the other merged, stands beside the entry whose COUNT the other had
raised. -/
def State.lowerPass (s : State) (t : Site) (p : LogPass) (code sev detail : Nat) : State :=
  let es := if p.merged then s.log.entries.map (fun e => if e.seq = p.seq then { e with count := e.count - 1 } else e)
    else s.log.entries.map (fun e => if e.seq = p.seq then { e with code := code, severity := sev, detail := detail } else e)
  let l := { s.log with entries := es }
  let first := decide (2 ≤ sev) && (if 2 ≤ p.severity then p.first else decide (s.fld Reg.MGT_ALERT_VALID ≠ 1))
  let l := if p.merged then l.enter t code sev detail s.tb false else l
  let seq := if p.merged then (l.nextSeq - 1) % 2 ^ 32 else p.seq
  let s := if p.merged then s.stat Reg.MGT_STAT_LOG_ENTRIES 1 else s
  { s with log := l.setSite t { l.siteOf t with pass := some ⟨s.tb, code, sev, seq, false, first⟩ } }.moveAlert p code sev

/-- The block instance at a site: four queues lie in one instance of QUEUE (R14, chapter 7). -/
def Site.instance_ (t : Site) : Site := if t.cls = 9 then { t with inst := t.inst / 4 } else t

/-- An occurrence of a code at a site goes to the MC, or is dropped at the site in an MGCLK cycle that has passed one; of those in one
cycle of the block's own clock, which the model takes to be those at one value of the time base (DEDUCED, log entry 85), the one
with the lowest code passes (R438). Severity 2 and 3 are alerts (R440). -/
def State.occur (s : State) (t : Site) (code sev detail : Nat) : State :=
  let t := t.instance_
  let x := s.log.siteOf t
  let cyc := mgclkCycle s.tb + 1
  if x.lastCycle = cyc then
    let s := { s.stat Reg.MGT_STAT_LOG_DROPPED 1 with log := s.log.setSite t { x with dropped := true } }
    match x.pass with
    | some p => if p.time = s.tb ∧ code < p.code then s.lowerPass t p code sev detail else s
    | none => s
  else
    let merged := match s.log.entries with | [] => false | e :: _ => mergesInto e t code s.tb
    let l := s.log.enter t code sev detail s.tb x.dropped
    let first := decide (2 ≤ sev) && decide (s.fld Reg.MGT_ALERT_VALID ≠ 1)
    let pass : LogPass := ⟨s.tb, code, sev, (l.entries.map (·.seq)).headD 0, merged, first⟩
    let s := if merged then s else s.stat Reg.MGT_STAT_LOG_ENTRIES 1
    let s := { s with log := l.setSite t ⟨cyc, x.dropped && merged, some pass⟩ }
    if 2 ≤ sev then s.alert code else s

/-- A site is in a later MGCLK cycle than its last occurrence. -/
def State.siteLater (s : State) (t : Site) : State :=
  { s with log := s.log.setSite t.instance_ ⟨0, (s.log.siteOf t.instance_).dropped, none⟩ }

/-- The error register in which a code raised at a site is recorded: GLB_ERR for the classes that have none (R16). -/
def errReg (t : Site) (code : Nat) : Nat :=
  match t.cls with
  | 0 => Reg.GLB_ERR
  | 1 => Reg.CORE_ERR + instDelta t.inst
  | 2 => Reg.MAT_ERR + instDelta t.inst
  | 3 => (if 0x0E01 ≤ code ∧ code ≤ 0x0FFF then Reg.CHN_CMB_ERR else Reg.CHN_ERR) + instDelta t.inst
  | 4 => Reg.SEQ_ERR + instDelta t.inst
  | 5 => Reg.ORT_ERR + instDelta t.inst
  | 6 => Reg.MCH_ERR + instDelta t.inst
  | 7 => Reg.MBD_ERR + instDelta t.inst
  | 8 => Reg.PAN_ERR + instDelta t.inst
  | 9 => Reg.QUE_ERR + queueDelta t.inst
  | 10 => Reg.LNK_ERR + instDelta t.inst
  | 11 => Reg.ETH_ERR + instDelta t.inst
  | 12 => if 0x3301 ≤ code ∧ code ≤ 0x33FF then Reg.FAB_DSP_ERR + (t.die - 9) * 0x100 else Reg.FAB_ERR
  | 13 => Reg.COL_ERR
  | 14 => Reg.SCH_ERR + instDelta t.inst
  | 17 => Reg.PWR_ERR
  | 18 => Reg.CLK_ERR
  | 19 => Reg.MGT_ERR
  | 21 => Reg.RAS_ERR
  | 22 => Reg.DET_ERR
  | _ => Reg.GLB_ERR

/-- Record a code in CODE and COUNT of an error register (R16). -/
def State.noteErr (s : State) (t : Site) (code : Nat) : State :=
  let a := errReg t code
  let c := satAdd (bits (s.reg a).toNat 16 16) 1 0xFFFF
  s.setReg a (BitVec.ofNat 64 (code + c * 65536))

/-- A code is raised at a site: recorded in its error register and sent to the log (R16, R437). -/
def State.raise (s : State) (t : Site) (code : Nat) (detail : Nat := 0) : State :=
  (s.noteErr t code).occur t code (severityOf code) detail

/-- Raise a code if there is one. -/
def State.raiseOpt (s : State) (t : Site) (code : Nat) (detail : Nat := 0) : State :=
  if code = 0 then s else s.raise t code detail

/-! ### Clocks -/

/-- The time base has moved on from `since` by as long as `n` CCLK cycles take at the least: CCLK is at most 1.7 GHz and
runs slower on grade B and while slots are stretched (R3, R29; log entry 14). -/
def State.cclkPassed (s : State) (since n : Nat) : Bool := decide (10 * n ≤ 17 * (s.tb - since))

/-- How long `n` CCLK cycles take at the current frequency, in ns. -/
def State.cclkNs (s : State) (n : Nat) : Nat := ceilDiv (n * 1000) (s.fld Reg.CLK_STATE_CCLK_MHZ)

/-! ### Free values and the outbox -/

/-- The next free value, and the state with its number advanced (log entry 3). -/
def State.fresh (s : State) : Word × State := (Config.freeWord s.free, { s with free := s.free + 1 })

/-- Cycles that the model does not count add a free number to a statistic (log entry 3). -/
def State.freeStat (s : State) (a : Nat) : State :=
  let r := s.fresh
  r.2.stat a r.1.toNat

/-- Send something on a port. -/
def State.emit (s : State) (o : Out) : State := { s with out := o :: s.out }

/-- The writer that waits for a FABRIC group's COMMIT receives its acknowledgement: both copies have applied it (R380). -/
def State.ackPend (s : State) (x : Pend) : State :=
  match x.ack with
  | .none => s
  | .csr => s.emit (.csr 0 0)
  | .monitor => s.emit (.monitor 0 [])

/-! ### Arrival counters -/

/-- A counter after reset (R272). -/
def counterInit : Counter := ⟨0, 0, false⟩

/-- Arrival counter `i`. -/
def State.counter (s : State) (i : Nat) : Counter := s.counters.get (fun _ => counterInit) i

/-- Set an arrival counter. -/
def State.setCounter (s : State) (i : Nat) (c : Counter) : State :=
  { s with counters := s.counters.set (fun _ => counterInit) i c }

/-- An increment adds 1 modulo 2^64 and keeps the first code carried (R272). -/
def Counter.inc (c : Counter) (code : Nat) : Counter :=
  { c with count := c.count + 1, err := if c.err = 0 then code else c.err }

/-- A command completes on an arrival counter; counters are absent while the core die is off (R26, R275). -/
def State.complete (s : State) (i code : Nat) : State :=
  if s.coreOn then s.setCounter i ((s.counter i).inc code) else s

/-! ### Partitions -/

/-- A partition after reset. -/
def partInit : Part := ⟨[], [], [], [], none, 0, 0, 0, 256, 0, false, [], 0, false, false, []⟩

/-- Partition `p`. -/
def State.part (s : State) (p : Nat) : Part := s.parts.get (fun _ => partInit) p

/-- Set a partition. -/
def State.setPart (s : State) (p : Nat) (x : Part) : State := { s with parts := s.parts.set (fun _ => partInit) p x }

/-- The context of a core, the partition of a context, the state of a context (R361, R368). -/
def State.coreContext (s : State) (core : Nat) : Nat := s.fld Reg.CORE_CONTEXT_CONTEXT (instDelta core)
def State.ctxPartition (s : State) (ctx : Nat) : Nat := bits (s.reg (Reg.CTX_DESC0 + ctxDelta ctx)).toNat 2 4
def State.ctxState (s : State) (c : Nat) : Nat := s.fld Reg.CTX_STATE_STATE (ctxDelta c)

/-- Set a HAZARD bit of the current step of a context's partition (R410). -/
def State.hazard (s : State) (ctx i : Nat) : State :=
  let p := s.ctxPartition ctx
  let x := s.part p
  if bit x.hazard i then s else s.setPart p { x with hazard := x.hazard + 2 ^ i }

/-! ### Memory -/

/-- What an unlisted byte reads as: zero (log entry 2). -/
def memDefault (_ : Nat) : Byte := 0

/-- Memory holds its canonical form. -/
abbrev Memory.wf (m : SMap Byte) : Bool := SMap.wf m memDefault

/-- The scratch area an address lies in, if any. -/
def scratchAt (l : List Scratch) (a : Nat) : Option Scratch :=
  l.find? (fun r => decide (r.base ≤ a) && decide (a < r.base + r.len))

/-- Read one byte of memory; a byte of a scratch area is a free value. -/
def State.readByte (s : State) (a : Nat) : Byte :=
  match scratchAt s.scratch a with
  | some r => Config.freeByte r.tag a
  | none => s.mem.get memDefault a

/-- Read `n` bytes from an address. -/
def State.readBytes (s : State) (a n : Nat) : Bytes := (List.range n).map (fun i => s.readByte (a + i))

/-- A little-endian value of `n` bytes in memory. -/
def State.readNat (s : State) (a n : Nat) : Nat := leNat (s.readBytes a n)

/-- The parts of a scratch area outside [a, a + n). -/
def carveOne (r : Scratch) (a n : Nat) : List Scratch :=
  if a + n ≤ r.base ∨ r.base + r.len ≤ a ∨ n = 0 then [r]
  else (if r.base < a then [⟨r.base, a - r.base, r.tag⟩] else []) ++
    (if a + n < r.base + r.len then [⟨a + n, r.base + r.len - (a + n), r.tag⟩] else [])

/-- The scratch areas after [a, a + n) has been written. -/
def carve (l : List Scratch) (a n : Nat) : List Scratch := l.flatMap (fun r => carveOne r a n)

/-- Write a byte string into the listed bytes. -/
def memPut (m : SMap Byte) (a : Nat) : Bytes → SMap Byte
  | [] => m
  | b :: t => memPut (m.set memDefault a b) (a + 1) t

/-- Write a byte string to memory. -/
def State.writeBytes (s : State) (a : Nat) (bs : Bytes) : State :=
  { s with mem := memPut s.mem a bs, scratch := carve s.scratch a bs.length }

/-- Write a little-endian value of `n` bytes. -/
def State.writeNat (s : State) (a n v : Nat) : State := s.writeBytes a (leBytes n v)

/-- The contents of [a, a + n) become undefined (R46, R48; log entry 4). -/
def State.scratchArea (s : State) (a n : Nat) : State :=
  if n = 0 then s
  else { s with
    scratch := ⟨a, n, s.free⟩ :: carve s.scratch a n
    mem := s.mem.filter (fun p => decide (p.1 < a) || decide (a + n ≤ p.1))
    free := s.free + 1 }

/-- The state of the 8-byte word that holds an address. -/
def State.badAt (s : State) (a : Nat) : Bad := s.bad.get (fun _ => Bad.ok) (a / 8)

/-- Set the state of the 8-byte word that holds an address. -/
def State.setBad (s : State) (a : Nat) (b : Bad) : State :=
  { s with bad := s.bad.set (fun _ => Bad.ok) (a / 8) b }

/-- The words touched by [a, a + n). -/
def wordsOf (a n : Nat) : List Nat :=
  if n = 0 then [] else (List.range ((a + n - 1) / 8 - a / 8 + 1)).map (fun i => (a / 8 + i) * 8)

/-- A word in this state is delivered poisoned; an error that can be corrected is corrected as the word is read (R517). -/
def Bad.spoils : Bad → Bool
  | .ok | .ce => false
  | .poison | .ue => true

/-- Some word of [a, a + n) is delivered poisoned (R517). -/
def State.poisoned (s : State) (a n : Nat) : Bool := (wordsOf a n).any (fun w => (s.badAt w).spoils)

/-- Some word of [a, a + n) holds an uncorrectable error. -/
def State.hasUe (s : State) (a n : Nat) : Bool := (wordsOf a n).any (fun w => decide (s.badAt w = .ue))

/-- Set the state of every word touched by [a, a + n). -/
def State.setBadRange (s : State) (a n : Nat) (b : Bad) : State :=
  (wordsOf a n).foldl (fun s w => s.setBad w b) s

/-- A store under SECDED (R517): a whole word stored clean ends its bad state, a part of a bad word leaves it bad,
and poisoned data poison every word they touch. -/
def State.storeBytes (s : State) (a : Nat) (bs : Bytes) (poison : Bool := false) : State :=
  let s := s.writeBytes a bs
  (wordsOf a bs.length).foldl (fun s w =>
    if poison then s.setBad w (if s.badAt w = .ue ∧ ¬ (a ≤ w ∧ w + 8 ≤ a + bs.length) then .ue else .poison)
    else if a ≤ w ∧ w + 8 ≤ a + bs.length then s.setBad w .ok else s) s

/-! ### Physical addresses -/

/-- What a physical address names (R30). -/
inductive PhysArea where
  | lpddr
  | coreStore (core off : Nat)
  | routerStore (router off : Nat)
  | csrWindow (addr : Nat)
  | unmapped
deriving DecidableEq, Repr

def lpddrSize : Nat := 0x024000000000

/-- The end of the general area of LPDDR6; the reserved areas follow (R209, R210). -/
def generalSize : Nat := 0x023FB8000000
def coreStoreBase : Nat := 0x100000000000
def routerStoreBase : Nat := 0x100020000000
def csrWindowBase : Nat := 0x200000000000
def storeSize : Nat := 0x800000

/-- The physical address map (R30). -/
def physArea (a : Nat) : PhysArea :=
  if a < lpddrSize then .lpddr
  else if coreStoreBase ≤ a ∧ a < coreStoreBase + 0x20000000 then
    .coreStore ((a - coreStoreBase) / storeSize) ((a - coreStoreBase) % storeSize)
  else if routerStoreBase ≤ a ∧ a < routerStoreBase + 0x2000000 then
    .routerStore ((a - routerStoreBase) / storeSize) ((a - routerStoreBase) % storeSize)
  else if csrWindowBase ≤ a ∧ a < csrWindowBase + 0x100000000 then .csrWindow (a - csrWindowBase)
  else .unmapped

/-- Core `n` is enabled (R4). -/
def State.coreEnabled (s : State) (n : Nat) : Bool := s.fuses.corePresent.getLsbD n

/-- The physical address of a core's local store address (R34). -/
def coreAddr (n off : Nat) : Nat := coreStoreBase + n * storeSize + off

/-- The physical address of a router-store offset. -/
def routerAddr (j off : Nat) : Nat := routerStoreBase + j * storeSize + off

/-- [a, a + n) lies within LPDDR6, which means the general area (R210). -/
def inLpddr (a n : Nat) : Bool := decide (a + n ≤ generalSize)

/-- [a, a + n) lies wholly in the store window of one core; the core. -/
def inOneCore (a n : Nat) : Option Nat :=
  match physArea a with
  | .coreStore c off => if off + n ≤ storeSize then some c else none
  | _ => none

/-- [a, a + n) lies wholly in LPDDR6 or in the window of one enabled core (R76). -/
def State.inLpOrCore (s : State) (a n : Nat) : Bool :=
  inLpddr a n || (match inOneCore a n with | some c => s.coreEnabled c | none => false)

/-- [a, a + n) lies wholly within the core-store windows of enabled cores (R254). -/
def State.inEnabledStores (s : State) (a n : Nat) : Bool :=
  decide (coreStoreBase ≤ a) && decide (a + n ≤ coreStoreBase + 64 * storeSize) &&
  (List.range 64).all (fun c => !rangesOverlap a n (coreAddr c 0) storeSize || s.coreEnabled c)

/-- [a, a + n) lies in the general area of LPDDR6 or in enabled core store. -/
def State.inEnabledSpace (s : State) (a n : Nat) : Bool := inLpddr a n || s.inEnabledStores a n

/-- [a, a + n) lies in the window of a disabled core (R31, R76). -/
def State.inDisabledCore (s : State) (a n : Nat) : Bool :=
  match inOneCore a n with | some c => !s.coreEnabled c | none => false

/-- The code with which address decoding refuses an access, 0 for none (R31). The window of a core that is disabled gives 0x0003
also while the core die is off (DESIGN CHOICE, log entry 107). -/
def State.physCode (s : State) (a : Nat) : Nat :=
  match physArea a with
  | .lpddr => 0
  | .coreStore c _ => if !s.coreEnabled c then 0x0003 else if s.coreOn then 0 else 0x0006
  | .routerStore _ _ => if s.coreOn then 0 else 0x0006
  | .csrWindow _ => 0
  | .unmapped => 0x0005

/-- Address decoding refuses an access: the code reaches no existing instance and is recorded in GLB_ERR (R16, R31). -/
def State.decodeRefused (s : State) (code a : Nat) : State := s.raise glbSite code a

/-! ### Steps -/

/-- The count of the time base advances by `n` ns, and the accumulator has `left` still to correct (R470). -/
def State.passNs (s : State) (n : Nat) (left : Int) (counts : Nat) : State :=
  { s with tb := (s.tb + n) % 2 ^ 64, clock := { s.clock with slew := left, counts := counts } }

/-- One count of the 1 GHz clock (R29, R470): 1 ns, and while an offset is corrected by rate, 2 ns or none at every 20,000th
count, which is the largest rate R471 allows, 50 ppm (DESIGN CHOICE, log entry 128). -/
def State.count (s : State) : State :=
  let c := s.clock
  if c.slew = 0 then s.passNs 1 0 0
  else if c.counts + 1 < 20000 then s.passNs 1 c.slew (c.counts + 1)
  else if 0 < c.slew then s.passNs 2 (c.slew - 1) 0
  else s.passNs 0 (c.slew + 1) 0

/-- A step of the block while it is powered (R466): without power nothing runs. -/
def State.run (s : State) (f : State → State) : Result := .next (if s.pins.pwrGood then f s else s)

/-- The PLL of a die's clock domain has lost lock and not relocked, so its blocks stop (R469): die 0 runs on CCLK, 1 to 8 on the
MCLKs, 9 and 10 on the FCLKs, as CLK_STATE.PLL_LOCK numbers them. -/
def State.clockStops (s : State) (die : Nat) : Bool := decide (s.clock.unlocked.get (fun _ => 0) die ≠ 0)

/-- A step of a block on a die's clock, which does nothing while that clock stands (R469; log entry 17). -/
def State.runOn (s : State) (die : Nat) (f : State → State) : Result := .next (if s.pins.pwrGood && !s.clockStops die then f s else s)

/-- The blocks of the core die run: it is on (R26), and CCLK is locked or has not lost lock (R469). -/
def State.coreRuns (s : State) : Bool := s.coreOn && !s.clockStops 0

/-- A step of a block of the core die, which runs while the core die does. -/
def State.runCore (s : State) (f : State → State) : Result := .next (if s.pins.pwrGood && s.coreRuns then f s else s)

/-- FAB_GANG joins this device with others, of which INDEX 0 is the leader (R321). -/
def State.ganged (s : State) : Bool := decide (2 ≤ s.fld Reg.FAB_GANG_SIZE)

/-- A command of the management endpoint or the monitor, which in a gang the leader alone answers (R321). -/
def State.asLeader (s : State) (f : State → State) : State :=
  if s.ganged && decide (s.fld Reg.FAB_GANG_INDEX ≠ 0) then s else f s

end Sys2Proof.Machine
end

