-- ==== Sys2Proof/Machine/Lpddr.lean ====
section
/-! DEFINITION. LPDDR6 behind the bridges (R206 to R233, R528): the interleave, lines under ECC, retirement, patrol
scrub, near-memory operations, brine views; stores to any physical address. -/

namespace Sys2Proof.Machine

/-! ### The interleave (R208) -/

/-- The channel of a physical address of LPDDR6. -/
def channelOf (pa : Nat) : Nat :=
  let g := pa / 256
  let h := g / 128
  let b := (bits g 0 3) ^^^ (bits g 10 3)
  let u := (bits g 3 4) ^^^ (bits g 13 4)
  48 * b + 16 * (h % 3) + u

/-- The byte offset of a physical address within its channel. -/
def channelOffset (pa : Nat) : Nat := (pa / 256 / 128 / 3) * 256 + pa % 256

/-- The address of byte `o` of granule `g` of channel `ch`: the interleave read backwards. -/
def granuleAddr (ch g o : Nat) : Nat :=
  let h := 3 * g + ch / 16 % 3
  (h * 128 + 8 * ((ch % 16) ^^^ bits h 6 4) + ((ch / 48) ^^^ bits h 3 3)) * 256 + o

/-- The first of a channel's 1,024 spare granules (R209, R218). -/
def spareGranule : Nat := 25153536

/-- The bridge of a channel (R21). -/
def bridgeOf (ch : Nat) : Nat := ch / 48

/-- The site of a channel's controller. -/
def chanSite (ch : Nat) : Site := site 6 ch

/-- The site of a bridge. -/
def bridgeSite (b : Nat) : Site := site 7 b

/-- A channel is out of service (R219). -/
def State.chanDead (s : State) (ch : Nat) : Bool := decide (s.fld Reg.MCH_STATE_DEAD (instDelta ch) = 1)

/-! ### Brine views: which addresses they cover (R223 to R225) -/

def mbdBase (b v : Nat) : Nat := Reg.MBD_BRINE_BASE + instDelta b + v * 0x20
def mbdBlocks (b v : Nat) : Nat := Reg.MBD_BRINE_BLOCKS + instDelta b + v * 0x20
def mbdIndex (b v : Nat) : Nat := Reg.MBD_BRINE_INDEX + instDelta b + v * 0x20

/-- View `v` is on in bridge `b` (R232). -/
def State.viewOn (s : State) (b v : Nat) : Bool := (s.reg (Reg.MBD_BRINE_STATUS + instDelta b)).getLsbD v

/-- The bytes of an index area (R223). -/
def indexBytes (blocks : Nat) : Nat := 32768 * ceilDiv blocks 4096

/-- The view and block that a read of an address is sent to: the block's bridge must have the view on (R224). -/
def State.viewAt (s : State) (pa : Nat) : Option (Nat × Nat) :=
  (List.range 8).findSome? (fun b =>
    if s.reg (Reg.MBD_BRINE_STATUS + instDelta b) = 0 then none
    else (List.range 64).findSome? (fun v =>
      let base := (s.reg (mbdBase b v)).toNat
      let blocks := (s.reg (mbdBlocks b v)).toNat
      if s.viewOn b v && decide (base ≤ pa) && decide (pa < base + blocks * 4096) &&
          decide ((pa - base) / 4096 % 8 = b) then
        some (v, (pa - base) / 4096) else none))

/-- A range touches a view or an index area that is on (R231). -/
def State.touchesView (s : State) (pa n : Nat) : Bool :=
  (List.range 8).any (fun b =>
    decide (s.reg (Reg.MBD_BRINE_STATUS + instDelta b) ≠ 0) &&
    (List.range 64).any (fun v => s.viewOn b v &&
      (rangesOverlap pa n (s.reg (mbdBase b v)).toNat ((s.reg (mbdBlocks b v)).toNat * 4096) ||
       rangesOverlap pa n (s.reg (mbdIndex b v)).toNat (indexBytes (s.reg (mbdBlocks b v)).toNat))))

/-- The 64-byte lines touched by a range. -/
def linesOf (a n : Nat) : List Nat :=
  if n = 0 then [] else (List.range ((a + n - 1) / 64 - a / 64 + 1)).map (fun i => (a / 64 + i) * 64)

/-- The physical address of byte `y` of the stream of bridge `b` in an area (R225). -/
def streamAddr (area b y : Nat) : Nat :=
  let k := y / 256
  let gb := area / 256 + 128 * (k / 16)
  (gb + 8 * (k % 16) + (b ^^^ (gb / 1024 % 8))) * 256 + y % 256

/-! ### Decoding a brine block (R226 to R230) -/

/-- The line that holds an address is not read good: it is poisoned, uncorrectable, or its channel is out of service (R214,
R219). -/
def State.unreadable (s : State) (a : Nat) : Bool := s.poisoned (a / 64 * 64) 64 || s.chanDead (channelOf a)

/-- Where the index entry of a block lies (R225). -/
def entryAddr (index j : Nat) : Nat := streamAddr index (j % 8) (8 * (j / 8))

/-- The 64-bit index entry of a block. -/
def State.brineEntry (s : State) (index j : Nat) : Nat :=
  leNat ((List.range 8).map (fun i => s.readByte (streamAddr index (j % 8) (8 * (j / 8) + i))))

/-- The length of each symbol's code (R228). -/
def brineLengths (tbl : Bytes) : List Nat :=
  (List.range 16).map (fun i => bits (leNat tbl) (4 * i) 4)

/-- The length table is admissible (R228). -/
def brineTableOk (l : List Nat) : Bool :=
  l.all (fun x => decide (x ≤ 12)) &&
  (decide ((l.map (fun x => if x = 0 then 0 else 2 ^ (12 - x))).sum = 4096) ||
   decide (l.filter (fun x => decide (x ≠ 0)) = [1]))

/-- The codes of R228: (length, code, symbol), in the order of assignment. -/
def brineCodes (l : List Nat) : List (Nat × Nat × Nat) :=
  ((List.range 12).foldl (fun (acc : Nat × List (Nat × Nat × Nat)) i =>
    let len := i + 1
    ((List.range 16).foldl (fun (a : Nat × List (Nat × Nat × Nat)) sy =>
      if l.getD sy 0 = len then (a.1 + 1, a.2 ++ [(len, a.1, sy)]) else a) (acc.1 * 2, acc.2))) (0, [])).2

/-- Read one code from bit `i` of a bit stream: the symbol and the bits read. -/
def brineSymbol (codes : List (Nat × Nat × Nat)) (v i : Nat) : Nat → Nat → Nat → Option (Nat × Nat)
  | 0, _, _ => none
  | fuel + 1, len, acc =>
    let acc' := acc * 2 + b2n (bit v (i + len))
    match codes.find? (fun c => decide (c.1 = len + 1) && decide (c.2.1 = acc')) with
    | some c => some (c.2.2, len + 1)
    | none => brineSymbol codes v i fuel (len + 1) acc'

/-- Read `n` symbols from bit `i`: the symbols and the bits read. -/
def brineSymbols (codes : List (Nat × Nat × Nat)) (v : Nat) : Nat → Nat → Option (List Nat × Nat)
  | 0, i => some ([], i)
  | n + 1, i =>
    match brineSymbol codes v i 12 0 0 with
    | none => none
    | some (sy, k) =>
      match brineSymbols codes v n (i + k) with
      | none => none
      | some (rest, t) => some (sy :: rest, t)

/-- The bytes of pairs of symbols, low nibble first (R229). -/
def pairBytes : List Nat → Bytes
  | a :: b :: t => BitVec.ofNat 8 (a + 16 * b) :: pairBytes t
  | _ => []

/-- Decode a CODED block of `len` stored bytes; none where it is corrupt (R229, R230). -/
def brineDecode (stored : Bytes) (len : Nat) : Option Bytes :=
  let l := brineLengths (stored.take 8)
  if !brineTableOk l then none
  else
    let v := leNat (stored.drop 8)
    match brineSymbols (brineCodes l) v 8192 0 with
    | none => none
    | some (sy, t) =>
      if len = 8 + ceilDiv t 8 ∧ v / 2 ^ t = 0 then some (pairBytes sy) else none

/-- The lines that hold the stored bytes of block `j` of view `v`, in stream order (R225). -/
def State.brineLines (s : State) (v j : Nat) : List Nat :=
  let b := j % 8
  let e := s.brineEntry (s.reg (mbdIndex b v)).toNat j
  (linesOf (bits e 32 30 * 64) (if bits e 0 2 = 0 then 4096 else if bits e 0 2 = 1 then bits e 16 13 else 0)).map
    (fun y => streamAddr (s.reg (mbdBase b v)).toNat b y)

/-- Decoded block `j` of view `v`; none where it is corrupt, which it also is where its index entry or an encoded line is
not read good (R219, R224 to R230; log entry 103). -/
def State.brineBlock (s : State) (v j : Nat) : Option Bytes :=
  let index := (s.reg (mbdIndex (j % 8) v)).toNat
  let e := s.brineEntry index j
  let len := bits e 16 13
  if s.unreadable (entryAddr index j) then none
  else
    let ls := s.brineLines v j
    if ls.any s.unreadable then none
    else match bits e 0 2 with
      | 2 => some (List.replicate 4096 (BitVec.ofNat 8 (bits e 8 8)))
      | 0 => some (ls.flatMap (fun l => s.readBytes l 64))
      | 1 => brineDecode ((ls.flatMap (fun l => s.readBytes l 64)).take len) len
      | _ => none

/-- The key of a block among those that its bridge keeps. -/
def keptKey (v j : Nat) : Nat := v * 2 ^ 26 + j

/-- The blocks that a bridge keeps, newest first. -/
def State.keptBlocks (s : State) (b : Nat) : List (Nat × Bytes) := s.brineKept.get (fun _ => []) b

/-- The bytes of block `j` of view `v` if its bridge keeps it decoded (R233). -/
def State.keptBlock (s : State) (v j : Nat) : Option Bytes :=
  ((s.keptBlocks (j % 8)).find? (fun e => decide (e.1 = keptKey v j))).map (fun e => e.2)

/-- Block `j` of view `v` as a read gets it: kept, or decoded now. -/
def State.brineData (s : State) (v j : Nat) : Option Bytes := (s.keptBlock v j).or (s.brineBlock v j)

/-- Why entry `i` of a bridge's index fails the scan (R227). -/
def scanEntryBad (e : Nat) : Bool :=
  let mode := bits e 0 2
  let len := bits e 16 13
  decide (mode = 3) || decide (bits e 2 6 ≠ 0) || decide (bits e 29 3 ≠ 0) || decide (bits e 62 2 ≠ 0) ||
  (match mode with
    | 0 => decide (len ≠ 4096) || decide (bits e 8 8 ≠ 0)
    | 1 => decide (len < 9) || decide (4096 < len) || decide (bits e 8 8 ≠ 0)
    | _ => decide (len ≠ 0) || decide (bits e 32 30 ≠ 0))

/-- Scan entries in order from entry `i`, `lastEnd` being the end of the last stored block: the first failing one. -/
def scanGo (stream lastEnd i : Nat) : List Nat → Option Nat
  | [] => none
  | e :: t =>
    let start := bits e 32 30 * 64
    let stored := decide (bits e 0 2 < 2)
    let stop := start + bits e 16 13
    if scanEntryBad e then some i
    else if stored && (decide (start < lastEnd) || decide (stream < stop)) then some i
    else scanGo stream (if stored then stop else lastEnd) (i + 1) t

/-- The block index at which the scan of a bridge fails, if it does (R227). An entry whose line is not read good has no
legal mode (log entry 103). -/
def State.scanView (s : State) (b : Nat) (x : BrineScan) : Option Nat :=
  (scanGo (x.blocks / 8 * 4096) 0 0 ((List.range (x.blocks / 8)).map (fun i =>
    let j := i * 8 + b
    if s.unreadable (entryAddr x.index j) then 3 else s.brineEntry x.index j))).map (fun i => i * 8 + b)

/-! ### Retired granules (R217, R218) -/

def channelInit : Channel := ⟨[]⟩

/-- The remap table of a channel. -/
def State.remaps (s : State) (ch : Nat) : List (Nat × Nat) := (s.channels.get (fun _ => channelInit) ch).retired

/-- The granule whose lines granule `g` of a channel holds: a spare holds those of the granule it has replaced. -/
def remapOrigin (g : Nat) : List (Nat × Nat) → Nat
  | [] => g
  | (old, i) :: t => if g = spareGranule + i then remapOrigin old t else remapOrigin g t

/-- The granule that holds the lines of granule `g` of a channel, given its remap table, oldest entry first. -/
def remapHolder (g : Nat) : List (Nat × Nat) → Nat
  | [] => g
  | (old, i) :: t => remapHolder (if g = old then spareGranule + i else g) t

/-- Memory is kept under the addresses that requests use. The lines of a spare granule in use are those of the granule it
has replaced, and it is under that granule's address that they are found. -/
def State.spareHome (s : State) (pa : Nat) : Nat :=
  if pa < granuleAddr 0 spareGranule 0 ∨ lpddrSize ≤ pa then pa
  else
    let ch := channelOf pa
    let g := channelOffset pa / 256
    let o := remapOrigin g (s.remaps ch)
    if o = g then pa else granuleAddr ch o (pa % 256)

/-- The lowest-numbered spare of a channel that is neither in use nor retired (log entry 104). -/
def State.freeSpare (s : State) (ch : Nat) : Option Nat :=
  let l := s.remaps ch
  (List.range 1024).find? (fun i => !(l.any (fun e => decide (e.2 = i) || decide (e.1 = spareGranule + i))))

/-! ### Reading for an engine -/

/-- A line is delivered poisoned: an LPDDR6 line by its own state, its channel's or its brine block's, a store line
by its words (R214, R219, R230, R517). -/
def State.linePoisoned (s : State) (a : Nat) : Bool :=
  match physArea a with
  | .lpddr =>
    let l := s.spareHome a
    match s.viewAt l with
    | some (v, j) => (s.brineData v j).isNone
    | none => s.unreadable l
  | _ => s.poisoned a 64

/-- A byte as an engine reads it: decoded where a brine view covers it (R224). -/
def State.fetchByte (s : State) (a : Nat) : Byte :=
  match physArea a with
  | .lpddr =>
    let a := s.spareHome a
    match s.viewAt a with
    | some (v, j) => ((s.brineData v j).getD []).getD (a % 4096) 0
    | none => s.readByte a
  | _ => s.readByte a

/-- `n` bytes as an engine reads them. -/
def State.fetch (s : State) (a n : Nat) : Bytes := (List.range n).map (fun i => s.fetchByte (a + i))

/-- An unsigned number of `n` bytes as an engine reads it. -/
def State.fetchNat (s : State) (a n : Nat) : Nat := leNat (s.fetch a n)

/-- Some line of the range is delivered poisoned. -/
def State.fetchPoisoned (s : State) (a n : Nat) : Bool := (linesOf a n).any s.linePoisoned

/-- Some line of the range lies in a channel that is out of service, and no brine view covers it (R219). -/
def State.fetchDead (s : State) (a n : Nat) : Bool :=
  (linesOf a n).any (fun x => match physArea x with
    | .lpddr => s.chanDead (channelOf (s.spareHome x)) && (s.viewAt (s.spareHome x)).isNone
    | _ => false)

/-- The code with which poisoned bytes are read: the channel's, a brine block's, or the poison word's (R214, R219, R230). -/
def State.readCode (s : State) (a n : Nat) : Nat :=
  match (linesOf a n).find? s.linePoisoned with
  | none => 0
  | some l =>
    match physArea l with
    | .lpddr => if s.fetchDead l 1 then 0x1806 else if (s.viewAt (s.spareHome l)).isSome then 0x1C06 else 0x1802
    | _ => 0x1802

/-- What the read of one store word counts and logs (R49, R517): a correctable error is counted and the corrected word
written back, so that a later read finds none; an uncorrectable word is counted, in core store logged with 0x0401. -/
def State.noteStoreWord (s : State) (w : Nat) : State :=
  match physArea w, s.badAt w with
  | .coreStore c _, .ce => (s.bump Reg.CORE_STORE_ECC_CORRECTED (instDelta c) 1).setBad w .ok
  | .coreStore c _, .ue => (s.bump Reg.CORE_STORE_ECC_UNCORRECTED (instDelta c) 1).raise (site 1 c) 0x0401 w
  | .routerStore j _, .ce => (s.bump Reg.ORT_STORE_ECC_CORRECTED (instDelta j) 1).setBad w .ok
  | .routerStore j _, .ue => s.bump Reg.ORT_STORE_ECC_UNCORRECTED (instDelta j) 1
  | _, _ => s

/-- What the read of a range of a store counts and logs. -/
def State.noteStoreRead (s : State) (a n : Nat) : State := (wordsOf a n).foldl State.noteStoreWord s

/-- A poisoned LPDDR6 line is counted and logged with 0x1802 where it is read (R214). -/
def State.noteLinePoison (s : State) (l : Nat) : State :=
  let ch := channelOf l
  (s.stat (Reg.MCH_STAT_POISON_READ + instDelta ch) 1).raise (chanSite ch) 0x1802 l

/-- Some word of [a, a + n) holds an error or poison. -/
def State.marked (s : State) (a n : Nat) : Bool := (wordsOf a n).any (fun w => decide (s.badAt w ≠ .ok))

/-! ### Retirement (R217, R218) -/

/-- Retire the granule that holds the lines of an address, or log that no spare is left: a free spare takes its four lines,
those that are uncorrectable as the poison word. The copy takes the entry of the retirement past the cycle of the read
(log entry 94). -/
def State.retire (s : State) (pa : Nat) : State :=
  let ch := channelOf pa
  let old := s.remaps ch
  match s.freeSpare ch with
  | none => s.raise (chanSite ch) 0x1805 pa
  | some i =>
    let l := (remapHolder (channelOffset pa / 256) old.reverse, i) :: old
    let s := { s with
      channels := s.channels.set (fun _ => channelInit) ch ⟨l⟩
      flash := { s.flash with retired := s.flash.retired.write (s.flash.retiredList.set (fun _ => []) ch l), writing := some (.retirement, s.tb) } }
    let s := (linesOf (pa / 256 * 256) 256).foldl (fun s x => if s.hasUe x 64 then s.setBadRange x 64 .poison else s) s
    let s := s.setFld Reg.MCH_STATE_SPARES_USED (instDelta ch) (old.length + 1)
    let s := s.stat (Reg.MCH_STAT_RETIRED + instDelta ch) 1
    (s.siteLater (chanSite ch)).raise (chanSite ch) 0x1804 pa

/-- What the ECC of a line read ends in (R214). -/
inductive LineOutcome where
  | good | poison | bad | dead
deriving DecidableEq, Repr

/-- The line becomes the poison word. -/
def State.poisonLine (s : State) (l : Nat) : State := s.setBadRange l 64 .poison

/-- A line read finds `nBad` bad bytes (R212 to R214): the outcome, and the state with its counts, its log entries, a
write-back and a retirement. A line known to be uncorrectable, for which no spare was left, stays so (R218). Five bad
bytes or more can lie within three bytes of the poison word, and more than the code covers can end in any outcome of the
table: which of them it is is free. -/
def State.lineEcc (s : State) (l nBad : Nat) : LineOutcome × State :=
  let ch := channelOf l
  let δ := instDelta ch
  let lim := s.fld Reg.MCH_ECC_CTRL_CORR_LIMIT δ
  let rb := s.fld Reg.MCH_ECC_CTRL_RETIRE_BYTES δ
  let uncorrectable := fun (s : State) =>
    let s := s.stat (Reg.MCH_STAT_UE + δ) 1
    let s := s.setReg (Reg.MCH_UE_ADDR + δ) (BitVec.ofNat 64 (l + 2 ^ 63))
    let s := s.raise (chanSite ch) 0x1801 l
    ((LineOutcome.bad, (s.setBadRange l 64 .ue).retire l) : LineOutcome × State)
  let poison := fun (s : State) => ((LineOutcome.poison, (s.poisonLine l).noteLinePoison l) : LineOutcome × State)
  let corrected := fun (s : State) (n : Nat) =>
    let s := (s.stat (Reg.MCH_STAT_CE_LINES + δ) 1).stat (Reg.MCH_STAT_CE_BYTES + δ) n
    ((LineOutcome.good, if rb ≠ 0 ∧ rb ≤ n then s.retire l else s) : LineOutcome × State)
  if s.chanDead ch then (.dead, s)
  else if s.hasUe l 64 && decide (nBad ≤ 3) then uncorrectable s
  else if s.poisoned l 64 && decide (nBad ≤ 3) then (.poison, s.noteLinePoison l)
  else if !s.poisoned l 64 && decide (nBad = 0) then (.good, s)
  else if !s.poisoned l 64 && decide (nBad ≤ lim) then corrected s nBad
  else if !s.poisoned l 64 && decide (nBad ≤ min 4 (8 - lim)) then uncorrectable s
  else
    let r := s.fresh
    let k := r.1.toNat % 4
    let changed := (r.2.setBadRange l 64 .ok).scratchArea l 64
    if k = 3 ∧ s.poisoned l 64 = false then poison r.2
    else if !s.poisoned l 64 && decide (nBad ≤ 8 - lim) then uncorrectable r.2
    else if k = 1 ∧ lim ≠ 0 then corrected changed (1 + r.1.toNat / 4 % lim)
    else if k = 2 then (.good, changed)
    else uncorrectable r.2

/-- What the read of one line of LPDDR6 by an engine counts and logs where the line is not good. -/
def State.noteLine (s : State) (l : Nat) : State := if s.poisoned l 64 then (s.lineEcc l 0).2 else s

/-- A line read sent to the bridge that decodes block `j` of view `v` (R224, R230, R233): the block's bytes, none where it is
corrupt, and the state with the block kept, its encoded lines read under ECC and the counts made. -/
def State.brineLine (s : State) (v j : Nat) : Option Bytes × State :=
  let b := j % 8
  match s.keptBlock v j with
  | some d => (some d, s.stat (Reg.MBD_STAT_BRINE_HITS + instDelta b) 1)
  | none =>
    let d := s.brineBlock v j
    let ls := entryAddr (s.reg (mbdIndex b v)).toNat j / 64 * 64 :: s.brineLines v j
    let s := (ls.foldl State.noteLine s).stat (Reg.MBD_STAT_BRINE_BLOCKS + instDelta b) 1
    match d with
    | none => (none, (s.stat (Reg.MBD_STAT_BRINE_CORRUPT + instDelta b) 1).raise (bridgeSite b) 0x1C06 j)
    | some x =>
      (some x, { s with brineKept := s.brineKept.set (fun _ => []) b (((keptKey v j, x) :: s.keptBlocks b).take 256) })

/-- What an engine's read of a range counts and logs. -/
def State.noteFetch (s : State) (a n : Nat) : State :=
  match physArea a with
  | .lpddr => (linesOf a n).foldl (fun s x =>
      let l := s.spareHome x
      match s.viewAt l with
      | some (v, j) => (s.brineLine v j).2
      | none => s.noteLine l) s
  | _ => s.noteStoreRead a n

/-- The read of a range leaves no trace: no word of it is marked and no brine view covers it. -/
def State.readSilent (s : State) (a n : Nat) : Bool :=
  !s.marked a n && !s.fetchPoisoned a n && !(linesOf a n).any (fun l => (s.viewAt l).isSome)

/-- What an engine's reads of some ranges count and log. -/
def State.noteReads (s : State) (rs : List (Nat × Nat)) : State :=
  (rs.filter (fun r => !s.readSilent r.1 r.2)).foldl (fun s r => s.noteFetch r.1 r.2) s

/-- The code with which a line read or a merge completes towards its requester. -/
def LineOutcome.code : LineOutcome → Nat
  | .good => 0 | .poison => 0x1802 | .bad => 0x1801 | .dead => 0x1806

/-- The access is to a reserved area by a requester that may not make it (R209). -/
def reservedRefused (pa n : Nat) (mc : Bool) : Bool :=
  !mc && decide (generalSize < pa + n) && decide (pa < lpddrSize)

/-- A line read by a requester (R214): the answer goes out with its code. -/
def State.lineRead (s : State) (pa nBad : Nat) (mc : Bool) : State :=
  let l := pa / 64 * 64
  if reservedRefused l 64 mc then (s.raise (bridgeSite (bridgeOf (channelOf l))) 0x1C01 pa).emit (.lineData l [] 0x1C01)
  else
    let r := s.lineEcc (s.spareHome l) nBad
    match r.1 with
    | .good => r.2.emit (.lineData l (r.2.readBytes (s.spareHome l) 64) 0)
    | o => r.2.emit (.lineData l [] o.code)

/-- A line write or merge inside one line (R206, R213, R215): its code and the state. -/
def State.lineWrite (s : State) (at_ : Nat) (bs : Bytes) (poison : Bool) (nBad : Nat) (mc : Bool) : Nat × State :=
  let pa := s.spareHome at_
  let l := pa / 64 * 64
  let b := bridgeSite (bridgeOf (channelOf l))
  if bs.isEmpty then (0, s)
  else if reservedRefused at_ bs.length mc then (0x1C01, s.raise b 0x1C01 pa)
  else if s.chanDead (channelOf l) then (0x1806, s)
  else if s.touchesView pa bs.length then (0x1C04, s.raise b 0x1C04 pa)
  else if 64 ≤ bs.length then
    (0, if poison then s.poisonLine l else (s.writeBytes pa bs).setBadRange l 64 .ok)
  else
    let r := s.lineEcc l nBad
    match r.1 with
    | .good => (0, if poison then r.2.poisonLine l else r.2.writeBytes pa bs)
    | .dead => (0x1806, r.2)
    | _ => (0x1803, r.2.raise (chanSite (channelOf l)) 0x1803 pa)

/-- Split a byte string into the parts that lie in one line each: (address, bytes). -/
def lineParts (a : Nat) (bs : Bytes) : List (Nat × Bytes) :=
  (linesOf a bs.length).map (fun l =>
    let lo := max l a
    let hi := min (l + 64) (a + bs.length)
    (lo, (bs.drop (lo - a)).take (hi - lo)))

/-- The first code that is not zero. -/
def firstNonzero (a b : Nat) : Nat := if a ≠ 0 then a else b

/-- A store to LPDDR6, line by line; the first refusing code. -/
def State.lpStore (s : State) (a : Nat) (bs : Bytes) (poison mc : Bool) : Nat × State :=
  (lineParts a bs).foldl (fun acc p =>
    let r := acc.2.lineWrite p.1 p.2 poison 0 mc
    (firstNonzero acc.1 r.1, r.2)) (0, s)

/-- A store to any physical address below the CSR window: its refusing code, 0 for none, and the state (R16, R31, R214,
R517). -/
def State.physStore (s : State) (a : Nat) (bs : Bytes) (poison : Bool := false) (mc : Bool := false) : Nat × State :=
  let c := s.physCode a
  if c ≠ 0 then (c, s.decodeRefused c a)
  else match physArea a with
    | .lpddr => s.lpStore a bs poison mc
    | .unmapped => (0x0005, s.decodeRefused 0x0005 a)
    | .csrWindow _ => (0x0005, s.decodeRefused 0x0005 a)
    | _ => (0, s.storeBytes a bs poison)

/-- Store and ignore the answer. -/
def State.put (s : State) (a : Nat) (bs : Bytes) (poison : Bool := false) : State := (s.physStore a bs poison).2

/-- A patrol scrub read of one line (R216). -/
def State.patrolScrub (s : State) (pa nBad : Nat) : State :=
  let l := pa / 64 * 64
  let ch := channelOf l
  if s.fld Reg.MBD_CTRL_SCRUB_HOURS (instDelta (bridgeOf ch)) = 0 then s
  else
    let r := s.lineEcc (s.spareHome l) nBad
    r.2.stat (Reg.MCH_STAT_SCRUB_LINES + instDelta ch) 1

/-- A channel stops answering or fails training (R219). -/
def State.channelDead (s : State) (ch : Nat) : State :=
  let s := s.setFld Reg.MCH_STATE_DEAD (instDelta ch) 1
  let s := s.setFld Reg.MCH_STATE_TRAINED (instDelta ch) 0
  s.raise (chanSite ch) 0x1806

/-! ### Near-memory operations (R220 to R222, R528) -/

/-- The element width of an operation. -/
def nmWidth (op : Nat) : Nat := if op = 1 ∨ op = 6 ∨ op = 7 then 4 else 8

/-- A 64-bit value as a signed number. -/
def signed64 (v : Nat) : Int := (BitVec.ofNat 64 v).toInt

/-- The new value of an element: operation, old value, operand, compare value (R220). -/
def nmResult (op v x cmp : Nat) : Nat :=
  match op with
  | 0 => (v + x) % 2 ^ 64
  | 1 => (f32Of (fpAddVal (f32Val (BitVec.ofNat 32 v)) (f32Val (BitVec.ofNat 32 x)))).toNat
  | 2 => if signed64 x < signed64 v then x else v
  | 3 => if signed64 v < signed64 x then x else v
  | 4 => min v x
  | 5 => max v x
  | 6 => (f32Min (BitVec.ofNat 32 v) (BitVec.ofNat 32 x)).toNat
  | 7 => (f32Max (BitVec.ofNat 32 v) (BitVec.ofNat 32 x)).toNat
  | 8 => v &&& x
  | 9 => v ||| x
  | 10 => v ^^^ x
  | 11 => x
  | _ => if v = cmp then x else v

/-- A near-memory request is illegal in operation, form, width or alignment (R220). -/
def nmIllegal (op : Nat) (reduce : Bool) (pa width : Nat) : Bool :=
  decide (12 < op) || (reduce && decide (10 < op)) || (reduce && !aligned pa 64) ||
  (!reduce && (decide (width ≠ nmWidth op) || !aligned pa width))

/-- The checks of a near-memory request at a bridge, in the order of R220. -/
def State.nmCode (s : State) (op : Nat) (reduce : Bool) (pa width : Nat) (strict mc : Bool) : Option Nat :=
  firstCode [
    (reservedRefused pa width mc, 0x1C01),
    (decide (s.fld Reg.MBD_CTRL_NM_ENABLE (instDelta (bridgeOf (channelOf pa))) = 0), 0x1C07),
    (nmIllegal op reduce pa width, 0x1C03),
    (s.touchesView pa width, 0x1C04),
    (strict && decide (op = 1), 0x1C02)]

/-- The line after a reduce: every element combined with the operand's (R220). -/
def reduceLine (op : Nat) (old data : Bytes) : Bytes :=
  let w := nmWidth op
  (List.range (64 / w)).flatMap (fun i =>
    leBytes w (nmResult op (leNat ((old.drop (i * w)).take w)) (leNat ((data.drop (i * w)).take w)) 0))

/-- A near-memory atomic (R220): code, old value, state. -/
def State.nmAtomic (s : State) (op pa width x cmp : Nat) (strict : Bool) (nBad : Nat) : Nat × Nat × State :=
  let ch := channelOf pa
  let b := bridgeOf ch
  match s.nmCode op false pa width strict false with
  | some c => (c, 0, (s.stat (Reg.MBD_STAT_NM_REFUSED + instDelta b) 1).raise (bridgeSite b) c pa)
  | none =>
    let r := s.lineEcc (pa / 64 * 64) nBad
    match r.1 with
    | .good =>
      let old := r.2.readNat pa width
      (0, old, (r.2.writeBytes pa (leBytes width (nmResult op old x cmp))).stat (Reg.MCH_STAT_NM_OPS + instDelta ch) 1)
    | .dead => (0x1806, 0, r.2)
    | _ => (0x1803, 0, (r.2.stat (Reg.MBD_STAT_NM_REFUSED + instDelta b) 1).raise (chanSite ch) 0x1803 pa)

/-- A near-memory reduce on one line (R220): code, state. -/
def State.nmReduce (s : State) (op pa : Nat) (data : Bytes) (strict : Bool) (nBad : Nat) : Nat × State :=
  let ch := channelOf pa
  let b := bridgeOf ch
  match s.nmCode op true pa 64 strict false with
  | some c => (c, (s.stat (Reg.MBD_STAT_NM_REFUSED + instDelta b) 1).raise (bridgeSite b) c pa)
  | none =>
    let r := s.lineEcc pa nBad
    match r.1 with
    | .good => (0, (r.2.writeBytes pa (reduceLine op (r.2.readBytes pa 64) data)).stat
        (Reg.MCH_STAT_NM_OPS + instDelta ch) 1)
    | .dead => (0x1806, r.2)
    | _ => (0x1803, (r.2.stat (Reg.MBD_STAT_NM_REFUSED + instDelta b) 1).raise (chanSite ch) 0x1803 pa)

/-- The checks of an atomic or reduce at a core store (R528). -/
def State.coreNmCode (op : Nat) (reduce : Bool) (pa width : Nat) (strict : Bool) : Option Nat :=
  firstCode [(nmIllegal op reduce pa width, 0x1C03), (strict && decide (op = 1), 0x1C02)]

/-- The site of the codes of a core-store atomic: they are MBRIDGE codes raised by the core (R528). -/
def coreSite (c : Nat) : Site := site 1 c

/-- An atomic at a core store (R528): code, old value, state. -/
def State.coreAtomic (s : State) (op pa width x cmp : Nat) (strict : Bool) : Nat × Nat × State :=
  match physArea pa with
  | .coreStore c _ =>
    if s.physCode pa ≠ 0 then (s.physCode pa, 0, s.decodeRefused (s.physCode pa) pa)
    else match State.coreNmCode op false pa width strict with
      | some k => (k, 0, s.raise (coreSite c) k pa)
      | none =>
        if s.poisoned pa width then (0x1803, 0, (s.noteStoreRead pa width).raise (coreSite c) 0x1803 pa)
        else
          let old := s.readNat pa width
          (0, old, (s.noteStoreRead pa width).storeBytes pa (leBytes width (nmResult op old x cmp)))
  | _ => (0x1C03, 0, s)

/-- A reduce at a core store (R528): code, state. -/
def State.coreReduce (s : State) (op pa : Nat) (data : Bytes) (strict : Bool) : Nat × State :=
  match physArea pa with
  | .coreStore c _ =>
    if s.physCode pa ≠ 0 then (s.physCode pa, s.decodeRefused (s.physCode pa) pa)
    else match State.coreNmCode op true pa 64 strict with
      | some k => (k, s.raise (coreSite c) k pa)
      | none =>
        if s.poisoned pa 64 then (0x1803, (s.noteStoreRead pa 64).raise (coreSite c) 0x1803 pa)
        else (0, (s.noteStoreRead pa 64).storeBytes pa (reduceLine op (s.readBytes pa 64) data))
  | _ => (0x1C03, s)

/-- An atomic wherever its target lies (R220, R528). -/
def State.atomicAt (s : State) (op pa width x cmp : Nat) (strict : Bool) : Nat × Nat × State :=
  match physArea pa with
  | .lpddr => s.nmAtomic op pa width x cmp strict 0
  | .coreStore _ _ => s.coreAtomic op pa width x cmp strict
  | _ => (0x0005, 0, s.decodeRefused 0x0005 pa)

/-- A reduce of whole lines wherever its target lies: the first code and the state (R220, R528). -/
def State.reduceAt (s : State) (op pa : Nat) (data : Bytes) (strict : Bool) : Nat × State :=
  (List.range (data.length / 64)).foldl (fun acc i =>
    let d := (data.drop (64 * i)).take 64
    let r := match physArea (pa + 64 * i) with
      | .lpddr => acc.2.nmReduce op (pa + 64 * i) d strict 0
      | .coreStore _ _ => acc.2.coreReduce op (pa + 64 * i) d strict
      | _ => (0x0005, acc.2.decodeRefused 0x0005 (pa + 64 * i))
    (firstNonzero acc.1 r.1, r.2)) (0, s)

/-! ### Brine reads, commits and scans -/

/-- A read of a view address by a requester: decoded once, kept, counted (R224, R230, R233). -/
def State.brineRead (s : State) (pa : Nat) : State :=
  let l := pa / 64 * 64
  match s.viewAt l with
  | none => s
  | some (v, j) =>
    let r := s.brineLine v j
    r.2.emit (match r.1 with
      | none => .lineData l [] 0x1C06
      | some d => .lineData l ((d.drop (l % 4096)).take 64) 0)

/-- The fields of a view or its ranges are illegal (R223). -/
def State.viewRangeBad (s : State) (b v : Nat) (x : BrineScan) : Bool :=
  !aligned x.base 32768 || !aligned x.index 32768 || !aligned x.blocks 8 || decide (67108864 < x.blocks) ||
  (decide (x.blocks ≠ 0) && (
   !inLpddr x.base (x.blocks * 4096) || !inLpddr x.index (indexBytes x.blocks) ||
   rangesOverlap x.base (x.blocks * 4096) x.index (indexBytes x.blocks) ||
   (List.range 64).any (fun u => decide (u ≠ v) && s.viewOn b u &&
     [(x.base, x.blocks * 4096), (x.index, indexBytes x.blocks)].any (fun r =>
       rangesOverlap r.1 r.2 (s.reg (mbdBase b u)).toNat ((s.reg (mbdBlocks b u)).toNat * 4096) ||
       rangesOverlap r.1 r.2 (s.reg (mbdIndex b u)).toNat (indexBytes (s.reg (mbdBlocks b u)).toNat)))))

/-- Set the on bit of a view in a bridge. -/
def State.setViewOn (s : State) (b v : Nat) (on : Bool) : State :=
  let a := Reg.MBD_BRINE_STATUS + instDelta b
  s.setReg a (BitVec.ofNat 64 (setBits (s.reg a).toNat v 1 (b2n on)))

/-- Bridge `b` no longer keeps the decoded blocks of view `v`: what they were decoded from is no longer the view (R233). -/
def State.dropKept (s : State) (b v : Nat) : State :=
  { s with brineKept := s.brineKept.set (fun _ => []) b ((s.keptBlocks b).filter (fun e => decide (e.1 / 2 ^ 26 ≠ v))) }

/-- The commit of a view's registers is applied in bridge `b` (R223, R227, R232): off at once, or its scan begins. The
answer is the refusing code, 0 for none. -/
def State.viewApply (s : State) (b v : Nat) : Nat × State :=
  let x : BrineScan := ⟨(s.stagedReg (mbdBase b v)).toNat, (s.stagedReg (mbdBlocks b v)).toNat,
    (s.stagedReg (mbdIndex b v)).toNat, 0, false⟩
  if s.viewRangeBad b v x then (0x1C08, s.raise (bridgeSite b) 0x1C08 v)
  else if x.blocks = 0 then
    let s := ((s.applyStaged (mbdBase b v)).applyStaged (mbdBlocks b v)).applyStaged (mbdIndex b v)
    (0, (s.dropKept b v).setViewOn b v false)
  else (0, { s with brineScans := SMap.insert s.brineScans (b * 64 + v) x })

/-- SCH_COMMIT_STATUS of an instance: PENDING moves, and a refusing code is recorded (R382). -/
def State.noteCommit (s : State) (via code : Nat) (atStep : Bool) : State :=
  let δ := instDelta via
  if !s.coreOn then s else
  let s := if atStep then s.setFld Reg.SCH_COMMIT_STATUS_PENDING δ (s.fld Reg.SCH_COMMIT_STATUS_PENDING δ - 1) else s
  if code = 0 then s.stat (Reg.SCH_STAT_COMMITS + δ) 1 else s.setFld Reg.SCH_COMMIT_STATUS_CODE δ code

/-- The scan of a view ends in a bridge, the safe point of its commit (R227, R232): the view is on with the scanned fields, or
the commit is refused, with 0x1C08 where another view has come on in its way meanwhile (R223). -/
def State.scanDone (s : State) (b v : Nat) : State :=
  match SMap.find? s.brineScans (b * 64 + v) with
  | none => s
  | some x =>
    let s := { s with brineScans := SMap.erase s.brineScans (b * 64 + v) }
    let refuse := fun (s : State) (code detail : Nat) =>
      (s.raise (bridgeSite b) code detail).noteCommit x.via code x.atStep
    if s.viewRangeBad b v x then refuse s 0x1C08 v
    else match s.scanView b x with
    | some j => refuse ((List.range (x.blocks / 8)).foldl (fun s i => s.noteLine (entryAddr x.index (i * 8 + b) / 64 * 64)) s) 0x1C05 j
    | none =>
      let s := s.setReg (mbdBase b v) (BitVec.ofNat 64 x.base)
      let s := s.setReg (mbdBlocks b v) (BitVec.ofNat 64 x.blocks)
      let s := s.setReg (mbdIndex b v) (BitVec.ofNat 64 x.index)
      ((s.dropKept b v).setViewOn b v true).noteCommit x.via 0 x.atStep

end Sys2Proof.Machine
end

