-- ==== Sys2Proof/Machine/Router.lean ====
section
/-! DEFINITION. The Octine routers (R40 to R78): acceptance of ROUTE and RECALL, score intake, candidate lists,
matching, publication and the end of a window. -/

namespace Sys2Proof.Machine

/-! ### State access -/

def routerInit : Router := ⟨none, none, []⟩

/-- Router `j`. -/
def State.router (s : State) (j : Nat) : Router := s.routers.get (fun _ => routerInit) j

/-- Set router `j`. -/
def State.setRouter (s : State) (j : Nat) (r : Router) : State :=
  { s with routers := s.routers.set (fun _ => routerInit) j r }

/-- Set the window of router `j`, keeping its phase. -/
def State.setWin (s : State) (j : Nat) (w : Window) : State := s.setRouter j { s.router j with win := some w }

/-- The code of a phase in ORT_STATUS.PHASE. -/
def WinPhase.code : WinPhase → Nat
  | .load => 1 | .select => 2 | .matching => 3 | .wait => 4 | .publish => 5

/-- Move router `j` to a phase and show it with the round in ORT_STATUS (R42); ROUND is 0 outside the match phase. -/
def State.setPhase (s : State) (j : Nat) (p : WinPhase) (round : Nat) : State :=
  let s := s.setRouter j { s.router j with phase := some p }
  (s.setFld Reg.ORT_STATUS_PHASE (instDelta j) p.code).setFld Reg.ORT_STATUS_ROUND (instDelta j) round

/-- The site of router `j`. -/
def routerSite (j : Nat) : Site := site 5 j

/-- The routers of a mask, ascending (R70). -/
def maskRouters (m : Nat) : List Nat := setBitsOf m 4

/-! ### The command -/

/-- Read a router command from its descriptor (R76). -/
def routerCmdOf (d : Desc) : RouterCmd :=
  let f := descFld d
  let isRec := decide (f 0 0 8 = 2)
  let q := f 0x08 0 13
  let g := popCount (f 0 8 4) 4
  { isRecall := isRec
    mask := f 0 8 4
    tag := f 0 16 16
    candidates := f 0 32 6
    seats := f 0 38 5
    rounds := f 0 43 5
    push := decide (f 0 48 1 = 1)
    bf16 := decide (f 0 49 1 = 1)
    biasEn := !isRec && decide (f 0 50 1 = 1)
    tokens := if isRec then q / g else f 0x08 0 17
    experts := if isRec then f 0x20 0 33 else f 0x08 32 15
    windowCycles := f 0x10 0 48
    logitBase := f 0x18 0 48
    logitStride := f 0x20 0 32
    biasBase := f 0x28 0 48
    qtOffset := f 0x30 0 23
    seatOut := f 0x38 0 48
    heldOut := f 0x40 0 48
    summaryOut := f 0x48 0 48
    workOffset := f 0x50 0 23
    completion := f 0x58 0 14
    queries := q
    topk := f 0x08 32 11
    candBase := f 0x18 0 32 }

/-- The defined bits of a ROUTE descriptor, word by word (R76). -/
def routeMasks : List Nat :=
  [0x0007FFFFFFFF0FFF, 0x00007FFF0001FFFF, maskOf 0 48, maskOf 0 48, maskOf 0 32, maskOf 0 48, maskOf 0 23,
   maskOf 0 48, maskOf 0 48, maskOf 0 48, maskOf 0 23, maskOf 0 14]

/-- The defined bits of a RECALL descriptor, word by word (R76). -/
def recallMasks : List Nat :=
  [0x00030000FFFF0FFF, 0x000007FF00001FFF, maskOf 0 48, maskOf 0 32, maskOf 0 33, 0, 0,
   maskOf 0 48, maskOf 0 48, maskOf 0 48, maskOf 0 23, maskOf 0 14]

/-- Bytes of one score in memory (R51). -/
def scoreSize (c : RouterCmd) : Nat := if c.bf16 then 2 else 4

/-! ### Window length and footprint -/

def tLoad (e : Nat) : Nat := 256 + ceilDiv e 8
def tSelect (n e : Nat) : Nat := n * ceilDiv e 128 + 64
def tRound (n k : Nat) : Nat := ceilDiv (n * k) 16 + 48
def tPublish (n k q e : Nat) : Nat := ceilDiv (8 * n * k + 4 * q + 8 * e + 64) 256 + 128

/-- The minimum length of a ROUTE window (R68). -/
def routeMinCycles (n e k p q : Nat) : Nat := tLoad e + tSelect n e + p * tRound n k + tPublish n k q e

/-- Scores consumed per CCLK cycle in recall, by top-k (R72). -/
def recallRate (kr : Nat) : Nat := if kr ≤ 128 then 128 else if kr ≤ 512 then 64 else 32

/-- The minimum length of a RECALL window (R75). -/
def recallMinCycles (qg kr cand : Nat) : Nat :=
  256 + qg * ceilDiv cand 128 * (128 / recallRate kr) + ceilDiv (8 * qg * kr + 4 * qg + 64) 256 + 128

/-- The working area of a ROUTE command in bytes (R49). -/
def routeWorkBytes (n e k q : Nat) : Nat := 8 * n * k + 16 * n + 16 * e + 4 * q

/-- The working area of a RECALL command on one router (R49). -/
def recallWorkBytes (qg kr : Nat) : Nat := 8 * qg * kr + 16 * qg

/-- A working area and a quota table keep R50. -/
def footprintOk (work workLen qt qtLen : Nat) : Bool :=
  aligned work 64 && aligned qt 64 && decide (work + workLen ≤ 0x7C0000) && decide (qt + qtLen ≤ 0x7C0000) &&
  !rangesOverlap work workLen qt qtLen

/-! ### The quota table -/

/-- Quota table entry `e` at a router-store address (R60). -/
def State.quotaEntry (s : State) (base e : Nat) : QuotaEntry :=
  let v := s.readNat (base + 64 + 8 * e) 8
  ⟨bits v 0 12, bit v 12, bits v 16 24, bits v 40 21⟩

/-- Why a quota table is refused with 0x1408, the checks that need an uncorrectable word left out (R49, R60). -/
def State.quotaInvalid (s : State) (base e : Nat) : Bool :=
  let hdr := fun off => s.hasUe (base + off) 1
  let ent := fun i => s.hasUe (base + 64 + 8 * i) 8
  let raw := fun i => s.readNat (base + 64 + 8 * i) 8
  let es := List.range e
  let total := s.readNat (base + 0x0C) 4
  let anyEnt := es.any ent
  (!hdr 0 && (decide (s.readNat base 4 ≠ 0x4F515401) || decide (s.readNat (base + 4) 2 ≠ 1) ||
    decide (s.readNat (base + 6) 2 ≠ 0)))
  || (!hdr 8 && (decide (s.readNat (base + 8) 4 ≠ e) || decide (total > 1048576)))
  || (!hdr 8 && !anyEnt && decide (total ≠ (es.map (fun i => (s.quotaEntry base i).quota)).sum))
  || [0x18, 0x20, 0x28, 0x30, 0x38].any (fun o => !hdr o && decide (s.readNat (base + o) 8 ≠ 0))
  || es.any (fun i => !ent i && (decide (bits (raw i) 13 3 ≠ 0) || decide (bits (raw i) 61 3 ≠ 0) ||
        ((s.quotaEntry base i).exclude && decide (0 < (s.quotaEntry base i).quota)) ||
        (if i = 0 then decide ((s.quotaEntry base 0).slotBase ≠ 0)
         else !ent (i - 1) && decide ((s.quotaEntry base i).slotBase ≠
           (s.quotaEntry base (i - 1)).slotBase + (s.quotaEntry base (i - 1)).quota))))

/-! ### Acceptance -/

/-- The failed checks of address ranges: (address, length) outside LPDDR6 and enabled core store or misaligned. -/
def State.rangeBad (s : State) (rs : List (Nat × Nat)) : Bool :=
  rs.any (fun r => !aligned r.1 64 || !(s.inLpOrCore r.1 r.2 || s.inDisabledCore r.1 r.2))

/-- A range lies in the window of a disabled core. -/
def State.rangeDisabled (s : State) (rs : List (Nat × Nat)) : Bool := rs.any (fun r => s.inDisabledCore r.1 r.2)

/-- Two of the ranges overlap (R123). -/
def anyOverlap : List (Nat × Nat) → Bool
  | [] => false
  | r :: t => t.any (fun q => rangesOverlap r.1 r.2 q.1 q.2) || anyOverlap t

/-- The first failing acceptance check of a ROUTE descriptor at router `j` (R76). Pulled score rows are one extent, from
the first row to the end of the last: rows that lie in more than one core window are refused with 0x1407 (log entry 97).
Where the word that holds TOTAL_SLOTS is uncorrectable, the checks that need Q leave the held-slot area out and take the
working area without its Q entries (R49; log entry 98). -/
def State.routeCode (s : State) (j : Nat) (d : Desc) (busy : Bool) : Option Nat :=
  let c := routerCmdOf d
  let qt := routerAddr j c.qtOffset
  let qKnown := !s.hasUe (qt + 8) 8
  let q := if qKnown then s.readNat (qt + 0x0C) 4 else 0
  let n := c.tokens
  let e := c.experts
  let ins := (if c.push then [] else [(c.logitBase, (n - 1) * c.logitStride + e * scoreSize c)]) ++
    (if c.biasEn then [(c.biasBase, 4 * e)] else [])
  let outs := [(c.seatOut, 8 * n * c.seats), (c.summaryOut, 64 + 8 * e), (c.heldOut, 4 * q)]
  firstCode [
    (!reservedClear d routeMasks 16, 0x1413),
    (decide (c.candidates = 0) || decide (c.seats = 0) || decide (c.rounds = 0) || decide (n = 0) || decide (e = 0)
      || decide (c.windowCycles = 0), 0x1402),
    (decide (c.candidates > 32) || decide (c.candidates > e) || decide (c.seats > 16) ||
      decide (c.seats > c.candidates) || decide (c.rounds > 16) || decide (n > 65536) || decide (e > 16384), 0x1403),
    (decide (c.mask ≠ 2 ^ j), 0x1406),
    (s.rangeBad (ins ++ outs) ||
      (!c.push && (!aligned c.logitStride 64 || decide (c.logitStride < e * scoreSize c))), 0x1407),
    (s.rangeDisabled (ins ++ outs), 0x0003),
    (anyOverlap outs, 0x1419),
    (!footprintOk c.workOffset (routeWorkBytes n e c.candidates q) c.qtOffset (64 + 8 * e), 0x1404),
    (s.quotaInvalid qt e, 0x1408),
    (qKnown && decide (c.windowCycles < routeMinCycles n e c.seats c.rounds q), 0x1405),
    (decide (s.fld Reg.ORT_CTRL_ENABLE (instDelta j) = 0), 0x140A),
    (busy, 0x1409)]

/-- The first failing acceptance check of a RECALL descriptor (R70 to R76). A mask that R70 does not permit names no group: for
the check of QUERIES, which comes before that of the mask, g is the number of its routers, and no check is made for mask 0
(DESIGN CHOICE, log entry 140). -/
def State.recallCode (s : State) (d : Desc) (busy : Bool) : Option Nat :=
  let c := routerCmdOf d
  let g := popCount c.mask 4
  let outs := [(c.seatOut, 8 * c.queries * c.topk), (c.heldOut, 4 * c.queries), (c.summaryOut, 64 * g)]
  firstCode [
    (!reservedClear d recallMasks 16, 0x1413),
    (decide (c.queries = 0) || decide (c.topk = 0) || decide (c.experts = 0) || decide (c.windowCycles = 0), 0x1402),
    (decide (c.queries > 4096) || decide (c.topk > 1024) || decide (c.experts > 2 ^ 32) || !c.push ||
      (decide (g ≠ 0) && decide (c.queries % g ≠ 0)), 0x1403),
    (!([1, 2, 4, 8, 3, 12, 15].contains c.mask), 0x1406),
    (decide (c.candBase + c.experts > 2 ^ 32), 0x1412),
    (s.rangeBad outs, 0x1407),
    (s.rangeDisabled outs, 0x0003),
    (anyOverlap outs, 0x1419),
    (!(aligned c.workOffset 64 && decide (c.workOffset + recallWorkBytes c.tokens c.topk ≤ 0x7C0000)), 0x1404),
    (decide (c.windowCycles < recallMinCycles c.tokens c.topk c.experts), 0x1405),
    ((maskRouters c.mask).any (fun j => decide (s.fld Reg.ORT_CTRL_ENABLE (instDelta j) = 0)), 0x140A),
    (busy, 0x1409)]

/-- Router `j` runs a window. -/
def State.routerBusy (s : State) (j : Nat) : Bool := (s.router j).win.isSome

/-- The first failing acceptance check of a command at router `j`, an unknown opcode first (R76). -/
def State.routerCode (s : State) (j : Nat) (d : Desc) (lost : Bool) : Option Nat :=
  match descFld d 0 0 8 with
  | 1 => s.routeCode j d (lost || s.routerBusy j)
  | 2 => s.recallCode d (lost || (maskRouters (descFld d 0 8 4)).any s.routerBusy)
  | _ => some 0x1401

/-- A fresh window of a command. -/
def newWindow (c : RouterCmd) (ctx step now pos : Nat) : Window :=
  { cmd := c, context := ctx, step := step, start := now, pos := pos, table := [], tableId := 0, bias := [],
    biasBad := [], scores := [], lists := [], nextRank := [], freeSeats := [], held := [], lostAt := [],
    proposals := 0, rejected := 0, displaced := 0, nan := 0, missing := 0, round := 0, lastRound := 0,
    fault := false, nanLimit := 0, lateLogged := false, dupLogged := false, poisonLogged := false }

/-- The step counter of the partition of a core's context. -/
def State.coreStep (s : State) (core : Nat) : Nat :=
  (s.reg (Reg.SCH_PART_STEP + instDelta (s.ctxPartition (s.coreContext core)))).toNat

/-- Q, the total of the quotas. -/
def Window.totalSlots (w : Window) : Nat := (w.table.map (fun x => x.quota)).sum

/-- The length of the working area of a window (R49). -/
def Window.workBytes (w : Window) : Nat :=
  let c := w.cmd
  if c.isRecall then recallWorkBytes c.tokens c.topk
  else routeWorkBytes c.tokens c.experts c.candidates w.totalSlots

/-- Start a window on one router (R41): ORT_CTRL is sampled (R77), and the working area holds nothing that has a meaning
until the router is done with it (R48; log entry 20). -/
def State.startWindow (s : State) (j : Nat) (w : Window) : State :=
  let w := { w with nanLimit := s.fld Reg.ORT_CTRL_NAN_LOG_LIMIT (instDelta j) }
  let s := s.setRouter j { s.router j with win := some w, phase := some .load }
  let s := s.scratchArea (routerAddr j w.cmd.workOffset) w.workBytes
  let δ := instDelta j
  let s := s.setReg (Reg.ORT_STATUS + δ) (BitVec.ofNat 64 (1 + 1 * 2 + w.cmd.tag * 2 ^ 16 + w.cmd.mask * 2 ^ 32))
  s.setReg (Reg.ORT_WINDOW_START + δ) (BitVec.ofNat 64 s.tb)

/-- A ROUTE window starts: the quota table is read as it stands, and an uncorrectable word of it makes the window end in
a fault publication, whose QUOTA and DEST_RANK are then the bits as stored (R48, R49; log entry 98). -/
def State.startRoute (s : State) (j core : Nat) (c : RouterCmd) : State :=
  let qt := routerAddr j c.qtOffset
  let w := newWindow c (s.coreContext core) (s.coreStep core) s.tb 0
  let w := { w with
    table := (List.range c.experts).map (s.quotaEntry qt)
    tableId := s.readNat (qt + 0x10) 8
    fault := s.hasUe qt (64 + 8 * c.experts) }
  (s.noteFetch qt (64 + 8 * c.experts)).startWindow j w

/-- A RECALL window starts on every router of its group (R70). -/
def State.startRecall (s : State) (core : Nat) (c : RouterCmd) : State :=
  let rs := maskRouters c.mask
  ((List.range rs.length).zip rs).foldl (fun s p =>
    s.startWindow p.2 (newWindow c (s.coreContext core) (s.coreStep core) s.tb p.1)) s

/-- What a ROUTE that is refused has read of its quota table (R49, R76): nothing where a check above 0x1407 fails, the word that
holds TOTAL_SLOTS for the checks that need Q, the whole table from the check of 0x1408 on. -/
def State.noteQuotaRead (s : State) (j : Nat) (d : Desc) (code : Nat) : State :=
  let c := routerCmdOf d
  let qt := routerAddr j c.qtOffset
  if [0x1401, 0x1413, 0x1402, 0x1403, 0x1406].contains code then s
  else if [0x1407, 0x0003, 0x1419, 0x1404].contains code then s.noteFetch (qt + 8) 8
  else s.noteFetch qt (64 + 8 * c.experts)

/-- A command that has reached router `j` is refused on its completion counter with a code or starts its window (R45, R76). What
its acceptance reads of the quota table is corrected and counted either way (R49). -/
def State.routerAnswer (s : State) (j core : Nat) (d : Desc) (code : Option Nat) : State :=
  match code with
  | some code =>
    let s := if descFld d 0 0 8 = 1 then s.noteQuotaRead j d code else s
    let s := (s.raise (routerSite j) code).stat (Reg.ORT_STAT_REFUSED + instDelta j) 1
    s.complete (descFld d 0x58 0 14) code
  | none =>
    let c := routerCmdOf d
    if c.isRecall then s.startRecall core c else s.startRoute j core c

/-- A command reaches router `j` alone in its cycle. -/
def State.routerAccept (s : State) (j core : Nat) (d : Desc) : State :=
  if s.coreOn then s.routerAnswer j core d (s.routerCode j d false) else s

/-- The router a lone command is addressed to: the lowest of its mask, router 0 for an empty mask (R76). -/
def routerOf (d : Desc) : Nat := (maskRouters (descFld d 0 8 4)).headD 0

/-- The routers that a command reaches: the group of a RECALL, the router that a ROUTE names (R44, R70). -/
def routersOf (d : Desc) : List Nat :=
  match descFld d 0 0 8, maskRouters (descFld d 0 8 4) with
  | 2, r :: rs => r :: rs
  | _, _ => [routerOf d]

/-- The commands of one cycle, lowest core first, each with the code it is refused with in the state `s` of that cycle: a
command that reaches a router which one of a lower core also reaches has lost that router's cycle, whatever becomes of the
winner (R44). `won` are the routers whose cycle is gone. -/
def State.routerCodes (s : State) (won : List Nat) : List (Nat × Desc) → List (Nat × Desc × Option Nat)
  | [] => []
  | (core, d) :: rest =>
    (core, d, s.routerCode (routerOf d) d ((routersOf d).any won.contains)) :: s.routerCodes (won ++ routersOf d) rest

/-- The commands that reach the routers in one cycle, in whatever order they are named (R44). -/
def State.routerArbitrate (s : State) (cs : List (Nat × Desc)) : State :=
  if !s.coreOn then s
  else (s.routerCodes [] (sortBy (fun a b => decide (a.1 < b.1)) cs)).foldl
    (fun s x => s.routerAnswer (routerOf x.2.1) x.1 x.2.1 x.2.2) s

/-! ### Phases (R42, R68, R75) -/

/-- The cycle of a window in which its load phase ends. -/
def Window.loadEnd (w : Window) : Nat := if w.cmd.isRecall then 256 else tLoad w.cmd.experts

/-- The cycle of a window in which its select phase ends. -/
def Window.selectEnd (w : Window) : Nat :=
  let c := w.cmd
  if c.isRecall then w.loadEnd + c.tokens * ceilDiv c.experts 128 * (128 / recallRate c.topk)
  else w.loadEnd + tSelect c.tokens c.experts

/-- The cycle of a window in which `r` rounds are over. -/
def Window.roundsEnd (w : Window) (r : Nat) : Nat := w.selectEnd + r * tRound w.cmd.tokens w.cmd.seats

/-- The cycle of a window in which publication begins. -/
def Window.publishAt (w : Window) : Nat :=
  let c := w.cmd
  c.windowCycles - (if c.isRecall then ceilDiv (8 * c.tokens * c.topk + 4 * c.tokens + 64) 256 + 128
    else tPublish c.tokens c.seats w.totalSlots c.experts)

/-- The phase router `j` is in. The load phase turns into the select phase, and the match phase after its last round
into waiting, at fixed cycles that no command of the block marks. -/
def State.phaseNow (s : State) (j : Nat) : Option WinPhase :=
  let r := s.router j
  match r.phase, r.win with
  | some .load, some w => some (if s.cclkPassed w.start w.loadEnd then .select else .load)
  | some .matching, some w =>
    some (if w.cmd.rounds ≤ w.round ∧ s.cclkPassed w.start (w.roundsEnd w.cmd.rounds) then .wait else .matching)
  | p, _ => p

/-- ORT_STATUS as it is read, with PHASE and ROUND of the phase that router `j` is in. -/
def State.statusShown (s : State) (j : Nat) : Nat :=
  let v := (s.reg (Reg.ORT_STATUS + instDelta j)).toNat
  match s.phaseNow j with
  | none => v
  | some p => setBits (setBits v 1 3 p.code) 4 5 (if p = .matching then bits v 4 5 else 0)

/-- Router `j` takes scores: its select phase has not ended. -/
def State.takesScores (s : State) (j : Nat) : Bool :=
  decide ((s.router j).phase = some .load) || decide ((s.router j).phase = some .select)

/-! ### Intake -/

/-- The pair has been received already (R56). -/
def Window.has (w : Window) (row col : Nat) : Bool := w.scores.any (fun x => decide (x.row = row) && decide (x.col = col))

/-- Take one received score into the window of router `j` (R53, R56, R72). -/
def State.takeScore (s : State) (j row col : Nat) (v : BitVec 32) : State :=
  match (s.router j).win with
  | none => s
  | some w =>
    let dup := !w.cmd.isRecall && w.has row col
    let s := if dup then s.stat (Reg.ORT_STAT_DUP + instDelta j) 1 else s
    let s := if dup && !w.dupLogged then s.raise (routerSite j) 0x140E else s
    s.setWin j { w with scores := w.scores ++ [⟨row, col, v, v⟩], dupLogged := w.dupLogged || dup }

/-- The FP32 value of a score in memory or in a tile (R53). -/
def widenScore (isBf16 : Bool) (v : Nat) : BitVec 32 := if isBf16 then bf16ToF32 v else BitVec.ofNat 32 v

/-- The first column at which no score of the window lies: E, or the candidate count (R52). -/
def Window.columns (w : Window) : Nat := w.cmd.experts

/-- The rows of the window: tokens from 0, or the queries of this router (R52, R70). -/
def Window.rowLo (w : Window) : Nat := if w.cmd.isRecall then w.pos * w.cmd.tokens else 0

/-- A pushed tile reaches router `j` (R54). -/
def State.pushTile (s : State) (j : Nat) (t : Bytes) : State :=
  let hd := fun off n => leNat ((t.drop off).take n)
  let w0 := hd 0 4
  match (s.router j).win with
  | none => s.raise (routerSite j) 0x1411
  | some w =>
    if bits w0 0 16 ≠ w.cmd.tag then s.raise (routerSite j) 0x1411
    else if !w.cmd.push then s.raise (routerSite j) 0x1417
    else if !s.takesScores j then
      let s := (s.stat (Reg.ORT_STAT_LATE_TILES + instDelta j) 1).hazard w.context 0
      if w.lateLogged then s else (s.raise (routerSite j) 0x140D).setWin j { w with lateLogged := true }
    else
      let rows := bits w0 17 5
      let cols := bits w0 22 8
      let rowBase := hd 4 4
      let colBase := hd 8 4
      let sz := scoreSize w.cmd
      if bit w0 16 ≠ w.cmd.bf16 ∨ rows = 0 ∨ rows > 16 ∨ cols = 0 ∨ cols > 128 ∨ bits w0 30 2 ≠ 0 ∨ hd 12 52 ≠ 0 ∨
          rowBase < w.rowLo ∨ rowBase + rows > w.rowLo + w.cmd.tokens ∨ colBase ≥ w.columns then
        s.raise (routerSite j) 0x1417
      else
        (List.range rows).foldl (fun s r =>
          (List.range (min cols (w.columns - colBase))).foldl (fun s c =>
            s.takeScore j (rowBase + r) (colBase + c) (widenScore w.cmd.bf16 (hd (64 + (r * 128 + c) * sz) sz))) s) s

/-- Log an intake poison (R55). -/
def State.intakePoison (s : State) (j : Nat) : State := s.raise (routerSite j) 0x1418

/-- A pulled 64-byte line of the bias vector returns (R53, R55). -/
def State.pullBias (s : State) (j : Nat) (line : Nat) : State :=
  match (s.router j).win with
  | none => s
  | some w =>
    let b := w.cmd.biasBase
    if !w.cmd.biasEn || decide (line < b) || decide (b + 4 * w.cmd.experts ≤ line) then s
    else
      let es := (List.range 16).map (fun i => (line - b) / 4 + i) |>.filter (fun e => decide (e < w.cmd.experts))
      if s.fetchPoisoned line 64 then (s.intakePoison j).setWin j { w with biasBad := w.biasBad ++ es }
      else s.setWin j { w with
        bias := es.foldl (fun m e => SMap.insert m e (BitVec.ofNat 32 (s.fetchNat (b + 4 * e) 4))) w.bias }

/-- A pulled 64-byte line of scores returns (R51, R55). -/
def State.pullScores (s : State) (j : Nat) (line : Nat) : State :=
  match (s.router j).win with
  | none => s
  | some w =>
    let c := w.cmd
    let row := (line - c.logitBase) / c.logitStride
    let off := (line - c.logitBase) % c.logitStride
    let sz := scoreSize c
    if c.push || decide (line < c.logitBase) || decide (c.tokens ≤ row) || decide (c.experts * sz ≤ off) then s
    else if s.fetchPoisoned line 64 then s.intakePoison j
    else
      (List.range (64 / sz)).foldl (fun s i =>
        let e := off / sz + i
        if e < c.experts then s.takeScore j row e (widenScore c.bf16 (s.fetchNat (line + i * sz) sz)) else s) s

/-- A pulled line returns: it may hold bias values, scores or both (R55). -/
def State.pullReturn (s : State) (j : Nat) (line : Nat) : State :=
  if s.takesScores j then
    ((s.noteFetch line 64).pullBias j line).pullScores j line
  else s

/-! ### Selection -/

/-- `a` is before `b` (R57). -/
def scoreBefore (a b : Score) : Bool :=
  f32Gt a.rank b.rank ||
  (!f32Gt b.rank a.rank && (decide (a.row < b.row) || (decide (a.row = b.row) && decide (a.col < b.col))))

/-- The ranking score of a received score (R53). -/
def Window.ranked (w : Window) (x : Score) : Score :=
  if w.cmd.biasEn then { x with rank := f32Add x.gate ((SMap.find? w.bias x.col).getD 0) } else x

/-- The bias value of an expert is not available: its line was poisoned or has not returned (R55). -/
def Window.biasMissing (w : Window) (e : Nat) : Bool :=
  w.cmd.biasEn && (w.biasBad.contains e || (SMap.find? w.bias e).isNone)

/-- `a` is kept rather than `b` of two scores received for one pair: the earlier in rank; of two equal in rank the one
whose score has the lower bits, so that no order of arrival shows (R56, R64; log entry 99). -/
def keptBefore (a b : Score) : Bool :=
  scoreBefore a b || (!scoreBefore b a && (decide (a.gate.toNat < b.gate.toNat) ||
    (decide (a.gate = b.gate) && decide (a.rank.toNat < b.rank.toNat))))

/-- The score kept for a pair: the earliest-ranked of those received (R56). -/
def Window.kept (w : Window) (row e : Nat) : Option Score :=
  if w.biasMissing e then none
  else
    ((w.scores.filter (fun x => decide (x.row = row) && decide (x.col = e))).map w.ranked).foldl (fun acc x =>
      match acc with
      | none => some x
      | some y => if keptBefore x y then some x else some y) none

/-- Quota entry `e` of the window's table. -/
def Window.entry (w : Window) (e : Nat) : QuotaEntry := w.table.getD e ⟨0, true, 0, 0⟩

/-- The scores kept for a token over the experts that are not excluded, with absent pairs as none (R55, R58). -/
def Window.keptRow (w : Window) (t : Nat) : List (Option Score) :=
  ((List.range w.cmd.experts).filter (fun e => !(w.entry e).exclude)).map (w.kept t)

/-- The candidate list of a token (R58). -/
def Window.candidateList (w : Window) (t : Nat) : List Score :=
  (sortBy scoreBefore ((w.keptRow t).filterMap id |>.filter (fun x => !f32IsNan x.rank))).take w.cmd.candidates

/-- The results of one query: its best top-k candidates (R72). Two entries of one candidate whose scores are equal under R57 stand
in their order of arrival (DESIGN CHOICE, log entry 139). -/
def Window.recallList (w : Window) (q : Nat) : List Score :=
  (sortBy scoreBefore (w.scores.filter (fun x => decide (x.row = q) && !f32IsNan x.rank))).take w.cmd.topk

/-- The window after selection: lists formed, NaN and absent scores counted (R55, R58, R59, R72). -/
def Window.select (w : Window) : Window :=
  if w.cmd.isRecall then
    { w with
      lists := (List.range w.cmd.tokens).foldl (fun m i => SMap.insert m (w.rowLo + i) (w.recallList (w.rowLo + i))) []
      nan := (w.scores.filter (fun x => f32IsNan x.rank)).length }
  else
    let kept := (List.range w.cmd.tokens).flatMap w.keptRow
    { w with
      lists := (List.range w.cmd.tokens).foldl (fun m t => SMap.insert m t (w.candidateList t)) []
      nan := (kept.filterMap id |>.filter (fun x => f32IsNan x.rank)).length
      missing := (kept.filter Option.isNone).length }

/-- Raise a code `n` times at a site, each time in a cycle of its own. -/
def State.raiseTimes (s : State) (t : Site) (code : Nat) : Nat → State
  | 0 => s
  | n + 1 => ((s.siteLater t).raise t code).raiseTimes t code n

/-- What the reads of a phase find is counted (R49). -/
def State.countReads (s : State) (j : Nat) (reads : StoreReads) : State :=
  let s := s.bump Reg.ORT_STORE_ECC_CORRECTED (instDelta j) reads.corrected
  if reads.ue then s.bump Reg.ORT_STORE_ECC_UNCORRECTED (instDelta j) reads.uncorrected else s

/-- The part of a count that was met up to a fault (R69): none of it where the window had faulted before selection, all of
it without a fault, and a free number of it where the fault came with the reads of the phase that met it (log entry 100). -/
def State.metUpTo (s : State) (n : Nat) (before ue : Bool) : Nat × State :=
  if before then (0, s)
  else if ue then let r := s.fresh; (r.1.toNat % (n + 1), r.2)
  else (n, s)

/-- The select phase of router `j` ends (R42, R58): the lists are formed; the NaN and the absent scores met are counted and
logged, each NaN in a cycle of its own (R55, R59). -/
def State.selectEnd (s : State) (j : Nat) (reads : StoreReads) : State :=
  match (s.router j).win with
  | none => s
  | some w =>
    if !s.takesScores j || !s.cclkPassed w.start w.selectEnd then s
    else
      let s := s.countReads j reads
      let x := w.select
      let a := s.metUpTo x.nan w.fault reads.ue
      let b := a.2.metUpTo x.missing w.fault reads.ue
      let t := routerSite j
      let s := b.2.setWin j { x with nan := a.1, missing := b.1, fault := w.fault || reads.ue }
      let s := (s.stat (Reg.ORT_STAT_NAN + instDelta j) a.1).stat (Reg.ORT_STAT_MISSING + instDelta j) b.1
      let s := s.raiseTimes t 0x140B (min a.1 w.nanLimit)
      let s := if 0 < b.1 then (s.raiseTimes t 0x140C 1).hazard w.context 0 else s
      s.setPhase j (if w.cmd.isRecall then .wait else .matching) 0

/-! ### Matching -/

/-- `a` is before `b` at one expert (R57). -/
def proposalBefore (a b : Proposal) : Bool :=
  f32Gt a.score b.score || (!f32Gt b.score a.score && decide (a.tok < b.tok))

/-- The entries a token proposes to in a round: as many as it has free seats (R61). -/
def Window.proposalsOf (w : Window) (t : Nat) : List (Nat × Proposal) :=
  let l := w.lists.get (fun _ => []) t
  let nx := w.nextRank.get (fun _ => 0) t
  let fr := w.freeSeats.get (fun _ => w.cmd.seats) t
  ((List.range fr).filterMap (fun i =>
    (l[nx + i]?).map (fun x => (x.col, (⟨x.rank, t, nx + i⟩ : Proposal)))))

/-- One matching round (R61, R63): every token with free seats proposes, every expert holds its best proposals. -/
def Window.matchRound (w : Window) : Window :=
  let ts := List.range w.cmd.tokens
  let offers := ts.flatMap w.proposalsOf
  let dflt := fun (_ : Nat) => w.cmd.seats
  let nextRank := ts.foldl (fun m t =>
    SMap.set m (fun _ => 0) t (m.get (fun _ => 0) t + (w.proposalsOf t).length)) w.nextRank
  let free := ts.foldl (fun m t => SMap.set m dflt t (m.get dflt t - (w.proposalsOf t).length)) w.freeSeats
  let experts := (List.range w.cmd.experts).filter (fun e => offers.any (fun o => decide (o.1 = e)))
  let w := { w with nextRank := nextRank, freeSeats := free, round := w.round + 1,
                    proposals := w.proposals + offers.length,
                    lastRound := if offers.isEmpty then w.lastRound else w.round + 1 }
  experts.foldl (fun w e =>
    let old := w.held.get (fun _ => []) e
    let new := (offers.filter (fun o => decide (o.1 = e))).map Prod.snd
    let pool := sortBy proposalBefore (old ++ new)
    let keep := pool.take (w.entry e).quota
    let lost := pool.drop (w.entry e).quota
    { w with
      held := SMap.set w.held (fun _ => []) e keep
      freeSeats := lost.foldl (fun m x => SMap.set m dflt x.tok (m.get dflt x.tok + 1)) w.freeSeats
      rejected := w.rejected + (lost.filter (fun x => new.contains x)).length
      displaced := w.displaced + (lost.filter (fun x => old.contains x)).length
      lostAt := if lost.isEmpty ∨ w.lostAt.contains e then w.lostAt else w.lostAt ++ [e] }) w

/-- The fixed start of the next of the P matching rounds of router `j` (R42, R61, R62). Of a round whose own reads meet the fault a
free number of its proposals, displacements and rejections counts as made before it (R78, log entry 100). -/
def State.matchingRound (s : State) (j : Nat) (reads : StoreReads) : State :=
  match (s.router j).win with
  | none => s
  | some w =>
    if (s.router j).phase ≠ some .matching ∨ w.cmd.rounds ≤ w.round ∨ s.cclkPassed w.start (w.roundsEnd w.round) = false then s
    else
      let w' := if w.fault then { w with round := w.round + 1 } else w.matchRound
      let a := (s.countReads j reads).metUpTo (w'.proposals - w.proposals) w.fault reads.ue
      let b := a.2.metUpTo (w'.displaced - w.displaced) w.fault reads.ue
      let c := b.2.metUpTo (w'.rejected - w.rejected) w.fault reads.ue
      (c.2.setWin j { w' with
        proposals := w.proposals + a.1, displaced := w.displaced + b.1, rejected := w.rejected + c.1,
        fault := w.fault || reads.ue }).setPhase j .matching w'.round

/-! ### Publication -/

/-- The seats of a token, in ascending rank: (expert, proposal) (R65). -/
def Window.seatsOf (w : Window) (t : Nat) : List (Nat × Proposal) :=
  sortBy (fun a b => decide (a.2.rank < b.2.rank))
    ((List.range w.cmd.experts).flatMap (fun e =>
      ((w.held.get (fun _ => []) e).filter (fun p => decide (p.tok = t))).map (fun p => (e, p))))

/-- The held proposals of an expert in ascending token (R66). -/
def Window.heldOf (w : Window) (e : Nat) : List Proposal :=
  sortBy (fun a b => decide (a.tok < b.tok)) (w.held.get (fun _ => []) e)

/-- The place of an entry in a list, by a test. -/
def indexOf {α : Type} (p : α → Bool) : List α → Nat
  | [] => 0
  | x :: t => if p x then 0 else 1 + indexOf p t

/-- One seat entry (R65). -/
def Window.seatEntry (w : Window) (t i : Nat) : Nat :=
  match (w.seatsOf t)[i]? with
  | none => 0
  | some (e, p) =>
    let gate := match (w.lists.get (fun _ => []) t)[p.rank]? with | some x => x.gate.toNat | none => 0
    let slot := indexOf (fun q => decide (q.tok = t)) (w.heldOf e)
    gate + e * 2 ^ 32 + p.rank * 2 ^ 46 + 2 ^ 51 + slot * 2 ^ 52

/-- One held-slot entry (R66). -/
def Window.slotEntry (w : Window) (e i : Nat) : Nat :=
  match (w.heldOf e)[i]? with
  | none => 0
  | some p => p.tok + (indexOf (fun x => decide (x.1 = e)) (w.seatsOf p.tok)) * 2 ^ 16 + 2 ^ 20

/-- One expert summary entry (R67). -/
def Window.summaryEntry (w : Window) (e held : Nat) : Nat :=
  held + (if held = 0 then 2 ^ 12 else 0) + (w.entry e).destRank * 2 ^ 16 + (w.entry e).quota * 2 ^ 40

/-- Seats held after the last round. -/
def Window.seatsFilled (w : Window) : Nat :=
  ((List.range w.cmd.experts).map (fun e => (w.held.get (fun _ => []) e).length)).sum

/-- Tokens with no held seat. -/
def Window.bitternTokens (w : Window) : Nat :=
  ((List.range w.cmd.tokens).filter (fun t => (w.seatsOf t).isEmpty)).length

/-- The result header of a ROUTE window (R65, R69). -/
def Window.header (w : Window) : Bytes :=
  let c := w.cmd
  let filled := if w.fault then 0 else w.seatsFilled
  leBytes 2 (if w.fault then 0x140F else 0) ++ leBytes 2 c.tag ++ leBytes 4 c.tokens ++ leBytes 4 filled ++
  leBytes 4 (c.tokens * c.seats - filled) ++ leBytes 4 (if w.fault then c.tokens else w.bitternTokens) ++
  leBytes 4 w.nan ++ leBytes 4 w.missing ++ leBytes 4 (if w.fault then 0 else w.lastRound) ++
  leBytes 8 w.step ++ leBytes 8 w.tableId ++ leBytes 8 w.start ++ leBytes 8 0

/-- The areas a ROUTE window publishes, each with its address; the fault shape where the window met a fault (R69). -/
def Window.publication (w : Window) : List (Nat × Bytes) :=
  let c := w.cmd
  [(c.seatOut, (List.range c.tokens).flatMap (fun t =>
      (List.range c.seats).flatMap (fun i => leBytes 8 (if w.fault then 0 else w.seatEntry t i)))),
   (c.heldOut, (List.range c.experts).flatMap (fun e =>
      (List.range (w.entry e).quota).flatMap (fun i => leBytes 4 (if w.fault then 0 else w.slotEntry e i)))),
   (c.summaryOut, w.header),
   (c.summaryOut + 64, (List.range c.experts).flatMap (fun e =>
      leBytes 8 (w.summaryEntry e (if w.fault then 0 else (w.held.get (fun _ => []) e).length))))]

/-- The results of a router in recall (R73, R74). -/
def Window.recallPublication (w : Window) : List (Nat × Bytes) :=
  let c := w.cmd
  let qs := (List.range c.tokens).map (fun i => w.rowLo + i)
  let listOf := fun q => if w.fault then [] else w.lists.get (fun _ => []) q
  let total := (qs.map (fun q => (listOf q).length)).sum
  [(c.seatOut + w.rowLo * c.topk * 8, qs.flatMap (fun q => (List.range c.topk).flatMap (fun i =>
      leBytes 8 (match (listOf q)[i]? with
        | some x => x.gate.toNat + (c.candBase + x.col) * 2 ^ 32
        | none => 0)))),
   (c.heldOut + w.rowLo * 4, qs.flatMap (fun q => leBytes 4 (listOf q).length)),
   (c.summaryOut + w.pos * 64,
      leBytes 2 (if w.fault then 0x140F else 0) ++ leBytes 2 c.tag ++ leBytes 4 c.tokens ++ leBytes 4 total ++
      leBytes 8 0 ++ leBytes 4 w.nan ++ leBytes 8 0 ++ leBytes 8 w.step ++ leBytes 8 0 ++ leBytes 8 w.start ++
      leBytes 8 0)]

/-- Write the published areas, each wherever its target accepts the write; the first code with which one refuses (R69,
R74, R231). -/
def State.publish (s : State) (ps : List (Nat × Bytes)) : Nat × State :=
  ps.foldl (fun acc p =>
    let r := acc.2.physStore p.1 p.2
    (firstNonzero acc.1 r.1, r.2)) (0, s)

/-- What a window publishes. -/
def Window.areas (w : Window) : List (Nat × Bytes) := if w.cmd.isRecall then w.recallPublication else w.publication

/-- The routers that run the same command as router `j`: its recall group, or itself. -/
def State.groupOf (s : State) (j : Nat) : List Nat :=
  match (s.router j).win with
  | none => []
  | some w => if w.cmd.isRecall then maskRouters w.cmd.mask else [j]

/-- Mark the windows of a group as faulted. -/
def State.faultGroup (s : State) (js : List Nat) : State :=
  js.foldl (fun s i => match (s.router i).win with
    | none => s
    | some w => s.setWin i { w with fault := true }) s

/-- A window of a group has met a fault. -/
def State.groupFaulted (s : State) (js : List Nat) : Bool :=
  js.any (fun i => match (s.router i).win with | none => false | some w => w.fault)

/-- Write the areas of the windows of a group; the first code with which a target refuses. -/
def State.publishGroup (s : State) (js : List Nat) : Nat × State :=
  js.foldl (fun acc i => match (acc.2.router i).win with
    | none => acc
    | some w =>
      let r := acc.2.publish w.areas
      (firstNonzero acc.1 r.1, r.2)) (0, s)

/-- The window of router `j` is ready to publish: a ROUTE after its P rounds, a RECALL after selection, each from the fixed
cycle of its window on (R42, R68, R75). -/
def State.mayPublish (s : State) (j : Nat) : Bool :=
  match (s.router j).win, (s.router j).phase with
  | some w, some .matching => decide (w.cmd.rounds ≤ w.round) && s.cclkPassed w.start w.publishAt
  | some w, some .wait => w.cmd.isRecall && s.cclkPassed w.start w.publishAt
  | _, _ => false

/-- Publication starts on the group of router `j` (R42, R68): without a fault the areas are written, and a target that
refuses one of the writes, now or (`refused`) as the write is acknowledged, makes a fault of it (R69, R74). -/
def State.publishStart (s : State) (j : Nat) (reads : StoreReads) (refused : Bool) : State :=
  let js := s.groupOf j
  if !js.all s.mayPublish || js.isEmpty then s
  else
    let s := s.countReads j reads
    let s := js.foldl (fun s i => s.setPhase i .publish 0) s
    if reads.ue || s.groupFaulted js then s.faultGroup js
    else
      let r := s.publishGroup js
      if refused ∨ r.1 ≠ 0 then r.2.faultGroup js else r.2

/-- The statistics a ROUTE window adds at its end (R78). A cancelled window has not ended: it adds none of them (log entry
101). -/
def State.routeStats (s : State) (j : Nat) (w : Window) : State :=
  let c := w.cmd
  let a := fun r => r + instDelta j
  let withQuota := (List.range c.experts).filter (fun e => decide (0 < (w.entry e).quota))
  let heldLen := fun e => (w.held.get (fun _ => []) e).length
  let filled := if w.fault then 0 else w.seatsFilled
  let q := w.totalSlots
  let idleFrom := tLoad c.experts + tSelect c.tokens c.experts + w.lastRound * tRound c.tokens c.seats
  let s := s.stat (a Reg.ORT_STAT_WINDOWS) 1
  let s := s.stat (a Reg.ORT_STAT_SEATS_FILLED) filled
  let s := s.stat (a Reg.ORT_STAT_BITTERN_SEATS) (c.tokens * c.seats - filled)
  let s := s.stat (a Reg.ORT_STAT_BITTERN_TOKENS) (if w.fault then c.tokens else w.bitternTokens)
  let s := s.stat (a Reg.ORT_STAT_PROPOSALS) w.proposals
  let s := s.stat (a Reg.ORT_STAT_DISPLACED) w.displaced
  let s := s.stat (a Reg.ORT_STAT_REJECTED) w.rejected
  let s := s.stat (a Reg.ORT_STAT_OVERSUB) (if w.fault then 0 else
    (withQuota.filter (fun e => decide (heldLen e = (w.entry e).quota) && w.lostAt.contains e)).length)
  let s := s.stat (a Reg.ORT_STAT_EMPTY_EXPERTS)
    (withQuota.filter (fun e => w.fault || decide (heldLen e = 0))).length
  s.stat (a Reg.ORT_STAT_IDLE_CYCLES)
    (c.windowCycles - tPublish c.tokens c.seats q c.experts - idleFrom)

/-- A router becomes idle; its working area is scratch (R41, R48). ORT_WINDOW_END takes the time at which the router
becomes idle, also where an acknowledgement of the window's writes completes the command later (log entry 102). -/
def State.idleRouter (s : State) (j : Nat) : State :=
  match (s.router j).win with
  | none => s
  | some w =>
    let s := s.setRouter j { s.router j with win := none, phase := none }
    let s := s.setFld Reg.ORT_STATUS_BUSY (instDelta j) 0
    let s := s.setFld Reg.ORT_STATUS_PHASE (instDelta j) 0
    let s := s.setFld Reg.ORT_STATUS_ROUND (instDelta j) 0
    let s := s.setReg (Reg.ORT_WINDOW_END + instDelta j) (BitVec.ofNat 64 s.tb)
    s.scratchArea (routerAddr j w.cmd.workOffset) w.workBytes

/-- The last cycle of the window of router `j` and its group (R41, R43, R69, R74). The one 0x140F of a recall group is raised at the
router that the command names (DESIGN CHOICE, log entry 141). -/
def State.windowEnd (s : State) (j : Nat) (reads : StoreReads) (acked : Bool) : State :=
  let js := s.groupOf j
  match (s.router j).win with
  | none => s
  | some w0 =>
    if (s.router j).phase ≠ some .publish ∨ s.cclkPassed w0.start w0.cmd.windowCycles = false then s
    else
      let s := s.countReads j reads
      let faulted := reads.ue || s.groupFaulted js
      let s := if faulted then ((s.faultGroup js).publishGroup js).2 else s
      let s := js.foldl (fun s i => match (s.router i).win with
        | none => s
        | some w => (if w.cmd.isRecall then s.stat (Reg.ORT_STAT_RECALLS + instDelta i) 1 else s.routeStats i w).idleRouter i) s
      let s := if faulted then s.raiseTimes (routerSite j) 0x140F 1 else s
      let code := if faulted then 0x140F else 0
      if acked then s.complete w0.cmd.completion code
      else s.setRouter j { s.router j with unacked := (s.router j).unacked ++ [(w0.cmd.completion, code, s.tb, w0.context)] }

/-- A published write of router `j` is acknowledged after its window's end (R43). -/
def State.publishLate (s : State) (j : Nat) : State :=
  match (s.router j).unacked with
  | [] => s
  | (cnt, code, _, _) :: rest =>
    ((s.setRouter j { s.router j with unacked := rest }).complete cnt code).raise (routerSite j) 0x1415

/-- The window of router `j` stops where it is: what it was publishing is partly written (R46). -/
def State.stopWindow (s : State) (j : Nat) : State :=
  match (s.router j).win with
  | none => s
  | some w =>
    let s := if (s.router j).phase = some .publish then w.areas.foldl (fun s p => s.scratchArea p.1 p.2.length) s else s
    s.idleRouter j

/-- The command that router `j` runs stops on every router of its group and completes once with a code, raised at the lowest of
them (R46, R479; DESIGN CHOICE, log entry 142). -/
def State.stopCommand (s : State) (j code : Nat) : State :=
  match (s.router j).win with
  | none => s
  | some w =>
    let js := s.groupOf j
    ((js.foldl State.stopWindow s).raise (routerSite (js.headD j)) code).complete w.cmd.completion code

/-- The commands that a predicate selects by a router that runs them stop and complete with a code (R46, R479). -/
def State.routersStop (s : State) (sel : Nat → Window → Bool) (code : Nat) : State :=
  (List.range 4).foldl (fun s j => match (s.router j).win with
    | none => s
    | some w => if sel j w then s.stopCommand j code else s) s

/-- The commands of router `j` whose windows have ended and that wait for the acknowledgement of a published write complete with a
code instead, oldest first (R26, R43, R479). -/
def State.unackedStop (s : State) (j code : Nat) : State :=
  (s.router j).unacked.foldl (fun s x => (s.raise (routerSite j) code).complete x.1 code)
    (s.setRouter j { s.router j with unacked := [] })

/-- Router `j` still holds a command of a context: its window runs, or a published write is unacknowledged (R43, R386). -/
def State.routerHolds (s : State) (j ctx : Nat) : Bool :=
  (s.router j).unacked.any (fun x => decide (x.2.2.2 = ctx)) ||
  (match (s.router j).win with | none => false | some w => decide (w.context = ctx))

/-- A torn-down context stops its windows, which complete with 0x1410 (R46). -/
def State.routersCancel (s : State) (ctx : Nat) : State := s.routersStop (fun _ w => decide (w.context = ctx)) 0x1410

/-! ### The physical window -/

/-- A byte range of router store `j` is locked by a running window (R48). -/
def State.routerLocked (s : State) (j off n : Nat) : Bool :=
  match (s.router j).win with
  | none => false
  | some w =>
    let c := w.cmd
    rangesOverlap off n c.workOffset w.workBytes ||
      (!c.isRecall && rangesOverlap off n c.qtOffset (64 + 8 * c.experts))

/-- A byte range touches the intake staging area (R47). -/
def inStaging (off n : Nat) : Bool := decide (0x7C0000 < off + n)

end Sys2Proof.Machine
end

