-- ==== Sys2Proof/Machine/Matrix.lean ====
section
/-! DEFINITION. The cube matrix arrays (R111 to R149): acceptance of PASS and LANE, starts, the activity ramp, the
exact tile sums, spoiled tiles, completion, repair and checksum mode. -/

namespace Sys2Proof.Machine

/-- An array that has run nothing: its cubes and banks hold zero (DESIGN CHOICE, log entry 124; an entry that a list lacks is +0). -/
def matInit : MatArray := ⟨[], [], 0, [], [], []⟩

/-- Array `m`. -/
def State.mat (s : State) (m : Nat) : MatArray := s.arrays.get (fun _ => matInit) m

/-- The site of array `m`. -/
def matSite (m : Nat) : Site := site 2 m

/-! ### Repair and checksum mode (R135 to R138, R143) -/

/-- The fused skips of an array: (row, column), 15 and 31 for none (R135). -/
def State.fuseSkip (s : State) (m : Nat) : Nat × Nat := (SMap.find? s.fuses.skips m).getD (15, 31)

/-- The skipped physical row in force, 15 for none (R135). -/
def State.rowSkip (s : State) (m : Nat) : Nat :=
  let f := (s.fuseSkip m).1
  if f ≠ 15 then f else s.fld Reg.MAT_REPAIR_ROW (instDelta m)

/-- The skipped physical column in force, 31 for none (R135). -/
def State.colSkip (s : State) (m : Nat) : Nat :=
  let f := (s.fuseSkip m).2
  if f ≠ 31 then f else s.fld Reg.MAT_REPAIR_COL (instDelta m)

/-- The physical row of logical row r with skipped row rs, 15 for none (R135). -/
def physRow (rs r : Nat) : Nat := if r < rs then r else r + 1

/-- The physical column of logical column c with skipped column cs, 31 for none (R135). -/
def physCol (cs c : Nat) : Nat := if c < cs then c else c + 1

/-- The physical cube of logical cube (r, c) of array `m` (R113, R135). -/
def State.physCube (s : State) (m r c : Nat) : Nat := 17 * physRow (s.rowSkip m) r + physCol (s.colSkip m) c

/-- Checksum mode is in force: both spares in use, or requested (R138, R143). -/
def State.checksumMode (s : State) (m : Nat) : Bool :=
  (decide (s.rowSkip m ≠ 15) && decide (s.colSkip m ≠ 31)) ||
  decide (s.fld Reg.MAT_CTRL_CHECKSUM_REQ (instDelta m) = 1)

/-- The array is idle and its queue is empty (R136, R143). -/
def State.matIdle (s : State) (m : Nat) : Bool :=
  let a := s.mat m
  a.queue.isEmpty && a.running.isEmpty && decide (a.ramp = 0)

/-- Show the array in MAT_STATE. -/
def State.syncMat (s : State) (m : Nat) : State :=
  let a := s.mat m
  let δ := instDelta m
  let s := s.setFld Reg.MAT_STATE_REPAIRED δ (b2n (decide (s.rowSkip m ≠ 15) || decide (s.colSkip m ≠ 31)))
  let s := s.setFld Reg.MAT_STATE_CHECKSUM δ (b2n (s.checksumMode m))
  let s := s.setFld Reg.MAT_STATE_BUSY δ (b2n (!a.running.isEmpty || decide (a.ramp ≠ 0)))
  let s := s.setFld Reg.MAT_STATE_QUEUED δ a.queue.length
  s.setFld Reg.MAT_STATE_RAMP δ a.ramp

/-- Set array `m` and show it. -/
def State.setMat (s : State) (m : Nat) (a : MatArray) : State :=
  { s with arrays := s.arrays.set (fun _ => matInit) m a }.syncMat m

/-! ### The descriptor -/

/-- A PASS or LANE descriptor as the array reads it. -/
structure PassCmd where
  opcode : Nat
  skip : Bool
  aFmt : Nat
  wFmt : Nat
  dest : Nat
  outFmt : Nat
  cEn : Bool
  wPhys : Bool
  phys : Bool
  bank : Nat
  tag : Nat
  m : Nat
  elems : Nat
  k : Nat
  n : Nat
  aBase : Nat
  aStride : Nat
  wBase : Nat
  outBase : Nat
  outStride : Nat
  cBase : Nat
  cStride : Nat
  router : Nat
  rowOffset : Nat
  colOffset : Nat
  completion : Nat
deriving DecidableEq, Repr

/-- Read a descriptor (R123). -/
def passOf (d : Desc) : PassCmd :=
  let f := descFld d
  { opcode := f 0 0 8, skip := decide (f 0 8 1 = 1), aFmt := f 0 9 4, wFmt := f 0 13 4, dest := f 0 17 2
    outFmt := f 0 19 2, cEn := decide (f 0 21 1 = 1), wPhys := decide (f 0 22 1 = 1), phys := decide (f 0 23 1 = 1)
    bank := f 0 24 1, tag := f 0 32 16, m := f 8 0 13, elems := f 8 0 17, k := f 8 32 17, n := f 0x10 0 33
    aBase := f 0x18 0 23, aStride := f 0x18 32 32, wBase := f 0x20 0 48, outBase := f 0x28 0 23
    outStride := f 0x28 32 32, cBase := f 0x30 0 23, cStride := f 0x30 32 32, router := f 0x38 0 2
    rowOffset := f 0x40 0 32, colOffset := f 0x40 32 32, completion := f 0x48 0 14 }

/-- The defined bits of a PASS descriptor. -/
def passMasks : List Nat :=
  [0x0000FFFF007FFFFF, 0x0001FFFF00001FFF, maskOf 0 33, 0xFFFFFFFF007FFFFF, maskOf 0 48, 0xFFFFFFFF007FFFFF,
   0xFFFFFFFF007FFFFF, 3, maskOf 0 64, maskOf 0 14]

/-- The defined bits of a LANE descriptor: the fields of its table, TAG and COMPLETION (log entry 10). -/
def laneMasks : List Nat :=
  [0x0000FFFF01A1FEFF, maskOf 0 17, 0, maskOf 0 23, maskOf 0 23, maskOf 0 23, maskOf 0 23, 0, 0, maskOf 0 14]

/-- K rows of a weight tile (R121). -/
def tileK (wFmt : Nat) : Nat := if wFmt = 6 ∨ wFmt = 9 then 64 else 32

/-- Bytes of a weight tile (R121). -/
def tileBytes (wFmt : Nat) : Nat :=
  tileK wFmt * 64 * elemBits wFmt / 8 + (if isMx wFmt then tileK wFmt / 32 * 64 else 0)

/-- The format pairs that are accepted (R115). -/
def pairOk (a w : Nat) : Bool :=
  (decide (a ≤ 5) && decide (w ≤ 6)) || (decide (a = 6) && decide (w ≤ 6)) ||
  ((decide (a = 7) || decide (a = 8)) && (decide (w = 7) || decide (w = 8))) ||
  (decide (a = 8) && decide (w = 9)) || (decide (a = 10) && decide (w = 10)) || (decide (a = 11) && decide (w = 11))

/-- Rows of K in one tile step (R115, R122). -/
def stepK (a w : Nat) : Nat := if (w = 6 ∧ a = 6) ∨ w = 9 then 64 else 32

/-- Bytes of a row of activations (R122). -/
def aRowBytes (c : PassCmd) : Nat := c.k * elemBits c.aFmt / 8 + (if isMx c.aFmt then c.k / 32 else 0)

/-- Bytes of one output element: FP32, BF16 or FP16. -/
def outBytes (c : PassCmd) : Nat := if c.outFmt = 0 then 4 else 2

/-- The integer formats (R144). -/
def isIntFmt (f : Nat) : Bool := decide (f = 7) || decide (f = 8) || decide (f = 9)

/-- A local range lies in the core store and starts on 64 bytes. -/
def localBad (base len : Nat) : Bool := !aligned base 64 || decide (storeSize < base + len)

/-- Rows from a base at a stride overlap an extent or other rows (R123). -/
def rowsOverlap (b1 st1 len1 n1 b2 st2 len2 n2 : Nat) : Bool :=
  (List.range n1).any (fun i => (List.range n2).any (fun j => rangesOverlap (b1 + i * st1) len1 (b2 + j * st2) len2))

/-- The extent of W in bytes (R123). -/
def wExtent (c : PassCmd) : Nat := c.n / 64 * (c.k / tileK c.wFmt) * tileBytes c.wFmt

/-- Bytes of the vectors of a LANE: 128 elements from each 64-byte boundary (R144). -/
def laneVecBytes (fmt : Nat) : Nat := ceilDiv (128 * elemBits fmt / 8) 64 * 64

/-- The first failing check of a PASS descriptor at array `m` (R123). -/
def State.passCode (s : State) (m : Nat) (d : Desc) : Option Nat :=
  let c := passOf d
  let rowB := aRowBytes c
  let ob := c.n * outBytes c
  let wLen := wExtent c
  let inPlace := c.cEn && decide (c.cBase = c.outBase) && decide (c.cStride = c.outStride)
  firstCode [
    (!reservedClear d passMasks 16, 0x0802),
    (decide (c.m = 0) || decide (c.k = 0) || decide (c.n = 0), 0x0803),
    (decide (4096 < c.m) || decide (c.k < 32) || decide (65536 < c.k) ||
      (decide (c.wFmt < 12) && !aligned c.k (tileK c.wFmt)) ||
      decide (c.n < 64) || decide (2 ^ 32 < c.n) || !aligned c.n 64 || decide (c.dest = 3) || decide (c.outFmt = 3) ||
      (decide (c.outFmt = 2) && decide (c.dest = 2)), 0x0804),
    (!pairOk c.aFmt c.wFmt, 0x0805),
    (decide (10 ≤ c.aFmt) && s.checksumMode m, 0x080A),
    (localBad c.aBase ((c.m - 1) * c.aStride + rowB) || !aligned c.aStride 64 || decide (c.aStride < rowB) ||
      !aligned c.wBase 64 ||
      (if c.wPhys then !inLpddr c.wBase wLen else decide (storeSize < c.wBase + wLen)) ||
      (decide (c.dest = 0) && (localBad c.outBase ((c.m - 1) * c.outStride + ob) || !aligned c.outStride 64 ||
        decide (c.outStride < ob))) ||
      (c.cEn && (localBad c.cBase ((c.m - 1) * c.cStride + 4 * c.n) || !aligned c.cStride 64 ||
        decide (c.cStride < 4 * c.n))), 0x0806),
    (decide (c.dest = 0) &&
      (rowsOverlap c.outBase c.outStride ob c.m c.aBase c.aStride rowB c.m ||
       (!c.wPhys && rowsOverlap c.outBase c.outStride ob c.m c.wBase 0 wLen 1) ||
       (c.cEn && !inPlace && rowsOverlap c.outBase c.outStride ob c.m c.cBase c.cStride (4 * c.n) c.m)), 0x0807),
    (decide (s.fld Reg.MAT_CTRL_ENABLE (instDelta m) = 0), 0x0808),
    (decide (s.fld Reg.MAT_STATE_OFF (instDelta m) = 1), 0x0809)]

/-- The first failing check of a LANE descriptor at array `m` (R123, R144). The LANE table states no alignment of S_BASE, OUT_BASE and
Y_BASE; one that does not start on 64 bytes is misaligned (DESIGN CHOICE, log entry 148). -/
def State.laneCode (s : State) (m : Nat) (d : Desc) : Option Nat :=
  let c := passOf d
  let xLen := c.elems * laneVecBytes c.aFmt
  let sLen := ceilDiv (c.elems * elemBits c.wFmt) 8
  firstCode [
    (!reservedClear d laneMasks 16, 0x0802),
    (decide (c.elems = 0), 0x0803),
    (decide (65536 < c.elems), 0x0804),
    (decide (12 ≤ c.aFmt) || decide (12 ≤ c.wFmt) || (isIntFmt c.aFmt != isIntFmt c.wFmt), 0x0805),
    (localBad c.aBase xLen || localBad c.wBase sLen || localBad c.outBase 512 || (c.cEn && localBad c.cBase 512), 0x0806),
    (rangesOverlap c.outBase 512 c.aBase xLen || rangesOverlap c.outBase 512 c.wBase sLen ||
      (c.cEn && decide (c.cBase ≠ c.outBase) && rangesOverlap c.outBase 512 c.cBase 512), 0x0807),
    (decide (s.fld Reg.MAT_CTRL_ENABLE (instDelta m) = 0), 0x0808),
    (decide (s.fld Reg.MAT_STATE_OFF (instDelta m) = 1), 0x0809)]

/-- The array has room for one more accepted descriptor (R123). -/
def State.matRoom (s : State) (m : Nat) : Bool := decide ((s.mat m).queue.length < 4)

/-! ### Pass timing (R128, R139) -/

def groupsOf (c : PassCmd) : Nat := ceilDiv c.m 4

/-- N tiles of a pass: 60 columns each in checksum mode (R139). -/
def nTiles (c : PassCmd) (chk : Bool) : Nat := if chk then ceilDiv c.n 60 else c.n / 64

/-- Tile steps of an N tile. -/
def kSteps (c : PassCmd) : Nat := c.k / stepK c.aFmt c.wFmt

/-- Cycles between token groups (R128). -/
def groupCycles (c : PassCmd) : Nat := if 10 ≤ c.aFmt then 4 else 1

/-- T_w of R128. -/
def weightCycles (c : PassCmd) (chk : Bool) : Nat :=
  let b := tileBytes c.wFmt * stepK c.aFmt c.wFmt / tileK c.wFmt
  ceilDiv (if chk then ceilDiv (b * 60) 64 else b) 128

/-- The occupancy O of a pass (R128, R139). -/
def passOccupancy (c : PassCmd) (chk : Bool) : Nat :=
  let g := groupsOf c
  let g' := if chk then g + ceilDiv g 16 else g
  nTiles c chk * max (kSteps c * max (groupCycles c * g') (weightCycles c chk)) c.m

/-- The cycles that a pass or a LANE occupies the array (R128, R144). -/
def passCycles (c : PassCmd) (chk : Bool) : Nat := if c.opcode = 0x11 then c.elems + 24 else passOccupancy c chk

/-- The nominal completion of a pass, or of a LANE (R128, R144). -/
def passNominal (c : PassCmd) (chk : Bool) : Nat :=
  if c.opcode = 0x11 then c.elems + 24 else passOccupancy c chk + 24 + c.m

/-- A skipped pass. -/
def PassCmd.skipped (c : PassCmd) : Bool := c.skip && decide (c.opcode = 0x10)

/-- The pass that runs. -/
def RunPass.pass (r : RunPass) : PassCmd := passOf r.cmd.desc

/-- A skipped pass in progress has passed cycle O − 48 (R134). -/
def State.pastRise (s : State) (m : Nat) (r : RunPass) : Bool :=
  r.pass.skipped && s.cclkPassed r.start (passCycles r.pass (s.checksumMode m) - 48 + 1)

/-- The passes of an array when a descriptor joins its queue: none was queued at cycle O − 48 of a skipped pass that runs and has passed
that cycle (R134). -/
def State.noteLate (s : State) (m : Nat) : List RunPass :=
  let a := s.mat m
  if a.queue.isEmpty then a.running.map (fun r => if s.pastRise m r then { r with late := true } else r) else a.running

/-- A descriptor reaches array `m` with room in its queue: it is queued or refused on its counter (R123). -/
def State.matAccept (s : State) (m core : Nat) (d : Desc) : State :=
  let code := match descFld d 0 0 8 with
    | 0x10 => s.passCode m d
    | 0x11 => s.laneCode m d
    | _ => some 0x0801
  match code with
  | some k => (s.raise (matSite m) k).complete (descFld d 0x48 0 14) k
  | none => s.setMat m { s.mat m with queue := (s.mat m).queue ++ [⟨d, core, s.coreContext core⟩], running := s.noteLate m }

/-! ### Starts and the ramp (R128 to R134)

The earliest cycle of an event is judged on the time base (log entry 14). -/

/-- The results of a pass stream into the chain engine. -/
def PassCmd.streams (c : PassCmd) : Bool := decide (c.opcode = 0x10) && decide (c.dest = 1) && !c.skip

/-- A pass whose stream has not begun holds the drain (R165). -/
def RunPass.stalls (r : RunPass) : Bool := r.pass.streams && decide (r.stream = .waiting)

/-- The occupancy of a pass in progress can be over: `n` cycles have passed since its first group could enter. -/
def State.passedFull (s : State) (r : RunPass) (n : Nat) : Bool :=
  match r.full with | some t => s.cclkPassed t n | none => false

/-- The head of array `m` may start (R124, R128, R132, R165): at full activity, or from idle, unless it is skipped; not before the
occupancy of the pass before it is over, nor behind a stalled drain. -/
def State.passMayStart (s : State) (m : Nat) : Bool :=
  let a := s.mat m
  match a.queue with
  | [] => false
  | h :: _ =>
    ((passOf h.desc).skipped || decide (a.ramp = 0) || decide (a.ramp = 8)) && !a.running.any RunPass.stalls &&
    (match a.running.getLast? with
      | none => true
      | some r =>
        let n := passCycles r.pass (s.checksumMode m)
        if r.pass.skipped then s.cclkPassed r.start n else s.passedFull r n)

/-- The head of the queue starts (R128): the ramp-up from idle begins with it unless it is skipped. -/
def State.passStart (s : State) (m : Nat) : State :=
  let a := s.mat m
  match a.queue with
  | [] => s
  | c :: rest =>
    if !s.passMayStart m then s
    else
      let rises := !(passOf c.desc).skipped && decide (a.ramp = 0)
      let s := if rises then s.stat (Reg.MAT_STAT_RAMPS + instDelta m) 1 else s
      s.setMat m { a with
        queue := rest
        running := a.running ++ [{ cmd := c, start := s.tb, stream := .waiting, full := if a.ramp = 8 then some s.tb else none, climbed := rises }]
        ramp := if rises then 1 else a.ramp }

/-- A pass in progress needs full activity: until its last results reach the drain (R132); a skipped one of less than 96 cycles that
started at full activity, for its occupancy (R134). -/
def State.needsFull (s : State) (m : Nat) (r : RunPass) : Bool :=
  let n := passCycles r.pass (s.checksumMode m)
  if r.pass.skipped then r.full.isSome && decide (n < 96) && !s.cclkPassed r.start n
  else r.stalls || !s.passedFull r (n + if r.pass.opcode = 0x11 then 0 else 24)

/-- A skipped pass has a further one queued at cycle O − 48 (R134), and that cycle has come. Where O is less than 48 that cycle lies
before the start, and the first cycle takes its place (DESIGN CHOICE, log entry 151). -/
def State.skipRises (s : State) (m : Nat) (r : RunPass) : Bool :=
  r.pass.skipped && !r.late && !(s.mat m).queue.isEmpty &&
  s.cclkPassed r.start (passCycles r.pass (s.checksumMode m) - 48)

/-- The youngest pass in progress no longer decides the activity: none runs, its last results have reached the drain, or the occupancy
of a skipped one is over (R132, R134). -/
def State.activityFree (s : State) (m : Nat) : Bool :=
  match (s.mat m).running.getLast? with
  | none => true
  | some r => !r.pass.skipped || s.cclkPassed r.start (passCycles r.pass (s.checksumMode m))

/-- The activity of array `m` is to rise to full, or to stay there (R131, R132, R134): a pass in progress needs it, or a pass that was
accepted during ramp-down climbs back. -/
def State.activityUp (s : State) (m : Nat) : Bool :=
  let a := s.mat m
  a.running.any (fun r => s.needsFull m r || s.skipRises m r) ||
  (s.activityFree m && decide (0 < a.ramp) && ((a.queue.head?.map (fun c => !(passOf c.desc).skipped)).getD false))

/-- One step of the activity ramp, up or down (R131, R132, R134). -/
def State.rampStep (s : State) (m : Nat) (up : Bool) : State :=
  let a := s.mat m
  if up then
    if a.ramp < 8 ∧ s.activityUp m then
      let s := if a.ramp = 0 then s.stat (Reg.MAT_STAT_RAMPS + instDelta m) 1 else s
      let full := fun (r : RunPass) =>
        if a.ramp = 7 ∧ !r.pass.skipped ∧ r.full.isNone then { r with full := some s.tb } else r
      s.setMat m { a with ramp := a.ramp + 1, running := a.running.map full }
    else s
  else if 0 < a.ramp ∧ !s.activityUp m then s.setMat m { a with ramp := a.ramp - 1 }
  else s

/-! ### What a pass computes (R116 to R122) -/

/-- Element (t, k) of A with its scale. -/
def aElem (c : PassCmd) (row : Bytes) (k : Nat) : FpVal :=
  let v := elemVal c.aFmt (packedElem row (elemBits c.aFmt) k)
  if isMx c.aFmt then scaleVal (row.getD (c.k * elemBits c.aFmt / 8 + k / 32) 0).toNat v else v

/-- Element (k, n) inside a tile of W, its row and column counted from the tile, with its scale (R121). -/
def wElem (c : PassCmd) (tile : Bytes) (k n : Nat) : FpVal :=
  let kw := tileK c.wFmt
  let idx := ((k / (kw / 8) * 16 + n / 4) * (kw / 8) + k % (kw / 8)) * 4 + n % 4
  let v := elemVal c.wFmt (packedElem tile (elemBits c.wFmt) idx)
  if isMx c.wFmt then scaleVal (tile.getD (kw * 64 * elemBits c.wFmt / 8 + k / 32 * 64 + n) 0).toNat v else v

/-- An exact zero sum is +0 (R117). -/
def posZero (v : FpVal) : FpVal :=
  match v with | .fin _ 0 e => .fin false 0 e | w => w

/-- The exact tile sum of a list of products (R117, R118). -/
def tileSum (ps : List FpVal) : FpVal := posZero (ps.foldl fpAddVal (.fin false 0 0))

/-- One rounding of the accumulator (R117). -/
def accStep (acc : BitVec 32) (sum : FpVal) : BitVec 32 := f32Of (fpAddVal (f32Val acc) sum)

/-- The weight tile (nt, kt) as the feeder reads it. -/
def State.wTile (s : State) (c : PassCmd) (core nt kt : Nat) : Bytes :=
  let a := (if c.wPhys then c.wBase else coreAddr core c.wBase) + (nt * (c.k / tileK c.wFmt) + kt) * tileBytes c.wFmt
  s.fetch a (tileBytes c.wFmt)

/-- The accumulator of output element (t, n) after every tile step, from the row of A and the tiles of its N tile (R117): what the cubes
and banks below come to. -/
def accumulate (c : PassCmd) (row : Bytes) (tiles : List Bytes) (n : Nat) : BitVec 32 :=
  let sk := stepK c.aFmt c.wFmt
  (List.range (kSteps c)).foldl (fun acc i =>
    accStep acc (tileSum ((List.range sk).map (fun j =>
      let k := i * sk + j
      fpMulVal (aElem c row k) (wElem c (tiles.getD (k / tileK c.wFmt) []) (k % tileK c.wFmt) (n % 64)))))) 0

/-- An FP32 result converted to OUT_FMT (R119). -/
def passConvert (outFmt : Nat) (x : BitVec 32) : Nat := (convPlain outFmt false x).1

/-- The physical address of a core-store offset of the array's core. -/
def matAddr (m off : Nat) : Nat := coreAddr (m / 2) off

/-- Row t of A as the feeder reads it. -/
def State.aRow (s : State) (m : Nat) (c : PassCmd) (t : Nat) : Bytes :=
  s.fetch (matAddr m (c.aBase + t * c.aStride)) (aRowBytes c)

/-- Columns of an N tile (R139). -/
def tileCols (c : PassCmd) (chk : Bool) (nt : Nat) : List Nat :=
  let w := if chk then 60 else 64
  ((List.range w).map (fun i => nt * w + i)).filter (fun n => decide (n < c.n))

/-- The columns of an N tile that lie in columns 64 nt to 64 nt + 63 of W. -/
def colsOf (cols : List Nat) (nt : Nat) : List Nat := cols.filter (fun n => decide (n / 64 = nt))

/-- The weights that the feeder reads for an N tile: of each column of tiles the whole, or the cube blocks and the scales of the
columns it wants (R121, R139). -/
def weightReads (m : Nat) (c : PassCmd) (cols : List Nat) : List (Nat × Nat) :=
  let wb := if c.wPhys then c.wBase else matAddr m c.wBase
  let kt := c.k / tileK c.wFmt
  let tb := tileBytes c.wFmt
  let blk := tileK c.wFmt / 8 * 4 * elemBits c.wFmt / 8
  ((cols.map (fun n => n / 64)).eraseDups).flatMap (fun nt =>
    let cs := colsOf cols nt
    let lo := cs.headD 0 % 64 / 4
    let wide := ceilDiv cs.length 4
    if wide = 16 then [(wb + nt * kt * tb, kt * tb)]
    else (List.range kt).flatMap (fun k =>
      let at_ := wb + (nt * kt + k) * tb
      (List.range 8).map (fun rb => (at_ + (rb * 16 + lo) * blk, wide * blk)) ++
      (if isMx c.wFmt then (List.range (tileK c.wFmt / 32)).map (fun kb => (at_ + 128 * blk + kb * 64 + lo * 4, wide * 4)) else [])))

/-- The rows of A that a pass reads. -/
def aReads (m : Nat) (c : PassCmd) : List (Nat × Nat) :=
  (List.range c.m).map (fun t => (matAddr m (c.aBase + t * c.aStride), aRowBytes c))

/-- What the drain reads of C for an N tile. -/
def cReads (m : Nat) (c : PassCmd) (cols : List Nat) : List (Nat × Nat) :=
  if c.cEn then (List.range c.m).map (fun t => (matAddr m (c.cBase + t * c.cStride + 4 * cols.headD 0), 4 * cols.length)) else []

/-- An N tile is spoiled by poison: a line of A, of its weights or of its part of C (R146). -/
def State.tilePoisoned (s : State) (m : Nat) (c : PassCmd) (cols : List Nat) : Bool :=
  (aReads m c ++ weightReads m c cols ++ cReads m c cols).any (fun x => s.fetchPoisoned x.1 x.2)

/-- What an array reads for an N tile: A with the first tile, the weights of its columns, and the tile's part of C. -/
def tileReads (m : Nat) (c : PassCmd) (cols : List Nat) : List (Nat × Nat) :=
  (if cols.headD 0 = 0 then aReads m c else []) ++ weightReads m c cols ++ cReads m c cols

/-! ### The cubes and the banks (R111, R127, R129) -/

def zeroVal : FpVal := .fin false 0 0

/-- The exact sum of a list of numbers. -/
def sumVals (vs : List FpVal) : FpVal := tileSum vs

/-- K rows of a cube (R115). -/
def cubeK (c : PassCmd) : Nat := stepK c.aFmt c.wFmt / 8

/-- The weight of row k of tile step i and output column n, with its scale, from the weight tiles of the step's N tile column. -/
def stepWeight (c : PassCmd) (tiles : List Bytes) (i k n : Nat) : FpVal :=
  let k := i * stepK c.aFmt c.wFmt + k
  wElem c (tiles.getD (k / tileK c.wFmt) []) (k % tileK c.wFmt) (n % 64)

/-- What the feeder writes into the shadow registers for tile step i (R121, R129, R139, R140): cube (r, c) takes the step's rows of K
sub-block r and the N tile's columns of N sub-block c, zero beyond N; in checksum mode the first column of cube column 15 takes the
exact sums over the data columns. `tiles` are the weight tiles by column of tiles, from that of the N tile's first column. -/
def cubeWeights (c : PassCmd) (chk : Bool) (tiles : List (List Bytes)) (cols : List Nat) (i : Nat) : List (List FpVal) :=
  let c0 := cols.headD 0
  let w := fun k n => stepWeight c (tiles.getD (n / 64 - c0 / 64) []) i k n
  (List.range 128).map (fun q =>
    (List.range (cubeK c * 4)).map (fun e =>
      let k := q / 16 * cubeK c + e / 4
      let j := q % 16 * 4 + e % 4
      if chk && decide (60 ≤ j) then (if j = 60 then sumVals (cols.map (w k)) else zeroVal)
      else if j < cols.length then w k (c0 + j)
      else zeroVal))

/-- The weight for row k of a tile step and column j of the N tile, from the cube that holds it. -/
def cubeWeight (c : PassCmd) (cubes : List (List FpVal)) (k j : Nat) : FpVal :=
  (cubes.getD (k / cubeK c * 16 + j / 4) []).getD (k % cubeK c * 4 + j % 4) zeroVal

/-- The tile sum that column j of the active registers forms of a row of activations (R117). -/
def cubeSum (c : PassCmd) (cubes : List (List FpVal)) (xs : List FpVal) (j : Nat) : FpVal :=
  tileSum ((List.range (stepK c.aFmt c.wFmt)).map (fun k => fpMulVal (xs.getD k zeroVal) (cubeWeight c cubes k j)))

/-- The activations of row t in tile step i. -/
def stepRow (c : PassCmd) (row : Bytes) (i : Nat) : List FpVal :=
  (List.range (stepK c.aFmt c.wFmt)).map (fun k => aElem c row (i * stepK c.aFmt c.wFmt + k))

/-- An exact sum as a number. -/
def exactVal : ExactSum → FpVal
  | .nan => .nan
  | .inf s => .inf s
  | .fin s m e => .fin s m e

/-- A tile sum as the array forms it: the exact one unless a fault makes it come out wrong (R141). -/
def sumAs (fx : PassFacts) (nt i : Nat) (p : SumPlace) (v : FpVal) : FpVal :=
  match fx.wrong.find? (fun x => decide (x.ntile = nt) && decide (x.step = i) && decide (x.place = p)) with
  | some x => exactVal x.value
  | none => v

/-- The data columns of which an N tile forms tile sums: in checksum mode all 60, those beyond N with zero weights (R139). -/
def dataColumns (chk : Bool) (cols : List Nat) : Nat := if chk then 60 else cols.length

/-- The tile sums of a tile step, token by token (R117). -/
def stepSums (c : PassCmd) (chk : Bool) (fx : PassFacts) (nt i : Nat) (cols : List Nat) (cubes : List (List FpVal)) (xs : List (List FpVal)) :
    List (List FpVal) :=
  ((List.range xs.length).zip xs).map (fun x =>
    (List.range (dataColumns chk cols)).map (fun j => sumAs fx nt i (.data x.1 (cols.headD 0 + j)) (cubeSum c cubes x.2 j)))

/-! ### The checker (R139 to R142) -/

def FpVal.finite : FpVal → Bool
  | .fin _ _ _ => true
  | _ => false

/-- A comparison of the checker reports a mismatch: every tile sum in it is finite, and the sides differ (R140). -/
def checkDiffers (sums : List FpVal) (against : FpVal) : Bool :=
  sums.all FpVal.finite && against.finite &&
  (match fpAddVal (sumVals sums) (fpNegVal against) with | .fin _ m _ => decide (m ≠ 0) | _ => false)

/-- The token comparison of token t differs (R140): its data columns against the checksum column. -/
def tokenDiffers (c : PassCmd) (fx : PassFacts) (nt i : Nat) (cubes : List (List FpVal)) (xs sums : List (List FpVal)) (t : Nat) : Bool :=
  checkDiffers (sums.getD t []) (sumAs fx nt i (.check t) (cubeSum c cubes (xs.getD t []) 60))

/-- The tokens of a lane in a block of up to 16 groups. -/
def laneTokens (c : PassCmd) (b l : Nat) : List Nat :=
  ((List.range 16).map (fun g => (16 * b + g) * 4 + l)).filter (fun t => decide (t < c.m))

/-- The column comparison of a lane, a block and a column differs (R140): its tokens against the checksum group, which carries the exact
sums of their activations. -/
def columnDiffers (c : PassCmd) (fx : PassFacts) (nt i : Nat) (cols : List Nat) (cubes : List (List FpVal)) (xs sums : List (List FpVal))
    (b l j : Nat) : Bool :=
  let ts := laneTokens c b l
  let group := (List.range (stepK c.aFmt c.wFmt)).map (fun k => sumVals (ts.map (fun t => (xs.getD t []).getD k zeroVal)))
  checkDiffers (ts.map (fun t => (sums.getD t []).getD j zeroVal))
    (sumAs fx nt i (.group b l (cols.headD 0 + j)) (cubeSum c cubes group j))

/-- The check of a tile step (R140, R142): none, or a mismatch, and whether a column comparison found it first. A block's checksum group
follows its data groups, so its token comparisons come first (DEDUCED, log entry 125). -/
def stepCheck (c : PassCmd) (fx : PassFacts) (nt i : Nat) (cols : List Nat) (cubes : List (List FpVal)) (xs sums : List (List FpVal)) :
    Option Bool :=
  (List.range (ceilDiv (groupsOf c) 16)).findSome? (fun b =>
    if (List.range 64).any (fun t => decide (64 * b + t < c.m) && tokenDiffers c fx nt i cubes xs sums (64 * b + t)) then some false
    else if (List.range 4).any (fun l => (List.range (dataColumns true cols)).any (columnDiffers c fx nt i cols cubes xs sums b l)) then some true
    else none)

/-- An N tile as the cubes work through it: the registers, the accumulator rows of its bank, the steps that mismatched. -/
structure TileRun where
  shadow : List (List FpVal)
  active : List (List FpVal)
  accs : List (List (BitVec 32))
  mismatches : List (Nat × Nat × Bool)

/-- One tile step (R117, R127, R129): the feeder fills the shadow registers, the front makes them active, every token's tile sums are
added into the bank, and in checksum mode the step is checked. -/
def TileRun.step (c : PassCmd) (chk : Bool) (fx : PassFacts) (nt : Nat) (cols : List Nat) (tiles : List (List Bytes)) (rows : List Bytes)
    (x : TileRun) (i : Nat) : TileRun :=
  let shadow := cubeWeights c chk tiles cols i
  let active := shadow
  let xs := rows.map (fun r => stepRow c r i)
  let sums := stepSums c chk fx nt i cols active xs
  let bad := if chk then stepCheck c fx nt i cols active xs sums else none
  { shadow := shadow, active := active
    accs := (x.accs.zip sums).map (fun p => (p.1.zip p.2).map (fun q => accStep q.1 q.2))
    mismatches := x.mismatches ++ (match bad with | some col => [(nt, i, col)] | none => []) }

/-- The weight tiles of an N tile, by column of tiles. -/
def State.tilesFor (s : State) (m : Nat) (c : PassCmd) (cols : List Nat) : List (List Bytes) :=
  ((cols.map (fun n => n / 64)).eraseDups).map (fun nt => (List.range (c.k / tileK c.wFmt)).map (s.wTile c (m / 2) nt))

/-- Run an N tile (R117, R127): its accumulators start at +0. -/
def State.runTile (s : State) (m : Nat) (c : PassCmd) (chk : Bool) (fx : PassFacts) (nt : Nat) (cols : List Nat) : TileRun :=
  let a := s.mat m
  (List.range (kSteps c)).foldl
    (TileRun.step c chk fx nt cols (s.tilesFor m c cols) ((List.range c.m).map (s.aRow m c)))
    ⟨a.shadow, a.active, List.replicate c.m (List.replicate cols.length 0), []⟩

/-- The outputs that the drain forms from the rows of a bank, in OUT_FMT; canonical NaN where the tile is spoiled (R119, R146). -/
def State.drainRows (s : State) (m : Nat) (c : PassCmd) (cols : List Nat) (accs : List (List (BitVec 32))) (spoiled : Bool) :
    List (List Nat) :=
  (List.range c.m).map (fun t => (List.range cols.length).map (fun j =>
    let acc := (accs.getD t []).getD j 0
    let v := if c.cEn then
        f32Add acc (BitVec.ofNat 32 (leNat (s.fetch (matAddr m (c.cBase + t * c.cStride + 4 * (cols.headD 0 + j))) 4)))
      else acc
    passConvert c.outFmt (if spoiled then f32NaN else v)))

/-- A pushed tile of up to 16 rows (R51, R125). -/
def pushedTile (c : PassCmd) (rowBase colBase cols : Nat) (rows : List (List Nat)) : Bytes :=
  let w := outBytes c
  leBytes 4 (c.tag + (if c.outFmt = 1 then 2 ^ 16 else 0) + rows.length * 2 ^ 17 + cols * 2 ^ 22) ++
  leBytes 4 rowBase ++ leBytes 4 colBase ++ List.replicate 52 0 ++
  rows.flatMap (fun r => (List.range 128).flatMap (fun i => leBytes w (r.getD i 0)))

/-- Split a list into groups of 16. -/
def groups16 {α : Type} : Nat → List α → List (List α)
  | 0, _ => []
  | n + 1, l => if l.isEmpty then [] else l.take 16 :: groups16 n (l.drop 16)

/-- The drain of one N tile: to core store, to a router, or nowhere here for a stream (R125, R126). -/
def State.drainTile (s : State) (m : Nat) (c : PassCmd) (cols : List Nat) (rows : List (List Nat)) : State :=
  let c0 := cols.headD 0
  match c.dest with
  | 0 => ((List.range rows.length).zip rows).foldl (fun s p =>
      s.put (matAddr m (c.outBase + p.1 * c.outStride + c0 * outBytes c)) (p.2.flatMap (leBytes (outBytes c)))) s
  | 2 => ((List.range 256).zip (groups16 256 rows)).foldl (fun s p =>
      s.pushTile c.router (pushedTile c (p.1 * 16 + c.rowOffset) (c0 + c.colOffset) cols.length p.2)) s
  | _ => s

/-- Join the columns of the N tiles into whole rows. -/
def joinRows (m : Nat) (parts : List (List (List Nat))) : List (List Nat) :=
  (List.range m).map (fun t => parts.flatMap (fun p => p.getD t []))

/-- The first mismatch of a pass goes to MAT_CHK_LOG while nothing is recorded there (R142). -/
def State.recordMismatch (s : State) (m : Nat) (c : PassCmd) (ms : List (Nat × Nat × Bool)) : State :=
  match ms with
  | [] => s
  | (nt, ks, col) :: _ =>
    if s.fld Reg.MAT_CHK_LOG_VALID (instDelta m) = 1 then s
    else s.setReg (Reg.MAT_CHK_LOG + instDelta m)
      (BitVec.ofNat 64 (c.tag + nt % 2 ^ 32 * 2 ^ 16 + ks % 2 ^ 12 * 2 ^ 48 + b2n col * 2 ^ 60 + 2 ^ 61))

/-- What the tiles of a pass come to: the tiles spoiled, whether poison spoiled any, the outputs of each, the mismatches. -/
structure PassRun where
  spoiled : Nat := 0
  poison : Bool := false
  parts : List (List (List Nat)) := []
  mismatches : List (Nat × Nat × Bool) := []

/-- Every output of a pass, N tile by N tile, written, pushed or streamed; the spoiled tiles by poison and by the accumulator (R117 to
R127, R146). N tile nt accumulates in bank nt mod 2. The checker compares the sums of a spoiled tile too (R140); a poisoned line enters
them with the bytes it holds (DESIGN CHOICE, log entry 149). -/
def State.runTiles (s : State) (m : Nat) (c : PassCmd) (chk : Bool) (fx : PassFacts) : State × PassRun :=
  (List.range (nTiles c chk)).foldl (fun acc nt =>
    let s := acc.1
    let x := acc.2
    let cols := tileCols c chk nt
    let poison := s.tilePoisoned m c cols
    let spoiled := poison || fx.accUe.contains nt
    let run := s.runTile m c chk fx nt cols
    let rows := s.drainRows m c cols run.accs spoiled
    let s := s.noteReads (tileReads m c cols)
    let a := s.mat m
    let s := s.setMat m { a with shadow := run.shadow, active := run.active, banks := SMap.insert a.banks (nt % 2) run.accs }
    (s.drainTile m c cols rows,
      { spoiled := x.spoiled + b2n spoiled, poison := x.poison || poison, parts := x.parts ++ [rows],
        mismatches := x.mismatches ++ run.mismatches })) (s, {})

/-- The physical cube of lane l (R144, R145). -/
def State.laneCube (s : State) (m : Nat) (c : PassCmd) (l : Nat) : Nat :=
  if c.phys then 128 * c.bank + l else s.physCube m (l / 16) (l % 16)

/-- The results of a LANE (R144, R145): 128 lanes, lanes of bank 1 from 25 on give +0; a faulty cube affects its own lane. -/
def State.laneResults (s : State) (m : Nat) (c : PassCmd) (cubes : List (Nat × BitVec 32)) : List (BitVec 32) :=
  let sc := s.fetch (matAddr m c.wBase) (ceilDiv (c.elems * elemBits c.wFmt) 8)
  (List.range 128).map (fun l =>
    if c.phys && decide (c.bank = 1) && decide (25 ≤ l) then 0
    else match cubes.find? (fun x => decide (x.1 = s.laneCube m c l)) with
    | some x => x.2
    | none =>
      let y0 := if c.cEn then BitVec.ofNat 32 (leNat (s.fetch (matAddr m (c.cBase + 4 * l)) 4)) else 0
      (List.range c.elems).foldl (fun y e =>
        let x := s.fetch (matAddr m (c.aBase + e * laneVecBytes c.aFmt)) (laneVecBytes c.aFmt)
        accStep y (fpMulVal (elemVal c.aFmt (packedElem x (elemBits c.aFmt) l))
          (elemVal c.wFmt (packedElem sc (elemBits c.wFmt) e)))) y0)

/-! ### Failed results (R85, R100) -/

/-- What is left of an extent outside a range. -/
def extentMinus (x : Nat × Nat × Nat) (r : Nat × Nat) : List (Nat × Nat × Nat) :=
  [(x.1, min x.2.1 (r.1 - x.1), x.2.2), (max x.1 (r.1 + r.2), x.1 + x.2.1 - max x.1 (r.1 + r.2), x.2.2)].filter
    (fun y => decide (0 < y.2.1))

/-- The first code of the failed results that ranges touch; 0: none. -/
def State.spoiltCode (s : State) (ranges : List (Nat × Nat)) : Nat :=
  ((s.spoilt.find? (fun x => ranges.any (fun r => decide (0 < r.2) && rangesOverlap x.1 x.2.1 r.1 r.2))).map (fun x => x.2.2)).getD 0

/-- New results lie in ranges: those of a failed command carry its code, good ones none. -/
def State.setSpoilt (s : State) (ranges : List (Nat × Nat)) (code : Nat) : State :=
  let left := ranges.foldl (fun (l : List (Nat × Nat × Nat)) r => l.flatMap (fun x => extentMinus x r)) s.spoilt
  { s with spoilt := if code = 0 then left else left ++ ranges.map (fun r => (r.1, r.2, code)) }

/-- Results are copied: their failures go with them. -/
def State.copySpoilt (s : State) (src dst n : Nat) : State :=
  let hit := s.spoilt.filterMap (fun x =>
    let lo := max x.1 src
    let hi := min (x.1 + x.2.1) (src + n)
    if lo < hi then some (dst + (lo - src), hi - lo, x.2.2) else none)
  let t := s.setSpoilt [(dst, n)] 0
  { t with spoilt := t.spoilt ++ hit }

/-- Where the results of a pass or a LANE lie in core store. -/
def passOutputs (m : Nat) (c : PassCmd) : List (Nat × Nat) :=
  if c.opcode = 0x11 then [(matAddr m c.outBase, 512)]
  else if c.dest = 0 then (List.range c.m).map (fun t => (matAddr m (c.outBase + t * c.outStride), c.n * outBytes c))
  else []

/-- The last stream element of array `m` has arrived: the running command of its core that takes the stream has its input, and one
that discards it may end (R166, R167). -/
def State.streamEnd (s : State) (m : Nat) (rows : List (List Nat)) (code : Nat) : State :=
  let ch := s.chains.get (fun _ => ⟨[], none⟩) (m / 2)
  match ch.running with
  | some x =>
    if x.begun ∧ descFld x.cmd.desc 0 12 2 = m % 2 + 1 ∧ x.rows.isNone then
      let ch : ChainEngine := { ch with running := some { x with rows := some (if x.mismatch then [] else rows), spoilt := code, moved := s.tb } }
      { s with chains := s.chains.set (fun _ => ⟨[], none⟩) (m / 2) ch }
    else s
  | none => s

/-- The oldest pass of an array completes (R124, R133, R142, R146). What a LANE, which has no N tile, makes of a poisoned operand line,
and that MAT_STAT_PASSES counts a LANE, is the model's choice (DESIGN CHOICE, log entry 150). -/
def State.passComplete (s : State) (m : Nat) (fx : PassFacts) : State :=
  let a := s.mat m
  let δ := instDelta m
  match a.running with
  | [] => s
  | r :: rest =>
    let c := passOf r.cmd.desc
    let chk := s.checksumMode m
    let stalls := if c.opcode = 0x10 ∧ !c.skip then fx.wStall + fx.drainStall + r.stall else 0
    let finish := fun (s : State) code =>
      let s := s.setMat m { s.mat m with running := rest }
      let s := s.setReg (Reg.MAT_LAST_PASS + δ)
        (BitVec.ofNat 64 (c.tag + (passNominal c chk + (if r.climbed then 48 else 0) + stalls) % 2 ^ 48 * 2 ^ 16))
      (s.stat (Reg.MAT_STAT_PASSES + δ) 1).complete c.completion code
    if c.opcode = 0x11 then
      let poison := s.fetchPoisoned (matAddr m c.aBase) (c.elems * laneVecBytes c.aFmt) ||
        s.fetchPoisoned (matAddr m c.wBase) (ceilDiv (c.elems * elemBits c.wFmt) 8) ||
        (c.cEn && s.fetchPoisoned (matAddr m c.cBase) 512)
      let res := if poison then List.replicate 128 f32NaN else s.laneResults m c fx.cubes
      let s := s.noteReads ([(matAddr m c.aBase, c.elems * laneVecBytes c.aFmt),
        (matAddr m c.wBase, ceilDiv (c.elems * elemBits c.wFmt) 8)] ++ if c.cEn then [(matAddr m c.cBase, 512)] else [])
      let s := s.put (matAddr m c.outBase) (res.flatMap (fun v => leBytes 4 v.toNat))
      let code := if poison then 0x080C else 0
      let s := s.setSpoilt (passOutputs m c) (firstNonzero (s.spoiltCode [(matAddr m c.aBase, c.elems * laneVecBytes c.aFmt)]) code)
      let s := if poison then (s.stat (Reg.MAT_STAT_POISON + δ) 1).raise (matSite m) 0x080C else s
      finish s code
    else if c.skip then finish (s.stat (Reg.MAT_STAT_SKIPS + δ) 1) 0
    else
      let inputs := s.spoiltCode (aReads m c ++ cReads m c (List.range c.n))
      let (s, run) := s.runTiles m c chk fx
      let s := s.stat (Reg.MAT_STAT_GROUPS + δ) (nTiles c chk * kSteps c * groupsOf c)
      let s := s.stat (Reg.MAT_STAT_W_STALL + δ) fx.wStall
      let s := s.stat (Reg.MAT_STAT_DRAIN_STALL + δ) fx.drainStall
      let s := s.stat (Reg.MAT_STAT_POISON + δ) run.spoiled
      let s := s.stat (Reg.MAT_STAT_ACC_CORRECTED + δ) fx.accCorrected
      let mm := run.mismatches
      let s := (s.stat (Reg.MAT_STAT_CHK_MISMATCH + δ) mm.length).recordMismatch m c mm
      let ue := fx.accUe.any (fun t => decide (t < nTiles c chk))
      let s := s.raiseTimes (matSite m) 0x0811 (b2n ue)
      let s := s.raiseTimes (matSite m) 0x080C (b2n run.poison)
      let s := s.raiseTimes (matSite m) 0x080B (b2n (!mm.isEmpty))
      let code := if ue then 0x0811 else if run.poison then 0x080C else if mm.isEmpty then 0 else 0x080B
      let s := s.setSpoilt (passOutputs m c) (firstNonzero inputs code)
      let s := if c.dest = 1 then s.streamEnd m (joinRows c.m run.parts) (firstNonzero inputs code) else s
      finish s code

/-- The oldest pass may complete: once it has run at full activity, unless skipped, and with its stream taken or discarded (R132,
R165). -/
def State.passMayComplete (s : State) (m : Nat) : Bool :=
  let a := s.mat m
  match a.running with
  | [] => false
  | r :: _ =>
    r.pass.skipped || (r.full.isSome && !r.stalls)

/-- When the oldest pass of an array last moved (R474; log entry 69): it admits groups or drains outputs for as long as its cycles last
from full activity on, and again from the beginning of its stream; one whose drain stands still, until its other accumulator bank
is full (R165). -/
def State.passMoved (s : State) (m : Nat) : Option Nat :=
  (s.mat m).running.head?.map (fun r =>
    let chk := s.checksumMode m
    if r.pass.skipped then min s.tb (r.start + s.cclkNs (passCycles r.pass chk))
    else match r.full with
      | none => r.start
      | some t =>
        let n := if r.stalls then 2 * (passOccupancy r.pass chk / nTiles r.pass chk) + 24 else passNominal r.pass chk
        min s.tb (max r.moved t + s.cclkNs n))

/-- The passes that a predicate selects stop and complete with a code, the running one first (R147, R479); what they were to write is of
failed passes (R100). A stopped pass is none completed: neither MAT_STAT_PASSES nor MAT_LAST_PASS shows it (DESIGN CHOICE, log entry
150). -/
def State.matStop (s : State) (m : Nat) (mine : Cmd → Bool) (code : Nat) : State :=
  let a := s.mat m
  let gone := (a.running.map RunPass.cmd).filter mine ++ a.queue.filter mine
  if gone.isEmpty then s
  else
    let s := a.running.foldl (fun s r => if mine r.cmd ∧ (passOf r.cmd.desc).dest = 0 ∧ (passOf r.cmd.desc).opcode = 0x10
        ∧ !(passOf r.cmd.desc).skip then
        let c := passOf r.cmd.desc
        (List.range c.m).foldl (fun s t => s.scratchArea (matAddr m (c.outBase + t * c.outStride)) (c.n * outBytes c)) s
      else s) s
    let s := s.setMat m { a with running := a.running.filter (fun r => !mine r.cmd),
                                 queue := a.queue.filter (fun c => !mine c) }
    let s := s.setSpoilt (gone.flatMap (fun c => passOutputs m (passOf c.desc))) code
    gone.foldl (fun s c => (s.raise (matSite m) code).complete (passOf c.desc).completion code) s

/-- A torn-down context's passes complete with 0x080D (R147). -/
def State.matCancel (s : State) (m ctx : Nat) : State := s.matStop m (fun c => decide (c.context = ctx)) 0x080D

/-! ### Self-test repair (R137) -/

/-- Physical cube i is used under the skips rs, cs; 15 and 31 mean none (R137). -/
def cubeUsed (rs cs i : Nat) : Bool :=
  let pr := i / 17
  let pc := i % 17
  decide (pr ≠ rs) && decide (pc ≠ cs) && (decide (rs ≠ 15) || decide (pr ≠ 8)) && (decide (cs ≠ 31) || decide (pc ≠ 16))

/-- The repair chosen from a fault map: (row, column), or none for OFF (R137). -/
def chooseRepair (faulty : List Nat) (fuseRow fuseCol : Nat) : Option (Nat × Nat) :=
  let rows := if fuseRow ≠ 15 then [fuseRow] else 15 :: List.range 8
  let cols := if fuseCol ≠ 31 then [fuseCol] else 31 :: List.range 16
  let soft := fun rs cs => b2n (fuseRow = 15 && decide (rs ≠ 15)) + b2n (fuseCol = 31 && decide (cs ≠ 31))
  ((List.range 3).flatMap (fun n => rows.flatMap (fun rs => cols.filterMap (fun cs =>
    if soft rs cs = n ∧ !faulty.any (cubeUsed rs cs) then some (rs, cs) else none)))).head?

/-- The self-test of array `m` with its fault map (R137, R138). -/
def State.selfTest (s : State) (m : Nat) (faulty : List Nat) : State :=
  let δ := instDelta m
  let f := s.fuseSkip m
  let s := (List.range 3).foldl (fun s i => s.setReg (Reg.MAT_SELFTEST + δ + 8 * i)
    (BitVec.ofNat 64 ((faulty.filter (fun c => decide (c / 64 = i))).foldl (fun acc c => acc ||| 2 ^ (c % 64)) 0))) s
  let s := s.setFld Reg.MAT_STATE_SELFTEST_DONE δ 1
  match chooseRepair faulty f.1 f.2 with
  | none => ((s.setFld Reg.MAT_STATE_OFF δ 1).raise (matSite m) 0x0810).syncMat m
  | some (rs, cs) =>
    let s := s.setFld Reg.MAT_REPAIR_ROW δ (if f.1 ≠ 15 then 15 else rs)
    let s := s.setFld Reg.MAT_REPAIR_COL δ (if f.2 ≠ 31 then 31 else cs)
    let s := s.setFld Reg.MAT_STATE_OFF δ 0
    let s := if rs ≠ 15 ∧ cs ≠ 31 then s.setFld Reg.MAT_CTRL_CHECKSUM_REQ δ 1 else s
    s.syncMat m

end Sys2Proof.Machine
end

