-- ==== Sys2Proof/Machine/Chain.lean ====
section
/-! DEFINITION. The chain engine (R150 to R171) and the combine command that runs on it (R101 to R108). -/

namespace Sys2Proof.Machine

def chainInit : ChainEngine := ⟨[], none⟩

/-- The chain engine of core `n`. -/
def State.chain (s : State) (n : Nat) : ChainEngine := s.chains.get (fun _ => chainInit) n

/-- The site of core `n`'s chain engine. -/
def chainSite (n : Nat) : Site := site 3 n

/-- Show the engine in CHN_STATE. -/
def State.syncChain (s : State) (n : Nat) : State :=
  let c := s.chain n
  (s.setFld Reg.CHN_STATE_BUSY (instDelta n) (b2n c.running.isSome)).setFld Reg.CHN_STATE_QUEUED (instDelta n) c.queue.length

/-- Set the chain engine of core `n` and show it. -/
def State.setChain (s : State) (n : Nat) (c : ChainEngine) : State :=
  { s with chains := s.chains.set (fun _ => chainInit) n c }.syncChain n

/-! ### The CHAIN descriptor (R150 to R164) -/

/-- A stage word (R155). -/
structure Stage where
  op : Nat
  bSel : Nat
  cSel : Nat
  cmp : Nat
  castFmt : Nat
  sat : Bool
  imm : BitVec 32
deriving DecidableEq, Repr

/-- An auxiliary source (R151). -/
structure Aux where
  base : Nat
  mode : Nat
  stride : Nat
deriving DecidableEq, Repr

/-- A CHAIN descriptor as the engine reads it. -/
structure ChainCmd where
  stages : List Stage
  src : Nat
  inFmt : Nat
  outFmt : Nat
  sat : Bool
  tag : Nat
  slot : Nat
  rows : Nat
  cols : Nat
  inBase : Nat
  inStride : Nat
  outBase : Nat
  outStride : Nat
  aux0 : Aux
  aux1 : Aux
  completion : Nat
deriving DecidableEq, Repr

/-- Read a stage word. -/
def stageOf (w : Nat) : Stage :=
  ⟨bits w 0 4, bits w 4 3, bits w 7 3, bits w 10 3, bits w 13 4, bit w 17, BitVec.ofNat 32 (bits w 32 32)⟩

/-- Read a CHAIN descriptor. -/
def chainOf (d : Desc) : ChainCmd :=
  let f := descFld d
  let aux := fun o => (⟨f o 0 23, f o 24 2, f o 32 32⟩ : Aux)
  { stages := (List.range (min (f 0 8 4) 8)).map (fun i => stageOf (descWord d (8 + i)))
    src := f 0 12 2, inFmt := f 0 14 4, outFmt := f 0 18 4, sat := decide (f 0 22 1 = 1)
    tag := f 0 32 16, slot := f 0 48 3, rows := f 8 0 17, cols := f 8 32 25
    inBase := f 0x10 0 23, inStride := f 0x10 32 32, outBase := f 0x18 0 23, outStride := f 0x18 32 32
    aux0 := aux 0x20, aux1 := aux 0x28, completion := f 0x30 0 14 }

/-- The defined bits of a CHAIN descriptor before the stage words. -/
def chainMasks : List Nat :=
  [0x0007FFFF007FFFFF, 0x01FFFFFF0001FFFF, 0xFFFFFFFF007FFFFF, 0xFFFFFFFF007FFFFF, 0xFFFFFFFF037FFFFF,
   0xFFFFFFFF037FFFFF, maskOf 0 14, 0]

/-- A stage has operand B, operand C. -/
def hasB (op : Nat) : Bool := [0, 1, 2, 6, 7, 8].contains op
def hasC (op : Nat) : Bool := [2, 8].contains op

/-- A stage word has a reserved bit set, or a field its stage does not use (R164). -/
def stageReserved (w : Nat) : Bool :=
  let g := stageOf w
  decide (bits w 18 14 ≠ 0) || (!hasB g.op && decide (g.bSel ≠ 0)) || (!hasC g.op && decide (g.cSel ≠ 0)) ||
  (decide (g.op ≠ 8) && decide (g.cmp ≠ 0)) || (decide (g.op ≠ 9) && (decide (g.castFmt ≠ 0) || g.sat))

/-- A stage breaks the catalogue (R150, R155, R157, R159). -/
def stageBad (g : Stage) : Bool :=
  decide (11 < g.op) || decide (4 < g.bSel) || decide (4 < g.cSel) || decide (5 < g.cmp) || decide (5 < g.castFmt)

/-- The output format is an MX code (R161). -/
def isMxOut (f : Nat) : Bool := decide (6 ≤ f) && decide (f ≤ 11)

/-- The stages break R160 or R162. -/
def stagesBad (c : ChainCmd) : Bool :=
  let nq := (c.stages.filter (fun g => decide (g.op = 10))).length
  let ns := (c.stages.filter (fun g => decide (g.op = 11))).length
  c.stages.any stageBad || decide (1 < ns) || decide (1 < nq) ||
  (decide (nq = 1) && (decide ((c.stages.getLast?.map Stage.op) ≠ some 10) || !aligned c.cols 32)) ||
  (decide (nq = 1) != isMxOut c.outFmt)

/-- Bytes of a row in a plain format or an MX output. -/
def outRowBytes (c : ChainCmd) : Nat :=
  if isMxOut c.outFmt then c.cols * elemBits (mxFmt c.outFmt) / 8 + c.cols / 32
  else c.cols * plainBits c.outFmt / 8

/-- Bytes of an input row. -/
def inRowBytes (c : ChainCmd) : Nat := c.cols * plainBits c.inFmt / 8

/-- Some stage selects auxiliary source 1 or 2 of the selector table (R150). -/
def usesAux (c : ChainCmd) (sel : Nat) : Bool :=
  c.stages.any (fun g => (hasB g.op && decide (g.bSel = sel)) || (hasC g.op && decide (g.cSel = sel)))

/-- The rows of an auxiliary source: first byte, stride, row bytes, rows (R151). -/
def auxExtent (c : ChainCmd) (a : Aux) : Nat × Nat × Nat × Nat :=
  match a.mode with
  | 0 => (a.base, a.stride, 4 * c.cols, c.rows)
  | 1 => (a.base, 0, 4 * c.cols, 1)
  | _ => (a.base, 0, 4 * c.rows, 1)

/-- An auxiliary source lies outside the core store, is misaligned or has an illegal stride. -/
def auxBad (c : ChainCmd) (a : Aux) : Bool :=
  let x := auxExtent c a
  localBad x.1 ((x.2.2.2 - 1) * x.2.1 + x.2.2.1) ||
  (decide (a.mode = 0) && (!aligned a.stride 64 || decide (a.stride < 4 * c.cols)))

/-- The output rows overlap a set of rows. -/
def outOverlaps (c : ChainCmd) (x : Nat × Nat × Nat × Nat) : Bool :=
  decide (c.outFmt ≠ 15) && rowsOverlap c.outBase c.outStride (outRowBytes c) c.rows x.1 x.2.1 x.2.2.1 x.2.2.2

/-- The first failing check of a CHAIN descriptor on core `n` (R164). -/
def State.chainCode (s : State) (n : Nat) (d : Desc) : Option Nat :=
  let c := chainOf d
  let st := descFld d 0 8 4
  let inPlace := decide (c.src = 0) && decide (c.outBase = c.inBase) && decide (c.outStride = c.inStride) &&
    decide (outRowBytes c ≤ inRowBytes c)
  let used := [(1, c.aux0), (2, c.aux1)].filter (fun p => usesAux c p.1)
  firstCode [
    (!reservedClear d chainMasks 8 ||
      (List.range (min st 8)).any (fun i => stageReserved (descWord d (8 + i))), 0x0C02),
    (decide (c.rows = 0) || decide (c.cols = 0), 0x0C03),
    (decide (8 < st) || decide (c.src = 3) || decide (65536 < c.rows) || decide (16777216 < c.cols) ||
      used.any (fun p => decide (p.2.mode = 3)), 0x0C04),
    (stagesBad c, 0x0C05),
    (decide (5 < c.inFmt) || (decide (c.src ≠ 0) && decide (2 < c.inFmt)) ||
      (decide (11 < c.outFmt) && decide (c.outFmt ≠ 15)), 0x0C06),
    ((decide (c.src = 0) && (localBad c.inBase ((c.rows - 1) * c.inStride + inRowBytes c) ||
        !aligned c.inStride 64 || decide (c.inStride < inRowBytes c))) ||
      (decide (c.outFmt ≠ 15) && (localBad c.outBase ((c.rows - 1) * c.outStride + outRowBytes c) ||
        !aligned c.outStride 64 || decide (c.outStride < outRowBytes c))) ||
      used.any (fun p => auxBad c p.2), 0x0C07),
    ((decide (c.src = 0) && !inPlace && outOverlaps c (c.inBase, c.inStride, inRowBytes c, c.rows)) ||
      used.any (fun p => outOverlaps c (auxExtent c p.2)), 0x0C08),
    (decide (s.fld Reg.CHN_CTRL_ENABLE (instDelta n) = 0), 0x0C09)]

/-! ### The COMBINE descriptor (R102 to R108) -/

/-- A COMBINE descriptor as the engine reads it. -/
structure CombineCmd where
  weight : Nat
  retFmt : Nat
  sharedFmt : Nat
  outFmt : Nat
  scale : BitVec 32
  first : Nat
  count : Nat
  seats : Nat
  hidden : Nat
  experts : Nat
  seatIn : Nat
  summaryIn : Nat
  rhBase : Nat
  rsBase : Nat
  rrBase : Nat
  sharedBase : Nat
  sharedStride : Nat
  outBase : Nat
  outStride : Nat
  statusOut : Nat
  completion : Nat
deriving DecidableEq, Repr

/-- Read a COMBINE descriptor. -/
def combineOf (d : Desc) : CombineCmd :=
  let f := descFld d
  { weight := f 0 8 2, retFmt := f 0 10 4, sharedFmt := f 0 14 4, outFmt := f 0 18 4
    scale := BitVec.ofNat 32 (f 0 32 32), first := f 8 0 17, count := f 8 32 17, seats := f 8 49 5
    hidden := f 0x10 0 15, experts := f 0x10 32 15, seatIn := f 0x18 0 48, summaryIn := f 0x20 0 48
    rhBase := f 0x28 0 48, rsBase := f 0x30 0 48, rrBase := f 0x38 0 48, sharedBase := f 0x40 0 48
    sharedStride := f 0x48 0 32, outBase := f 0x50 0 48, outStride := f 0x58 0 32, statusOut := f 0x60 0 48
    completion := f 0x68 0 14 }

/-- The defined bits of a COMBINE descriptor. -/
def combineMasks : List Nat :=
  [0xFFFFFFFF003FFFFF, 0x003FFFFF0001FFFF, 0x00007FFF00007FFF, maskOf 0 48, maskOf 0 48, maskOf 0 48, maskOf 0 48,
   maskOf 0 48, maskOf 0 48, maskOf 0 32, maskOf 0 48, maskOf 0 32, maskOf 0 48, maskOf 0 14]

/-- R, the bytes of a row of H elements in a row format (R79). -/
def rowBytes (fmt h : Nat) : Nat :=
  match fmt with
  | 0 => 4 * h | 1 => 2 * h | 2 => 2 * h | 3 => h | 4 => h | _ => h + h / 32

/-- R', the stride of rows in a frame (R79). -/
def rowStride (fmt h : Nat) : Nat := 256 * ceilDiv (rowBytes fmt h) 256

/-- QUOTA of expert e in an expert summary that follows a result header (R67). -/
def State.sumQuota (s : State) (hdr e : Nat) : Nat := bits (s.fetchNat (hdr + 64 + 8 * e) 8) 40 12

/-- SLOT_BASE of expert e as the combine derives it (R102). -/
def State.slotBaseOf (s : State) (hdr e : Nat) : Nat := ((List.range e).map (s.sumQuota hdr)).sum

/-- The output row of token t lies at OUT_BASE + t * OUT_STRIDE and its shared row at SHARED_BASE + t * SHARED_STRIDE, t counted from
token 0 as the seat table's rows are (R107 names the rows and strides alone: DESIGN CHOICE, log entry 120). -/
def CombineCmd.outAt (c : CombineCmd) (t : Nat) : Nat := c.outBase + t * c.outStride
def CombineCmd.sharedAt (c : CombineCmd) (t : Nat) : Nat := c.sharedBase + t * c.sharedStride

/-- The tokens of a combine (R107). -/
def CombineCmd.tokens (c : CombineCmd) : List Nat := (List.range c.count).map (fun i => c.first + i)

/-- The extents a combine reads or writes: (base, length). -/
def State.combineExtents (s : State) (c : CombineCmd) : List (Nat × Nat) × List (Nat × Nat) :=
  let q := s.slotBaseOf c.summaryIn c.experts
  let rp := rowStride c.retFmt c.hidden
  let sB := rowBytes c.sharedFmt c.hidden
  let oB := rowBytes c.outFmt c.hidden
  ([(c.seatIn + c.first * c.seats * 8, c.count * c.seats * 8), (c.rhBase, 64 * c.experts), (c.rsBase, 8 * q),
    (c.rrBase, q * rp)] ++
    c.tokens.map (fun t => (c.sharedAt t, sB)),
   c.tokens.map (fun t => (c.outAt t, oB)) ++ [(c.statusOut, c.count)])

/-- The first failing check of a COMBINE descriptor (R108; alignments: log entry 91). The seat-table, shared and output rows judged are
those of the command's own tokens. -/
def State.combineCode (s : State) (d : Desc) : Option Nat :=
  let c := combineOf d
  let q := s.slotBaseOf c.summaryIn c.experts
  let x := s.combineExtents c
  let badRange := fun a n al => !aligned a al || !s.inLpOrCore a n
  let rowsOut := fun (at_ : Nat → Nat) n => c.tokens.any (fun t => !s.inLpOrCore (at_ t) n)
  firstCode [
    (!reservedClear d combineMasks 16, 0x0E05),
    (decide (c.seats = 0) || decide (c.hidden = 0) || decide (c.experts = 0), 0x0E01),
    (decide (c.weight = 3) || decide (6 < c.retFmt) || decide (4 < c.sharedFmt) || decide (1 < c.outFmt) ||
      decide (65535 < c.first) || decide (65536 < c.first + c.count) || decide (16 < c.seats) || decide (c.hidden < 64) ||
      decide (16384 < c.hidden) || !aligned c.hidden 64 || decide (16384 < c.experts), 0x0E02),
    (decide (0x7F800000 ≤ c.scale.toNat % 2 ^ 31), 0x0E04),
    (badRange c.summaryIn (64 + 8 * c.experts) 64 || badRange c.rhBase (64 * c.experts) 64 ||
      badRange c.rsBase (8 * q) 8 || badRange c.rrBase (q * rowStride c.retFmt c.hidden) 256 ||
      !aligned c.seatIn 8 || rowsOut (fun t => c.seatIn + t * c.seats * 8) (c.seats * 8) ||
      !aligned c.sharedBase 64 || rowsOut c.sharedAt (rowBytes c.sharedFmt c.hidden) ||
      !aligned c.sharedStride 64 || decide (c.sharedStride < rowBytes c.sharedFmt c.hidden) ||
      !aligned c.outBase 64 || rowsOut c.outAt (rowBytes c.outFmt c.hidden) ||
      !aligned c.outStride 64 || decide (c.outStride < rowBytes c.outFmt c.hidden) ||
      (decide (0 < c.count) && !s.inLpOrCore c.statusOut c.count) ||
      x.2.any (fun o => x.1.any (overlap2' o)), 0x0E03)]
where
  overlap2' (a b : Nat × Nat) : Bool := rangesOverlap a.1 a.2 b.1 b.2

/-! ### Acceptance and starts -/

/-- The engine has room for one more accepted descriptor (R164). -/
def State.chainRoom (s : State) (n : Nat) : Bool := decide ((s.chain n).queue.length < 4)

/-- A descriptor reaches the chain engine of its core with room in its queue: it is queued, refused, or a COMBINE of
no tokens completes at once (R108, R164). -/
def State.chainAccept (s : State) (n : Nat) (d : Desc) : State :=
  let queueIt := fun (s : State) => s.setChain n { s.chain n with queue := (s.chain n).queue ++ [⟨d, n, s.coreContext n⟩] }
  match descFld d 0 0 8 with
  | 0x40 =>
    match s.combineCode d with
    | some k => (s.raise (chainSite n) k).complete (descFld d 0x68 0 14) k
    | none => if (combineOf d).count = 0 then s.complete (combineOf d).completion 0 else queueIt s
  | 0x41 =>
    match s.chainCode n d with
    | some k => (s.raise (chainSite n) k).complete (descFld d 0x30 0 14) k
    | none => queueIt s
  | _ => (s.raise (chainSite n) 0x0C01).complete (descFld d 0x30 0 14) 0x0C01

/-- The running command is a COMBINE. -/
def RunChain.isCombine (r : RunChain) : Bool := decide (descFld r.cmd.desc 0 0 8 = 0x40)

/-- The head of the queue starts once the previous command has completed (R167). -/
def State.chainStart (s : State) (n : Nat) : State :=
  let c := s.chain n
  match c.running, c.queue with
  | none, h :: rest => s.setChain n ⟨rest, some ⟨h, s.tb, false, false, none, 0, s.tb⟩⟩
  | _, _ => s

/-- Mark the stream of the oldest pass of array `m` that waits with it, and the cycles its drain stood still (R128, R165). -/
def State.setStream (s : State) (m : Nat) (st : StreamState) (stall : Nat) : State :=
  let a := s.mat m
  match a.running with
  | [] => s
  | r :: rest => s.setMat m { a with running := { r with stream := st, stall := r.stall + stall, moved := s.tb } :: rest }

/-- The oldest pass of array `m` waits to stream (R165). -/
def State.streamWaiting (s : State) (m : Nat) : Option PassCmd :=
  match (s.mat m).running with
  | [] => none
  | r :: _ =>
    let c := passOf r.cmd.desc
    if c.opcode = 0x10 ∧ c.dest = 1 ∧ !c.skip ∧ r.stream = .waiting then some c else none

/-- The drain of array `a` of core `n` stands still (R165): its oldest pass streams, its first output can have reached the drain, and no
running command takes it. CHN_STATE.STREAM_WAIT shows it. -/
def State.streamStalled (s : State) (n a : Nat) : Bool :=
  let m := 2 * n + a
  match (s.mat m).running with
  | [] => false
  | r :: _ =>
    let chk := s.checksumMode m
    r.stalls && s.passedFull r (passOccupancy r.pass chk / nTiles r.pass chk + 24) &&
    !(match (s.chain n).running with
      | some x => !x.isCombine && decide ((chainOf x.cmd.desc).src = a + 1) && !x.begun
      | none => false)

/-- The stream of array `a` of core `n` begins: its shape is compared (R166); `stall` cycles it stood still. -/
def State.streamBegin (s : State) (n a stall : Nat) : State :=
  let m := 2 * n + a
  let c := s.chain n
  match s.streamWaiting m, c.running with
  | some p, some r =>
    let k := chainOf r.cmd.desc
    if r.isCombine ∨ k.src ≠ a + 1 ∨ r.begun then s
    else
      let ok := decide (p.m = k.rows) && decide (p.n = k.cols) && decide (p.outFmt = k.inFmt)
      let s := s.setStream m (if ok then .taken else .discarded) stall
      let s := s.setChain n { c with running := some { r with begun := true, mismatch := !ok, moved := s.tb } }
      let s := s.stat (Reg.CHN_STAT_STREAM_WAIT + instDelta n) stall
      s.stat (Reg.MAT_STAT_DRAIN_STALL + instDelta m) stall
  | _, _ => s

/-! ### What a chain computes (R150 to R163) -/

/-- What the stages carry beside the running value: saturations. -/
def selectOperand (g : Stage) (sel : Nat) (x v a0 a1 : BitVec 32) : BitVec 32 :=
  match sel with
  | 0 => g.imm | 1 => a0 | 2 => a1 | 3 => x | _ => v

/-- An FP32 pattern with its NaN made canonical. -/
def canon (v : BitVec 32) : BitVec 32 := if f32IsNan v then f32NaN else v

/-- One stage on one element: the new value and the saturations it counts (R155, R159). -/
def stageStep (g : Stage) (x a0 a1 v : BitVec 32) : BitVec 32 × Nat :=
  let b := selectOperand g g.bSel x v a0 a1
  let c := selectOperand g g.cSel x v a0 a1
  match g.op with
  | 0 => (f32Add v b, 0)
  | 1 => (f32Mul v b, 0)
  | 2 => (f32Fma v b c, 0)
  | 3 => (f32Exp v, 0)
  | 4 => (f32Log v, 0)
  | 5 => (f32Rsqrt v, 0)
  | 6 => (f32Max v b, 0)
  | 7 => (f32Min v b, 0)
  | 8 => (canon (if f32Cmp g.cmp v b then v else c), 0)
  | 9 => let r := convPlain g.castFmt g.sat v; (plainToF32 g.castFmt r.1, b2n r.2)
  | _ => (canon v, 0)

/-- All stages on one element: the final value, the value a SUMMARY stage taps, the saturations. -/
def runStages (gs : List Stage) (x a0 a1 : BitVec 32) : BitVec 32 × Option (BitVec 32) × Nat :=
  gs.foldl (fun acc g =>
    let r := stageStep g x a0 a1 acc.1
    (r.1, if g.op = 11 then some acc.1 else acc.2.1, acc.2.2 + r.2)) (x, none, 0)

/-- The four summary values (R162). -/
def summaryOf (imm : BitVec 32) (vs : List (BitVec 32)) : BitVec 32 × BitVec 32 × Nat × Nat :=
  let nums := vs.filter (fun v => !f32IsNan v)
  let mx := match nums with | [] => f32NaN | v :: t => t.foldl f32Max v
  let infP := nums.any (fun v => decide (v = 0x7F800000))
  let infN := nums.any (fun v => decide (v = 0xFF800000))
  let fin := nums.filter (fun v => decide (v.toNat % 2 ^ 31 < 0x7F800000))
  let exact := match fin with | [] => FpVal.fin false 0 0 | v :: t => t.foldl (fun a v => fpAddVal a (f32Val v)) (f32Val v)
  let sum := if infP && infN then f32NaN else if infP then 0x7F800000 else if infN then 0xFF800000 else
    match exact with
    | .fin _ 0 _ => if !nums.isEmpty && nums.all (fun v => decide (v = 0x80000000)) then (0x80000000 : BitVec 32) else 0
    | v => f32Of v
  (mx, sum, vs.length - nums.length, (vs.filter (fun v => f32Cmp 5 v imm)).length)

/-- Write a summary slot of core `n` (R163). -/
def State.writeSlot (s : State) (n slot : Nat) (x : BitVec 32 × BitVec 32 × Nat × Nat) (tag status : Nat) : State :=
  let a := Reg.CHN_SUM + instDelta n + 32 * slot
  let s := s.setReg a (BitVec.ofNat 64 (x.1.toNat + x.2.1.toNat * 2 ^ 32))
  let s := s.setReg (a + 8) (BitVec.ofNat 64 x.2.2.1)
  let s := s.setReg (a + 16) (BitVec.ofNat 64 x.2.2.2)
  s.setReg (a + 24) (BitVec.ofNat 64 (tag + status * 2 ^ 16 + 2 ^ 32))

/-- The auxiliary value of element (t, k), canonical NaN where its line is poisoned (R151, R168). -/
def State.auxValue (s : State) (n : Nat) (a : Aux) (t k : Nat) : BitVec 32 :=
  let ad := coreAddr n (match a.mode with
    | 0 => a.base + t * a.stride + 4 * k | 1 => a.base + 4 * k | _ => a.base + 4 * t)
  if s.fetchPoisoned ad 4 then f32NaN else BitVec.ofNat 32 (leNat (s.fetch ad 4))

/-- The input element (t, k) widened to FP32 (R150, R168). -/
def State.chainInput (s : State) (n : Nat) (c : ChainCmd) (rows : List (List Nat)) (t k : Nat) : BitVec 32 :=
  if c.src = 0 then
    let w := plainBits c.inFmt / 8
    let ad := coreAddr n (c.inBase + t * c.inStride + k * w)
    if s.fetchPoisoned ad w then f32NaN else plainToF32 c.inFmt (leNat (s.fetch ad w))
  else plainToF32 c.inFmt ((rows.getD t []).getD k 0)

/-- The input and the auxiliary sources a command reads: offset, stride, bytes of a row, rows. -/
def chainReads (c : ChainCmd) : List (Nat × Nat × Nat × Nat) :=
  let ins := if c.src = 0 then [(c.inBase, c.inStride, inRowBytes c, c.rows)] else []
  ins ++ ([(1, c.aux0), (2, c.aux1)].filter (fun p => usesAux c p.1)).map (fun p => auxExtent c p.2)

/-- The poisoned lines of the input and of the auxiliary sources a command reads (R168). -/
def State.chainPoison (s : State) (n : Nat) (c : ChainCmd) : Nat :=
  ((chainReads c).map (fun x => ((List.range x.2.2.2).flatMap (fun i =>
    linesOf (coreAddr n (x.1 + i * x.2.1)) x.2.2.1)).eraseDups.filter s.linePoisoned |>.length)).sum

/-- Split a list into blocks of 32. -/
def blocks32 {α : Type} : Nat → List α → List (List α)
  | 0, _ => []
  | n + 1, l => if l.isEmpty then [] else l.take 32 :: blocks32 n (l.drop 32)

/-- One output row: its bytes, the saturations, the NaN outputs and the NaN blocks (R153, R159, R161). In an MX block with scale 0xFF the
elements whose value is NaN are those written as zero from a NaN (R171). -/
def chainOutRow (c : ChainCmd) (vs : List (BitVec 32)) : Bytes × Nat × Nat × Nat :=
  let nans := (vs.filter (fun v => f32IsNan v)).length
  if c.outFmt = 15 then ([], 0, 0, 0)
  else if isMxOut c.outFmt then
    let bs := (blocks32 (vs.length + 1) vs).map (mxBlock c.outFmt)
    let w := elemBits (mxFmt c.outFmt)
    (packElems w (c.cols * w / 8) (bs.flatMap (fun b => b.2.1)) ++ bs.map (fun b => BitVec.ofNat 8 b.1),
     (bs.map (fun b => b.2.2.1)).sum, nans, (bs.filter (fun b => b.2.2.2)).length)
  else
    let r := vs.map (convPlain c.outFmt c.sat)
    let isNanOut := fun (p : BitVec 32 × (Nat × Bool)) =>
      f32IsNan p.1 || (decide (c.outFmt = 3) && decide (p.2.1 % 128 = 127))
    (r.flatMap (fun p => leBytes (plainBits c.outFmt / 8) p.1), (r.filter Prod.snd).length,
     ((vs.zip r).filter isNanOut).length, 0)

/-- Where the results of a CHAIN lie in core store. -/
def chainOutputs (n : Nat) (c : ChainCmd) : List (Nat × Nat) :=
  if c.outFmt = 15 then [] else (List.range c.rows).map (fun t => (coreAddr n (c.outBase + t * c.outStride), outRowBytes c))

/-- The running CHAIN completes (R163, R166, R168); after a mismatch it writes nothing. What it forms of failed results is failed (R100). -/
def State.chainRun (s : State) (n : Nat) (r : RunChain) : State :=
  let c := chainOf r.cmd.desc
  let δ := instDelta n
  let finish := fun (s : State) code =>
    let s := if code = 0 then s else s.raise (chainSite n) code
    let s := s.setChain n { s.chain n with running := none }
    (s.stat (Reg.CHN_STAT_CHAINS + δ) 1).complete c.completion code
  let sumStage := c.stages.find? (fun g => decide (g.op = 11))
  if r.mismatch then finish s 0x0C0C
  else
    let rows := r.rows.getD []
    let np := s.chainPoison n c
    let code := if 0 < np then 0x0C0A else 0
    let res := (List.range c.rows).map (fun t => (List.range c.cols).map (fun k =>
      runStages c.stages (s.chainInput n c rows t k) (s.auxValue n c.aux0 t k) (s.auxValue n c.aux1 t k)))
    let outs := res.map (fun row => chainOutRow c (row.map Prod.fst))
    let taps := res.flatMap (fun row => row.filterMap (fun e => e.2.1))
    let stageSat := ((res.flatMap id).map (fun e => e.2.2)).sum
    let reads := (chainReads c).flatMap (fun x => (List.range x.2.2.2).map (fun i => (coreAddr n (x.1 + i * x.2.1), x.2.2.1)))
    let s := s.setSpoilt (chainOutputs n c) (firstNonzero (firstNonzero r.spoilt (s.spoiltCode reads)) code)
    let s := s.noteReads reads
    let s := if c.outFmt = 15 then s else
      ((List.range c.rows).zip outs).foldl (fun s p =>
        s.put (coreAddr n (c.outBase + p.1 * c.outStride)) p.2.1) s
    let s := s.stat (Reg.CHN_STAT_ELEMS + δ) (c.rows * c.cols)
    let s := s.stat (Reg.CHN_STAT_SAT + δ) (stageSat + (outs.map (fun o => o.2.1)).sum)
    let s := s.stat (Reg.CHN_STAT_NAN_OUT + δ) (outs.map (fun o => o.2.2.1)).sum
    let s := s.stat (Reg.CHN_STAT_MX_NAN_BLOCKS + δ) (outs.map (fun o => o.2.2.2)).sum
    let s := s.stat (Reg.CHN_STAT_POISON + δ) np
    let s := match sumStage with
      | none => s
      | some g => s.writeSlot n c.slot (summaryOf g.imm taps) c.tag code
    finish s code

/-! ### What a combine computes (R103 to R107) -/

/-- A seat-table entry of the combine: token, seat (R65). -/
def State.seatWord (s : State) (c : CombineCmd) (t i : Nat) : Nat := s.fetchNat (c.seatIn + (t * c.seats + i) * 8) 8

/-- How a seat stands: not filled, used, lost, or lost by a slot header that does not match (R103). -/
inductive SeatUse where
  | bittern | used | lost | mismatch
deriving DecidableEq, Repr

/-- Judge a seat (R103). A return slot header that does not match is a mismatch whatever else makes the seat lost. -/
def State.seatUse (s : State) (c : CombineCmd) (t i : Nat) : SeatUse :=
  let w := s.seatWord c t i
  if !bit w 51 then .bittern
  else
    let e := bits w 32 14
    let g := s.slotBaseOf c.summaryIn e + bits w 52 12
    let h := s.fetchNat (c.rsBase + g * 8) 8
    if bits h 0 16 ≠ t ∨ bits h 16 4 ≠ i ∨ bits h 32 12 ≠ bits w 52 12 then .mismatch
    else if s.fetchNat (c.rhBase + e * 64 + 2) 2 ≠ 0 ∨ !bit h 20 then .lost
    else .used

/-- Element h of a row in a row format, widened to FP32 (R80, R104). -/
def rowElem (fmt hidden : Nat) (row : Bytes) (h : Nat) : BitVec 32 :=
  match fmt with
  | 5 => f32Of (scaleVal (row.getD (hidden + h / 32) 0).toNat (fpDecode e4m3 (row.getD h 0).toNat))
  | 6 => f32Of (scaleVal (row.getD (hidden + h / 32) 0).toNat (fpDecode e5m2 (row.getD h 0).toNat))
  | _ => let w := plainBits fmt / 8; plainToF32 fmt (leNat ((row.drop (h * w)).take w))

/-- A row as the combine reads it, canonical NaN in poisoned lines (log entry 12). -/
def State.combineRow (s : State) (fmt hidden base : Nat) (h : Nat) : BitVec 32 :=
  let w := if 5 ≤ fmt then 1 else plainBits fmt / 8
  if s.fetchPoisoned (base + h * w) w then f32NaN
  else rowElem fmt hidden (s.fetch base (rowBytes fmt hidden)) h

/-- The weights of the used seats, and whether a SUM met z = 0 (R104, R105). -/
def combineWeights (mode : Nat) (scale : BitVec 32) (gates : List (BitVec 32)) : List (BitVec 32) × Bool :=
  match gates with
  | [] => ([], false)
  | g0 :: gt =>
    let raw := match mode with
      | 0 => (gates, false)
      | 1 =>
        let z := gt.foldl f32Add g0
        if z.toNat % 2 ^ 31 = 0 then (gates.map (fun _ => 0), true) else (gates.map (fun g => f32Div g z), false)
      | _ =>
        let mx := gt.foldl f32Max g0
        let xs := gates.map (fun g => f32Exp (f32Add g (mx ^^^ 0x80000000)))
        match xs with
        | [] => ([], false)
        | x0 :: xt => let z := xt.foldl f32Add x0; (xs.map (fun x => f32Div x z), false)
    (raw.1.map (fun w => f32Mul w scale), raw.2)

/-- One output value before its conversion (R104). -/
def combineValue (ws : List (BitVec 32)) (xs : List (BitVec 32)) (shared : BitVec 32) : BitVec 32 :=
  match ws, xs with
  | w0 :: wt, x0 :: xt => f32Add ((wt.zip xt).foldl (fun acc p => f32Fma p.1 p.2 acc) (f32Mul w0 x0)) shared
  | _, _ => shared

/-- The result of one token: output row, status byte, lost seats, a mismatch met (R103 to R107). -/
def State.combineToken (s : State) (c : CombineCmd) (t : Nat) : Bytes × Nat × Nat × Bool :=
  let uses := (List.range c.seats).map (fun i => (i, s.seatUse c t i))
  let used := uses.filter (fun p => decide (p.2 = .used))
  let gates := used.map (fun p => BitVec.ofNat 32 (bits (s.seatWord c t p.1) 0 32))
  let rowAt := fun i =>
    let w := s.seatWord c t i
    c.rrBase + (s.slotBaseOf c.summaryIn (bits w 32 14) + bits w 52 12) * rowStride c.retFmt c.hidden
  let ws := combineWeights c.weight c.scale gates
  let vals := (List.range c.hidden).map (fun h =>
    let sh := s.combineRow c.sharedFmt c.hidden (c.sharedAt t) h
    (convPlain c.outFmt false
      (if used.isEmpty then sh
       else if ws.2 then f32Add 0 sh
       else combineValue ws.1 (used.map (fun p => s.combineRow c.retFmt c.hidden (rowAt p.1) h)) sh)).1)
  let filled := (uses.filter (fun p => decide (p.2 ≠ .bittern))).length
  let lost := filled - used.length
  let nan := vals.any (fun v => fpIsNan (if c.outFmt = 0 then fp32 else bf16) v)
  let st := b2n (decide (filled = 0)) + 2 * b2n (decide (0 < filled) && decide (filled < c.seats)) +
    4 * b2n (decide (0 < lost)) + 8 * b2n nan + 16 * b2n (ws.2 && !used.isEmpty)
  (vals.flatMap (leBytes (plainBits c.outFmt / 8)), st, lost, uses.any (fun p => decide (p.2 = .mismatch)))

/-- The rows a combine reads for a token: the shared row and the returned rows of its used seats (R104). -/
def State.combineReads (s : State) (c : CombineCmd) (t : Nat) : List (Nat × Nat) :=
  (c.sharedAt t, rowBytes c.sharedFmt c.hidden) ::
  ((List.range c.seats).filter (fun i => decide (s.seatUse c t i = .used))).map (fun i =>
    let w := s.seatWord c t i
    (c.rrBase + (s.slotBaseOf c.summaryIn (bits w 32 14) + bits w 52 12) * rowStride c.retFmt c.hidden, rowBytes c.retFmt c.hidden))

/-- The running COMBINE completes: the outputs, after the last of them the status bytes, statistics, COMPLETION (R107). -/
def State.combineRun (s : State) (n : Nat) (r : RunChain) : State :=
  let c := combineOf r.cmd.desc
  let δ := instDelta n
  let ts := c.tokens.map (fun t => (t, s.combineToken c t))
  let lost := (ts.map (fun p => p.2.2.2.1)).sum
  let s := s.noteReads (ts.flatMap (fun p => s.combineReads c p.1))
  let s := ts.foldl (fun s p => s.put (c.outAt p.1) p.2.1) s
  let s := ts.foldl (fun s p => s.put (c.statusOut + (p.1 - c.first)) (leBytes 1 p.2.2.1)) s
  let cnt := fun b => (ts.filter (fun p => bit p.2.2.1 b)).length
  let s := s.stat (Reg.CHN_CMB_TOKENS + δ) c.count
  let s := s.stat (Reg.CHN_CMB_BITTERN_TOKENS + δ) (cnt 0)
  let s := s.stat (Reg.CHN_CMB_LOST_SEATS + δ) lost
  let s := s.stat (Reg.CHN_CMB_ZERO_NORM + δ) (cnt 4)
  let s := s.stat (Reg.CHN_CMB_NAN_TOKENS + δ) (cnt 3)
  let s := if 0 < lost then s.raise (chainSite n) 0x0E06 else s
  let s := if ts.any (fun p => p.2.2.2.2) then s.raise (chainSite n) 0x0E07 else s
  let s := if 0 < cnt 3 then s.raise (chainSite n) 0x0E08 else s
  (s.setChain n { s.chain n with running := none }).complete c.completion (if 0 < lost then 0x0E06 else 0)

/-- The cycles of a CHAIN after its last input, L of R167. -/
def ChainCmd.tail (c : ChainCmd) : Nat := 64 + 6 * max c.stages.length 1

/-- The cycles of a COMBINE (R106). -/
def CombineCmd.cycles (c : CombineCmd) : Nat :=
  256 + ceilDiv c.experts 8 + c.count * (c.seats + 2) * ceilDiv c.hidden 256

/-- When the running command of a chain engine last moved (R474; log entry 69): it writes elements for as long as its cycles last, or its
stream moves; one that waits for its stream does not move. -/
def State.chainMoved (s : State) (n : Nat) : Option Nat :=
  (s.chain n).running.map (fun r =>
    let c := chainOf r.cmd.desc
    if r.isCombine then min s.tb (r.start + s.cclkNs (combineOf r.cmd.desc).cycles)
    else if c.src = 0 then min s.tb (r.start + s.cclkNs (c.tail + c.rows * ceilDiv c.cols 256))
    else if !r.begun then r.start
    else if r.rows.isSome then min s.tb (r.moved + s.cclkNs c.tail)
    else (s.passMoved (2 * n + c.src - 1)).getD r.moved)

/-- A running CHAIN has all its input, or has discarded it (R166, R167). -/
def RunChain.ready (r : RunChain) : Bool := decide ((chainOf r.cmd.desc).src = 0) || r.rows.isSome

/-- The chain commands that a predicate selects stop and complete with the code for a CHAIN or a COMBINE (R109, R169,
R479). -/
def State.chainStop (s : State) (n : Nat) (mine : Cmd → Bool) (chainK combK : Nat) : State :=
  let c := s.chain n
  let isComb := fun (k : Cmd) => decide (descFld k.desc 0 0 8 = 0x40)
  let run := match c.running with | some r => if mine r.cmd then [r.cmd] else [] | none => []
  let wrote := match c.running with
    | some r => decide ((chainOf r.cmd.desc).src = 0) || (r.begun && !r.mismatch)
    | none => false
  let gone := run ++ c.queue.filter mine
  if gone.isEmpty then s
  else
    let s := run.foldl (fun s k =>
      if isComb k then
        let cc := combineOf k.desc
        let s := cc.tokens.foldl (fun s t => s.scratchArea (cc.outAt t) (rowBytes cc.outFmt cc.hidden)) s
        s.scratchArea cc.statusOut cc.count
      else
        let cc := chainOf k.desc
        let s := if wrote then (chainOutputs n cc).foldl (fun s x => s.scratchArea x.1 x.2) s else s
        let s := if cc.stages.any (fun g => decide (g.op = 11)) then s.writeSlot n cc.slot (0, 0, 0, 0) cc.tag chainK else s
        [2 * n, 2 * n + 1].foldl (fun s m => match (s.mat m).running with
          | r :: rest => if r.stream = .taken then
              s.setMat m { s.mat m with running := { r with stream := .discarded } :: rest } else s
          | [] => s) s) s
    let s := s.setChain n ⟨c.queue.filter (fun k => !mine k), if run.isEmpty then c.running else none⟩
    let s := s.setSpoilt ((gone.filter (fun k => !isComb k)).flatMap (fun k => chainOutputs n (chainOf k.desc))) chainK
    gone.foldl (fun s k =>
      if isComb k then (s.raise (chainSite n) combK).complete (combineOf k.desc).completion combK
      else (s.raise (chainSite n) chainK).complete (chainOf k.desc).completion chainK) s

/-- A torn-down context's chain commands complete with their cancel codes (R109, R169). -/
def State.chainCancel (s : State) (n ctx : Nat) : State := s.chainStop n (fun k => decide (k.context = ctx)) 0x0C0B 0x0E09

end Sys2Proof.Machine
end

