-- ==== Sys2Proof/Machine/Crc.lean ====
section
/-! DEFINITION. The two checksums of the manual: the IEEE 802.3 frame check sequence of a flit (R293) and the CRC-32C
of frames, chunks and manifests (R82, R337, R388). -/

namespace Sys2Proof.Machine

/-- One bit of a reflected CRC. -/
def crcBit (poly c : Nat) : Nat := if c % 2 = 1 then (c / 2) ^^^ poly else c / 2

/-- One byte of a reflected CRC. -/
def crcByte (poly c : Nat) (b : Byte) : Nat := (List.range 8).foldl (fun x _ => crcBit poly x) (c ^^^ b.toNat)

/-- A reflected CRC over a byte string: initial value all ones, final complement. -/
def crcReflected (poly : Nat) (bs : Bytes) : Nat := (bs.foldl (crcByte poly) 0xFFFFFFFF) ^^^ 0xFFFFFFFF

/-- The IEEE 802.3 frame check sequence. -/
def crc32 (bs : Bytes) : Nat := crcReflected 0xEDB88320 bs

/-- CRC-32C: the Castagnoli polynomial 0x1EDC6F41, reflected (R337). -/
def crc32c (bs : Bytes) : Nat := crcReflected 0x82F63B78 bs

end Sys2Proof.Machine
end

