-- ==== Sys2Proof/Machine/Fabric.lean ====
section
/-! DEFINITION. Salax memory semantics (chapter 8): fabric addresses, region descriptors, keys and epochs, the checks at
the destination and the requests performed there, arrival-counter increments, job ranks. -/

namespace Sys2Proof.Machine

/-! ### Fabric addresses and contexts -/

/-- MEMBER, REGION and OFFSET of a fabric address (R252). -/
def faMember (a : Nat) : Nat := bits a 56 8
def faRegion (a : Nat) : Nat := bits a 40 16
def faOffset (a : Nat) : Nat := bits a 0 40

/-- This device's member index and saltern (FAB_SELF). -/
def State.selfMember (s : State) : Nat := s.fld Reg.FAB_SELF_MEMBER
def State.selfDev (s : State) : Nat := s.fld Reg.FAB_SELF_SALTERN * 256 + s.selfMember

/-- Member `m` is admitted (R284). -/
def State.admitted (s : State) (m : Nat) : Bool := (s.reg (Reg.FAB_ADMIT + 8 * (m / 64))).getLsbD (m % 64)

/-- A fabric address can be reached: this device, or an admitted member while IN_SALTERN = 1 (R268 step 6). -/
def State.reachable (s : State) (a : Nat) : Bool :=
  decide (faMember a = s.selfMember) || (decide (s.fld Reg.FAB_SELF_IN_SALTERN = 1) && s.admitted (faMember a))

/-- The site of a fabric code raised on a link die. -/
def fabSite (die : Nat) : Site := ⟨12, 0, 9 + die⟩

/-- The key, key epoch, mode and owner fields of a context (R361). -/
def State.ctxKey (s : State) (c : Nat) : Nat := (s.reg (Reg.CTX_DESC1 + ctxDelta c)).toNat
def State.ctxEpoch (s : State) (c : Nat) : Nat := bits (s.reg (Reg.CTX_DESC2 + ctxDelta c)).toNat 0 8
def State.ctxStrict (s : State) (c : Nat) : Bool := (s.reg (Reg.CTX_DESC0 + ctxDelta c)).getLsbD 6

/-! ### Regions -/

def regionInit : Region := ⟨0, 0, 0, 0, 0, false, none⟩

/-- Region descriptor `r`. -/
def State.region (s : State) (r : Nat) : Region := s.regions.get (fun _ => regionInit) r

/-- Set a region descriptor. -/
def State.setRegion (s : State) (r : Nat) (x : Region) : State :=
  { s with regions := s.regions.set (fun _ => regionInit) r x }

/-- The fields of FAB_RGN_ATTR. -/
def Region.state (x : Region) : Nat := bits x.attr 4 2
def Region.scope (x : Region) : Nat := bits x.attr 6 2
def Region.scopeMember (x : Region) : Nat := bits x.attr 8 8
def Region.owner (x : Region) : Nat := bits x.attr 16 14
def Region.owned (x : Region) : Bool := bit x.attr 30
def Region.hostEn (x : Region) : Bool := bit x.attr 31

/-- The staged fields of a region are illegal: the code, if any (R254, R255). -/
def State.regionBad (s : State) : Option Nat :=
  let base := s.stagedFld Reg.FAB_RGN_BASE_BASE
  let size := s.stagedFld Reg.FAB_RGN_SIZE_SIZE
  let state := s.stagedFld Reg.FAB_RGN_ATTR_STATE
  let scope := s.stagedFld Reg.FAB_RGN_ATTR_SCOPE
  firstCode [
    (!aligned base 64 || !aligned size 64 || decide (2 ^ 40 < size) || decide (state = 3) || decide (scope = 3) ||
      (decide (state = 2) && decide (scope ≠ 2)), 0x3016),
    (decide (size ≠ 0) && !inLpddr base size && !s.inEnabledStores base size, 0x3015)]

/-- A commit of the region group is applied to region `r` (R255): the refusing code, 0 for none. -/
def State.regionApply (s : State) (r : Nat) : Nat × State :=
  match s.regionBad with
  | some c => (c, s.raise (fabSite 0) c r)
  | none =>
    (0, s.setRegion r { s.region r with
      key := (s.stagedReg Reg.FAB_RGN_KEY).toNat
      base := s.stagedFld Reg.FAB_RGN_BASE_BASE
      size := s.stagedFld Reg.FAB_RGN_SIZE_SIZE
      attr := (s.stagedReg Reg.FAB_RGN_ATTR).toNat })

/-- The region's own fields stand behind what is not staged. -/
def State.regionShown (s : State) (r : Nat) : State :=
  let x := s.region r
  (((s.setReg Reg.FAB_RGN_KEY (BitVec.ofNat 64 x.key)).setReg Reg.FAB_RGN_BASE (BitVec.ofNat 64 x.base)).setReg
    Reg.FAB_RGN_SIZE (BitVec.ofNat 64 x.size)).setReg Reg.FAB_RGN_ATTR (BitVec.ofNat 64 x.attr)

/-- A region's safe point (R255): the requests accepted before a commit are performed as they arrive, so a pending commit of the
region is applied before the next request to the region is checked. -/
def State.regionSafe (s : State) (r : Nat) : State :=
  match s.pends.find? (fun x => decide (x.group = .region r) && x.due) with
  | none => s
  | some x =>
    let now := s.staged
    let s := { s with pends := s.pends.filter (fun y => decide (y ≠ x)), staged := x.staged }
    let c := (s.regionShown r).regionApply r
    ({ c.2 with staged := now }.noteCommit x.via c.1 x.atStep.isSome).ackPend x

/-- An advance of a region's epoch takes effect (R258, R259). -/
def State.takeAdvance (s : State) (r : Nat) : State :=
  let x := s.region r
  (s.stat Reg.FAB_STAT_ADVANCES 1).setRegion r
    { x with epoch := (x.epoch + 1) % 256, revoking := false, advTime := some s.tb }

/-- An advance may take effect: 32,768 ns since the last one (R259). -/
def State.advanceDue (s : State) (r : Nat) : Bool :=
  match (s.region r).advTime with
  | none => true
  | some t => decide (t + 32768 ≤ s.tb)

/-- An advance of a region is requested (R258, R259): at once, pending, or merged into the pending one. -/
def State.advance (s : State) (r : Nat) : State :=
  let x := s.region r
  if x.revoking then s
  else if s.advanceDue r then s.takeAdvance r
  else s.setRegion r { x with revoking := true }

/-- The regions that a predicate selects. -/
def State.regionsWhere (s : State) (p : Region → Bool) : List Nat := (s.regions.filter (fun e => p e.2)).map (·.1)

/-- Advance a list of regions. -/
def State.advanceAll (s : State) (rs : List Nat) : State := rs.foldl State.advance s

/-- Advance every region owned by a context (R258, R385). -/
def State.advanceOwner (s : State) (c : Nat) : State :=
  s.advanceAll (s.regionsWhere (fun x => x.owned && decide (x.owner = c)))

/-- The pending advance of a REVOKING region takes effect when it is due (R259). -/
def State.revokingAdvance (s : State) (r : Nat) : State :=
  if (s.region r).revoking && s.advanceDue r then s.takeAdvance r else s

/-- A write of FAB_RGN_ADVANCE with a legal MODE (R258). -/
def State.regionAdvanceWrite (s : State) (v : Nat) : State :=
  match bits v 16 2 with
  | 0 => s.advance (bits v 0 16)
  | 1 => s.advanceAll (s.regionsWhere (fun x => decide (x.size ≠ 0)))
  | _ => s.advanceOwner (bits v 18 14)

/-! ### Job ranks (R317 to R319) -/

/-- The rank window of partition `p`. -/
def State.rankLo (s : State) (p : Nat) : Nat := s.fld Reg.FAB_RANK_WINp_B_RANK_LO (0x10 * p)
def State.rankSize (s : State) (p : Nat) : Nat := s.fld Reg.FAB_RANK_WINp_A_SIZE (0x10 * p)
def State.rankBase (s : State) (p : Nat) : Nat := s.fld Reg.FAB_RANK_WINp_A_BASE (0x10 * p)
def State.selfRank (s : State) (p : Nat) : Nat := s.fld Reg.FAB_RANK_WINp_B_SELF_RANK (0x10 * p)

/-- The translation of a rank of partition `p`: the device, or the refusing code (R317). -/
def State.translate (s : State) (p r : Nat) : Nat × Option Nat :=
  let lo := s.rankLo p
  if r < lo ∨ lo + s.rankSize p ≤ r then (0x3107, none)
  else
    let e := s.ranks.get (fun _ => 0) (s.rankBase p + r - lo)
    if bit e 24 then (0, some (bits e 0 8 + bits e 8 16 * 256)) else (0x3108, none)

/-- The DEST_RANK that a landing frame must name for a region (R318). -/
def State.regionRank (s : State) (r : Nat) : Option Nat :=
  let x := s.region r
  let p := s.ctxPartition x.owner
  if x.owned ∧ s.rankSize p ≠ 0 then some (s.selfRank p) else none

/-- A commit of a partition's rank window is checked and applied (R317). -/
def State.rankApply (s : State) (p : Nat) : Nat × State :=
  let a := Reg.FAB_RANK_WINp_A + 0x10 * p
  let b := Reg.FAB_RANK_WINp_B + 0x10 * p
  let base := s.stagedFld Reg.FAB_RANK_WINp_A_BASE (0x10 * p)
  let size := s.stagedFld Reg.FAB_RANK_WINp_A_SIZE (0x10 * p)
  let lo := s.stagedFld Reg.FAB_RANK_WINp_B_RANK_LO (0x10 * p)
  let self := s.stagedFld Reg.FAB_RANK_WINp_B_SELF_RANK (0x10 * p)
  let bad := decide (65536 < size) || decide (65536 < base + size) || decide (2 ^ 24 < lo + size) ||
    (decide (size ≠ 0) && (decide (self < lo) || decide (lo + size ≤ self) ||
      (List.range 16).any (fun q => decide (q ≠ p) && decide (s.rankSize q ≠ 0) && decide (s.selfRank q = self))))
  if bad then (0x3109, s.raise (fabSite 0) 0x3109 p) else (0, (s.applyStaged a).applyStaged b)

/-! ### Requests at their destination -/

/-- The request types as the packet header names them (R297). -/
def tyWrite : Nat := 1
def tyRead : Nat := 2
def tyAtomic : Nat := 3
def tyReduce : Nat := 4
def tyMark : Nat := 5

/-- Where a request comes from: this device, a member, or a host over RoCEv2 (R264). -/
inductive Source where
  | self
  | member (m : Nat)
  | host
deriving DecidableEq, Repr

/-- The source of a packet that starts and ends here, which needs no port (R253). -/
def State.sourceOf (s : State) (dev : Nat) : Source :=
  if dev % 256 = s.selfMember then .self else .member (dev % 256)

/-- The source of what arrives over a port: the member it names, which passes no check as this device itself (R260, R264). -/
def portSource (dev : Nat) : Source := .member (dev % 256)

/-- SCOPE and HOST_EN admit a source (R264 order 7). -/
def Region.admits (x : Region) (self : Nat) : Source → Bool
  | .host => x.hostEn
  | .self => decide (x.scope ≠ 2) || decide (x.scopeMember = self)
  | .member m => decide (x.scope = 0) || (decide (x.scope = 2) && decide (x.scopeMember = m))

/-- A source is the SCOPE_MEMBER of a region (R264 order 10). -/
def Region.seeder (x : Region) (self : Nat) : Source → Bool
  | .host => false
  | .self => decide (x.scopeMember = self)
  | .member m => decide (x.scopeMember = m)

/-- The permission bit for a request type (R264 order 8). -/
def Region.permits (x : Region) (typ : Nat) : Bool :=
  if typ = 2 then bit x.attr 0 else if typ = 3 then bit x.attr 2 else if typ = 4 then bit x.attr 3 else bit x.attr 1

/-- The checks 1 to 11 of R264 in their order: the refusing code, if any. -/
def State.requestCode (s : State) (typ : Nat) (src : Source) (addr key epoch age len : Nat) : Option Nat :=
  let x := s.region (faRegion addr)
  let self := s.selfMember
  firstCode [
    (decide (s.fld Reg.FAB_CTRL_ENABLE = 0), 0x3005),
    (decide (4194240 < age), 0x3008),
    ((match src with | .member m => !s.admitted m | _ => false), 0x3007),
    (decide (x.size = 0), 0x3009),
    (decide (key ≠ x.key), 0x300A),
    (decide (epoch ≠ x.epoch) || x.revoking, 0x300B),
    (decide (x.state ≠ 2) && !x.admits self src, 0x300C),
    (!x.permits typ, 0x300D),
    (decide (x.state = 1) && (decide (typ = 1) || decide (typ = 3) || decide (typ = 4)), 0x300E),
    (decide (x.state = 2) && !x.seeder self src, 0x300F),
    (decide (x.size < faOffset addr + len), 0x3010)]

/-- The physical address of a fabric address at its region (R254). -/
def State.regionAddr (s : State) (addr : Nat) : Nat := (s.region (faRegion addr)).base + faOffset addr

/-- A code says that the bytes read were poisoned (R214, R219, R230, R269). -/
def poisonCode (c : Nat) : Bool := [0x1801, 0x1802, 0x1806, 0x1C06].contains c

/-- The code with which a pump reads local bytes (R31, R214): an absent store's 0x0006 first. -/
def State.localCode (s : State) (a n : Nat) : Nat :=
  match (linesOf a n).find? (fun l => decide (s.physCode l ≠ 0)) with
  | some l => s.physCode l
  | none => s.readCode a n

/-- The physical access of a request that passed its checks: code, data returned, state (R264). -/
def State.access (s : State) (p : Pkt) (pa : Nat) : Nat × Bytes × State :=
  if p.len = 0 ∧ p.typ ≠ 3 then (0, [], s)
  else if s.physCode pa ≠ 0 then (s.physCode pa, [], s.decodeRefused (s.physCode pa) pa)
  else match p.typ with
    | 1 => let r := s.physStore pa (p.body.take p.len) p.poison; (r.1, [], r.2)
    | 2 =>
      let c := s.readCode pa p.len
      (c, if c = 0 then s.fetch pa p.len else [], s.noteFetch pa p.len)
    | 3 =>
      let r := s.atomicAt p.op pa p.len p.operand p.compare p.strict
      (r.1, if r.1 = 0 then leBytes 8 r.2.1 else [], r.2.2)
    | 4 => let r := s.reduceAt p.op pa (p.body.take p.len) p.strict; (r.1, [], r.2)
    | _ => (0, [], s)

/-- The age of a request: the local time minus INJECT, modulo 2^32 (R297). -/
def State.ageOf (s : State) (inject : Nat) : Nat := (s.tb + 2 ^ 32 - inject % 2 ^ 32) % 2 ^ 32

/-- Count and record a refusal of an arrived request; `again` where the request has been counted as refused already (R286). -/
def State.refusedIn (s : State) (die c : Nat) (addr : Nat) (again : Bool := false) : State :=
  let s := if again then s else s.stat Reg.FAB_STAT_REFUSED_IN 1
  let s := if c = 0x300B then s.stat Reg.FAB_STAT_REVOKED_IN 1 else s
  let s := if c = 0x3008 then s.stat Reg.FAB_STAT_STALE 1 else s
  if 0x3001 ≤ c ∧ c ≤ 0x33FF then s.raise (fabSite die) c addr else s

/-- The increment that a request carries: refused when the core die is off or the counter is not REMOTE (R264 order 12,
R275); the code for the source, 0 for none. `again` where the request itself has been refused. -/
def State.carryIncrement (s : State) (die : Nat) (src : Source) (i code : Nat) (again : Bool := false) : Nat × State :=
  if !s.coreOn then (0x0006, s.refusedIn die 0x0006 i again)
  else if src ≠ .self ∧ (s.counter i).remote = false then (0x3011, s.refusedIn die 0x3011 i again)
  else (0, s.setCounter i ((s.counter i).inc code))

/-- A request that has arrived is checked and performed without its counter increment (R264): code, data, state. -/
def State.performArrived (s : State) (die : Nat) (src : Source) (p : Pkt) : Nat × Bytes × State :=
  let len := if p.typ = 5 then 0 else p.len
  match s.requestCode p.typ src p.addr p.key p.epoch (match src with | .self => 0 | _ => s.ageOf p.inject) len with
  | some c => (c, [], s.refusedIn die c p.addr)
  | none =>
    let r := s.access p (s.regionAddr p.addr)
    if r.1 = 0 then r
    else if p.typ = 2 ∧ poisonCode r.1 = true then r
    else (r.1, r.2.1, r.2.2.refusedIn die r.1 p.addr)

/-- A request arrives, is counted, checked and performed without its counter increment (R255, R264, R286): code, data, state. -/
def State.performCore (s : State) (die : Nat) (src : Source) (p : Pkt) : Nat × Bytes × State :=
  ((s.regionSafe (faRegion p.addr)).stat Reg.FAB_STAT_REQ_RECV 1).performArrived die src p

/-- The key under which a source's run of requests is remembered. -/
def sourceKey : Source → Nat
  | .self => 256 | .host => 257 | .member m => m

def sourceInit : SourceRun := ⟨0, []⟩

/-- A request arrives (R264, R272, R273): it is checked and performed; the last request of a command carries the
increment of its counter with the first code among the command's requests. A READ belongs to no such run. Answer: code, data,
state. -/
def State.perform (s : State) (die : Nat) (src : Source) (p : Pkt) : Nat × Bytes × State :=
  let r := s.performCore die src p
  let k := sourceKey src
  let run := r.2.2.sources.get (fun _ => sourceInit) k
  let first := firstNonzero run.code (firstNonzero r.1 p.code)
  let st := if p.typ = 2 then r.2.2
    else { r.2.2 with sources := r.2.2.sources.set (fun _ => sourceInit) k { run with code := if p.last then 0 else first } }
  if p.cntEn ∧ p.last then
    let q := st.carryIncrement die src p.counter first (decide (r.1 ≠ 0))
    (firstNonzero r.1 q.1, r.2.1, q.2)
  else (r.1, r.2.1, st)

end Sys2Proof.Machine
end

