-- ==== Sys2Proof/Machine/Frames.lean ====
section
/-! DEFINITION. Dispatch and return frames (chapter 3): their layout, how the pump builds one, what travels of it, and
how it lands. -/

namespace Sys2Proof.Machine

/-- The fields of a DISPATCH or RETURN descriptor (R91). -/
structure FrameCmd where
  isReturn : Bool
  fmt : Nat
  tag : Nat
  hidden : Nat
  count : Nat
  summaryIn : Nat
  heldIn : Nat
  actBase : Nat
  actStride : Nat
  table : Nat
  completion : Nat
deriving DecidableEq, Repr

/-- Read a DISPATCH or RETURN descriptor. -/
def frameCmdOf (d : Desc) : FrameCmd :=
  { isReturn := decide (descFld d 0 0 8 = 0x21), fmt := descFld d 0 8 4, tag := descFld d 0 16 16,
    hidden := descFld d 8 0 15, count := descFld d 8 32 15, summaryIn := descFld d 0x10 0 48,
    heldIn := descFld d 0x18 0 48, actBase := descFld d 0x20 0 48, actStride := descFld d 0x28 0 32,
    table := descFld d 0x30 0 48, completion := descFld d 0x38 0 14 }

/-- The defined bits of a DISPATCH and of a RETURN descriptor. -/
def dispatchMasks : List Nat :=
  [0xFFFF0FFF, 0x00007FFF00007FFF, maskOf 0 48, maskOf 0 48, maskOf 0 48, maskOf 0 32, maskOf 0 48, maskOf 0 14]
def returnMasks : List Nat := [0xFFFF0FFF, 0x00007FFF00007FFF, 0, 0, 0, 0, maskOf 0 48, maskOf 0 14]

/-- A transfer-table entry. -/
structure FrameEntry where
  hdrDest : Nat
  slotDest : Nat
  rowDest : Nat
  xfer : Nat
  counter : Nat
  loc : Bool
  reserved : Bool
  srcHdr : Nat
  srcSlot : Nat
  srcRow : Nat
deriving DecidableEq, Repr

/-- Read a transfer-table entry. SRC_SLOT and SRC_ROW of a dispatch table, and bits [63:48] of the three SRC fields of a return
table, count as reserved bits (DESIGN CHOICE, log entry 113). -/
def State.frameEntry (s : State) (c : FrameCmd) (i : Nat) : FrameEntry :=
  let a := c.table + 64 * i
  let w := s.fetchNat (a + 0x18) 8
  let h := s.fetchNat (a + 0x20) 8
  let sl := s.fetchNat (a + 0x28) 8
  let rw := s.fetchNat (a + 0x30) 8
  { hdrDest := s.fetchNat a 8, slotDest := s.fetchNat (a + 8) 8, rowDest := s.fetchNat (a + 0x10) 8,
    xfer := bits w 0 16, counter := bits w 16 14, loc := bit w 30,
    reserved := decide (2 ^ 31 ≤ w) || decide (s.fetchNat (a + 0x38) 8 ≠ 0) ||
      (if c.isReturn then decide (2 ^ 48 ≤ h) || decide (2 ^ 48 ≤ sl) || decide (2 ^ 48 ≤ rw)
       else decide (h ≠ 0) || decide (sl ≠ 0) || decide (rw ≠ 0)),
    srcHdr := h, srcSlot := sl, srcRow := rw }

/-- The rows of activations that a DISPATCH may read: 65,536 tokens at most, so the extent is judged on the tokens the
held-slot table names (R91). -/
def State.heldTokens (s : State) (c : FrameCmd) : List Nat :=
  ((List.range (s.slotBaseOf c.summaryIn c.count)).map (fun i => s.fetchNat (c.heldIn + 4 * i) 4)).filterMap
    (fun v => if bit v 20 then some (bits v 0 16) else none)

/-- A local range of a pump command is usable: in LPDDR6's general area or in the store of enabled cores (R91, R268). -/
def State.pumpRange (s : State) (a n : Nat) : Bool := decide (n = 0) || s.inEnabledSpace a n

/-- A range lies in a store of the core die while that die is off (R26, R31). -/
def State.absent (s : State) (r : Nat × Nat) : Bool := !s.coreOn && decide (r.2 ≠ 0) && !inLpddr r.1 r.2

/-- The tables that a DISPATCH or RETURN reads as it is accepted (R91). -/
def FrameCmd.tables (c : FrameCmd) : List (Nat × Nat) :=
  (c.table, 64 * c.count) :: (if c.isReturn then [] else [(c.summaryIn, 64 + 8 * c.count)])

/-- The first failing check of a DISPATCH or RETURN on a link die, in the order of the error table (R81, R91). The table gives
SUMMARY_IN and HELD_IN no alignment; both must be 64-byte aligned (DESIGN CHOICE, log entry 114). Tables in a store of the core die
cannot be read while it is off (R31); that 0x0006 stands before the check of the header that it keeps from being read, and the
checks that need the held-slot table are then not made (DESIGN CHOICE, log entry 143). -/
def State.frameCode (s : State) (die : Nat) (d : Desc) : Option Nat :=
  let c := frameCmdOf d
  let bad := fun a n al => !aligned a al || !s.pumpRange a n
  let off := c.tables.any s.absent
  firstCode [
    (!reservedClear d (if c.isReturn then returnMasks else dispatchMasks) 8, 0x3304),
    (decide (c.hidden = 0) || (!c.isReturn && decide (c.count = 0)), 0x3301),
    (decide (c.hidden < 64) || decide (16384 < c.hidden) || !aligned c.hidden 64 || decide (16384 < c.count) ||
      decide (6 < c.fmt), 0x3302),
    (bad c.table (64 * c.count) 64 ||
      (!c.isReturn &&
        (bad c.summaryIn (64 + 8 * c.count) 64 || (!off && bad c.heldIn (4 * s.slotBaseOf c.summaryIn c.count) 64) ||
         !aligned c.actBase 64 || !aligned c.actStride 64 || decide (c.actStride < rowBytes c.fmt c.hidden) ||
         !off && !s.absent (c.heldIn, 4 * s.slotBaseOf c.summaryIn c.count) && (s.heldTokens c).any (fun t => !s.pumpRange (c.actBase + t * c.actStride) (rowBytes c.fmt c.hidden)))),
      0x3303),
    (decide (s.fld Reg.FAB_DSP_CTRL_ENABLE (0x100 * die) = 0), 0x330B),
    (off || !c.isReturn && s.absent (c.heldIn, 4 * s.slotBaseOf c.summaryIn c.count), 0x0006),
    (!c.isReturn && decide (s.fetchNat c.summaryIn 2 ≠ 0) && decide (s.fetchNat c.summaryIn 2 ≠ 0x140F), 0x3305)]

/-! ### Building a frame -/

/-- A frame as the pump builds it: header fields, slot headers, rows (none: an empty row); `why` is the code with which the pump
itself made it void, 0 for none. -/
structure Built where
  isReturn : Bool
  status : Nat
  void : Bool
  expert : Nat
  quota : Nat
  held : Nat
  fmt : Nat
  tag : Nat
  srcRank : Nat
  destRank : Nat
  hidden : Nat
  step : Nat
  tableId : Nat
  slots : List Nat
  rows : List (Option Bytes)
  why : Nat := 0
deriving DecidableEq, Repr

/-- The 64-byte frame header (R82). -/
def Built.header (b : Built) : Bytes :=
  let crc := if b.void then 0 else crc32c (b.slots.flatMap (leBytes 8) ++ (b.rows.filterMap id).flatten)
  leBytes 4 ((if b.isReturn then 2 else 1) + b2n b.void * 256 + b.status * 65536) ++
  leBytes 4 (b.expert + b.quota * 65536) ++ leBytes 4 (b.held + b.fmt * 4096 + b.tag * 65536) ++
  leBytes 4 b.srcRank ++ leBytes 4 b.destRank ++ leBytes 4 b.hidden ++ leBytes 8 b.step ++ leBytes 8 b.tableId ++
  leBytes 4 crc ++ List.replicate 20 0

/-- The header area in bytes (R79). -/
def headerArea (quota : Nat) : Nat := 256 * ceilDiv (64 + 8 * quota) 256

/-- The frame size F (R79). -/
def frameSize (quota fmt hidden : Nat) : Nat := headerArea quota + quota * rowStride fmt hidden

/-- Cut a byte string into flit bodies. -/
def flits256 : Nat → Bytes → List Bytes
  | 0, _ => []
  | n + 1, bs => (bs.take 256 ++ List.replicate (256 - (bs.take 256).length) 0) :: flits256 n (bs.drop 256)

/-- The flits of a frame: empty rows, and all but the first flit of a void frame, travel void (R87). -/
def Built.flits (b : Built) : List (Option Bytes) :=
  let area := b.header ++ (if b.void then [] else b.slots.flatMap (leBytes 8))
  let areaFlits := (flits256 (headerArea b.quota / 256) area).map some
  let per := rowStride b.fmt b.hidden / 256
  if b.void then areaFlits.take 1 ++ List.replicate (frameSize b.quota b.fmt b.hidden / 256 - 1) none
  else areaFlits ++ b.rows.flatMap (fun r =>
    match r with
    | some bs => (flits256 per bs).map some
    | none => List.replicate per none)

/-- Pad a row to its stride. -/
def padRow (fmt hidden : Nat) (bs : Bytes) : Bytes := bs ++ List.replicate (rowStride fmt hidden - bs.length) 0

/-- The frame of a dispatch entry (R84): slot headers copied from the held-slot table, rows from the activations. -/
def State.buildDispatch (s : State) (rank : Nat) (c : FrameCmd) (e : Nat) : Built :=
  let sw := s.fetchNat (c.summaryIn + 64 + 8 * e) 8
  let quota := bits sw 40 12
  let held := bits sw 0 12
  let base := s.slotBaseOf c.summaryIn e
  let entries := (List.range quota).map (fun j => s.fetchNat (c.heldIn + 4 * (base + j)) 4)
  let slot := fun (j v : Nat) => if bit v 20 then bits v 0 21 + j * 2 ^ 32 else 0
  { isReturn := false, status := 0, void := decide (held = 0), expert := e, quota := quota, held := held, fmt := c.fmt,
    tag := c.tag, srcRank := rank, destRank := bits sw 16 24, hidden := c.hidden,
    step := s.fetchNat (c.summaryIn + 0x20) 8, tableId := s.fetchNat (c.summaryIn + 0x28) 8,
    slots := ((List.range quota).zip entries).map (fun p => slot p.1 p.2),
    rows := entries.map (fun v => if bit v 20 then
      some (padRow c.fmt c.hidden (s.fetch (c.actBase + bits v 0 16 * c.actStride) (rowBytes c.fmt c.hidden))) else none) }

/-- The frame of a return entry (R85): slot headers, HELD and QUOTA copied from the landed dispatch frame. It is void when that frame
was, or where its rows hold results of a pass or chain command that failed after it, whose code it then carries (R85, R100). DEST_RANK is that frame's
SRC_RANK, and EXPERT, STEP and TABLE_ID are its own (DESIGN CHOICE, log entry 112). -/
def State.buildReturn (s : State) (rank : Nat) (c : FrameCmd) (x : FrameEntry) : Built :=
  let h := x.srcHdr
  let w0 := s.fetchNat h 4
  let quota := bits (s.fetchNat (h + 4) 4) 16 12
  let status := bits w0 16 16
  let slots := (List.range quota).map (fun j => s.fetchNat (x.srcSlot + 8 * j) 8)
  let stride := rowStride c.fmt c.hidden
  let status := firstNonzero (s.spoiltCode [(x.srcRow, quota * stride)]) status
  { isReturn := true, status := status, void := bit w0 8 || decide (status ≠ 0),
    expert := bits (s.fetchNat (h + 4) 4) 0 14, quota := quota, held := bits (s.fetchNat (h + 8) 4) 0 12, fmt := c.fmt,
    tag := c.tag, srcRank := rank, destRank := bits (s.fetchNat (h + 12) 4) 0 24, hidden := c.hidden,
    step := s.fetchNat (h + 0x18) 8, tableId := s.fetchNat (h + 0x20) 8, slots := slots,
    rows := ((List.range quota).zip slots).map (fun p => if bit p.2 20 then
      some (padRow c.fmt c.hidden (s.fetch (x.srcRow + p.1 * stride) (rowBytes c.fmt c.hidden))) else none) }

/-- A frame made void with a code (R92, R109). -/
def Built.makeVoid (b : Built) (code : Nat) : Built :=
  { b with void := true, status := if code = 0 then b.status else code, slots := [], rows := [], why := code }

/-- What the pump reads for the header and the slot headers of the frame of entry `i` (R84, R85, R92). -/
def State.frameHeadReads (s : State) (c : FrameCmd) (i : Nat) : List (Nat × Nat) :=
  let x := s.frameEntry c i
  (c.table + 64 * i, 64) ::
    (if c.isReturn then [(x.srcHdr, 64), (x.srcSlot, 8 * bits (s.fetchNat (x.srcHdr + 4) 4) 16 12)]
     else [(c.summaryIn, 64 + 8 * (i + 1)),
       (c.heldIn + 4 * s.slotBaseOf c.summaryIn i, 4 * s.sumQuota c.summaryIn i)])

/-- The rows that the pump reads for a frame: those of its valid slots, none for a void frame (R84, R85). -/
def FrameCmd.rowReads (c : FrameCmd) (x : FrameEntry) (b : Built) : List (Nat × Nat) :=
  if b.void then []
  else (((List.range b.quota).zip b.slots).filter (fun p => bit p.2 20)).map (fun p =>
    (if c.isReturn then x.srcRow + p.1 * rowStride c.fmt c.hidden else c.actBase + bits p.2 0 16 * c.actStride, rowBytes c.fmt c.hidden))

/-- Some row the frame would carry is delivered poisoned. -/
def State.framePoisoned (s : State) (c : FrameCmd) (x : FrameEntry) (b : Built) : Bool :=
  (c.rowReads x b).any (fun r => s.fetchPoisoned r.1 r.2)

/-- What the pump's reads for a frame count, correct and log (R214, R517). -/
def State.noteFrame (s : State) (c : FrameCmd) (i : Nat) (x : FrameEntry) (b : Built) : State :=
  s.noteReads (s.frameHeadReads c i ++ c.rowReads x b)

/-- HDR_DEST can be used: aligned, and reachable, on this device for a LOCAL entry. R92 does not say what makes it unusable
(DESIGN CHOICE, log entry 145). -/
def State.hdrUsable (s : State) (x : FrameEntry) : Bool :=
  aligned x.hdrDest 64 && (if x.loc then decide (faMember x.hdrDest = s.selfMember) else s.reachable x.hdrDest)

/-- The frame of an entry and the code it is sent void with (R92); `granted` are the link slots of its transfer, none for
a LOCAL frame; `cancel` is the code of a command that was stopped (R109, R479). Answer `none`: the pump sends nothing. Rows in a
store of the core die that is off make the frame void with 0x0006 (R31; DESIGN CHOICE, log entry 143). -/
def State.beginFrame (s : State) (rank : Nat) (c : FrameCmd) (i : Nat) (granted : Option Nat) (cancel : Nat) :
    Option (FrameEntry × Built) :=
  let x := s.frameEntry c i
  if (s.frameHeadReads c i).any s.absent ∨ x.reserved ∨ s.hdrUsable x = false then none
  else
    let b := if c.isReturn then s.buildReturn rank c x else s.buildDispatch rank c i
    let need := ceilDiv (frameSize b.quota b.fmt b.hidden) 4096
    let short := match granted with | none => false | some n => decide (n < need)
    let b :=
      if cancel ≠ 0 then { b.makeVoid cancel with why := 0 }
      else if !aligned x.slotDest 64 || !aligned x.rowDest 256 then b.makeVoid 0x3305
      else if short then b.makeVoid 0x3306
      else if (c.rowReads x b).any s.absent then b.makeVoid 0x0006
      else if s.framePoisoned c x b then b.makeVoid 0x1802
      else if b.void then b.makeVoid 0
      else b
    some (x, b)

/-- The code of a frame of which the pump sends nothing: 0x0006 where what it must read is absent (R31), else 0x3305 (R92). -/
def State.unsentCode (s : State) (c : FrameCmd) (i : Nat) : Nat :=
  if (s.frameHeadReads c i).any s.absent then 0x0006 else 0x3305

/-- The flits of a frame with which the row of a valid slot ends. -/
def Built.slotEnds (b : Built) : List Nat :=
  let per := rowStride b.fmt b.hidden / 256
  if b.void then []
  else (((List.range b.quota).zip b.slots).filter (fun p => bit p.2 20)).map (fun p => headerArea b.quota / 256 + (p.1 + 1) * per - 1)

/-- The parts [a, a + n) of a write, cut at the 4,096-byte boundaries of the offset (R262): (offset from a, length). -/
def cuts (off n : Nat) : List (Nat × Nat) :=
  if n = 0 then []
  else (List.range ((off + n - 1) / 4096 - off / 4096 + 1)).map (fun i =>
    let lo := max off ((off / 4096 + i) * 4096)
    let hi := min (off + n) ((off / 4096 + i + 1) * 4096)
    (lo - off, hi - lo))

/-- The WRITE requests of a demoted frame (R302): header, slot headers and rows, the last one carrying the counter. -/
def frameWrites (x : FrameEntry) (b : Built) : List (Nat × Bytes) :=
  let slots := if b.void then List.replicate (8 * b.quota) 0 else b.slots.flatMap (leBytes 8)
  let stride := rowStride b.fmt b.hidden
  let rows := if b.void then List.replicate (b.quota * stride) 0
    else b.rows.flatMap (fun r => r.getD (List.replicate stride 0))
  let one := fun (dest : Nat) (bs : Bytes) =>
    (cuts (faOffset dest) bs.length).map (fun p => (dest + p.1, (bs.drop p.1).take p.2))
  one x.hdrDest b.header ++ one x.slotDest slots ++ one x.rowDest rows

/-- Log the code for which the pump itself made a frame void (R92). -/
def State.noteMadeVoid (s : State) (die : Nat) (b : Built) : State :=
  if b.why = 0x3305 ∨ b.why = 0x3306 ∨ b.why = 0x0006 then s.raise (fabSite die) b.why else s

/-- A frame has been sent (R110). -/
def State.countFrame (s : State) (die : Nat) (void : Bool) : State :=
  let s := s.stat (Reg.FAB_DSP_FRAMES_SENT + 0x100 * die) 1
  if void then s.stat (Reg.FAB_DSP_FRAMES_VOID + 0x100 * die) 1 else s

/-- A frame that is sent whole at once is counted with its valid slots (R110). -/
def State.countSent (s : State) (die : Nat) (b : Built) : State :=
  ((s.noteMadeVoid die b).countFrame die b.void).stat (Reg.FAB_DSP_SLOTS_VALID + 0x100 * die) b.slotEnds.length

/-- A built frame as it arrives at its destination. -/
def Built.toFrame (b : Built) (x : FrameEntry) (src key epoch now : Nat) : Frame :=
  { header := b.header, slots := b.slots.flatMap (leBytes 8),
    rows := b.rows.flatMap (fun r => r.getD (List.replicate (rowStride b.fmt b.hidden) 0)),
    hdrDest := x.hdrDest, slotDest := x.slotDest, rowDest := x.rowDest, cntEn := true, counter := x.counter,
    source := src, key := key, epoch := epoch, injected := now }

/-! ### Landing (R94 to R96) -/

/-- A field of a header byte string. -/
def hfld (h : Bytes) (off n lo w : Nat) : Nat := bits (leNat ((h.drop off).take n)) lo w

/-- A reserved header bit is set or TYPE is illegal (R82). -/
def frameTypeBad (h : Bytes) : Bool :=
  decide (hfld h 0 1 0 8 ≠ 1 ∧ hfld h 0 1 0 8 ≠ 2) || decide (hfld h 0 2 9 7 ≠ 0) || decide (hfld h 4 4 14 2 ≠ 0) ||
  decide (hfld h 4 4 28 4 ≠ 0) || decide (hfld h 0xC 4 24 8 ≠ 0) || decide (hfld h 0x10 4 24 8 ≠ 0) ||
  decide (hfld h 0x14 4 15 17 ≠ 0) || decide (leNat ((h.drop 0x2C).take 20) ≠ 0)

/-- The first code with which the requests of a part are refused, 0 for none (R299). -/
def State.partCode (s : State) (src : Source) (f : Frame) (dest n : Nat) : Nat :=
  ((cuts (faOffset dest) n).filterMap (fun p =>
    s.requestCode 1 src (dest + p.1) f.key f.epoch (match src with | .self => 0 | _ => s.ageOf f.injected) p.2)).headD 0

/-- A part of a landing frame is written through its region; `counted` where its requests have been counted as they arrived. -/
def State.writePart (s : State) (die : Nat) (src : Source) (f : Frame) (dest : Nat) (bs : Bytes) (counted : Bool) : State :=
  (cuts (faOffset dest) bs.length).foldl (fun s p =>
    let q : Pkt := { typ := 1, len := p.2, dest := s.selfDev, src := f.source, addr := dest + p.1, key := f.key,
                     epoch := f.epoch, inject := f.injected, body := (bs.drop p.1).take p.2 }
    (if counted then s.performArrived die src q else s.performCore die src q).2.2) s

/-- Frame rows as they land: the rows of valid slots, zeros elsewhere (R95). -/
def landedRows (slots : Bytes) (rows : Bytes) (quota stride : Nat) (void : Bool) : Bytes :=
  (List.range quota).flatMap (fun j =>
    if !void && bit (leNat ((slots.drop (8 * j)).take 8)) 20 then
      ((rows.drop (j * stride)).take stride) ++ List.replicate (stride - ((rows.drop (j * stride)).take stride).length) 0
    else List.replicate stride 0)

/-- Slot headers as they land: those of valid slots, zeros elsewhere (R95). -/
def landedSlots (slots : Bytes) (quota : Nat) (void : Bool) : Bytes :=
  (List.range quota).flatMap (fun j =>
    let v := leNat ((slots.drop (8 * j)).take 8)
    leBytes 8 (if !void && bit v 20 then v else 0))

/-- The bytes that PAYLOAD_CRC covers: the slot headers and the rows of the valid slots (R82). -/
def crcBytes (slots rows : Bytes) (quota stride : Nat) : Bytes :=
  slots.take (8 * quota) ++ (List.range quota).flatMap (fun j =>
    if bit (leNat ((slots.drop (8 * j)).take 8)) 20 then (rows.drop (j * stride)).take stride else [])

/-- The code with which an arriving frame is refused at landing, 0 for none (R94). -/
def State.landingCode (s : State) (src : Source) (f : Frame) : Nat :=
  let h := f.header
  let quota := hfld h 4 4 16 12
  let stride := rowStride (hfld h 8 4 12 4) (hfld h 0x14 4 0 15)
  let void := bit (leNat (h.take 2)) 8
  if frameTypeBad h then 0x3309
  else if s.regionRank (faRegion f.hdrDest) ≠ some (hfld h 0x10 4 0 24) then 0x3307
  else if !void && decide (crc32c (crcBytes f.slots f.rows quota stride) ≠ hfld h 0x28 4 0 32) then 0x3308
  else firstNonzero (s.partCode src f f.hdrDest 64)
    (firstNonzero (s.partCode src f f.slotDest (8 * quota)) (s.partCode src f f.rowDest (quota * stride)))

/-- The landed header: as sent, with VOID and STATUS where the frame lands void with a code (R94). -/
def landedHeader (h : Bytes) (code : Nat) : Bytes :=
  if code = 0 then h.take 64
  else leBytes 4 (bits (leNat (h.take 4)) 0 8 + 256 + bits (leNat (h.take 4)) 9 7 * 512 + code * 65536) ++
    (h.drop 4).take 60

/-- A frame lands (R94 to R96): the code towards its sender, and the state with the three parts written, the counter
incremented with the frame's STATUS, and the statistics. `counted` where its requests have been counted as they arrived (R286). -/
def State.landFrame (s : State) (die : Nat) (src : Source) (f : Frame) (counted : Bool := false) : Nat × State :=
  let h := f.header
  let quota := hfld h 4 4 16 12
  let stride := rowStride (hfld h 8 4 12 4) (hfld h 0x14 4 0 15)
  let s := ((s.regionSafe (faRegion f.hdrDest)).regionSafe (faRegion f.slotDest)).regionSafe (faRegion f.rowDest)
  let code := s.landingCode src f
  let status := firstNonzero (hfld h 0 4 16 16) code
  let void := bit (leNat (h.take 2)) 8 || decide (status ≠ 0)
  let s := s.writePart die src f f.hdrDest (landedHeader h status) counted
  let s := s.writePart die src f f.slotDest (landedSlots f.slots quota void) counted
  let s := s.writePart die src f f.rowDest (landedRows f.slots f.rows quota stride void) counted
  let s := s.stat (Reg.FAB_DSP_FRAMES_LANDED + 0x100 * die) 1
  let s := if code = 0 then s else
    let s := s.stat (Reg.FAB_DSP_FRAMES_REFUSED + 0x100 * die) 1
    if 0x3301 ≤ code then s.raise (fabSite die) code f.hdrDest else s
  if f.cntEn then
    let r := s.carryIncrement die src f.counter status (decide (code ≠ 0) && decide (code < 0x3301))
    (firstNonzero code r.1, r.2)
  else (code, s)

end Sys2Proof.Machine
end

