-- ==== Sys2Proof/Machine/Ports.lean ====
section
/-! DEFINITION. The logical ports and their slot tables (R288, R300 to R306), and the packets this device originates. -/

namespace Sys2Proof.Machine

/-- The entries of the reset table: SHARED at 0, 8, …, 192, every other IDLE (R305). -/
def slotDefault (k : Nat) : SlotEntry := if k % 8 = 0 ∧ k < 200 then .shared else .idle

/-- The reset table (R305). -/
def slotTableInit : SlotTable := ⟨0, 200, []⟩

/-- Entry `k` of a table. -/
def SlotTable.entry (t : SlotTable) (k : Nat) : SlotEntry := t.entries.get slotDefault k

/-- The receive buffers of the six credit channels in flits (R296). -/
def bufferSizes : List Nat := [256, 128, 32, 16, 16, 16]

/-- A logical port after reset. -/
def lportInit : LPort :=
  { nextSeq := 0, unacked := [], resend := [], expect := 0, held := [], asks := [], asked := [], nak := false,
    credits := bufferSizes, room := bufferSizes, due := [0, 0, 0, 0, 0, 0], queues := [[], [], [], [], [], []],
    turn := [false, false], asm := [[], [], [], [], [], []], hop := [], arriving := [], forward := [], late := [],
    lateLogged := [], passed := [], ended := [], nextSlot := 0, active := slotTableInit, staged := slotTableInit,
    since := [], swap := none, swapBy := (0, false) }

/-- Logical port `l`. -/
def State.lport (s : State) (l : Nat) : LPort := s.lports.get (fun _ => lportInit) l

/-- Set a logical port. -/
def State.setLport (s : State) (l : Nat) (p : LPort) : State :=
  { s with lports := s.lports.set (fun _ => lportInit) l p }

/-- The link die of a logical port, and the site of its Salax port (R287, R506). -/
def lportDie (l : Nat) : Nat := l / 16
def lnkSite (l : Nat) : Site := site 10 (l / 2)

/-- The state of a logical port in LNK_STATE (R290). -/
def stateFld (l : Nat) : Fld := if l % 2 = 0 then Reg.LNK_STATE_STATE0 else Reg.LNK_STATE_STATE1
def delayFld (l : Nat) : Fld := if l % 2 = 0 then Reg.LNK_STATE_DELAY0 else Reg.LNK_STATE_DELAY1
def State.lportState (s : State) (l : Nat) : Nat := s.fld (stateFld l) (instDelta (l / 2))
def State.setLportState (s : State) (l v : Nat) : State := s.setFld (stateFld l) (instDelta (l / 2)) v
def State.lportUp (s : State) (l : Nat) : Bool := decide (s.lportState l = 3)

/-- A port is split into two (R288). -/
def State.split (s : State) (n : Nat) : Bool := decide (s.fld Reg.LNK_CFG_SPLIT (instDelta n) = 1)

/-- A link slot in units of 10 ps (R288). -/
def State.slotTime (s : State) (l : Nat) : Nat := if s.split (l / 2) then 4096 else 2048

/-- The start of link slot `k` of cycle `c`, in units of 10 ps (R300). -/
def State.slotStart (s : State) (l : Nat) (t : SlotTable) (c k : Nat) : Nat :=
  t.t0 * 100 + (c * t.len + k) * s.slotTime l

/-- The link slots of a LOCAL transfer, in table order (R301). -/
def SlotTable.slotsOf (t : SlotTable) (xfer : Nat) : List Nat :=
  (List.range t.len).filter (fun k => decide (t.entry k = .tc0 63 xfer))

/-- The logical port whose active table grants a LOCAL transfer its link slots, with those slots. -/
def State.grantOf (s : State) (xfer : Nat) : Option (Nat × List Nat) :=
  ((List.range 32).map (fun l => (l, (s.lport l).active.slotsOf xfer))).find? (fun p => !p.2.isEmpty)

/-- The first cycle whose last link slot of a transfer ends after time `a` (R302). -/
def State.firstOccurrence (s : State) (l : Nat) (t : SlotTable) (slots : List Nat) (a : Nat) : Nat :=
  let lastEnd := s.slotStart l t 0 (slots.getLastD 0) + s.slotTime l
  if a * 100 < lastEnd then 0 else (a * 100 - lastEnd) / (t.len * s.slotTime l) + 1

/-- A packet this device originates waits to be routed; it keeps the injection bank of this moment (R308). -/
def State.originate (s : State) (p : Pkt) (sluice : Bool := false) : State :=
  { s with injected := s.injected ++ [⟨{ p with inject := s.tb % 2 ^ 32 }, s.fld Reg.FAB_RT_CTRL_INJECT_EPOCH, sluice, s.tb, none⟩] }

end Sys2Proof.Machine
end

