-- ==== Sys2Proof/Machine/Pump.lean ====
section
/-! DEFINITION. The copy pumps (chapters 3 and 8): acceptance of their commands, the requests they send, FENCE,
completion, and the stop of a torn-down context's commands. -/

namespace Sys2Proof.Machine

/-! ### Acceptance (R268, R270, R274, R276, R281) -/

/-- The operation of a pump descriptor. -/
def pumpOp (d : Desc) : Nat := descFld d 0 0 8

/-- A command that sends frames. -/
def isFrameOp (op : Nat) : Bool := decide (op = 0x20) || decide (op = 0x21)

/-- COMPLETION of a pump descriptor, at its own layout's place (R195). -/
def pumpCompletion (d : Desc) : Nat :=
  if isFrameOp (pumpOp d) then descFld d 0x38 0 14
  else if pumpOp d = 0x24 then descFld d 0x28 0 14 else descFld d 0x20 0 14

/-- The defined bits of the descriptors. -/
def copyMasks : List Nat := [maskOf 0 48, maskOf 0 64, maskOf 0 64, maskOf 0 41, 0x3FFF3FFF]
def atomicMasks : List Nat := [0xFFFFFCFF, maskOf 0 64, maskOf 0 64, maskOf 0 64, maskOf 0 48, maskOf 0 14]
def fenceMasks : List Nat := [0xFF, 0, 0, 0, maskOf 0 14]
def cntClearMasks : List Nat := [0xFF, maskOf 0 14, 0, 0, maskOf 0 14]
def memRakeMasks : List Nat := [0xFFFF00FF, maskOf 0 48, 0xFFFFFFFF007FFFFF, maskOf 0 64, maskOf 0 14]

/-- The cores that a rake mask selects (R281). -/
def State.rakeCores (s : State) (mask : Nat) : List Nat := (setBitsOf mask 64).filter s.coreEnabled

/-- The checks of COPY and PUT_REDUCE in the order of R268, but for the last two. -/
def State.copyCode (s : State) (d : Desc) : Option Nat :=
  let red := decide (pumpOp d = 0x23)
  let op := descFld d 0 12 4
  let sFab := bit (descWord d 0) 10
  let dFab := bit (descWord d 0) 11
  let cnt := bit (descWord d 0) 9
  let src := descWord d 1
  let dst := descWord d 2
  let n := descFld d 0x18 0 41
  firstCode [
    (!reservedClear d copyMasks 8 || (!red && decide (op ≠ 0)) ||
      (!bit (descWord d 0) 8 && decide (descFld d 0 32 16 ≠ 0)) || (!cnt && decide (descFld d 0x20 16 14 ≠ 0)) ||
      (!sFab && decide (2 ^ 48 ≤ src)) || (!dFab && decide (2 ^ 48 ≤ dst)), 0x3002),
    ((cnt && sFab) || (sFab && dFab) || decide (2 ^ 40 < n) ||
      (red && (sFab || decide (10 < op) || !aligned n 64 || !aligned src 64 || !aligned dst 64)), 0x3003),
    ((!sFab && !s.pumpRange src n) || (!dFab && !s.pumpRange dst n), 0x3004)]

/-- The checks of ATOMIC (R270); a 4-byte operation is one whose OP has four bytes (log entry 92). -/
def State.atomicCode (s : State) (d : Desc) : Option Nat :=
  let op := descFld d 0 12 4
  let w := if bit (descWord d 0) 11 then 8 else 4
  let fab := bit (descWord d 0) 10
  firstCode [
    (!reservedClear d atomicMasks 8 || (decide (nmWidth op = 4) && decide (2 ^ 32 ≤ descWord d 2)) ||
      (decide (op ≠ 12) && decide (descWord d 3 ≠ 0)) || (!fab && decide (2 ^ 48 ≤ descWord d 1)), 0x3002),
    (decide (12 < op) || decide (w ≠ nmWidth op) || !aligned (descWord d 1) w, 0x3003),
    (!aligned (descFld d 0x20 0 48) 8 || !s.pumpRange (descFld d 0x20 0 48) 8 ||
      (!fab && !s.pumpRange (descWord d 1) w), 0x3004)]

/-- The checks of MEM_RAKE (R281, R282). -/
def State.memRakeCode (s : State) (d : Desc) : Option Nat :=
  let src := descFld d 8 0 48
  let off := descFld d 0x10 0 23
  let n := descFld d 0x10 32 32
  firstCode [
    (!reservedClear d memRakeMasks 8, 0x3002),
    (!aligned n 64 || decide (storeSize < n) || decide (storeSize < off + n), 0x3003),
    (!aligned src 64 || !aligned off 64 || !s.pumpRange src n ||
      (s.rakeCores (descWord d 3)).any (fun c => rangesOverlap src n (coreAddr c off) n), 0x3004)]

/-- The fabric addresses that a command names. -/
def fabricAddrs (d : Desc) : List Nat :=
  match pumpOp d with
  | 0x22 => (if bit (descWord d 0) 10 then [descWord d 1] else []) ++ (if bit (descWord d 0) 11 then [descWord d 2] else [])
  | 0x23 => (if bit (descWord d 0) 10 then [descWord d 1] else []) ++ (if bit (descWord d 0) 11 then [descWord d 2] else [])
  | 0x24 => if bit (descWord d 0) 10 then [descWord d 1] else []
  | _ => []

/-- The first failing check of a command at a pump of link die `die` (R91, R268). -/
def State.pumpCode (s : State) (die : Nat) (d : Desc) : Option Nat :=
  let off := decide (s.fld Reg.FAB_CTRL_ENABLE = 0)
  let own : Option Nat := match pumpOp d with
    | 0x22 => s.copyCode d
    | 0x23 => s.copyCode d
    | 0x24 => s.atomicCode d
    | 0x25 => firstCode [(!reservedClear d fenceMasks 8, 0x3002)]
    | 0x26 => firstCode [(!reservedClear d cntClearMasks 8, 0x3002),
        (decide (descFld d 8 0 14 = descFld d 0x20 0 14), 0x3003)]
    | 0x27 => s.memRakeCode d
    | _ => some 0x3001
  if isFrameOp (pumpOp d) then s.frameCode die d
  else match own with
    | some c => some c
    | none => firstCode [
        (off, 0x3005),
        (decide (pumpOp d = 0x27) && !s.coreOn, 0x0006),
        (decide (pumpOp d = 0x27) && (s.rakeCores (descWord d 3)).isEmpty, 0x3014),
        ((fabricAddrs d).any (fun a => !s.reachable a), 0x3006)]

/-! ### Bookkeeping -/

/-- Pump command `seq`, if it is in flight. -/
def State.pump? (s : State) (seq : Nat) : Option PumpCmd := s.pumps.find? (fun c => decide (c.seq = seq))

/-- Change pump command `seq`. -/
def State.updPump (s : State) (seq : Nat) (f : PumpCmd → PumpCmd) : State :=
  { s with pumps := s.pumps.map (fun c => if c.seq = seq then f c else c) }

/-- Note the code of request `i` of a command: the first in request order is kept (R269). -/
def PumpCmd.note (c : PumpCmd) (i code : Nat) : PumpCmd :=
  if code = 0 then c
  else match c.first with
    | none => { c with first := some (i, code) }
    | some (j, _) => if i < j then { c with first := some (i, code) } else c

/-- Change job `i` of a command. -/
def PumpCmd.updJob (c : PumpCmd) (i : Nat) (f : Job → Job) : PumpCmd :=
  { c with jobs := c.jobs.map (fun j => if j.index = i then f j else j) }

/-- A job ends with a code; its first code is kept. -/
def Job.land (j : Job) (code : Nat) : Job := { j with state := .landed, code := firstNonzero j.code code }

/-- Requests of a command without an acknowledgement. -/
def State.pumpOpen (s : State) (seq : Nat) : Bool :=
  s.outstanding.any (fun r => match r.owner with | .pump q _ => decide (q = seq) | .job q _ => decide (q = seq) | _ => false)

/-- Requests of a job without an acknowledgement. -/
def State.jobOpen (s : State) (seq i : Nat) : Bool := s.outstanding.any (fun r => decide (r.owner = .job seq i))

/-- The pump command that owns a request makes progress (R474). -/
def State.ownerMoves (s : State) (o : Owner) : State :=
  match o with
  | .pump q _ => s.updPump q (fun c => { c with moved := s.tb })
  | .job q _ => s.updPump q (fun c => { c with moved := s.tb })
  | .coll _ _ => s

/-- Send a request to another member: it is numbered, remembered and injected (R263, R297). -/
def State.sendRequest (s : State) (owner : Owner) (p : Pkt) (target : Nat) : State :=
  let id := s.nextReq
  let s := s.ownerMoves owner
  let s := { s with
    nextReq := (id + 1) % 2 ^ 24
    outstanding := s.outstanding ++ [(⟨id, owner, p.typ, target, p.len, s.tb⟩ : Sent)] }
  (s.stat Reg.FAB_STAT_REQ_SENT 1).originate
    { p with reqId := id, src := s.selfDev, dest := s.fld Reg.FAB_SELF_SALTERN * 256 + faMember p.addr }

/-- What a READ or an ATOMIC brings back is written locally (R269, R271); the answer is the code of the request with the refusal of
that write behind it (R31). -/
def State.writeBack (s : State) (typ target len code : Nat) (data : Bytes) : Nat × State :=
  let r :=
    if typ = 2 then
      if code = 0 then s.physStore target (data.take len)
      else if poisonCode code then s.physStore target (List.replicate len 0) true else (0, s)
    else if typ = 3 ∧ code = 0 then s.physStore target (data.take 8)
    else (0, s)
  (firstNonzero code r.1, r.2)

/-- A request that nothing waits for is sent, of a command that has stopped: numbered like any other, so that its acknowledgement is
late (R263, R283). -/
def State.sendUnowned (s : State) (p : Pkt) : State :=
  { s.stat Reg.FAB_STAT_REQ_SENT 1 with nextReq := (s.nextReq + 1) % 2 ^ 24 }.originate
    { p with reqId := s.nextReq, src := s.selfDev, dest := s.fld Reg.FAB_SELF_SALTERN * 256 + faMember p.addr }

/-- A request of command `seq` goes to its destination: performed here, or sent (R253, R262). -/
def State.request (s : State) (c : PumpCmd) (i : Nat) (p : Pkt) (target : Nat) : State :=
  let p := { p with key := c.key, epoch := c.epoch, strict := c.strict, src := s.selfDev, dest := s.selfDev }
  if faMember p.addr = s.selfMember then
    let r := (s.stat Reg.FAB_STAT_REQ_SENT 1).perform c.die .self p
    let s := if r.1 = 0 ∨ (p.typ = 2 ∧ poisonCode r.1 = true) then r.2.2 else r.2.2.stat Reg.FAB_STAT_REFUSED_OUT 1
    let w := s.writeBack p.typ target p.len r.1 r.2.1
    w.2.updPump c.seq (fun x => { x.note i w.1 with moved := s.tb })
  else s.sendRequest (.pump c.seq i) p target

/-! ### Moves -/

/-- A local move, line of the source by line: a poisoned line is written as the poison word, and nothing for an absent store's
line (R31); the first code. -/
def State.moveLocal (s : State) (src dst n : Nat) : Nat × State :=
  (linesOf src n).foldl (fun acc l =>
    let lo := max l src
    let k := min (l + 64) (src + n) - lo
    let d := dst + (lo - src)
    let c := acc.2.localCode lo k
    let data := acc.2.fetch lo k
    let st := acc.2.noteFetch lo k
    let r := if c = 0 then let t := st.physStore d data; (t.1, t.2.copySpoilt lo d k)
      else if !poisonCode c then (c, acc.2)
      else (c, st.put d (List.replicate k 0) true)
    (firstNonzero acc.1 r.1, r.2)) (0, s)

/-- A near-memory ADD_F32 performed for a FAST context is a hazard of the step (R410). -/
def State.noteFast (s : State) (c : PumpCmd) : State :=
  if descFld c.desc 0 12 4 = 1 ∧ (pumpOp c.desc = 0x23 ∨ pumpOp c.desc = 0x24) ∧ !c.strict ∧ c.core.isSome then s.hazard c.context 2
  else s

/-- A local reduce, line by line; a line read poisoned is not applied (R267, R271). -/
def State.reduceLocal (s : State) (cmd : PumpCmd) (op src dst n : Nat) : Nat × State :=
  (linesOf src n).foldl (fun acc l =>
    let c := acc.2.localCode l 64
    let data := acc.2.fetch l 64
    let st := acc.2.noteFetch l 64
    let r := if c = 0 then st.reduceAt op (dst + (l - src)) data cmd.strict else (c, st)
    (firstNonzero acc.1 r.1, if r.1 = 0 then r.2.noteFast cmd else r.2)) (0, s)

/-- The requests of a COPY or PUT_REDUCE between this device and a fabric address (R262, R273). What cannot be read is not sent: of a
part without data only the increment of the last one goes, as a MARK. -/
def State.copyRequests (s : State) (c : PumpCmd) : State :=
  let d := c.desc
  let red := decide (pumpOp d = 0x23)
  let sFab := bit (descWord d 0) 10
  let src := descWord d 1
  let dst := descWord d 2
  let n := descFld d 0x18 0 41
  let cnt := bit (descWord d 0) 9
  let counter := descFld d 0x20 16 14
  let parts := cuts (faOffset (if sFab then src else dst)) n
  ((List.range parts.length).zip parts).foldl (fun s p =>
    let i := p.1
    let off := p.2.1
    let k := p.2.2
    if sFab then s.request c i { typ := 2, len := k, dest := 0, src := 0, addr := src + off } (dst + off)
    else
      let code := s.localCode (src + off) k
      let body := if code = 0 then s.fetch (src + off) k else List.replicate k 0
      let s := s.noteFetch (src + off) k
      let s := if code = 0 then s else s.updPump c.seq (fun x => x.note i code)
      let last := decide (i + 1 = parts.length)
      let none_ := decide (code ≠ 0) && (red || !poisonCode code)
      if none_ && !last then s
      else
        s.request c i { typ := if none_ then 5 else if red then 4 else 1, op := descFld d 0 12 4, cntEn := cnt && last,
                        last := last, len := k, dest := 0, src := 0, code := if none_ then code else 0,
                        addr := dst + off, counter := counter, body := body, poison := decide (code ≠ 0) } 0) s

/-- The requests of a COPY or PUT_REDUCE between this device and a fabric address; of one without bytes a MARK alone (R267, R273). -/
def State.copyFabric (s : State) (c : PumpCmd) : State :=
  let d := c.desc
  if descFld d 0x18 0 41 ≠ 0 then s.copyRequests c
  else if bit (descWord d 0) 11 then
    s.request c 0 { typ := 5, cntEn := bit (descWord d 0) 9, last := true, dest := 0, src := 0, addr := descWord d 2,
                    counter := descFld d 0x20 16 14 } 0
  else s

/-- A COPY or PUT_REDUCE starts (R267, R273). -/
def State.startCopy (s : State) (c : PumpCmd) : State :=
  let d := c.desc
  let sFab := bit (descWord d 0) 10
  let dFab := bit (descWord d 0) 11
  let cnt := bit (descWord d 0) 9
  let n := descFld d 0x18 0 41
  let counter := descFld d 0x20 16 14
  if sFab || dFab then s.copyFabric c
  else
    let r := if pumpOp d = 0x23 then s.reduceLocal c (descFld d 0 12 4) (descWord d 1) (descWord d 2) n
      else s.moveLocal (descWord d 1) (descWord d 2) n
    let s := r.2.updPump c.seq (fun x => x.note 0 r.1)
    if cnt then s.complete counter r.1 else s

/-- An ATOMIC starts (R270, R271). -/
def State.startAtomic (s : State) (c : PumpCmd) : State :=
  let d := c.desc
  let op := descFld d 0 12 4
  let w := nmWidth op
  let result := descFld d 0x20 0 48
  if bit (descWord d 0) 10 then
    s.request c 0 { typ := 3, op := op, last := true, len := w, dest := 0, src := 0, addr := descWord d 1,
                    operand := descWord d 2, compare := descWord d 3 } result
  else
    let r := s.atomicAt op (descWord d 1) w (descWord d 2) (descWord d 3) c.strict
    let b := (if r.1 = 0 then r.2.2.noteFast c else r.2.2).writeBack 3 result w r.1 (leBytes 8 r.2.1)
    b.2.updPump c.seq (fun x => x.note 0 b.1)

/-- A MEM_RAKE runs: each line of the source is read once and written to every selected core (R282). -/
def State.startMemRake (s : State) (c : PumpCmd) : State :=
  let d := c.desc
  let src := descFld d 8 0 48
  let off := descFld d 0x10 0 23
  let n := descFld d 0x10 32 32
  let cores := s.rakeCores (descWord d 3)
  let r := (linesOf src n).foldl (fun (acc : Nat × State) l =>
    let code := acc.2.localCode l 64
    let data := if code = 0 then acc.2.fetch l 64 else List.replicate 64 0
    let st := acc.2.noteFetch l 64
    (firstNonzero acc.1 code, cores.foldl (fun s k => s.put (coreAddr k (off + (l - src))) data (decide (code ≠ 0))) st)) (0, s)
  (r.2.stat Reg.FAB_STAT_RAKES 1).updPump c.seq (fun x => x.note 0 r.1)

/-! ### Frames and scheduled transfers -/

/-- The job rank under which a command's frames go (R82). -/
def State.pumpRank (s : State) (c : PumpCmd) : Nat := s.selfRank (s.ctxPartition c.context)

/-- A transfer is bound to a port that is not UP: the port raises 0x2804 (R16, R291). -/
def State.transferDown (s : State) (l xfer : Nat) : State := s.raise (lnkSite l) 0x2804 xfer

/-- The jobs that end at once because their port is not UP are raised there (R291). -/
def State.raiseDown (s : State) (js : List Job) : State :=
  (js.filter (fun j => decide (j.code = 0x2804))).foldl (fun s j =>
    match s.grantOf j.xfer with
    | none => s
    | some (l, _) => s.transferDown l j.xfer) s

/-- A transfer's port is not UP: the code its job ends with at once (R291). -/
def State.transferCode (s : State) (xfer : Nat) : Nat :=
  match s.grantOf xfer with
  | none => 0
  | some (l, _) => if s.lportUp l then 0 else 0x2804

/-- The jobs of a DISPATCH or RETURN: one for each expert with QUOTA > 0, or for each entry (R80, R93). -/
def State.frameJobs (s : State) (c : FrameCmd) : List Job :=
  let idx := (List.range c.count).filter (fun i => c.isReturn || decide (s.sumQuota c.summaryIn i ≠ 0))
  idx.map (fun i =>
    let x := s.frameEntry c i
    let code := if x.loc then 0 else s.transferCode x.xfer
    ⟨i, x.loc, x.xfer, if code = 0 then .waiting else .landed, code⟩)

/-- A COPY that asks for link slots to another member (R267). -/
def State.asksSlots (s : State) (d : Desc) : Bool :=
  decide (pumpOp d = 0x22) && bit (descWord d 0) 8 && bit (descWord d 0) 11 && decide (faMember (descWord d 2) ≠ s.selfMember)

/-- A COPY that uses the TC0 link slots of its transfer, one without bytes too (R267, R298). -/
def State.scheduled (s : State) (d : Desc) : Bool := s.asksSlots d && (s.grantOf (descFld d 0 32 16)).isSome

/-- The job of a scheduled COPY. -/
def State.copyJob (s : State) (d : Desc) : Job :=
  let xfer := descFld d 0 32 16
  let code := s.transferCode xfer
  ⟨0, false, xfer, if code = 0 then .waiting else .landed, code⟩

/-- The pump sends nothing of a frame: its job ends with the code that is logged (R92). -/
def State.leaveFrame (s : State) (c : PumpCmd) (j : Job) : State :=
  let k := s.unsentCode (frameCmdOf c.desc) j.index
  (s.raise (fabSite c.die) k).updPump c.seq (fun x => x.updJob j.index (fun y => y.land k))

/-- A frame goes as TC1 packets: a demoted one (R302), or the void frame of a transfer that no table grants a link slot (R92, log
entry 109). -/
def State.sendFrameParts (s : State) (c : PumpCmd) (j : Job) (granted : Nat) : State :=
  match s.beginFrame (s.pumpRank c) (frameCmdOf c.desc) j.index (some granted) c.cancelled with
  | none => s.leaveFrame c j
  | some (x, b) =>
    let s := (s.countSent c.die b).noteFrame (frameCmdOf c.desc) j.index x b
    let ws := frameWrites x b
    let s := s.updPump c.seq (fun y => y.updJob j.index (fun k =>
      { k with state := .sent, code := firstNonzero k.code b.status }))
    ((List.range ws.length).zip ws).foldl (fun s p =>
      let last := decide (p.1 + 1 = ws.length)
      let q : Pkt := { typ := 1, strict := c.strict, cntEn := last, last := last, frame := true, len := p.2.2.length,
                       dest := s.fld Reg.FAB_SELF_SALTERN * 256 + faMember x.hdrDest, src := s.selfDev,
                       addr := p.2.1, key := c.key, epoch := c.epoch, counter := if last then x.counter else 0,
                       body := p.2.2 }
      if c.cancelled ≠ 0 then s.sendUnowned q else s.sendRequest (.job c.seq j.index) q 0) s

/-- A held or new command starts (R276). A frame whose transfer no table grants a link slot goes at once. -/
def State.startPump (s : State) (c : PumpCmd) : State :=
  let s := s.updPump c.seq (fun x => { x with started := true, moved := s.tb })
  match pumpOp c.desc with
  | 0x22 =>
    if s.scheduled c.desc then
      let j := s.copyJob c.desc
      (s.updPump c.seq (fun x => { x with jobs := [j] })).raiseDown [j]
    else s.startCopy c
  | 0x23 => s.startCopy c
  | 0x24 => s.startAtomic c
  | 0x25 => s
  | 0x27 => s.startMemRake c
  | _ =>
    let jobs := s.frameJobs (frameCmdOf c.desc)
    (jobs.filter (fun j => !j.loc && (s.grantOf j.xfer).isNone)).foldl (fun s j => s.sendFrameParts c j 0)
      ((s.updPump c.seq (fun x => { x with jobs := jobs })).raiseDown jobs)

/-! ### Completion and FENCE -/

/-- The code a command completes with: the first in request order, else the first of its frames, else a FENCE's. -/
def PumpCmd.code (c : PumpCmd) : Nat :=
  match c.first with
  | some (_, k) => k
  | none =>
    if pumpOp c.desc = 0x25 then (if c.timedOut then 0x3012 else 0)
    else ((c.jobs.map (fun j => j.code)).find? (fun k => decide (k ≠ 0))).getD 0

/-- Every job of a command has landed. -/
def PumpCmd.jobsDone (c : PumpCmd) : Bool := c.jobs.all (fun j => decide (j.state = .landed))

/-- A command is finished but for its completion. -/
def State.pumpReady (s : State) (c : PumpCmd) : Bool :=
  c.started && decide (c.cancelled = 0) && c.jobsDone && !s.pumpOpen c.seq &&
  (decide (pumpOp c.desc ≠ 0x25) || !s.pumps.any (fun x => c.covers.contains x.seq && decide (x.cancelled = 0)))

/-- A command completes (R93, R269, R276): COMPLETION increments and the command leaves; a FENCE that covers it learns
of its timed-out requests. -/
def State.finishPump (s : State) (c : PumpCmd) : State :=
  let rest : List PumpCmd := s.pumps.filter (fun x => decide (x.seq ≠ c.seq))
  let told := rest.map (fun x => if x.covers.contains c.seq && c.timedOut then { x with timedOut := true } else x)
  let s := { s with pumps := told }
  let s := if pumpOp c.desc = 0x25 then s.stat Reg.FAB_STAT_FENCES 1 else s
  s.complete (pumpCompletion c.desc) c.code

/-- A command sends requests, so a FENCE holds it (R276). -/
def sendsRequests (d : Desc) : Bool := isFrameOp (pumpOp d) || !(fabricAddrs d).isEmpty

/-- Two commands have requests to one destination, and one of them waits for link slots, where the other does not (R265, R266). -/
def State.orderedWith (s : State) (x c : PumpCmd) : Bool :=
  (s.asksSlots x.desc || s.asksSlots c.desc) &&
  (fabricAddrs x.desc).any (fun a => (fabricAddrs c.desc).any (fun b => decide (faMember a = faMember b)))

/-- What holds a command: an earlier FENCE of the same issuer (R276), or an earlier command to the same destination, where the link
slots of a scheduled COPY would change the request order (R265, R266). -/
def State.fenced (s : State) (c : PumpCmd) : Bool :=
  sendsRequests c.desc && s.pumps.any (fun x => decide (x.seq < c.seq) && decide (x.cancelled = 0) &&
    ((decide (pumpOp x.desc = 0x25) && decide (x.core = c.core)) || s.orderedWith x c))

/-- Complete and start commands until nothing more follows. -/
def State.settle : Nat → State → State
  | 0, s => s
  | n + 1, s =>
    match s.pumps.find? (fun c => !isFrameOp (pumpOp c.desc) && s.pumpReady c) with
    | some c => (s.finishPump c).settle n
    | none =>
      match s.pumps.find? (fun c => !c.started && !s.fenced c) with
      | some c => (s.startPump c).settle n
      | none => s

/-- Enough rounds for every command in flight to start and to complete. -/
def State.settleAll (s : State) : State := s.settle (2 * s.pumps.length + 1)

/-- The oldest DISPATCH or RETURN of a link die whose frames have all landed completes (R93). -/
def State.pumpCompletionStep (s : State) (die : Nat) : State :=
  match s.pumps.find? (fun c => decide (c.die = die) && isFrameOp (pumpOp c.desc) && s.pumpReady c) with
  | some c => (s.finishPump c).settleAll
  | none => s

/-- A pump of link die `die` has room for one more command of a sequencer (R192, R194). -/
def State.pumpRoom (s : State) (die core : Nat) : Bool :=
  decide ((s.pumps.filter (fun c => decide (c.die = die) && decide (c.core = some core) && !c.started)).length < 8)

/-- A command reaches the pumps of a link die with room for it (R268, R91): refused and completed with its code, or
accepted under the key, epoch and mode of its context, and started unless a FENCE holds it. A command of the MC has no
context: its key is a free value. -/
def State.pumpAccept (s : State) (die : Nat) (core : Option Nat) (d : Desc) : State :=
  match s.pumpCode die d with
  | some c => (s.raise (fabSite die) c).complete (pumpCompletion d) c
  | none =>
    if pumpOp d = 0x26 then
      let t := descFld d 8 0 14
      (s.setCounter t { s.counter t with err := 0 }).complete (pumpCompletion d) 0
    else if pumpOp d = 0x21 ∧ descFld d 8 32 15 = 0 then s.complete (pumpCompletion d) 0
    else
      let ctx := match core with | some n => s.coreContext n | none => 0
      let mcKey := s.fresh
      let s := match core with | some _ => s | none => mcKey.2
      let c : PumpCmd :=
        { seq := s.pumpSeq, die := die, core := core, context := ctx, desc := d,
          key := match core with | some _ => s.ctxKey ctx | none => mcKey.1.toNat,
          epoch := match core with | some _ => s.ctxEpoch ctx | none => mcKey.1.toNat % 256,
          strict := match core with | some _ => s.ctxStrict ctx | none => false,
          accepted := s.tb, started := false, cancelled := 0,
          covers := if pumpOp d = 0x25 then
            (s.pumps.filter (fun x => decide (x.core = core) && decide (x.cancelled = 0) && decide (pumpOp x.desc ≠ 0x25))).map (·.seq)
            else [],
          moved := s.tb, timedOut := false, first := none, jobs := [] }
      { s with pumps := s.pumps ++ [c], pumpSeq := s.pumpSeq + 1 }.settleAll

/-! ### LOCAL frames (R89) -/

/-- The next LOCAL frame of the oldest command that has one is moved and lands (R89). -/
def State.localFrameMove (s : State) (die : Nat) : State :=
  let wants := fun (c : PumpCmd) => decide (c.die = die) && c.jobs.any (fun j => j.loc && decide (j.state = .waiting))
  match s.pumps.find? wants with
  | none => s
  | some c =>
    match c.jobs.find? (fun j => j.loc && decide (j.state = .waiting)) with
    | none => s
    | some j =>
      match s.beginFrame (s.pumpRank c) (frameCmdOf c.desc) j.index none c.cancelled with
      | none => s.leaveFrame c j
      | some (x, b) =>
        let s := (s.countSent die b).noteFrame (frameCmdOf c.desc) j.index x b
        let s := s.stat (Reg.FAB_DSP_LOCAL + 0x100 * die) 1
        let r := s.landFrame die .self (b.toFrame x s.selfMember c.key c.epoch s.tb)
        r.2.updPump c.seq (fun y => { y.updJob j.index (fun k => k.land (firstNonzero b.status r.1)) with moved := s.tb })

/-! ### Acknowledgements (R263) -/

/-- A request that its destination has performed was an ADD_F32 for a FAST context (R410). -/
def State.noteFastOf (s : State) (r : Sent) : State :=
  match r.owner with
  | .pump q _ => match s.pumps.find? (fun c => decide (c.seq = q)) with
    | some c => s.noteFast c
    | none => s
  | _ => s

/-- An acknowledgement resolves a request of a pump: its bytes are written, its code noted, and what waits for it goes
on. -/
def State.resolvePump (s : State) (r : Sent) (code : Nat) (data : Bytes) (timeout : Bool) : State :=
  let s := { s with outstanding := s.outstanding.filter (fun x => decide (x.id ≠ r.id)) }
  let s := if code = 0 ∨ timeout = true ∨ (r.typ = 2 ∧ poisonCode code = true) then s else s.stat Reg.FAB_STAT_REFUSED_OUT 1
  let s := if code = 0 ∧ (r.typ = 3 ∨ r.typ = 4) then s.noteFastOf r else s
  let w := s.writeBack r.typ r.target r.len code data
  let s := w.2
  let code := w.1
  match r.owner with
  | .pump q i => (s.updPump q (fun c => { c.note i code with
      moved := if timeout then c.moved else s.tb, timedOut := c.timedOut || timeout })).settleAll
  | .job q i =>
    let done := !s.jobOpen q i
    (s.updPump q (fun c => { c.updJob i (fun j =>
        if done && decide (j.state = .sent) then j.land code else { j with code := firstNonzero j.code code }) with
      moved := if timeout then c.moved else s.tb, timedOut := c.timedOut || timeout })).settleAll
  | .coll _ _ => s

/-! ### Teardown (R109, R283) -/

/-- The final MARK of a stopped command (R253, R283). -/
def State.finalMark (s : State) (c : PumpCmd) (code : Nat) : State :=
  let d := c.desc
  let p : Pkt := { typ := 5, cntEn := true, last := true, code := code, addr := descWord d 2, key := c.key, epoch := c.epoch,
                   strict := c.strict, counter := descFld d 0x20 16 14, src := s.selfDev, dest := s.selfDev }
  if faMember p.addr = s.selfMember then
    let r := (s.stat Reg.FAB_STAT_REQ_SENT 1).perform c.die .self p
    if r.1 = 0 then r.2.2 else r.2.2.stat Reg.FAB_STAT_REFUSED_OUT 1
  else s.sendUnowned p

/-- A command stops with a code: no further request; a COPY with CNT_EN sends its final MARK; frames that had
not finished still go, void, apart from the command, one already begun in a later occurrence of its transfer (R109, log entry 111);
the link slots that a scheduled COPY waits for go void too (R479); COMPLETION increments with the code, that of a FENCE counted as
completed (R283, R286). -/
def State.stopPump (s : State) (c : PumpCmd) (code : Nat) : State :=
  let frames := isFrameOp (pumpOp c.desc)
  let d := c.desc
  let begun := s.sending.any (fun e => decide (e.2.seq = c.seq))
  let s := { s with sending := s.sending.filter (fun e => decide (e.2.seq ≠ c.seq)) }
  let s := { s with outstanding := s.outstanding.filter (fun r =>
    match r.owner with | .pump q _ => decide (q ≠ c.seq) | .job q _ => decide (q ≠ c.seq) | _ => true) }
  let s := if (pumpOp d = 0x22 ∨ pumpOp d = 0x23) ∧ bit (descWord d 0) 9 then
      if bit (descWord d 0) 11 then s.finalMark c code else s.complete (descFld d 0x20 16 14) code
    else s
  let s := if pumpOp d = 0x25 then s.stat Reg.FAB_STAT_FENCES 1 else s
  let jobs := if frames then (if c.started then c.jobs else s.frameJobs (frameCmdOf d))
    else if begun then [] else if c.started then c.jobs else if s.scheduled d then [s.copyJob d] else []
  let left := jobs.filter (fun j => decide (j.state = .waiting))
  let s := (s.raise (fabSite c.die) code).complete (pumpCompletion d) code
  { s with pumps := s.pumps.filterMap (fun x =>
      if x.seq ≠ c.seq then some x
      else if left.isEmpty then none
      else some { x with cancelled := code, started := true, jobs := left }) }

/-- The void LOCAL frames of a cancelled command land at once, one after another (R89, R109). -/
def State.drainLocal : Nat → State → State
  | 0, s => s
  | n + 1, s =>
    match s.pumps.find? (fun c => decide (c.cancelled ≠ 0) && c.jobs.any (fun j => j.loc && decide (j.state = .waiting))) with
    | none => s
    | some c => (s.localFrameMove c.die).drainLocal n

/-- Cancelled commands leave once their void frames are on their way. -/
def State.sweepPumps (s : State) : State :=
  { s with pumps := s.pumps.filter (fun c => !(decide (c.cancelled ≠ 0) && c.jobs.all (fun j => decide (j.state ≠ .waiting)))) }

/-- The code with which a command of a torn-down context completes (R109, R283). -/
def pumpCancelCode (d : Desc) : Nat := if isFrameOp (pumpOp d) then 0x330A else 0x3013

/-- The commands that a predicate selects stop, each with its code (R109, R283, R479). -/
def State.pumpsStop (s : State) (sel : PumpCmd → Bool) (code : Desc → Nat) : State :=
  let mine := s.pumps.filter (fun c => sel c && decide (c.cancelled = 0))
  let n := (mine.map (fun c => (if c.started then c.jobs else s.frameJobs (frameCmdOf c.desc)).length)).sum
  let s := mine.foldl (fun s c => s.stopPump c (code c.desc)) s
  ((s.drainLocal n).sweepPumps).settleAll

/-- Every command of a context stops (R109, R283). -/
def State.pumpsCancel (s : State) (ctx : Nat) : State :=
  s.pumpsStop (fun c => decide (c.context = ctx) && c.core.isSome) pumpCancelCode

end Sys2Proof.Machine
end

