-- ==== Sys2Proof/Machine/Links.lean ====
section
/-! DEFINITION. Flits, credits and replay (R292 to R296), packet and transfer headers (R297, R298), link slots (R300 to
R304), slot-table commits (R305, R306), routes, the sluice and the latency budget (R307 to R316). -/

namespace Sys2Proof

open Machine

/-! ### Packets -/

/-- The 64 header bytes of a packet (R297). -/
def Pkt.header (p : Pkt) : Bytes :=
  leBytes 8 (p.typ + p.op * 2 ^ 8 + b2n p.strict * 2 ^ 12 + b2n p.cntEn * 2 ^ 13 + b2n p.last * 2 ^ 14 +
    b2n p.frame * 2 ^ 15 + p.len * 2 ^ 16 + p.dest * 2 ^ 32) ++
  leBytes 8 (p.src + p.budget * 2 ^ 32 + p.code * 2 ^ 48) ++ leBytes 8 p.addr ++ leBytes 8 p.key ++
  leBytes 8 (p.epoch + p.counter * 2 ^ 8 + p.inject * 2 ^ 32) ++ leBytes 8 (p.tag + p.reqId * 2 ^ 40) ++
  leBytes 8 p.operand ++ leBytes 8 p.compare

/-- The traffic class in which a packet travels (R297). -/
def Pkt.tc (p : Pkt) : Nat := if p.typ = 0x20 then 2 else if p.typ = 0x11 ∨ p.typ = 0x30 then 3 else 1

/-- TYPE or LENGTH is illegal in a traffic class (R297). -/
def Pkt.bad (p : Pkt) (tc : Nat) : Bool :=
  !([1, 2, 3, 4, 5, 0x10, 0x11, 0x20, 0x30].contains p.typ) ||
  decide ((if tc = 1 then 4096 else if tc = 2 then 16384 else 1024) < p.len)

/-- The flits a packet takes. -/
def Pkt.flits (p : Pkt) : Nat := ceilDiv (64 + p.body.length) 256

/-- Flit `i` of a packet. -/
def Pkt.flitBody (p : Pkt) (i : Nat) : Bytes :=
  let b := ((p.header ++ p.body).drop (256 * i)).take 256
  b ++ List.replicate (256 - b.length) 0

end Sys2Proof

namespace Sys2Proof.Machine

/-! ### Headers -/

/-- The fields of a flit header (R292). -/
structure FlitHdr where
  kind : Nat
  tc : Nat := 0
  sluice : Bool := false
  epoch : Nat := 0
  sop : Bool := false
  eop : Bool := false
  seq : Nat := 0
  ack : Nat := 0
  nak : Bool := false
  crVc : Nat := 7
  crCount : Nat := 0
  xfer : Nat := 0
  late : Bool := false
  hole : Bool := false
  side : Nat := 0
deriving DecidableEq, Repr

/-- The 80 header bits (R292). -/
def FlitHdr.encode (h : FlitHdr) : Nat :=
  h.kind + h.tc * 2 ^ 2 + b2n h.sluice * 2 ^ 4 + h.epoch * 2 ^ 5 + b2n h.sop * 2 ^ 6 + b2n h.eop * 2 ^ 7 +
  h.seq * 2 ^ 8 + h.ack * 2 ^ 18 + b2n h.nak * 2 ^ 28 + h.crVc * 2 ^ 29 + h.crCount * 2 ^ 32 + h.xfer * 2 ^ 38 +
  b2n h.late * 2 ^ 54 + b2n h.hole * 2 ^ 55 + h.side * 2 ^ 56

/-- Read the 80 header bits. -/
def flitHdr (v : Nat) : FlitHdr :=
  { kind := bits v 0 2, tc := bits v 2 2, sluice := bit v 4, epoch := bits v 5 1, sop := bit v 6, eop := bit v 7,
    seq := bits v 8 10, ack := bits v 18 10, nak := bit v 28, crVc := bits v 29 3, crCount := bits v 32 6,
    xfer := bits v 38 16, late := bit v 54, hole := bit v 55, side := bits v 56 24 }

/-- A header that breaks the table of R292 (R296). -/
def FlitHdr.illegal (h : FlitHdr) : Bool :=
  let seqd := decide (h.kind = 1) || decide (h.kind = 2)
  let tc0 := seqd && decide (h.tc = 0)
  (!seqd && (decide (h.tc ≠ 0) || decide (h.seq ≠ 0))) || (decide (h.tc = 0) && h.sluice) || decide (h.crVc = 6) ||
  (decide (h.crVc = 7) && decide (h.crCount ≠ 0)) || (!tc0 && (decide (h.xfer ≠ 0) || decide (h.side ≠ 0))) ||
  (h.late && !(tc0 && decide (h.kind = 1))) || (h.hole && !(tc0 && decide (h.kind = 2)))

/-- The CRC of a flit: over the header and, for DATA, the body (R293). -/
def flitCrc (header : Nat) (body : Option Bytes) : Nat := crc32 (leBytes 10 header ++ body.getD [])

/-- Read a packet from its bytes (R297). -/
def pktOf (bs : Bytes) : Pkt :=
  let w := fun i => leNat ((bs.drop (8 * i)).take 8)
  { typ := bits (w 0) 0 8, op := bits (w 0) 8 4, strict := bit (w 0) 12, cntEn := bit (w 0) 13, last := bit (w 0) 14,
    frame := bit (w 0) 15, len := bits (w 0) 16 16, dest := bits (w 0) 32 24, src := bits (w 1) 0 24,
    budget := bits (w 1) 32 16, code := bits (w 1) 48 16, addr := w 2, key := w 3, epoch := bits (w 4) 0 8,
    counter := bits (w 4) 8 14, inject := bits (w 4) 32 32, tag := bits (w 5) 0 40, reqId := bits (w 5) 40 24,
    operand := w 6, compare := w 7, body := (bs.drop 64).take (bits (w 0) 16 16) }

/-- The credit channel of a class (R292). -/
def channelIdx (tc : Nat) (sluice : Bool) : Nat := tc - 1 + (if sluice then 3 else 0)

/-! ### Routes (R307 to R313) -/

/-- The entry of the destination in a table of two: member table for this saltern, saltern table otherwise. -/
def State.routeKey (s : State) (bank dest : Nat) : Nat :=
  if dest / 256 = s.fld Reg.FAB_SELF_SALTERN then bank * 2 ^ 17 + dest % 256 else bank * 2 ^ 17 + 2 ^ 16 + dest / 256

/-- The gang's traffic: TC1 requests, their data and their acknowledgements between devices of one saltern (R321; DESIGN CHOICE, log
entry 119). -/
def State.gangTraffic (s : State) (p : Pkt) : Bool :=
  decide (p.typ ≠ 0x20) && decide (p.typ ≠ 0x30) && decide (p.dest / 256 = s.fld Reg.FAB_SELF_SALTERN)

/-- Logical port `l` is on a port that FAB_GANG reserves, and the packet is not the gang's (R321). -/
def State.reservedFrom (s : State) (p : Pkt) (l : Nat) : Bool :=
  s.ganged && bit (s.fld Reg.FAB_GANG_PORTS) (l / 2) && !s.gangTraffic p

/-- Where a packet goes next. -/
inductive Hop where
  | port (l : Nat)
  | here
  | nowhere
deriving DecidableEq, Repr

/-- The next hop on the sluice tree (R311). -/
def State.sluiceHop (s : State) (dest : Nat) : Hop :=
  if dest = s.selfDev then .here
  else
    let i := if dest / 256 = s.fld Reg.FAB_SELF_SALTERN then dest % 256 else 2 ^ 16 + dest / 256
    let e := s.sluices.get (fun _ => 0) i
    if bit e 5 then .port (bits e 0 5)
    else if s.fld Reg.FAB_SLUICE_CFG_UP_EN = 1 then .port (s.fld Reg.FAB_SLUICE_CFG_UP_PORT)
    else .nowhere

/-- The next hop that the tables name (R307, R308, R311): a down port without a sluice route is none. A packet to "the device at the
other end of this link" is never forwarded (R432). -/
def State.tableHop (s : State) (r : Routed) : Hop :=
  if r.pkt.dest = 0xFFFFFF then .here
  else if r.sluice then s.sluiceHop r.pkt.dest
  else
    let e := s.routes.get (fun _ => 0) (s.routeKey r.bank r.pkt.dest)
    if !bit e 5 then .nowhere
    else if bit e 6 then .here
    else if s.lportUp (bits e 0 5) || decide (s.sluiceHop r.pkt.dest ≠ .nowhere) then .port (bits e 0 5)
    else .nowhere

/-- The next hop of a packet: what the tables name, but no port that carries the gang's traffic alone (R321). -/
def State.nextHop (s : State) (r : Routed) : Hop :=
  match s.tableHop r with
  | .port l => if s.reservedFrom r.pkt l then .nowhere else .port l
  | h => h

/-- A receive buffer is free again: its credits are due (R296). -/
def State.freeBuffer (s : State) (b : Option (Nat × Nat × Nat)) : State :=
  match b with
  | none => s
  | some (l, ch, n) =>
    let p := s.lport l
    s.setLport l { p with due := p.due.set ch (p.due.getD ch 0 + n) }

/-- A packet joins a transmit queue. -/
def State.pushTx (s : State) (l : Nat) (r : Routed) : State :=
  let p := s.lport l
  let ch := channelIdx r.pkt.tc r.sluice
  s.setLport l { p with queues := p.queues.set ch (p.queues.getD ch [] ++ [⟨r, 0, r.pkt.budget⟩]) }

/-- The delay of the link a packet came over. -/
def State.inputDelay (s : State) (r : Routed) : Nat :=
  match r.buffer with | none => 0 | some (l, _, _) => s.fld (delayFld l) (instDelta (l / 2))

/-- The BUDGET of a packet after this hop (R315): none when it has run out; TC1 and packets that start here keep it. -/
def State.spendBudget (s : State) (r : Routed) : Option Nat :=
  if r.pkt.tc = 1 ∨ r.buffer = none then some r.pkt.budget
  else
    let cost := max 1 (ceilDiv (s.inputDelay r + (s.tb - r.since)) 64)
    if r.pkt.budget ≤ cost then none else some (r.pkt.budget - cost)

/-- The acknowledgement of a packet with a code (R307, R315). -/
def State.ackOf (s : State) (p : Pkt) (code : Nat) : Pkt :=
  { typ := 0x11, dest := p.src, src := s.selfDev, code := code, tag := p.tag, reqId := p.reqId,
    budget := s.fld Reg.FAB_MSG_CFG_DEFAULT_BUDGET }

/-- A packet's drop is answered to its source where a route back exists (R307, R315). -/
def State.ackDrop (s : State) (r : Routed) (code : Nat) : State :=
  let a := s.ackOf r.pkt code
  match s.nextHop ⟨a, s.fld Reg.FAB_RT_CTRL_INJECT_EPOCH, false, s.tb, none⟩ with
    | .nowhere => s
    | _ => s.originate a

/-- A packet finds no route (R307). -/
def State.dropNoRoute (s : State) (r : Routed) : State :=
  ((s.freeBuffer r.buffer).stat Reg.FAB_STAT_NO_ROUTE 1).raise (fabSite 0) 0x3102 r.pkt.dest

/-- A packet's budget runs out (R315). -/
def State.dropBudget (s : State) (r : Routed) : State :=
  let s := ((s.freeBuffer r.buffer).stat Reg.FAB_STAT_BUDGET_DROP 1).raise (fabSite 0) 0x3105 r.pkt.dest
  s.ackDrop r 0x3105

/-- What routing a packet leads to. -/
inductive RouteResult where
  | moved (s : State)
  | here (r : Routed) (s : State)
  | noRoute (r : Routed) (s : State)

/-- Route a packet (R307, R315): onto a port, to this device, or nowhere. -/
def State.routeOne (s : State) (r : Routed) : RouteResult :=
  match s.nextHop r with
  | .port l => .moved (s.pushTx l r)
  | .nowhere => .noRoute r (s.dropNoRoute r)
  | .here =>
    match s.spendBudget r with
    | none => .moved (s.dropBudget r)
    | some b => .here { r with pkt := { r.pkt with budget := b } } (s.freeBuffer r.buffer)

/-- The oldest packet waiting at an input, and the state without it: a logical port's, or this device's own. -/
def State.takeHop (s : State) (input : Option Nat) : Option (Routed × State) :=
  match input with
  | none => match s.injected with
    | [] => none
    | r :: rest => some (r, { s with injected := rest })
  | some l => match (s.lport l).hop with
    | [] => none
    | r :: rest => some (r, s.setLport l { s.lport l with hop := rest })

/-- The head flit of a queued packet has waited at this hop longer than THRESH_NS (R312). -/
def State.waitsTooLong (s : State) (x : TxPacket) : Bool :=
  decide (x.sent = 0) && !x.r.sluice && decide (s.fld Reg.FAB_SLUICE_CFG_THRESH_NS < s.tb - x.r.since)

/-- The packet moves to the sluice channel of its class: onto the port of the sluice tree, to this device, or dropped where the tree
does not lead to its destination (R307, R311, R312). -/
def State.toSluice (s : State) (r : Routed) : State :=
  match s.nextHop { r with sluice := true } with
  | .port m => s.pushTx m r
  | .here => { s with injected := s.injected ++ [r] }
  | .nowhere => (s.dropNoRoute r).ackDrop r 0x3102

/-- The first packet of a transmit queue whose head flit has waited longer than THRESH_NS moves to the sluice (R312); the packet
that is being sent stays. -/
def State.sluiceMove (s : State) (l ch : Nat) : State :=
  let p := s.lport l
  let q := p.queues.getD ch []
  match q.find? s.waitsTooLong with
  | none => s
  | some x =>
    let i := indexOf s.waitsTooLong q
    let s := s.setLport l { p with queues := p.queues.set ch (q.take i ++ q.drop (i + 1)) }
    let s := (s.stat (Reg.LNK_STAT_SLUICE_MOVES + instDelta (l / 2)) 1).stat Reg.FAB_STAT_SLUICE_MOVES 1
    s.toSluice { x.r with sluice := true, pkt := { x.r.pkt with budget := x.budget } }

/-! ### Ports going up and down (R289 to R291, R295) -/

/-- The link state of a port that has just trained: sequences and replay start afresh, no credit is held or granted; queued packets
stay. -/
def LPort.fresh (p : LPort) : LPort :=
  { p with nextSeq := 0, unacked := [], resend := [], expect := 0, held := [], asks := [], nak := false,
           asked := [], credits := [0, 0, 0, 0, 0, 0], room := [0, 0, 0, 0, 0, 0], due := [0, 0, 0, 0, 0, 0], asm := [[], [], [], [], [], []],
           arriving := [], forward := [], late := [], lateLogged := [], passed := [], ended := [],
           queues := p.queues.map (fun q => q.map (fun x => { x with sent := 0 })) }

/-- The flits of channel `ch` that packets at this device still hold in the receive buffers of port `l`. -/
def State.heldFlits (s : State) (l ch : Nat) : Nat :=
  ((List.range 32).map (fun o =>
    let p := s.lport o
    (((p.hop ++ p.queues.flatten.map (fun x => x.r)).filterMap (fun r => r.buffer)).map (fun b =>
      if b.1 = l ∧ b.2.1 = ch then b.2.2 else 0)).sum)).sum

/-- A port that has just trained: what is free of its receive buffers is to be granted, credit by credit, in the flit headers
(R296; DESIGN CHOICE, log entry 144). -/
def State.freshLport (s : State) (l : Nat) : LPort :=
  { (s.lport l).fresh with due := (List.range 6).map (fun ch => bufferSizes.getD ch 0 - s.heldFlits l ch) }

/-- The link state of a port starts afresh. -/
def State.freshPort (s : State) (l : Nat) : State := s.setLport l (s.freshLport l)

/-- The TC0 transfers bound to a port that is not UP complete at their source with 0x2804, which the port raises for each (R16,
R291). -/
def State.failTransfers (s : State) (l : Nat) : State :=
  let t := (s.lport l).active
  let hit := fun (j : Job) => !j.loc && decide (j.state = .waiting) && !(t.slotsOf j.xfer).isEmpty
  let hits := s.pumps.flatMap (fun c => c.jobs.filter hit)
  let broken := s.outstanding.filter (fun r => match r.owner with
    | .job q i => s.pumps.any (fun c => decide (c.seq = q) && c.jobs.any (fun j => decide (j.index = i) && hit j))
    | _ => false)
  let s := { s with
    pumps := s.pumps.map (fun (c : PumpCmd) => { c with jobs := c.jobs.map (fun j => if hit j then j.land 0x2804 else j) })
    sending := s.sending.filter (fun e => decide (e.1 / 65536 ≠ l)) }
  let s := hits.foldl (fun s j => s.transferDown l j.xfer) s
  (broken.foldl (fun s r => s.resolvePump r 0x2804 [] false) s).sweepPumps.settleAll

/-- A logical port retrains (R295, R296): it is down while it trains. -/
def State.retrain (s : State) (l code : Nat) : State :=
  let s := (s.raise (lnkSite l) code l).stat (Reg.LNK_STAT_RETRAINS + instDelta (l / 2)) 1
  let s := s.setLportState l 2
  (s.freshPort l).failTransfers l

/-- Training completes at full width: the delay is recorded and the port is UP (R289, R290). -/
def State.linkTrained (s : State) (l delay : Nat) : State :=
  if s.lportState l = 2 ∨ s.lportState l = 4 then
    let s := s.setFld (delayFld l) (instDelta (l / 2)) delay
    (s.setLportState l 3).freshPort l
  else s

/-- A lane fails training or drops out: the port goes down (R289). -/
def State.linkFailed (s : State) (l : Nat) : State :=
  if s.lportState l = 2 ∨ s.lportState l = 3 then
    let s := (s.raise (lnkSite l) 0x2805 l).setLportState l 4
    (s.freshPort l).failTransfers l
  else s

/-- Membership holds every Salax port in electrical idle: before it runs and after a LEAVE (R489, R501). -/
def State.portsHeld (s : State) : Bool :=
  decide (s.fld Reg.RAS_MBR_STATE_STATE = 0) || decide (s.fld Reg.RAS_MBR_STATE_STATE = 4)

/-- The halves of a port that LNK_CFG.ENABLE switches on train; where it is off, or membership holds them, they are in
electrical idle (R289, R291, R489). -/
def State.settlePort (s : State) (n : Nat) : State :=
  let halves := if s.split n then [2 * n, 2 * n + 1] else [2 * n]
  halves.foldl (fun s l =>
    if s.fld Reg.LNK_CFG_ENABLE (instDelta n) = 1 ∧ !s.portsHeld then
      (if s.lportState l = 3 ∨ s.lportState l = 2 then s else s.setLportState l 2)
    else ((s.setLportState l 1).freshPort l).failTransfers l) s

/-- A commit of LNK_CFG is checked and applied (R288, R289, R291). -/
def State.lnkCfgApply (s : State) (n : Nat) : Nat × State :=
  let δ := instDelta n
  let on := decide (s.fld Reg.LNK_CFG_ENABLE δ = 1)
  if 2 ≤ s.stagedFld Reg.LNK_CFG_MEDIUM δ ∨
      (on = true ∧ s.stagedFld Reg.LNK_CFG_SPLIT δ ≠ s.fld Reg.LNK_CFG_SPLIT δ) then
    (0x2801, s.raise (site 10 n) 0x2801)
  else
    let s := s.applyStaged (Reg.LNK_CFG + δ)
    let s := if s.split n then s else s.setLportState (2 * n + 1) 0
    (0, s.settlePort n)

/-! ### Sending flits -/

/-- The credits to return in the next header: the first channel with credits due (R292, R296). -/
def creditReturn (due : List Nat) : Nat × Nat :=
  match (List.range 6).find? (fun i => decide (due.getD i 0 ≠ 0)) with
  | none => (7, 0)
  | some i => (i, min 63 (due.getD i 0))

/-- A flit leaves: ACK, NAK and credits are filled in; a sequenced one takes its SEQ and is kept for replay. A SEQ asked for eight
times retrains the port (R295). -/
def State.txFlit (s : State) (l : Nat) (h : FlitHdr) (body : Option Bytes) : State :=
  let p := s.lport l
  let cr := creditReturn p.due
  let seqd := decide (h.kind = 1) || decide (h.kind = 2)
  let h := { h with seq := if seqd then p.nextSeq else 0, ack := (p.expect + 1023) % 1024, nak := p.nak, crVc := cr.1,
                    crCount := cr.2 }
  let p := if cr.1 = 7 then p else
    { p with due := p.due.set cr.1 (p.due.getD cr.1 0 - cr.2), room := p.room.set cr.1 (p.room.getD cr.1 0 + cr.2) }
  let asked := p.asks.get (fun _ => 0) p.expect + 1
  let p := if p.nak then { p with nak := false, asks := SMap.insert p.asks p.expect asked } else p
  let p := if seqd then
    { p with nextSeq := (p.nextSeq + 1) % 1024, unacked := p.unacked ++ [⟨h.seq, h.encode, body⟩] } else p
  let δ := instDelta (l / 2)
  let s := s.setLport l p
  let s := if h.kind = 1 then s.stat (Reg.LNK_STAT_FLITS_TX + δ) 1
    else if h.kind = 2 then s.stat (Reg.LNK_STAT_VOID_TX + δ) 1 else s
  let s := s.emit (.flit l h.encode (flitCrc h.encode body) body)
  if h.nak ∧ 8 ≤ asked then s.retrain l 0x2803 else s

/-- A sequenced flit is sent; the port retrains when that makes 512 unacknowledged (R295). -/
def State.txSeq (s : State) (l : Nat) (h : FlitHdr) (body : Option Bytes) : State :=
  let s := s.txFlit l h body
  if 512 ≤ (s.lport l).unacked.length then s.retrain l 0x2803 else s

/-- One flit of the head packet of a channel is sent: at its first flit the hop's budget is spent, from the BUDGET it came with where
a retrain has cut it; after its last flit the packet leaves (R296, R303, R315). -/
def State.txChannel (s : State) (l ch : Nat) : State :=
  let p := s.lport l
  match p.queues.getD ch [] with
  | [] => s
  | x :: rest =>
    match if x.sent = 0 then s.spendBudget { x.r with pkt := { x.r.pkt with budget := x.budget } } else some x.r.pkt.budget with
    | none => (s.setLport l { p with queues := p.queues.set ch rest }).dropBudget x.r
    | some b =>
      let pk := { x.r.pkt with budget := b }
      let last := decide (x.sent + 1 = pk.flits)
      let h : FlitHdr := { kind := 1, tc := pk.tc, sluice := x.r.sluice, epoch := x.r.bank, sop := decide (x.sent = 0),
                           eop := last }
      let x' : TxPacket := ⟨{ x.r with pkt := pk }, x.sent + 1, x.budget⟩
      let turn := if last && decide (ch ≠ 2) && decide (ch ≠ 5) then
        p.turn.set (if ch < 3 then 1 else 0) (decide (ch % 3 = 0)) else p.turn
      let s := s.setLport l { p with
        queues := p.queues.set ch (if last then rest else x' :: rest)
        credits := p.credits.set ch (p.credits.getD ch 0 - 1)
        turn := turn }
      let s := if last then s.freeBuffer x.r.buffer else s
      s.txSeq l h (some (pk.flitBody x.sent))

/-- The channel that a SHARED position goes to after replays and LATE flits (R303): TC3 first, then a TC1 or TC2 packet
in progress, then the sluice channels and the plain ones, each pair alternating by packet. -/
def LPort.pick (p : LPort) : Option Nat :=
  let ready := fun ch => !(p.queues.getD ch []).isEmpty && decide (p.credits.getD ch 0 ≠ 0)
  let begun := fun ch => match p.queues.getD ch [] with | x :: _ => decide (x.sent ≠ 0) | [] => false
  let pair := fun (a b : Nat) (bFirst : Bool) => if bFirst then [b, a] else [a, b]
  match [5, 2].find? ready with
  | some ch => some ch
  | none =>
    match [3, 4, 0, 1].find? begun with
    | some ch => if ready ch then some ch else none
    | none => (pair 3 4 (p.turn.getD 0 false) ++ pair 0 1 (p.turn.getD 1 false)).find? ready

/-- The next flit to replay, with what is left to replay; a SEQ acknowledged meanwhile needs none (R294). -/
def LPort.nextReplay (p : LPort) : List Nat → Option (TxFlit × List Nat)
  | [] => none
  | q :: rest => match p.unacked.find? (fun f => decide (f.seq = q)) with
    | some f => some (f, rest)
    | none => p.nextReplay rest

/-- The packets that would be next on a port and whose budget runs out there are dropped (R315). -/
def State.dropSpent (l : Nat) : Nat → State → State
  | 0, s => s
  | n + 1, s =>
    let p := s.lport l
    match p.pick with
    | none => s
    | some ch => match p.queues.getD ch [] with
      | [] => s
      | x :: rest =>
        if x.sent = 0 ∧ (s.spendBudget { x.r with pkt := { x.r.pkt with budget := x.budget } }).isNone = true then
          State.dropSpent l n ((s.setLport l { p with queues := p.queues.set ch rest }).dropBudget x.r)
        else s

/-- One flit position of a SHARED slot: it goes to the first class that has a flit ready (R295, R303). -/
def State.txShared (s : State) (l : Nat) : State :=
  if !s.lportUp l then s
  else
    let p := s.lport l
    match p.nextReplay p.resend with
    | some (f, rest) =>
      ((s.setLport l { p with resend := rest }).stat (Reg.LNK_STAT_REPLAYS + instDelta (l / 2)) 1).emit
        (.flit l f.header (flitCrc f.header f.body) f.body)
    | none =>
      let p := { p with resend := [] }
      let s := s.setLport l p
      match p.late with
      | f :: rest =>
        let s := s.setLport l { p with late := rest }
        let h := flitHdr f.header
        (s.stat (Reg.LNK_STAT_LATE_FLITS + instDelta (l / 2)) 1).txSeq l
          { kind := 1, epoch := h.epoch, sop := h.sop, eop := h.eop, xfer := h.xfer, late := true, side := f.seq } f.body
      | [] =>
        let s := State.dropSpent l (p.queues.flatten.length + 1) s
        match (s.lport l).pick with
        | some ch => s.txChannel l ch
        | none => s.txFlit l { kind := 0 } none

/-! ### Scheduled transfers (R298, R301, R302) -/

/-- The 48-byte header of a TC0 transfer (R298). -/
def transferHeader (d0 d1 d2 key inject epoch src counter : Nat) (cntEn strict : Bool) (form len : Nat) : Bytes :=
  leBytes 8 d0 ++ leBytes 8 d1 ++ leBytes 8 d2 ++ leBytes 8 key ++
  leBytes 8 (inject % 2 ^ 32 + epoch * 2 ^ 32 + src * 2 ^ 40 + counter * 2 ^ 48 + b2n cntEn * 2 ^ 62 + b2n strict * 2 ^ 63) ++
  leBytes 8 (form + len * 4)

/-- A ready transfer is opened at its first link slot (R92, R302): a frame is read, checked and built, or a COPY's bytes
are read; it is sent from here on, and its acknowledgement is awaited. -/
def State.openJob (s : State) (l : Nat) (c : PumpCmd) (j : Job) (cycle granted : Nat) : State :=
  let key := l * 65536 + j.xfer
  let remember := fun (s : State) (typ len : Nat) => if c.cancelled ≠ 0 then s.stat Reg.FAB_STAT_REQ_SENT 1 else
    { (s.stat Reg.FAB_STAT_REQ_SENT 1) with
      nextReq := (s.nextReq + 1) % 2 ^ 24
      outstanding := s.outstanding ++ [(⟨s.nextReq, .job c.seq j.index, typ, 0, len, s.tb⟩ : Sent)] }
  if isFrameOp (pumpOp c.desc) then
    let fc := frameCmdOf c.desc
    match s.beginFrame (s.pumpRank c) fc j.index (some granted) c.cancelled with
    | none => s.leaveFrame c j
    | some (x, b) =>
      let s := (s.noteMadeVoid c.die b).noteFrame fc j.index x b
      let fl := b.flits.take (granted * 16)
      let s := remember s 1 0
      let s := s.updPump c.seq (fun y => y.updJob j.index (fun k => { k with code := firstNonzero k.code b.status }))
      let hd := transferHeader x.hdrDest x.slotDest x.rowDest c.key s.tb c.epoch s.selfMember x.counter true c.strict
        (if fc.isReturn then 2 else 1) 0
      { s with sending := SMap.insert s.sending key ⟨c.seq, j.index, cycle, 0, hd, fl, c.die, true, b.void, b.slotEnds, false⟩ }
  else
    let d := c.desc
    let n := descFld d 0x18 0 41
    let code := s.localCode (descWord d 1) n
    let s := s.noteFetch (descWord d 1) n
    let s := if code = 0 then s else s.updPump c.seq (fun x => x.note 0 code)
    if code ≠ 0 ∧ poisonCode code = false then
      (if bit (descWord d 0) 9 then s.finalMark c code else s).updPump c.seq (fun x => x.updJob j.index (fun k => k.land code))
    else
    let s := remember s 1 n
    let hd := transferHeader (descWord d 2) 0 0 c.key s.tb c.epoch s.selfMember (descFld d 0x20 16 14)
      (bit (descWord d 0) 9) c.strict 0 n
    let fl := if n = 0 then [none] else (flits256 (ceilDiv n 256) (s.fetch (descWord d 1) n)).map some
    { s with sending := SMap.insert s.sending key ⟨c.seq, j.index, cycle, 0, hd, fl, c.die, false, false, [], false⟩ }

/-- A transfer that misses its link slots is demoted to TC1 (R90, R302). -/
def State.demote (s : State) (l : Nat) (c : PumpCmd) (j : Job) (granted : Nat) : State :=
  let s := (s.raise (lnkSite l) 0x2806 j.xfer).stat (Reg.LNK_STAT_SLIPS + instDelta (l / 2)) 1
  if isFrameOp (pumpOp c.desc) then
    (s.stat (Reg.FAB_DSP_SLOT_SLIPS + 0x100 * c.die) 1).sendFrameParts c j granted
  else (s.updPump c.seq (fun x => x.updJob j.index (fun k => k.land 0))).copyFabric c

/-- The oldest job of a LOCAL transfer that waits. -/
def State.nextJob (s : State) (xfer : Nat) : Option (PumpCmd × Job) :=
  (s.pumps.flatMap (fun c => if c.started then
    (c.jobs.filter (fun j => !j.loc && decide (j.state = .waiting) && decide (j.xfer = xfer))).map (fun j => (c, j)) else [])).find?
    (fun p => !s.sending.any (fun e => decide (e.2.seq = p.1.seq) && decide (e.2.index = p.2.index)))

/-- Bind waiting jobs of a transfer up to cycle `cycle` at its slot number `ord` (R302): a ready one is sent in this
occurrence, one that is not is demoted, and the occurrence of a stopped COPY goes void (R479). -/
def State.bindJobs (l xfer cycle ord : Nat) (slots : List Nat) : Nat → State → State
  | 0, s => s
  | n + 1, s =>
    match s.nextJob xfer with
    | none => s
    | some (c, j) =>
      let key := l * 65536 + xfer
      let t := (s.lport l).active
      let b := max (s.bound.get (fun _ => 0) key) (s.firstOccurrence l t slots c.accepted)
      let s' := { s with bound := s.bound.set (fun _ => 0) key (b + 1) }
      let ready := decide (c.accepted * 100 + 2 * s.slotTime l ≤ s.slotStart l t b (slots.headD 0))
      let fits := isFrameOp (pumpOp c.desc) || decide (ceilDiv (descFld c.desc 0x18 0 41) 4096 ≤ slots.length)
      if cycle < b then s
      else if c.cancelled ≠ 0 ∧ isFrameOp (pumpOp c.desc) = false then
        State.bindJobs l xfer cycle ord slots n (s'.updPump c.seq (fun x => x.updJob j.index (fun k => k.land 0))).sweepPumps
      else if b = cycle ∧ ord = 0 ∧ ready = true ∧ fits = true then s'.openJob l c j cycle slots.length
      else State.bindJobs l xfer cycle ord slots n (s'.demote l c j slots.length)

/-- A TC0 flit that is not in the port buffer at its position goes void with HOLE; the first of a transfer logs 0x2807 (R304). -/
def State.txHole (s : State) (l xfer side : Nat) (first : Bool) : State :=
  (if first then s.raise (lnkSite l) 0x2807 xfer else s).txSeq l { kind := 2, xfer := xfer, hole := true, side := side } none

/-- A flit of a LOCAL transfer is sent at its position, and a frame is counted as its flits go (R110): void flits, the slots whose
rows are whole, and with its last flit the frame. -/
def State.countFlit (s : State) (x : Sending) (pos : Nat) (void : Bool) : State :=
  if !x.frame then s
  else
    let δ := 0x100 * x.die
    let s := if void then s.stat (Reg.FAB_DSP_FLITS_VOID + δ) 1 else s
    let s := if x.ends.contains pos then s.stat (Reg.FAB_DSP_SLOTS_VALID + δ) 1 else s
    if pos + 1 = x.flits.length then s.countFrame x.die x.void else s

/-- Position `i` of a link slot of a LOCAL transfer, its flit `pos` (R86 to R88, R298, R304). `stalled` says that memory has not
delivered the flit's bytes: its data follows as a LATE flit. -/
def State.txLocalFlit (s : State) (l xfer ord i : Nat) (x : Sending) (stalled : Bool) : State :=
  let pos := ord * 16 + i
  let side := if ord = 0 then leNat ((x.side.drop (3 * i)).take 3) else 0
  match x.flits[pos]? with
  | none => if ord = 0 then s.txSeq l { kind := 2, xfer := xfer, side := side } none else s.txFlit l { kind := 0 } none
  | some body =>
    let h : FlitHdr := { kind := if body.isSome then 1 else 2, sop := decide (pos = 0), eop := decide (pos + 1 = x.flits.length),
                         xfer := xfer, side := side }
    let s := s.countFlit x pos body.isNone
    if stalled && body.isSome then
      let key := l * 65536 + xfer
      let first := ((SMap.find? s.sending key).map (fun y => !y.slow)).getD true
      let s := { s with sending := SMap.insert s.sending key { x with slow := true } }
      let p := s.lport l
      (s.setLport l { p with late := p.late ++ [⟨pos, h.encode, body⟩] }).txHole l xfer side first
    else s.txSeq l h body

/-- The 16 flits of a link slot of a LOCAL transfer (R86 to R88, R298, R302). The 16 flits of the first link slot carry the transfer
header, void ones beyond the transfer's end too (DEDUCED, log entry 115). A link slot granted beyond the frame's last one carries VOID
flits (DESIGN CHOICE, log entry 110). `stalled` are the positions whose bytes memory has not delivered (R304). -/
def State.txLocalSlot (s : State) (l xfer cycle k : Nat) (stalled : List Nat) : State :=
  let slots := (s.lport l).active.slotsOf xfer
  let ord := (slots.filter (fun i => decide (i < k))).length
  let key := l * 65536 + xfer
  let s := State.bindJobs l xfer cycle ord slots ((s.pumps.map (fun c => c.jobs.length)).sum + 1) s
  match (SMap.find? s.sending key).filter (fun x => decide (x.cycle = cycle)) with
  | none => (List.range 16).foldl (fun s _ => if s.lportUp l then s.txSeq l { kind := 2, xfer := xfer } none else s) s
  | some x =>
    let s := (List.range 16).foldl (fun s i =>
      if s.lportUp l then s.txLocalFlit l xfer ord i x (stalled.contains i) else s) s
    let s := s.updPump x.seq (fun c => { c with moved := s.tb })
    if x.flits.length ≤ (ord + 1) * 16 ∨ slots.length = ord + 1 then
      let s := { s with sending := SMap.erase s.sending key }
      (s.updPump x.seq (fun c => c.updJob x.index (fun j =>
        if j.state = .waiting then (if s.jobOpen x.seq x.index then { j with state := .sent } else j.land 0) else j))).sweepPumps
    else s

/-- The 16 flits of a link slot of a forwarded transfer (R304): a flit not there at its position goes void with HOLE. -/
def State.txForwardSlot (s : State) (l xfer k : Nat) (source : Nat) : State :=
  let t := (s.lport l).active
  let slots := (List.range t.len).filter (fun i => decide (t.entry i = .tc0 source xfer))
  let ord := (slots.filter (fun i => decide (i < k))).length
  let s := if ord = 0 then
    s.setLport l { s.lport l with passed := SMap.erase (s.lport l).passed xfer, ended := SMap.erase (s.lport l).ended xfer,
                                  lateLogged := (s.lport l).lateLogged.filter (fun x => decide (x ≠ xfer)) } else s
  (List.range 16).foldl (fun s i =>
    let pos := ord * 16 + i
    let p := s.lport l
    if !s.lportUp l then s
    else if ord ≠ 0 ∧ (SMap.find? p.ended xfer).any (fun e => decide (e ≤ pos)) = true then s.txFlit l { kind := 0 } none
    else match p.forward.find? (fun f => decide (f.xfer = xfer) && decide (f.pos = pos)) with
      | some f =>
        let h := flitHdr f.header
        let first := !p.lateLogged.contains xfer
        let s := s.setLport l { p with
          forward := p.forward.filter (fun g => !(decide (g.xfer = xfer) && decide (g.pos = pos)))
          passed := SMap.insert p.passed xfer (pos + 1)
          lateLogged := if h.hole && first then xfer :: p.lateLogged else p.lateLogged
          ended := if h.eop then SMap.insert p.ended xfer (pos + 1) else p.ended }
        if h.hole then s.txHole l xfer h.side first
        else s.txSeq l { kind := h.kind, sop := h.sop, eop := h.eop, xfer := xfer, side := h.side } f.body
      | none =>
        let first := !p.lateLogged.contains xfer
        (s.setLport l { p with passed := SMap.insert p.passed xfer (pos + 1)
                               lateLogged := if first then xfer :: p.lateLogged else p.lateLogged }).txHole l xfer 0 first) s

/-- The start of link slot `k` of cycle `c` on a port (R300): it must lie within 1 ns of the time base, follow the last
one, and the port must be UP; otherwise no slot starts. -/
def State.slotMayStart (s : State) (l c k : Nat) : Bool :=
  let p := s.lport l
  let t := p.active
  let start := s.slotStart l t c k
  s.lportUp l && decide (k < t.len) && decide (p.nextSlot ≤ c * t.len + k) && decide (start ≤ s.tb * 100 + 100) &&
  decide (s.tb * 100 ≤ start + 100)

/-- A link slot starts (R300 to R304). `stalled` are the positions of a LOCAL transfer whose bytes memory has not delivered. -/
def State.linkSlotStart (s : State) (l c k : Nat) (stalled : List Nat) : State :=
  if !s.slotMayStart l c k then s
  else
    let t := (s.lport l).active
    let s := s.setLport l { s.lport l with nextSlot := c * t.len + k + 1 }
    match t.entry k with
    | .idle => (List.range 16).foldl (fun s _ => if s.lportUp l then s.txFlit l { kind := 0 } none else s) s
    | .shared => (List.range 16).foldl (fun s _ => s.txShared l) s
    | .tc0 src x => if src = 63 then s.txLocalSlot l x c k stalled else s.txForwardSlot l x k src

/-! ### Receiving flits (R293 to R296) -/

/-- A complete packet has arrived: one with an illegal TYPE or LENGTH is dropped, another waits to be routed (R297). -/
def State.packetArrived (s : State) (l ch bank : Nat) (bs : Bytes) (n : Nat) : State :=
  let pk := pktOf bs
  let tc := ch % 3 + 1
  if pk.bad tc then (s.freeBuffer (some (l, ch, n))).raise (fabSite (lportDie l)) 0x310B
  else
    let p := s.lport l
    s.setLport l { p with hop := p.hop ++ [(⟨pk, bank, decide (3 ≤ ch), s.tb, some (l, ch, n)⟩ : Routed)] }

/-- An in-order flit of TC1 to TC3 is added to its packet. A packet that fills its receive buffer goes on flit by flit, each giving
its credit back, so a longer packet passes a small buffer (R296, log entry 118). -/
def State.deliverFlit (s : State) (l : Nat) (f : Flit) : State :=
  let h := flitHdr f.header.toNat
  if h.kind ≠ 1 ∨ h.tc = 0 then s
  else
    let p := s.lport l
    let ch := channelIdx h.tc h.sluice
    let bs := (if h.sop then [] else p.asm.getD ch []) ++ f.body
    if h.eop then
      let s := s.setLport l { p with asm := p.asm.set ch [] }
      s.packetArrived l ch h.epoch bs (min (bs.length / 256) (bufferSizes.getD ch 0))
    else
      let s := s.setLport l { p with asm := p.asm.set ch bs }
      if bufferSizes.getD ch 0 ≤ bs.length / 256 then s.freeBuffer (some (l, ch, 1)) else s

/-- The output ports that forward a TC0 transfer arriving on a port (R301). -/
def State.forwardPorts (s : State) (l xfer : Nat) : List Nat :=
  (List.range 32).filter (fun o => let t := (s.lport o).active
    (List.range t.len).any (fun k => decide (t.entry k = .tc0 l xfer)))

def arrivingInit : Arriving := ⟨[], [], [], none, []⟩

/-- Every position of an arriving transfer up to its last is there, and the SIDE bytes of its first link slot (R298). -/
def Arriving.complete (a : Arriving) : Bool :=
  match a.final with
  | none => false
  | some n => a.holes.isEmpty && (List.range (n + 1)).all (fun i => (SMap.find? a.flits i).isSome) &&
      (List.range 16).all (fun i => (SMap.find? a.side i).isSome)

/-- The transfer that the arrived flits make up: its header from SIDE, its bytes with void flits as zeros (R298). -/
def Arriving.transfer (a : Arriving) : Transfer :=
  ⟨(List.range 16).flatMap (fun i => leBytes 3 ((SMap.find? a.side i).getD 0)),
   (a.flits.filter (fun p => a.final.any (fun n => decide (p.1 ≤ n)))).flatMap (fun p => p.2.getD (List.replicate 256 0))⟩

/-- The first flit of an occurrence has SEQ `q`: what is left of an earlier occurrence, sent before it, is dropped; a flit sent
after it that arrived before it stays (R294). -/
def Arriving.startAt (a : Arriving) (q : Nat) : Arriving :=
  let mine := fun (pos : Nat) => (SMap.find? a.seqs pos).any (fun k => decide (k ≠ q) && decide ((k + 1024 - q) % 1024 < 512))
  { flits := a.flits.filter (fun e => mine e.1), side := a.side.filter (fun e => mine e.1), holes := a.holes.filter mine,
    final := a.final.filter mine, seqs := a.seqs.filter (fun e => mine e.1) }

/-- Place a flit of a terminating transfer (R294, R298, R304). A second flit at one position belongs to another occurrence, whose
first flit is still to come. -/
def Arriving.place (a : Arriving) (h : FlitHdr) (pos : Nat) (body : Option Bytes) : Arriving :=
  let a := if h.late then a
    else if pos = 0 then a.startAt h.seq
    else if (SMap.find? a.seqs pos).isSome then { a with flits := SMap.erase a.flits 0 } else a
  { flits := SMap.insert a.flits pos body
    side := if !h.late && decide (pos < 16) then SMap.insert a.side pos h.side else a.side
    holes := if h.hole then pos :: a.holes else a.holes.filter (fun x => decide (x ≠ pos))
    final := if h.eop then some pos else a.final
    seqs := SMap.insert a.seqs pos h.seq }

/-- A TC0 flit enters the port buffer of an output that forwards it (R304): sent late where its position has passed, else kept for its
position, where data that follows a HOLE takes its place. -/
def State.placeForward (s : State) (o : Nat) (h : FlitHdr) (pos header : Nat) (body : Option Bytes) : State :=
  let p := s.lport o
  let here := fun (g : Held0) => decide (g.xfer = h.xfer) && decide (g.pos = pos)
  let kept := { h with late := false, side := if h.late then 0 else h.side }
  if (SMap.find? p.passed h.xfer).any (fun q => decide (pos < q)) then
    (if h.kind = 1 then s.setLport o { p with late := p.late ++ [⟨pos, header, body⟩] } else s)
  else match p.forward.find? here with
    | some g =>
      let old := flitHdr g.header
      let e : Held0 := if h.kind = 1 then ⟨h.xfer, pos, { kept with side := if h.late then old.side else h.side }.encode, body⟩
        else ⟨h.xfer, pos, { old with side := h.side }.encode, g.body⟩
      s.setLport o { p with forward := p.forward.map (fun x => if here x then e else x) }
    | none =>
      if 64 ≤ p.forward.length then s
      else s.setLport o { p with forward := p.forward ++ [⟨h.xfer, pos, kept.encode, body⟩] }

/-- A TC0 flit is placed by its position (R294, R301, R304): forwarded on every port whose table names it, or kept until its
transfer is whole. The answer is the transfer that has become whole. -/
def State.placeTc0 (s : State) (l : Nat) (f : Flit) : Option Transfer × State :=
  let h := flitHdr f.header.toNat
  let pos := if h.late then h.side else f.pos
  let body := if h.kind = 1 then some f.body else none
  match s.forwardPorts l h.xfer with
  | [] =>
    let p := s.lport l
    let a := (p.arriving.get (fun _ => arrivingInit) h.xfer).place h pos body
    if a.complete then (some a.transfer, s.setLport l { p with arriving := SMap.erase p.arriving h.xfer })
    else (none, s.setLport l { p with arriving := SMap.insert p.arriving h.xfer a })
  | os => (none, os.foldl (fun s o => s.placeForward o h pos f.header.toNat body) s)

/-- The first missing SEQ is asked for where flits wait behind it and it has not been asked for (R294, log entry 117). -/
def LPort.askNext (p : LPort) : LPort :=
  if p.held.isEmpty || decide (p.asks.get (fun _ => 0) p.expect ≠ 0) then p else { p with nak := true }

/-- Deliver the held flits that are now in order. -/
def State.drainHeld (l : Nat) : Nat → State → State
  | 0, s => s
  | n + 1, s =>
    let p := s.lport l
    match p.held.find? (fun x => decide (x.1 = p.expect)) with
    | none => s
    | some x =>
      let s := s.setLport l { p with held := p.held.filter (fun y => decide (y.1 ≠ x.1)), expect := (p.expect + 1) % 1024,
                                     asks := SMap.erase p.asks x.1 }
      State.drainHeld l n (s.deliverFlit l x.2)

/-- The flits acknowledged and the replay asked for by a header (R292, R294); how often the peer has asked for a SEQ is kept until it
is acknowledged (R295). -/
def LPort.takeAck (p : LPort) (h : FlitHdr) : LPort :=
  let open_ := p.unacked.filter (fun f => decide (512 ≤ (h.ack + 1024 - f.seq) % 1024))
  let p := { p with unacked := open_, asked := p.asked.filter (fun e => open_.any (fun f => decide (f.seq = e.1))) }
  let q := (h.ack + 1) % 1024
  let p := if h.nak && p.unacked.any (fun f => decide (f.seq = q)) then
    { p with resend := p.resend ++ [q], asked := SMap.insert p.asked q (p.asked.get (fun _ => 0) q + 1) } else p
  if h.crVc < 6 then { p with credits := p.credits.set h.crVc (p.credits.getD h.crVc 0 + h.crCount) } else p

/-- A good sequenced flit arrives (R294 to R296): in order, after a gap whose first missing SEQ is asked for again, or a
copy of one already taken. The answer is a TC0 transfer that has become whole. -/
def State.takeSequenced (s : State) (l : Nat) (f : Flit) : Option Transfer × State :=
  let h := flitHdr f.header.toNat
  let p := s.lport l
  let d := (h.seq + 1024 - p.expect) % 1024
  if 512 ≤ d ∨ (p.held.any (fun x => decide (x.1 = h.seq))) = true then (none, s)
  else
    let ch := channelIdx h.tc h.sluice
    let tooMany := decide (h.kind = 1) && decide (h.tc ≠ 0) && decide (p.room.getD ch 0 = 0)
    if tooMany then (none, s.retrain l 0x2808)
    else
      let p := if h.kind = 1 ∧ h.tc ≠ 0 then { p with room := p.room.set ch (p.room.getD ch 0 - 1) } else p
      let s := s.setLport l p
      let r := if h.tc = 0 then s.placeTc0 l f else (none, s)
      let s := r.2
      let p := s.lport l
      if d = 0 then
        let s := s.setLport l { p with expect := (p.expect + 1) % 1024, asks := SMap.erase p.asks h.seq }
        let s := State.drainHeld l (p.held.length + 1) (s.deliverFlit l f)
        (r.1, s.setLport l (s.lport l).askNext)
      else (r.1, s.setLport l { p with held := p.held ++ [(h.seq, f)] }.askNext)

/-- A flit arrives on a logical port (R293 to R296): CRC, header, acknowledgements and credits, then its sequence. A bad flit while a
missing one is awaited may be its replay, which is asked for again (R294, log entry 117). A SEQ that the peer asks for the eighth time
retrains the port (R295). -/
def State.flitReceived (s : State) (l : Nat) (f : Flit) : Option Transfer × State :=
  let h := flitHdr f.header.toNat
  let body := if h.kind = 1 then some f.body else none
  if !s.lportUp l then (none, s)
  else
  let s := if f.fec = 0 then s else s.stat (Reg.LNK_STAT_FEC_UNCORR + instDelta (l / 2)) f.fec
  if flitCrc f.header.toNat body ≠ f.crc.toNat then
    let s := if (s.lport l).held.isEmpty then s else s.setLport l { s.lport l with nak := true }
    (none, s.stat (Reg.LNK_STAT_CRC_ERR + instDelta (l / 2)) 1)
  else if h.illegal then (none, s.retrain l 0x2808)
  else
    let s := s.setLport l ((s.lport l).takeAck h)
    if (s.lport l).asked.any (fun e => decide (8 ≤ e.2)) then (none, s.retrain l 0x2803)
    else if h.kind = 1 ∨ h.kind = 2 then s.takeSequenced l f else (none, s)

/-! ### Landing of scheduled transfers (R299) -/

/-- A TC0 transfer lands: a COPY as its requests, a frame under R94; the code and the state (R298, R299). -/
def State.landTransfer (s : State) (die : Nat) (t : Transfer) : Nat × State :=
  let w := fun i => leNat ((t.header.drop (8 * i)).take 8)
  let src := portSource (bits (w 4) 40 8)
  let form := bits (w 5) 0 2
  let cnt := bit (w 4) 62
  let counter := bits (w 4) 48 14
  let inject := bits (w 4) 0 32
  if form = 3 then
    let s := s.raise (fabSite die) 0x310B
    if cnt then let r := s.carryIncrement die src counter 0x310B; (0x310B, r.2) else (0x310B, s)
  else if form = 0 then
    let n := bits (w 5) 2 41
    let dest := w 0
    let parts := if n = 0 then [(0, 0)] else cuts (faOffset dest) n
    let r := parts.foldl (fun acc p =>
      let q : Pkt := { typ := if n = 0 then 5 else 1, len := p.2, dest := s.selfDev, src := bits (w 4) 40 8, addr := dest + p.1,
                       key := w 3, epoch := bits (w 4) 32 8, inject := inject, body := (t.data.drop p.1).take p.2 }
      let x := acc.2.performCore die src q
      (firstNonzero acc.1 x.1, x.2.2)) ((0, s) : Nat × State)
    if cnt then let q := r.2.carryIncrement die src counter r.1 (decide (r.1 ≠ 0)); (firstNonzero r.1 q.1, q.2) else r
  else
    let quota := hfld t.data 4 4 16 12
    s.landFrame die src
      { header := t.data.take 64, slots := (t.data.drop 64).take (8 * quota), rows := t.data.drop (headerArea quota),
        hdrDest := w 0, slotDest := w 1, rowDest := w 2, cntEn := cnt, counter := counter, source := bits (w 4) 40 8,
        key := w 3, epoch := bits (w 4) 32 8, injected := inject }

/-- The one acknowledgement of a TC0 transfer (R299). R298 gives the transfer no number, so the REQ_ID that names it is a
free value. -/
def State.ackTransfer (s : State) (t : Transfer) (code : Nat) : State :=
  let m := bits (leNat ((t.header.drop 32).take 8)) 40 8
  if m = s.selfMember then s
  else
    let v := s.fresh
    v.2.originate { typ := 0x11, dest := s.fld Reg.FAB_SELF_SALTERN * 256 + m, src := s.selfDev, code := code,
                    reqId := v.1.toNat % 2 ^ 24, budget := s.fld Reg.FAB_MSG_CFG_DEFAULT_BUDGET }

/-! ### Slot-table commits (R300, R305, R306) -/

/-- An entry that R301 and R306 allow in the table of port `l`. -/
def slotEntryOk (l : Nat) : SlotEntry → Bool
  | .tc0 src _ => (decide (src < 32) || decide (src = 63)) && decide (src ≠ l)
  | _ => true

/-- The staged table of a port with its staged T0 and LEN. -/
def State.stagedTable (s : State) (l : Nat) : SlotTable :=
  let δ := instDelta (l / 2) + (l % 2) * 0x10
  ⟨s.stagedFld Reg.LNK_STh_T0_T0 δ, s.stagedFld Reg.LNK_STh_LEN_LEN δ, (s.lport l).staged.entries⟩

/-- A table breaks R305 or R306. -/
def slotTableBad (l : Nat) (t : SlotTable) : Bool :=
  let es := (List.range t.len).map t.entry
  let shared := (es.filter (fun e => decide (e = .shared))).length
  decide (t.len < 25) || decide (16375 < t.len) || !aligned t.len 25 || decide (16 * shared < t.len) ||
  decide (t.len < 2 * shared) || !es.all (slotEntryOk l)

/-- The safe point of a table (R306): the first start of one of its cycles at or after the end of the current cycle of
the table in force, in ns. -/
def State.swapTime (s : State) (l : Nat) (t : SlotTable) : Nat :=
  let old := (s.lport l).active
  let oldLen := old.len * s.slotTime l / 100
  let newLen := t.len * s.slotTime l / 100
  let fin := if s.tb < old.t0 then old.t0 else old.t0 + ((s.tb - old.t0) / oldLen + 1) * oldLen
  if fin ≤ t.t0 then t.t0 else t.t0 + ceilDiv (fin - t.t0) newLen * newLen

/-- A commit of a port's slot-table group is checked and scheduled for its safe point (R306). -/
def State.linkTableApply (s : State) (l : Nat) : Nat × State :=
  let t := s.stagedTable l
  if slotTableBad l t then (0x2802, s.raise (lnkSite l) 0x2802 l)
  else (0, s.setLport l { s.lport l with swap := some (t, s.swapTime l t) })

/-- The banks swap at the safe point (R306): the new table is active, the old entries are staged under those staged since the
COMMIT (R379), and the commit counts as applied (R393). -/
def State.linkTableSwap (s : State) (l : Nat) : State :=
  let p := s.lport l
  match p.swap with
  | none => s
  | some (t, at_) =>
    if s.tb < at_ then s
    else
      let δ := instDelta (l / 2) + (l % 2) * 0x10
      let entries := p.since.foldl (fun m e => SMap.set m slotDefault e.1 e.2) p.active.entries
      let s := s.setLport l { p with active := t, staged := { p.active with entries := entries }, swap := none, nextSlot := 0 }
      let s := s.setFld Reg.LNK_STh_T0_T0 δ t.t0
      let s := s.setFld Reg.LNK_STh_LEN_LEN δ t.len
      { s with bound := s.bound.filter (fun e => decide (e.1 / 65536 ≠ l)) }.noteCommit p.swapBy.1 0 p.swapBy.2

end Sys2Proof.Machine
end

