-- ==== Sys2Proof/Machine/Pools.lean ====
section
/-! DEFINITION. Pan pools (R234 to R238) and queues (R239 to R250). -/

namespace Sys2Proof.Machine

/-! ### Pools -/

def poolInit : Pool := ⟨[]⟩

/-- The site of a pool. -/
def poolSite (p : Nat) : Site := site 8 p

/-- The pool belongs to the device: the MC alone reaches it (R235). -/
def devicePool (p : Nat) : Bool := decide (p < 4)

/-- The fields of a pool, active or staged, as (BUF_LOG2, COUNT, SHARED, BASE, STATE_BASE). -/
structure PoolFields where
  log2 : Nat
  count : Nat
  shared : Bool
  base : Nat
  stateBase : Nat
deriving DecidableEq, Repr

/-- The active fields of a pool. -/
def State.poolFields (s : State) (p : Nat) : PoolFields :=
  let δ := instDelta p
  ⟨s.fld Reg.PAN_CFG_BUF_LOG2 δ, s.fld Reg.PAN_CFG_COUNT δ, decide (s.fld Reg.PAN_CFG_SHARED δ = 1),
   s.fld Reg.PAN_BASE_BASE δ, s.fld Reg.PAN_STATE_BASE_STATE_BASE δ⟩

/-- The staged fields of a pool. -/
def State.poolStaged (s : State) (p : Nat) : PoolFields :=
  let δ := instDelta p
  ⟨s.stagedFld Reg.PAN_CFG_BUF_LOG2 δ, s.stagedFld Reg.PAN_CFG_COUNT δ,
   decide (s.stagedFld Reg.PAN_CFG_SHARED δ = 1),
   s.stagedFld Reg.PAN_BASE_BASE δ, s.stagedFld Reg.PAN_STATE_BASE_STATE_BASE δ⟩

/-- The buffers of a pool as a range. -/
def PoolFields.buffers (f : PoolFields) : Nat × Nat := (f.base, f.count * 2 ^ f.log2)

/-- The state area of a pool of the schedule as a range; the device's pools have none (R234). -/
def PoolFields.area (f : PoolFields) (p : Nat) : Nat × Nat :=
  if devicePool p then (0, 0) else (f.stateBase, 4 * f.count + (if f.shared then f.count else 0))

/-- Two ranges overlap. -/
def overlap2 (a b : Nat × Nat) : Bool := rangesOverlap a.1 a.2 b.1 b.2

/-- The descriptor of a pool is illegal (R234, R235). -/
def State.poolBad (s : State) (p : Nat) (f : PoolFields) : Bool :=
  decide (f.log2 < 8) || decide (20 < f.log2) || decide (f.count > (if devicePool p then 65536 else 1048576)) ||
  (devicePool p && f.shared) ||
  (decide (f.count ≠ 0) &&
    (!aligned f.base (2 ^ f.log2) || !(s.inLpOrCore f.base f.buffers.2) ||
     (!devicePool p && (!aligned f.stateBase 64 || !inLpddr f.stateBase (f.area p).2)) ||
     overlap2 f.buffers (f.area p) ||
     (List.range 64).any (fun q =>
       let g := s.poolFields q
       decide (q ≠ p) && decide (g.count ≠ 0) && (overlap2 f.buffers g.buffers || overlap2 f.buffers (g.area q)))))

/-- The stack of free indices after a commit: the first allocation returns index 0 (R237; log entry 9). -/
def State.fillStack (s : State) (f : PoolFields) : State :=
  (List.range f.count).foldl (fun s i => s.put (f.stateBase + 4 * i) (leBytes 4 (f.count - 1 - i)))
    s

/-- The staged registers of a pool (R234). -/
def poolRegs (p : Nat) : List Nat :=
  [Reg.PAN_CFG, Reg.PAN_BASE, Reg.PAN_STATE_BASE].map (· + instDelta p)

/-- Apply a list of staged registers. -/
def State.applyAll (s : State) (as : List Nat) : State := as.foldl State.applyStaged s

/-- The commit of a pool's descriptor is applied (R235): the refusing code, 0 for none. -/
def State.poolApply (s : State) (p : Nat) : Nat × State :=
  let f := s.poolStaged p
  let old := s.poolFields p
  let regs := poolRegs p
  if s.poolBad p f then (0x2008, s.raise (poolSite p) 0x2008)
  else if s.fld Reg.PAN_STATE_FREE (instDelta p) ≠ old.count then
    (0x2009, s.raise (poolSite p) 0x2009)
  else
    let s := s.applyAll regs
    let s := { s with pools := s.pools.set (fun _ => poolInit) p poolInit }
    let s := s.setFld Reg.PAN_STATE_FREE (instDelta p) f.count
    (0, if devicePool p then s
      else
        let s := s.fillStack f
        if f.shared then s.put (f.stateBase + 4 * f.count) (List.replicate f.count 0) else s)

/-- The handle of a buffer (R236). -/
def handleOf (p addr : Nat) : Nat := addr + p * 2 ^ 48 + 2 ^ 63

/-- The lowest index not in use. -/
def lowestFree (used : List Nat) (n : Nat) : Nat := ((List.range n).filter (fun i => !used.contains i)).headD 0

/-- Where the reference byte of a buffer in a shared pool lies (R234). -/
def PoolFields.refAt (f : PoolFields) (idx : Nat) : Nat := f.stateBase + 4 * f.count + idx

/-- PAN_ALLOC (R237). Where the stack entry cannot be read, the null handle is written and COMPLETION takes the code of the read (R214,
R219; DESIGN CHOICE, log entry 152). -/
def State.panAlloc (s : State) (p : Nat) (v : Nat) : State :=
  let result := bits v 0 48
  let cnt := bits v 48 14
  let f := s.poolFields p
  let δ := instDelta p
  let free := s.fld Reg.PAN_STATE_FREE δ
  if !aligned result 8 || !s.inLpOrCore result 8 then (s.raise (poolSite p) 0x200C).complete cnt 0x200C
  else if s.physCode result ≠ 0 then (s.raise (poolSite p) (s.physCode result)).complete cnt (s.physCode result)
  else if f.count = 0 ∨ free = 0 then
    let code := if f.count = 0 then 0x2002 else 0x2001
    let s := (s.stat (Reg.PAN_STAT_EMPTY + δ) 1).put result (leBytes 8 0)
    (s.raise (poolSite p) code).complete cnt code
  else
    let pool := s.pools.get (fun _ => poolInit) p
    let top := f.stateBase + 4 * (free - 1)
    let bad := if devicePool p then 0 else s.readCode top 4
    let idx := if devicePool p then lowestFree pool.used f.count else s.fetchNat top 4
    let s := if devicePool p then s else s.noteFetch top 4
    if bad ≠ 0 then (s.put result (leBytes 8 0)).complete cnt bad else
    let s := if devicePool p then { s with pools := s.pools.set (fun _ => poolInit) p ⟨idx :: pool.used⟩ } else s
    let s := if f.shared then s.put (f.refAt idx) [1] else s
    let s := s.setFld Reg.PAN_STATE_FREE δ (free - 1)
    let s := s.stat (Reg.PAN_STAT_ALLOCS + δ) 1
    (s.put result (leBytes 8 (handleOf p (f.base + idx * 2 ^ f.log2)))).complete cnt 0

/-- The reference byte of a buffer in a shared pool. -/
def State.panRefs (s : State) (f : PoolFields) (idx : Nat) : Nat := s.fetchNat (f.refAt idx) 1

/-- The buffer that a handle names. -/
def PoolFields.indexOf (f : PoolFields) (v : Nat) : Nat := (bits v 0 48 - f.base) / 2 ^ f.log2

/-- Why a RETAIN or RELEASE of a handle is refused (R238). A reference byte that cannot be read refuses it with the code of the read
(R214, R219; DESIGN CHOICE, log entry 152). -/
def State.panCode (s : State) (p v : Nat) (retain : Bool) : Option Nat :=
  let f := s.poolFields p
  let addr := bits v 0 48
  let n := bits v 54 8
  let idx := f.indexOf v
  let free := s.fld Reg.PAN_STATE_FREE (instDelta p)
  let bad := if f.shared then s.readCode (f.refAt idx) 1 else 0
  firstCode [
    (!bit v 63 || decide (bits v 48 6 ≠ p) || decide (addr < f.base) || decide (f.base + f.buffers.2 ≤ addr), 0x2003),
    (!aligned (addr - f.base) (2 ^ f.log2), 0x2004),
    (retain && (!f.shared || decide (n = 0)), 0x200B),
    (decide (bad ≠ 0), bad),
    (retain && decide (255 < s.panRefs f idx + n), 0x2006),
    ((devicePool p && !(s.pools.get (fun _ => poolInit) p).used.contains idx) ||
      (f.shared && decide (s.panRefs f idx = 0)), 0x2005),
    (!retain && !devicePool p && !f.shared && decide (free = f.count), 0x2007)]

/-- A refused RETAIN or RELEASE: counted, and the code goes back to the writer (R238); a code of the POOL class is raised here, that of a
read by what was read. -/
def State.panRefuse (s : State) (p code : Nat) : Nat × State :=
  let s := s.stat (Reg.PAN_STAT_REFUSED + instDelta p) 1
  (code, if code / 0x400 = 8 then s.raise (poolSite p) code else s)

/-- The manager reads the reference byte of a handle in a shared pool, where the handle names a buffer of it. -/
def State.noteRefs (s : State) (p v : Nat) : State :=
  let f := s.poolFields p
  if f.shared && decide (f.base ≤ bits v 0 48) && decide (f.indexOf v < f.count) then s.noteFetch (f.refAt (f.indexOf v)) 1 else s

/-- PAN_RETAIN (R238): the refusing code, 0 for none. -/
def State.panRetain (s : State) (p v : Nat) : Nat × State :=
  match s.panCode p v true with
  | some c => (s.noteRefs p v).panRefuse p c
  | none =>
    let f := s.poolFields p
    let idx := f.indexOf v
    (0, (s.noteRefs p v).put (f.refAt idx) (leBytes 1 (s.panRefs f idx + bits v 54 8)))

/-- A buffer returns to its pool. -/
def State.panFree (s : State) (p : Nat) (f : PoolFields) (idx : Nat) : State :=
  let δ := instDelta p
  let free := s.fld Reg.PAN_STATE_FREE δ
  let s := if devicePool p then
      { s with pools := s.pools.set (fun _ => poolInit) p ⟨(s.pools.get (fun _ => poolInit) p).used.erase idx⟩ }
    else s.put (f.stateBase + 4 * free) (leBytes 4 idx)
  (s.setFld Reg.PAN_STATE_FREE δ (free + 1)).stat (Reg.PAN_STAT_FREED + δ) 1

/-- PAN_RELEASE (R238): the refusing code, 0 for none. -/
def State.panRelease (s : State) (p v : Nat) : Nat × State :=
  match s.panCode p v false with
  | some c => (s.noteRefs p v).panRefuse p c
  | none =>
    let f := s.poolFields p
    let idx := f.indexOf v
    if f.shared then
      let r := s.panRefs f idx - 1
      let s := (s.noteRefs p v).put (f.refAt idx) (leBytes 1 r)
      (0, if r = 0 then s.panFree p f idx else s)
    else (0, s.panFree p f idx)

/-! ### Queues -/

def queueInit : Queue := ⟨[], 0, 0⟩

/-- Queue `q`. -/
def State.queue (s : State) (q : Nat) : Queue := s.queues.get (fun _ => queueInit) q

/-- The site of a queue: its own number and its die. -/
def queueSite (q : Nat) : Site := ⟨9, q, if q < 2048 then 9 else 10⟩

/-- The words a packet occupies (R240). -/
def Packet.words (p : Packet) : Nat := 1 + ceilDiv p.payload.length 8

/-- The words a queue occupies. -/
def Queue.words (x : Queue) : Nat := (x.packets.map Packet.words).sum

/-- The framing word of a packet (R240). -/
def Packet.framing (p : Packet) : Nat := p.payload.length + p.source * 2 ^ 16 + p.tag * 2 ^ 24

/-- The Ethernet port a queue belongs to. -/
def State.quePort (s : State) (q : Nat) : Nat := s.fld Reg.QUE_WM_PORT (queueDelta q)

/-- Some queue of an Ethernet port and priority is in hold; priority 2 stands for either (R249). -/
def State.portHold (s : State) (port prio : Nat) : Bool :=
  s.regs.any (fun r => decide (csrClass r.1 = 9) &&
    (let q := csrInst r.1 * 4 + csrOff r.1 / 0x4000
     decide (csrOff r.1 % 0x4000 = 0x18) && decide (s.fld Reg.QUE_STATE_HOLD (queueDelta q) = 1) &&
     decide (s.quePort q = port) && (decide (prio = 2) || decide (s.fld Reg.QUE_WM_PRIORITY (queueDelta q) = prio))))

/-- An Ethernet port that has sent and received nothing. -/
def ethPortInit : EthPort := ⟨[0, 0], [0, 0], [], ⟨none, none, none, 0, .ieee8023⟩⟩

/-- What Ethernet port `n` remembers. -/
def State.ethPort (s : State) (n : Nat) : EthPort := s.ethPorts.get (fun _ => ethPortInit) n

/-- Set what an Ethernet port remembers. -/
def State.setEthPort (s : State) (n : Nat) (x : EthPort) : State :=
  { s with ethPorts := s.ethPorts.set (fun _ => ethPortInit) n x }

/-! ### Queue pairs -/

def qpInit : Qp := ⟨List.replicate 8 0, none, none, 0⟩

/-- The context of queue pair `q` (R323). -/
def State.qp (s : State) (q : Nat) : Qp := s.qps.get (fun _ => qpInit) q

def State.setQp (s : State) (q : Nat) (x : Qp) : State := { s with qps := s.qps.set (fun _ => qpInit) q x }

/-- A field of a queue-pair context: word, lowest bit, width. -/
def qpFld (ws : List Word) (i lo w : Nat) : Nat := bits (ws.getD i 0).toNat lo w

/-- The words of a context with one field set. -/
def qpSet (ws : List Word) (i lo w v : Nat) : List Word :=
  ws.set i (BitVec.ofNat 64 (setBits (ws.getD i 0).toNat lo w v))

def Qp.state (x : Qp) : Nat := qpFld x.words 0 0 2
def Qp.port (x : Qp) : Nat := qpFld x.words 0 2 2
def Qp.priority (x : Qp) : Nat := qpFld x.words 0 4 1
def Qp.rqEn (x : Qp) : Bool := decide (qpFld x.words 0 5 1 = 1)
def Qp.rqQueue (x : Qp) : Nat := qpFld x.words 0 6 12
def Qp.maxRead (x : Qp) : Nat := qpFld x.words 0 18 4
def Qp.epsn (x : Qp) : Nat := qpFld x.words 1 0 24
def Qp.key (x : Qp) : Nat := (x.words.getD 2 0).toNat

/-- The packets of a message of `n` bytes at the path MTU of 4,096 (R322). -/
def rocePackets (n : Nat) : Nat := max 1 (ceilDiv n 4096)

/-- The frames that something an Ethernet port sends takes: a response with data takes one for each packet (R322, R327). -/
def EthOut.frames : EthOut → Nat
  | .roce _ _ _ data => rocePackets data.length
  | _ => 1

/-- What goes out in an IP packet (R325): RoCEv2, neighbour discovery, and PTP over UDP. -/
def EthOut.isIp : EthOut → Bool
  | .pfc _ _ | .arp _ _ => false
  | .delayReq t _ => decide (t ≠ .ieee8023)
  | _ => true

/-- The statistic that a frame sent adds to beside TX_FRAMES (R327). -/
def EthOut.counter : EthOut → Option Nat
  | .pfc _ _ => some Reg.ETH_STAT_PFC_SENT
  | .roce _ code _ _ => if code = 0 then none else some Reg.ETH_STAT_NAK_SENT
  | .rnr _ _ => some Reg.ETH_STAT_NAK_SENT
  | .cnp _ => some Reg.ETH_STAT_CNP_SENT
  | _ => none

/-- The queue pair whose response a frame is. -/
def EthOut.qp : EthOut → Option Nat
  | .roce q _ _ _ | .rnr q _ | .cnp q => some q
  | _ => none

def prioFld (prio : Nat) : Fld := if prio = 0 then Reg.ETH_CFG_PRIO0 else Reg.ETH_CFG_PRIO1

/-- The 802.1Q tag of a frame sent (R322, R324): the port's VID, and as PCP the 802.1p value of the queue pair's PRIORITY. A PFC
frame, which is MAC control, carries none (DESIGN CHOICE, log entry 147). -/
def State.tagOf (s : State) (port : Nat) (o : EthOut) : Option EthTag :=
  match o with
  | .pfc _ _ => none
  | _ => some ⟨s.fld Reg.ETH_CFG_VID (instDelta port),
      o.qp.map (fun q => s.fld (prioFld (s.qp q).priority) (instDelta port))⟩

/-- An Ethernet port whose link is up sends a frame, its IP packet marked ECT(0) with ECN_EN = 1; one whose link is down sends
nothing (R322, R325, R327). -/
def State.ethSend (s : State) (port : Nat) (o : EthOut) : State :=
  if s.fld Reg.ETH_STATE_LINK (instDelta port) ≠ 2 then s
  else
    let ect := o.isIp && decide (s.fld Reg.ETH_CFG_ECN_EN (instDelta port) = 1)
    let s := s.stat (Reg.ETH_STAT_TX_FRAMES + instDelta port) o.frames
    let s := match o.counter with | some a => s.stat (a + instDelta port) 1 | none => s
    s.emit (.eth port ect (s.tagOf port o) o)

/-- A port sends PFC XOFF or XON for a priority and remembers when (R324). -/
def State.sendPfc (s : State) (port prio : Nat) (xoff : Bool) : State :=
  let s := s.setEthPort port { s.ethPort port with xoffAt := (s.ethPort port).xoffAt.set prio s.tb }
  s.ethSend port (.pfc prio xoff)

/-- Send PFC for a port's priority where it has changed, and show HOLD of the port (R249, R324). -/
def State.pfcUpdate (s : State) (port prio : Nat) (before : Bool) : State :=
  let now := s.portHold port prio
  let s := s.setFld Reg.ETH_STATE_HOLD (instDelta port) (b2n (s.portHold port 2))
  if now = before then s else s.sendPfc port prio now

/-- The occupancy of a queue is held against its watermarks, and QUE_STATE shows whether it is in hold (R249). -/
def State.holdSet (s : State) (q : Nat) : State :=
  let δ := queueDelta q
  let w := (s.queue q).words
  let hold := decide (s.fld Reg.QUE_STATE_HOLD δ = 1)
  let en := decide (s.fld Reg.QUE_WM_WM_EN δ = 1) && decide (s.fld Reg.QUE_CFG_TYPE δ = 3)
  let new := en && (if hold then decide (s.fld Reg.QUE_WM_LOW δ < w) else decide (s.fld Reg.QUE_WM_HIGH δ ≤ w))
  if new = hold then s
  else
    let s := s.setFld Reg.QUE_STATE_HOLD δ (b2n new)
    if new then s.stat (Reg.QUE_STAT_HOLDS + δ) 1 else s

/-- The hold state of a queue is evaluated, and its port tells the peer where that changes it (R249, R324). -/
def State.holdUpdate (s : State) (q : Nat) : State :=
  let port := s.quePort q
  let prio := s.fld Reg.QUE_WM_PRIORITY (queueDelta q)
  let t := s.holdSet q
  if t.fld Reg.QUE_STATE_HOLD (queueDelta q) = s.fld Reg.QUE_STATE_HOLD (queueDelta q) then t
  else t.pfcUpdate port prio (s.portHold port prio)

/-- Store a queue and show its occupancy in QUE_STATE. -/
def State.setQueue (s : State) (q : Nat) (x : Queue) : State :=
  let δ := queueDelta q
  let s := { s with queues := s.queues.set (fun _ => queueInit) q x }
  let s := s.setFld Reg.QUE_STATE_WORDS δ x.words
  let s := s.setFld Reg.QUE_STATE_PACKETS δ x.packets.length
  let s := s.setFld Reg.QUE_STATE_PARTIAL δ (b2n (decide (0 < x.consumed)))
  s.holdUpdate q

/-- A packet arrives at a queue (R241): the refusing code, 0 for none. -/
def State.enqueue (s : State) (q : Nat) (p : Packet) : Nat × State :=
  let δ := queueDelta q
  let x := s.queue q
  let refuse := fun (s : State) c =>
    ((c, (s.stat (Reg.QUE_STAT_REFUSED + δ) 1).raise (queueSite q) c) : Nat × State)
  if s.fld Reg.QUE_CFG_TYPE δ = 0 ∨ s.fld Reg.QUE_STATE_CLOSED δ = 1 then refuse s 0x2406
  else if s.fld Reg.QUE_CFG_DEPTH δ < x.words + p.words then refuse s 0x2401
  else
    let s := s.setQueue q { x with packets := x.packets ++ [p],
                                   since := if x.packets.isEmpty then s.tb else x.since }
    let s := s.stat (Reg.QUE_STAT_ENQUEUED + δ) 1
    (0, if s.fld Reg.QUE_NOTIFY_NOTIFY_EN δ = 1 then s.complete (s.fld Reg.QUE_NOTIFY_ARRIVAL δ) 0 else s)

/-- A queue drops every packet and shows FLUSHED (R245, R248). -/
def State.flushQueue (s : State) (q : Nat) : State :=
  (s.setQueue q queueInit).setFld Reg.QUE_STATE_FLUSHED (queueDelta q) 1

/-- A pop or drop reads the queue: STALE is cleared and its time runs anew (R247). -/
def State.touchQueue (s : State) (q : Nat) : State :=
  let s := s.setFld Reg.QUE_STATE_STALE (queueDelta q) 0
  s.setQueue q { s.queue q with since := s.tb }

/-- The pop record (R242). -/
def popRecord (header off copied remaining poison status : Nat) : Bytes :=
  leBytes 8 header ++ leBytes 4 off ++ leBytes 4 copied ++ leBytes 4 remaining ++ leBytes 4 poison ++
  leBytes 2 status ++ List.replicate 38 0

/-- Copied payload with the words of bad parity as zeros; `first` is the packet offset of the copy (R243). -/
def parityZero (bad : List Nat) (first : Nat) (bs : Bytes) : Bytes :=
  ((List.range bs.length).zip bs).map (fun p => if bad.contains ((first + p.1) / 8) then 0 else p.2)

/-- The offset in the copy of the first poisoned byte. -/
def firstPoison (bad : List Nat) (first n : Nat) : Option Nat :=
  (List.range n).find? (fun i => bad.contains ((first + i) / 8))

/-- A framing word that fails parity is met (R245): the queue is flushed and the code logged. -/
def State.badFraming (s : State) (q : Nat) : State := ((s.touchQueue q).flushQueue q).raise (queueSite q) 0x2409

/-- The payload words of a packet that fail parity. -/
def Packet.badWords (p : Packet) : List Nat := p.bad.filterMap (fun k => if k = 0 then none else some (k - 1))

/-- The words [first, first + n) of a payload of which are bad. -/
def badIn (words : List Nat) (len first n : Nat) : Nat :=
  ((List.range (ceilDiv len 8)).filter (fun i => words.contains i && decide (first < 8 * i + 8) && decide (8 * i < first + n))).length

/-- An engine or the MC takes the head packet whole (R239, R243, R245): words that fail parity are zeros and are counted; a framing word
that fails flushes the queue, and there is no packet. -/
def State.takeHead (s : State) (q : Nat) : Option Packet × State :=
  match (s.queue q).packets with
  | [] => (none, s)
  | p :: rest =>
    if p.bad.contains 0 then (none, s.badFraming q)
    else
      let n := badIn p.badWords p.payload.length 0 p.payload.length
      let s := (s.touchQueue q).setQueue q ⟨rest, 0, s.tb⟩
      let s := (s.stat (Reg.QUE_STAT_POPS + queueDelta q) 1).stat (Reg.QUE_STAT_POISON + queueDelta q) n
      (some { p with payload := parityZero p.badWords 0 p.payload, bad := [] }, if n = 0 then s else s.raise (queueSite q) 0x2402)

/-- Why DEST of a pop that writes `n` bytes is refused, 0 for none (R31, R242). -/
def State.popDest (s : State) (dest n : Nat) : Nat :=
  if !aligned dest 64 || !s.inEnabledSpace dest n then 0x2407 else s.physCode dest

/-- QUE_POP (R242, R243, R245): the code that refuses the write, 0 for none, and the state. `framing` and `words` name further words
that fail parity as they are read now (R239). -/
def State.quePop (s : State) (q v : Nat) (framing : Bool) (words : List Nat) : Nat × State :=
  let δ := queueDelta q
  let dest := bits v 0 48
  let cnt := bits v 48 14
  let x := s.queue q
  let max := s.fld Reg.QUE_CFG_RECV_MAX δ * 64
  let copied := match x.packets with | [] => 0 | p :: _ => min max (p.payload.length - x.consumed)
  let bad := s.popDest dest (64 + copied)
  if bad ≠ 0 then (bad, s.raise (queueSite q) bad)
  else match x.packets with
    | [] =>
      let s := s.touchQueue q
      let s := s.put dest (popRecord 0 0 0 0 0xFFFFFFFF 0x2403)
      (0, (s.raise (queueSite q) 0x2403).complete cnt 0x2403)
    | p :: rest =>
      if framing ∨ p.bad.contains 0 = true then (0, (s.badFraming q).complete cnt 0x2409)
      else
        let words := words ++ p.badWords
        let remaining := p.payload.length - x.consumed - copied
        let part := (p.payload.drop x.consumed).take copied
        let pz := firstPoison words x.consumed copied
        let bad := pz.isSome
        let s := s.touchQueue q
        let s := s.put (dest + 64) (parityZero words x.consumed part)
        let s := s.put dest (popRecord p.framing x.consumed copied remaining (pz.getD 0xFFFFFFFF)
          (if bad then 0x2402 else 0))
        let s := s.setQueue q (if remaining = 0 then { x with packets := rest, consumed := 0, since := s.tb }
          else { x with consumed := x.consumed + copied, since := s.tb })
        let s := s.stat (Reg.QUE_STAT_POPS + δ) 1
        let s := s.stat (Reg.QUE_STAT_POISON + δ) (badIn words p.payload.length x.consumed copied)
        let s := if bad then s.raise (queueSite q) 0x2402 else s
        (0, s.complete cnt (if bad then 0x2402 else 0))

/-- QUE_DROP (R244, R245). -/
def State.queDrop (s : State) (q v : Nat) : State :=
  let δ := queueDelta q
  let cnt := bits v 0 14
  let x := s.queue q
  match x.packets with
  | [] => ((s.touchQueue q).raise (queueSite q) 0x2403).complete cnt 0x2403
  | p :: rest =>
    if p.bad.contains 0 then (s.badFraming q).complete cnt 0x2409 else
    let s := (s.touchQueue q).setQueue q ⟨rest, 0, s.tb⟩
    (s.stat (Reg.QUE_STAT_DROPS + δ) 1).complete cnt 0

/-- The TYPE, DEPTH and SRAM range of a queue, staged. -/
def State.queCfgBad (s : State) (q : Nat) : Bool :=
  let δ := queueDelta q
  let ty := s.stagedFld Reg.QUE_CFG_TYPE δ
  let depth := s.stagedFld Reg.QUE_CFG_DEPTH δ
  let base := s.stagedFld Reg.QUE_CFG_SRAM_BASE δ * 64
  let rm := s.stagedFld Reg.QUE_CFG_RECV_MAX δ
  decide (3 < ty) || decide (rm = 0) || decide (256 < rm) ||
  (if depth = 0 then decide (ty ≠ 0)
   else decide (depth < 64) || decide (1048576 < depth) || !aligned depth 64 || decide (4194304 < base + depth)) ||
  s.regs.any (fun r =>
    let o := csrInst r.1 * 4 + csrOff r.1 / 0x4000
    decide (csrClass r.1 = 9) && decide (csrOff r.1 % 0x4000 = 0) && decide (o ≠ q) && decide (o / 2048 = q / 2048) &&
    decide (s.fld Reg.QUE_CFG_TYPE (queueDelta o) ≠ 0) &&
    rangesOverlap base depth (s.fld Reg.QUE_CFG_SRAM_BASE (queueDelta o) * 64) (s.fld Reg.QUE_CFG_DEPTH (queueDelta o)))

/-- The watermarks of a queue, staged, are illegal (R249, R250). -/
def State.queWmBad (s : State) (q : Nat) : Bool :=
  let δ := queueDelta q
  let hi := s.stagedFld Reg.QUE_WM_HIGH δ
  let lo := s.stagedFld Reg.QUE_WM_LOW δ
  decide (s.stagedFld Reg.QUE_WM_PORT δ / 2 ≠ q / 2048) ||
  (decide (s.stagedFld Reg.QUE_WM_WM_EN δ = 1) &&
    (decide (s.fld Reg.QUE_CFG_TYPE δ ≠ 3) || decide (lo = 0) || decide (hi ≤ lo) ||
     decide (s.fld Reg.QUE_CFG_DEPTH δ < hi)))

/-- A commit of a queue group is refused. -/
def State.queRefuse (s : State) (q code : Nat) : Nat × State :=
  (code, s.raise (queueSite q) code)

/-- The commit of QUE_CFG is applied (R250). -/
def State.queCfgApply (s : State) (q : Nat) : Nat × State :=
  if !(s.queue q).packets.isEmpty then s.queRefuse q 0x2408
  else if s.queCfgBad q then s.queRefuse q 0x2405
  else
    let s := s.applyStaged (Reg.QUE_CFG + queueDelta q)
    let s := s.setFld Reg.QUE_STATE_FLUSHED (queueDelta q) 0
    let s := s.setFld Reg.QUE_STATE_CLOSED (queueDelta q) 0
    (0, s.holdUpdate q)

/-- The commit of QUE_WM is applied (R249, R250): the hold state is evaluated at once, and a queue that stays in hold under another
PORT or PRIORITY holds that one. -/
def State.queWmApply (s : State) (q : Nat) : Nat × State :=
  if s.queWmBad q then s.queRefuse q 0x2405
  else
    let port := s.quePort q
    let prio := s.fld Reg.QUE_WM_PRIORITY (queueDelta q)
    let before := s.portHold port prio
    let port' := s.stagedFld Reg.QUE_WM_PORT (queueDelta q)
    let prio' := s.stagedFld Reg.QUE_WM_PRIORITY (queueDelta q)
    let before' := s.portHold port' prio'
    let s := ((s.applyStaged (Reg.QUE_WM + queueDelta q)).holdSet q).pfcUpdate port prio before
    (0, if port' = port ∧ prio' = prio then s else s.pfcUpdate port' prio' before')

/-- The commit of QUE_NOTIFY is applied (R247, R250). -/
def State.queNotifyApply (s : State) (q : Nat) : Nat × State :=
  let δ := queueDelta q
  if s.stagedFld Reg.QUE_NOTIFY_STALE_US δ ≠ 0 ∧ s.fld Reg.QUE_CFG_TYPE δ ≠ 1 then s.queRefuse q 0x2405
  else (0, s.applyStaged (Reg.QUE_NOTIFY + δ))

/-- The time of a TC2 queue's stale firing has come (R247). -/
def State.queStaleDue (s : State) (q : Nat) : Bool :=
  let δ := queueDelta q
  let us := s.fld Reg.QUE_NOTIFY_STALE_US δ
  let x := s.queue q
  decide (us ≠ 0) && decide (s.fld Reg.QUE_CFG_TYPE δ = 1) && !x.packets.isEmpty &&
  decide (s.fld Reg.QUE_STATE_STALE δ = 0) && decide (x.since + us * 1000 ≤ s.tb)

/-- The queue fires: STALE is set, logged and counted (R247). -/
def State.queStaleFire (s : State) (q : Nat) : State :=
  let s := s.setFld Reg.QUE_STATE_STALE (queueDelta q) 1
  (s.raise (queueSite q) 0x2404).stat (Reg.QUE_STAT_STALE + queueDelta q) 1

/-- The queues of a torn-down owner are flushed and closed (R248). -/
def State.queuesCancel (s : State) (ctx : Nat) : State :=
  (List.range 4096).foldl (fun s q =>
    if s.fld Reg.QUE_NOTIFY_OWNER_EN (queueDelta q) = 1 ∧ s.fld Reg.QUE_NOTIFY_OWNER (queueDelta q) = ctx then
      (s.flushQueue q).setFld Reg.QUE_STATE_CLOSED (queueDelta q) 1
    else s) s

end Sys2Proof.Machine
end

