-- ==== Sys2Proof/Machine/Eth.lean ====
section
/-! DEFINITION. The Ethernet ports (R322 to R326): the RoCEv2 responder with its queue pairs, PFC, congestion
notification and address resolution. -/

namespace Sys2Proof.Machine

def ethSite (n : Nat) : Site := site 11 n

def State.ethUp (s : State) (n : Nat) : Bool := decide (s.fld Reg.ETH_STATE_LINK (instDelta n) = 2)

/-! ### Queue pairs -/

/-- Record a code as the last one of a queue pair. -/
def State.qpStatus (s : State) (q code : Nat) : State :=
  s.setQp q { s.qp q with words := qpSet (s.qp q).words 6 0 16 code }

/-- A queue-pair commit holds an illegal value (R323). -/
def State.qpBad (s : State) (ws : List Word) : Bool :=
  let q := qpFld ws 0 6 12
  decide (2 ≤ qpFld ws 0 0 2) ||
  (decide (qpFld ws 0 5 1 = 1) &&
    (decide (s.fld Reg.QUE_CFG_TYPE (queueDelta q) ≠ 3) || decide (q / 2048 ≠ qpFld ws 0 2 2 / 2)))

/-- A queue pair's context is committed with the words staged for it (R323). -/
def State.qpApply (s : State) (q : Nat) (ws : List Word) : Nat × State :=
  if s.qpBad ws then (0x2C03, s.raise (ethSite 0) 0x2C03 q)
  else (0, s.setQp q { qpInit with words := qpSet ws 6 0 16 0 })

/-! ### Answers -/

def pausedFld (prio : Nat) : Fld := if prio = 0 then Reg.ETH_STATE_PAUSED0 else Reg.ETH_STATE_PAUSED1

/-- What a queue pair answers goes out with its PRIORITY: while the port's transmission of that priority is stopped, it waits (R324). -/
def State.qpSend (s : State) (q port : Nat) (o : EthOut) : State :=
  let prio := (s.qp q).priority
  if s.ethUp port ∧ s.fld (pausedFld prio) (instDelta port) = 1 then
    s.setEthPort port { s.ethPort port with waiting := (s.ethPort port).waiting ++ [⟨prio, o⟩] }
  else s.ethSend port o

/-- A priority resumes: the frames that waited for it go out in their order (R324). -/
def State.resumePrio (s : State) (port prio : Nat) : State :=
  let w := (s.ethPort port).waiting
  let s := s.setFld (pausedFld prio) (instDelta port) 0
  let s := s.setEthPort port { s.ethPort port with waiting := w.filter (fun x => decide (x.prio ≠ prio)) }
  (w.filter (fun x => decide (x.prio = prio))).foldl (fun s x => s.ethSend port x.frame) s

/-- A NAK goes out (R323). -/
def State.ethNak (s : State) (r : RoceReq) (o : EthOut) : State := s.qpSend r.qp.val r.port.val o

/-- A malformed or unsupported packet: NAK invalid request and 0x2C04 (R323). -/
def State.roceBad (s : State) (r : RoceReq) : State :=
  ((s.ethNak r (.roce r.qp.val 0x2C04 r.psn.toNat [])).qpStatus r.qp.val 0x2C04).raise (ethSite r.port.val) 0x2C04 r.qp.val

/-- A refused request: NAK remote access error, ERROR and 0x2C06 with the refusal code (R323). -/
def State.roceAccess (s : State) (r : RoceReq) (code : Nat) : State :=
  let s := s.ethNak r (.roce r.qp.val 0x2C06 r.psn.toNat [])
  let s := s.setQp r.qp.val { s.qp r.qp.val with words := qpSet (s.qp r.qp.val).words 0 0 2 2 }
  (s.qpStatus r.qp.val 0x2C06).raise (ethSite r.port.val) 0x2C06 code

/-- A sequence error (R323). -/
def State.rocePsn (s : State) (r : RoceReq) : State :=
  ((s.ethNak r (.roce r.qp.val 0x2C05 r.psn.toNat [])).qpStatus r.qp.val 0x2C05).raise (ethSite r.port.val) 0x2C05 r.qp.val

/-- The expected PSN moves on by the packets accepted (R323). -/
def State.psnAdvance (s : State) (q n : Nat) : State :=
  s.setQp q { s.qp q with words := qpSet (s.qp q).words 1 0 24 ((s.qp q).epsn + n) }

/-- R322 drops a frame: longer than 4,352 bytes, of another VID than the port's, with IP options or extension headers, or a
fragment. A frame without a tag is of no VID (DESIGN CHOICE, log entry 121). -/
def State.frameDrops (s : State) (port : Nat) (f : EthFrame) : Bool :=
  decide (4352 < f.length) || f.options || f.fragment ||
  (match f.vid with | some v => decide (v.toNat ≠ s.fld Reg.ETH_CFG_VID (instDelta port)) | none => false)

/-- `n` frames that R322 drops: counted, and nothing more. -/
def State.ethDropped (s : State) (port n : Nat) : State :=
  if !s.ethUp port then s
  else (s.stat (Reg.ETH_STAT_RX_FRAMES + instDelta port) n).stat (Reg.ETH_STAT_RX_DROPPED + instDelta port) n

/-- A frame arrives at a port: at a link that is down it does not; R322 may drop it; otherwise it is counted and taken. -/
def State.frameEnter (s : State) (port : Nat) (f : EthFrame) (act : State → State) : State :=
  if !s.ethUp port then s
  else if s.frameDrops port f then s.ethDropped port 1
  else act (s.stat (Reg.ETH_STAT_RX_FRAMES + instDelta port) 1)

/-- What the port does with the `n` packets of a request before it looks at the request: frames of a link that is down do not
arrive; frames that R322 drops are counted; a QP that is not RTS, or that another port serves, drops the packets (R323). -/
def State.roceEnter (s : State) (r : RoceReq) (n : Nat) (act : State → State) : State :=
  if !s.ethUp r.port.val then s
  else if s.frameDrops r.port.val r.frame then s.ethDropped r.port.val n
  else
    let s := s.stat (Reg.ETH_STAT_RX_FRAMES + instDelta r.port.val) n
    let x := s.qp r.qp.val
    if x.state ≠ 1 ∨ x.port ≠ r.port.val then s else act s

/-- The fabric address of a RoCEv2 request: REGION of the R_Key, and the virtual address as the offset (R323). -/
def roceAddr (r : RoceReq) : Nat := bits r.rkey.toNat 0 16 * 2 ^ 40 + min r.va.toNat (2 ^ 40 - 1)

/-- The request that a RoCEv2 request makes of the region checks (R264, R323). -/
def State.rocePkt (s : State) (r : RoceReq) (typ : Nat) (len : Nat) : Pkt :=
  { typ := typ, dest := s.selfDev, src := s.selfDev, len := len, addr := roceAddr r, key := (s.qp r.qp.val).key,
    epoch := bits r.rkey.toNat 16 8, inject := s.tb % 2 ^ 32, last := true }

/-- A checked request is performed; a refusal goes to the host (R323). -/
def State.rocePerform (s : State) (r : RoceReq) (p : Pkt) (packets : Nat) : State :=
  if bits r.rkey.toNat 24 8 ≠ 0 then s.roceBad r
  else if r.psn.toNat ≠ (s.qp r.qp.val).epsn then s.rocePsn r
  else
    let x := s.perform (r.port.val / 2) .host p
    if x.1 ≠ 0 then x.2.2.roceAccess r x.1
    else (x.2.2.psnAdvance r.qp.val packets).qpSend r.qp.val r.port.val (.roce r.qp.val 0 r.psn.toNat x.2.1)

/-- RDMA WRITE (R323). -/
def State.roceWrite (s : State) (r : RoceReq) (data : Bytes) (poison : Bool) : State :=
  s.roceEnter r (rocePackets data.length) fun s =>
    s.rocePerform r { s.rocePkt r tyWrite data.length with body := data, poison := poison } (rocePackets data.length)

/-- RDMA READ (R323). -/
def State.roceRead (s : State) (r : RoceReq) (len : Nat) : State :=
  s.roceEnter r 1 fun s =>
    if (s.qp r.qp.val).maxRead = 0 then s.roceBad r
    else s.rocePerform r (s.rocePkt r tyRead len) (rocePackets len)

/-- FETCH_ADD is ADD_I64 and CMP_SWAP is CAS (R323, R220). -/
def State.roceAtomic (s : State) (r : RoceReq) (op x cmp : Nat) : State :=
  s.roceEnter r 1 fun s =>
    if (s.qp r.qp.val).maxRead = 0 then s.roceBad r
    else s.rocePerform r { s.rocePkt r tyAtomic 8 with op := op, operand := x, compare := cmp } 1

/-- A SEND: one packet of the receive queue, an immediate before the payload (R323). -/
def State.roceSend (s : State) (r : RoceReq) (imm : Option (BitVec 32)) (data : Bytes) : State :=
  s.roceEnter r (rocePackets data.length) fun s =>
    let x := s.qp r.qp.val
    let body := (match imm with | some v => leBytes 4 v.toNat | none => []) ++ data
    if !x.rqEn ∨ 16384 < body.length then s.roceBad r
    else if r.psn.toNat ≠ x.epsn then s.rocePsn r
    else
      let e := s.enqueue x.rqQueue ⟨3, r.qp.val + r.port.val * 4096 + b2n imm.isSome * 16384, body, []⟩
      if e.1 = 0 then
        (e.2.psnAdvance r.qp.val (rocePackets data.length)).qpSend r.qp.val r.port.val (.roce r.qp.val 0 r.psn.toNat [])
      else if e.1 = 0x2401 then
        ((e.2.ethNak r (.rnr r.qp.val r.psn.toNat)).qpStatus r.qp.val 0x2C07).raise (ethSite r.port.val) 0x2C07 r.qp.val
      else e.2.roceAccess r e.1

/-- A malformed or unsupported RoCEv2 packet (R322, R323). -/
def State.roceUnsupported (s : State) (r : RoceReq) : State := s.roceEnter r 1 fun s => s.roceBad r

/-! ### The ports -/

/-- The nanoseconds of `q` PFC quanta of 512 bit times at the port's rate. -/
def State.quantaNs (s : State) (port q : Nat) : Nat :=
  ceilDiv (q * 32 * 2 ^ (s.fld Reg.ETH_STATE_RATE (instDelta port))) 25

/-- One priority slot of a received PFC frame (R324). -/
def State.pausePrio (s : State) (port : Nat) (enable : BitVec 8) (quanta : List (BitVec 16)) (prio : Nat) : State :=
  let v := s.fld (prioFld prio) (instDelta port)
  if !enable.getLsbD v then s
  else
    let q := (quanta.getD v 0).toNat
    let s := s.setEthPort port { s.ethPort port with
      pausedUntil := (s.ethPort port).pausedUntil.set prio (s.tb + s.quantaNs port q) }
    if q = 0 then s.resumePrio port prio else s.setFld (pausedFld prio) (instDelta port) 1

/-- A received PFC frame (R324). -/
def State.pfcReceived (s : State) (port : Nat) (enable : BitVec 8) (quanta : List (BitVec 16)) : State :=
  if !s.ethUp port then s
  else
    let s := s.stat (Reg.ETH_STAT_RX_FRAMES + instDelta port) 1
    let s := s.stat (Reg.ETH_STAT_PFC_RECV + instDelta port) 1
    (s.pausePrio port enable quanta 0).pausePrio port enable quanta 1

/-- The quanta of a pause have run out (R324). -/
def State.pauseExpiry (s : State) (port prio : Nat) : State :=
  if s.fld (pausedFld prio) (instDelta port) = 1 ∧ (s.ethPort port).pausedUntil.getD prio 0 ≤ s.tb then
    s.resumePrio port prio
  else s

/-- XOFF is repeated every 40 µs while a queue is in hold (R324). -/
def State.xoffRepeat (s : State) (port prio : Nat) : State :=
  if s.portHold port prio ∧ (s.ethPort port).xoffAt.getD prio 0 + 40000 ≤ s.tb then s.sendPfc port prio true else s

/-- A received 802.3 PAUSE frame is counted and ignored (R322). -/
def State.pauseFrame (s : State) (port : Nat) : State :=
  if !s.ethUp port then s
  else (s.stat (Reg.ETH_STAT_RX_FRAMES + instDelta port) 1).stat (Reg.ETH_STAT_PAUSE_RECV + instDelta port) 1

/-- A CE-marked packet of a QP: at most one CNP per 50 µs (R325). The packet itself arrives as the request that it carries. -/
def State.ceMarked (s : State) (q : Nat) (f : EthFrame) : State :=
  let x := s.qp q
  let due : Bool := match x.cnpSent with | none => true | some t => decide (t + 50000 ≤ s.tb)
  if s.ethUp x.port ∧ !s.frameDrops x.port f ∧ x.state = 1 ∧ s.fld Reg.ETH_CFG_ECN_EN (instDelta x.port) = 1 ∧ due then
    (s.setQp q { x with cnpSent := some s.tb }).qpSend q x.port (.cnp q)
  else s

/-- The line rate of a port in Mb/s. -/
def State.lineRate (s : State) (port : Nat) : Nat := 400000 / 2 ^ s.fld Reg.ETH_STATE_RATE (instDelta port)

/-- A received CNP is counted, and with ECN_EN = 1 halves the response rate of its QP, to no less than 1 Gb/s (R325, R327). -/
def State.cnpReceived (s : State) (q : Nat) (f : EthFrame) : State :=
  let x := s.qp q
  s.frameEnter x.port f fun s =>
    let s := s.stat (Reg.ETH_STAT_CNP_RECV + instDelta x.port) 1
    if x.state = 1 ∧ s.fld Reg.ETH_CFG_ECN_EN (instDelta x.port) = 1 then
      s.setQp q { x with rate := some (max 1000 (x.rate.getD (s.lineRate x.port) / 2)), rateSince := s.tb }
    else s

/-- Each 55 µs without a CNP raises the rate by 5 Gb/s up to the line rate (R325). -/
def State.cnpRise (s : State) (q : Nat) : State :=
  let x := s.qp q
  match x.rate with
  | some v =>
    if x.rateSince + 55000 ≤ s.tb then
      let n := v + 5000
      s.setQp q { x with rate := if s.lineRate x.port ≤ n then none else some n, rateSince := s.tb }
    else s
  | none => s

/-- An ARP or neighbour-discovery request for a configured address is answered (R322). -/
def State.arp (s : State) (port : Nat) (ip : BitVec 128) (f : EthFrame) : State :=
  s.frameEnter port f fun s =>
    let v4 := (s.reg (Reg.ETH_IPV4 + instDelta port)).toNat
    let v6 := (s.reg (Reg.ETH_IPV6_HI + instDelta port)).toNat * 2 ^ 64 + (s.reg (Reg.ETH_IPV6_LO + instDelta port)).toNat
    let mac := (s.reg (Reg.ETH_MAC + instDelta port)).toNat
    if v4 ≠ 0 ∧ ip.toNat = 0xFFFF * 2 ^ 32 + v4 then s.ethSend port (.arp ip.toNat mac)
    else if v6 ≠ 0 ∧ ip.toNat = v6 then s.ethSend port (.neighbour ip.toNat mac)
    else s

/-- A staged ETH_CFG holds an illegal value (R322). -/
def State.ethCfgBad (s : State) (n : Nat) : Bool :=
  let f := fun x => s.stagedFld x (instDelta n)
  decide (f Reg.ETH_CFG_SPEED = 3) || (decide (f Reg.ETH_CFG_MEDIUM = 1) && decide (f Reg.ETH_CFG_SPEED ≠ 0)) ||
  decide (f Reg.ETH_CFG_PRIO0 = f Reg.ETH_CFG_PRIO1) || decide (f Reg.ETH_CFG_VID = 4095)

/-- A port whose link is down has no pause in force, and what waited for one is not sent. -/
def State.clearPauses (s : State) (n : Nat) : State :=
  let s := s.setEthPort n { s.ethPort n with waiting := [] }
  (s.setFld Reg.ETH_STATE_PAUSED0 (instDelta n) 0).setFld Reg.ETH_STATE_PAUSED1 (instDelta n) 0

/-- ETH_CFG is committed (R322): ENABLE = 1 starts negotiation or training, ENABLE = 0 takes the port down. -/
def State.ethCfgApply (s : State) (n : Nat) : Nat × State :=
  let δ := instDelta n
  if s.ethCfgBad n then (0x2C01, s.raise (ethSite n) 0x2C01)
  else
    let link := fun (s : State) => bits (s.reg (Reg.ETH_CFG + δ)).toNat 0 5
    let before := link s
    let s := s.applyStaged (Reg.ETH_CFG + δ)
    if s.fld Reg.ETH_CFG_ENABLE δ = 0 then (0, (s.setFld Reg.ETH_STATE_LINK δ 0).clearPauses n)
    else if link s = before ∧ s.fld Reg.ETH_STATE_LINK δ ≠ 0 then (0, s)
    else (0, (s.setFld Reg.ETH_STATE_LINK δ 1).clearPauses n)

/-- A port loses its link; an enabled port trains again (R322). -/
def State.ethDown (s : State) (n : Nat) : State :=
  if !s.ethUp n then s
  else ((s.setFld Reg.ETH_STATE_LINK (instDelta n) 1).clearPauses n).raise (ethSite n) 0x2C02

/-- A port completes negotiation and training at a rate it offers (R322). -/
def State.ethLinkUp (s : State) (n rate : Nat) : State :=
  let δ := instDelta n
  let speed := s.fld Reg.ETH_CFG_SPEED δ
  let offered := decide (rate = speed) || (decide (s.fld Reg.ETH_CFG_AN_EN δ = 1) && decide (speed ≤ rate) && decide (rate ≤ 2))
  if s.fld Reg.ETH_CFG_ENABLE δ = 1 ∧ s.fld Reg.ETH_STATE_LINK δ = 1 ∧ offered then
    (s.setFld Reg.ETH_STATE_LINK δ 2).setFld Reg.ETH_STATE_RATE δ rate
  else s

end Sys2Proof.Machine
end

