-- ==== Sys2Proof/Machine/Coll.lean ====
section
/-! DEFINITION. The collective engine (R328 to R356): acceptance, groups, moves, chunks, reduction, corruption and
STEP_VOID, SEND. How a finished collective completes and what a step-end barrier leads to stand in Sched. -/

namespace Sys2Proof.Machine

def colSite : Site := site 13 0

/-! ### The descriptor (R329 to R332) -/

def Coll.op (c : Coll) : Nat := descFld c.desc 0 0 8
def Coll.redOp (c : Coll) : Nat := descFld c.desc 0 8 4
def Coll.empty (c : Coll) : Bool := bit (descWord c.desc 0) 12
def Coll.tag (c : Coll) : Nat := descFld c.desc 0 16 16
def Coll.chunk (c : Coll) : Nat := 4096 * 2 ^ descFld c.desc 0 32 4
def Coll.depth (c : Coll) : Nat := descFld c.desc 0 36 4
def Coll.stepEnd (c : Coll) : Bool := bit (descWord c.desc 0) 40
def Coll.count (c : Coll) : Nat := descFld c.desc 8 0 40
def Coll.src (c : Coll) : Nat := descFld c.desc 0x18 0 48
def Coll.dstRegion (c : Coll) : Nat := descFld c.desc 0x20 0 16
def Coll.dstOff (c : Coll) : Nat := descFld c.desc 0x20 16 40
def Coll.wsRegion (c : Coll) : Nat := descFld c.desc 0x28 0 16
def Coll.wsOff (c : Coll) : Nat := descFld c.desc 0x28 16 40
def Coll.queue (c : Coll) : Nat := descFld c.desc 0x30 0 12
def Coll.budget (c : Coll) : Nat := descFld c.desc 0x30 12 16
def Coll.root (c : Coll) : Nat := descFld c.desc 0x38 0 24
def collCompletion (d : Desc) : Nat := descFld d 0x50 0 14

/-- The opcodes by name (R329's table). -/
def opA2a : Nat := 0x50
def opA2av : Nat := 0x51
def opRs : Nat := 0x52
def opAg : Nat := 0x53
def opAr : Nat := 0x54
def opBc : Nat := 0x55
def opBar : Nat := 0x56
def opFused : Nat := 0x57
def opSend : Nat := 0x58

def isReduction (op : Nat) : Bool := decide (op = opRs) || decide (op = opAr) || decide (op = opFused)
def isA2a (op : Nat) : Bool := decide (op = opA2a) || decide (op = opA2av)

/-- The bits of a collective descriptor that are not reserved, by word. -/
def collMasks : List Nat :=
  [0x1FFFFFF1FFF, maskOf 0 40, maskOf 0 48, maskOf 0 48, maskOf 0 56, maskOf 0 56, maskOf 0 28, maskOf 0 24, maskOf 0 48,
   maskOf 0 9, maskOf 0 14]

/-- A reserved bit or a field that must be zero is set (R333). -/
def collNotZero (d : Desc) : Bool :=
  let op := descFld d 0 0 8
  let f := fun (i : Nat) => descFld d (8 * i) 0 64
  let z := fun (when_ : Bool) (v : Nat) => when_ && decide (v ≠ 0)
  let send := decide (op = opSend)
  !reservedClear d collMasks 16 ||
  z (!isReduction op) (descFld d 0 8 4) ||
  z (send || decide (op = opBar) || decide (op = opFused)) (descFld d 0 12 1) ||
  z send (descFld d 0 32 8) ||
  z (decide (op ≠ opBar)) (descFld d 0 40 1) ||
  z (decide (op = opA2av) || decide (op = opBar) || decide (op = opFused)) (f 1) ||
  z send (f 2) ||
  z (decide (op ≠ opBc) && !send) (f 7) ||
  z (decide (op ≠ opA2av) && decide (op ≠ opFused)) (f 8) ||
  z (decide (op ≠ opFused)) (f 9)

/-- A field is zero that must not be (R333): a SEND's budget has its own code (R314). -/
def collZero (d : Desc) : Option Nat :=
  let op := descFld d 0 0 8
  let budget := decide (descFld d 0x30 12 16 = 0)
  if op = opSend then (if budget then some 0x3106 else none)
  else if descFld d 0 36 4 = 0 ∨ budget ∨ (op = opFused ∧ descFld d 0x48 0 9 = 0) then some 0x3403
  else none

/-- The fusion table (R352): SRC, DST_OFF, LENGTH, and the word with OP, entry by entry. -/
def State.fusionEntries (s : State) (d : Desc) : List (Nat × Nat × Nat × Nat × Nat × Nat) :=
  (List.range (descFld d 0x48 0 9)).map (fun i =>
    let w := fun k => leNat (s.fetch (descFld d 0x40 0 48 + 32 * i + 8 * k) 8)
    (w 0, w 1, bits (w 2) 0 32, bits (w 2) 32 4, bits (w 2) 36 28, w 3))

/-- The size table (R332): bytes sent to and received from each member. -/
def State.sizeTable (s : State) (d : Desc) (g : Nat) : List (Nat × Nat) :=
  (List.range g).map (fun i =>
    let w := leNat (s.fetch (descFld d 0x40 0 48 + 8 * i) 8)
    (bits w 0 32, bits w 32 32))

/-- G of the group table. -/
def State.groupSize (s : State) (d : Desc) : Nat := bits (leNat (s.fetch (descFld d 0x10 0 48 + 8) 4)) 0 17

/-- The header of the group table can be read. -/
def State.groupHeadReadable (s : State) (d : Desc) : Bool :=
  let a := descFld d 0x10 0 48
  aligned a 64 && s.inLpOrCore a 64

/-- The group table can be read. -/
def State.groupReadable (s : State) (d : Desc) : Bool :=
  s.groupHeadReadable d && s.inLpOrCore (descFld d 0x10 0 48) (64 + 8 * s.groupSize d)

/-- The fusion or size table can be read. -/
def State.tableReadable (s : State) (d : Desc) : Bool :=
  let a := descFld d 0x40 0 48
  let op := descFld d 0 0 8
  if op = opFused then s.inLpOrCore a (32 * descFld d 0x48 0 9)
  else if op = opA2av then s.groupReadable d && s.inLpOrCore a (8 * s.groupSize d)
  else true

/-- A field exceeds its range or breaks a multiple (R331 to R333); a fusion LENGTH is judged by its entry's own legal OP (R352). -/
def State.collRange (s : State) (d : Desc) : Bool :=
  let op := descFld d 0 0 8
  let red := descFld d 0 8 4
  let count := descFld d 8 0 40
  let depth := descFld d 0 36 4
  (isReduction op && decide (10 < red)) || decide (8 < descFld d 0 32 4) || decide (8 < depth) ||
  decide (2 ^ 36 < count) || (decide (op ≠ opSend) && decide (count % 64 ≠ 0)) ||
  (decide (op = opSend) && decide (16384 < count)) || decide (256 < descFld d 0x48 0 9) ||
  (decide (op = opFused) && s.tableReadable d &&
    (s.fusionEntries d).any (fun e => decide (e.2.2.2.1 ≤ 10) && decide (e.2.2.1 % nmWidth e.2.2.2.1 ≠ 0))) ||
  (decide (op = opA2av) && s.tableReadable d &&
    (s.sizeTable d (s.groupSize d)).any (fun e => decide (e.1 % 64 ≠ 0) || decide (2 ^ 31 < e.1) ||
      decide (e.2 % 64 ≠ 0) || decide (2 ^ 31 < e.2))) ||
  (decide (op = opBc) && s.groupReadable d && decide (s.groupSize d ≤ descFld d 0x38 0 24))

/-- The bytes of a packed stream (R352). -/
def streamLen (ls : List Nat) : Nat := (ls.map (fun n => 64 * ceilDiv n 64)).sum

/-- Some two ranges of a list overlap. -/
def rangesClash : List (Nat × Nat) → Bool
  | [] => false
  | a :: t => t.any (fun b => decide (a.2 ≠ 0) && decide (b.2 ≠ 0) && rangesOverlap a.1 a.2 b.1 b.2) || rangesClash t

/-- A fusion table breaks R352. Each entry has an OP of its own, legal where the descriptor's would be. -/
def State.fusionBad (s : State) (d : Desc) : Bool :=
  let es := s.fusionEntries d
  let size := (s.region (descFld d 0x20 0 16)).size
  let total := streamLen (es.map (fun e => e.2.2.1))
  es.any (fun e =>
    decide (10 < e.2.2.2.1) || decide (e.2.2.2.2.1 ≠ 0) || decide (e.2.2.2.2.2 ≠ 0) ||
    decide (2 ^ 48 ≤ e.1) || decide (2 ^ 40 ≤ e.2.1) || !aligned e.1 64 || !aligned e.2.1 64 ||
    decide (1048576 < e.2.2.1) || (decide (e.2.2.1 ≠ 0) && (!s.inLpOrCore e.1 e.2.2.1 || decide (size < e.2.1 + e.2.2.1)))) ||
  decide (total = 0) || decide (1048576 < total) || rangesClash (es.map (fun e => (e.2.1, e.2.2.1)))

/-- The entries of the group table with what each rank translates to, for the checks of R330. -/
def State.groupEntries (s : State) (part : Nat) (d : Desc) : List (Member × Bool) :=
  let a := descFld d 0x10 0 48
  (List.range (s.groupSize d)).map (fun i =>
    let w := leNat (s.fetch (a + 64 + 8 * i) 8)
    let t := s.translate part (bits w 0 24)
    (⟨bits w 0 24, bits w 24 8, bits w 32 16, t.2.getD 0⟩, decide (t.1 = 0) && decide (bits w 48 16 = 0)))

/-- (SORD, POS) run 0, 1, … in each ordinal, and the ordinals run without gaps. -/
def groupOrdered : Option (Nat × Nat) → List Member → Bool
  | _, [] => true
  | none, m :: t => decide (m.sord = 0) && decide (m.pos = 0) && groupOrdered (some (m.sord, m.pos)) t
  | some p, m :: t =>
    ((decide (m.sord = p.1) && decide (m.pos = p.2 + 1)) || (decide (m.sord = p.1 + 1) && decide (m.pos = 0))) &&
    groupOrdered (some (m.sord, m.pos)) t

/-- A field of the group table's header. -/
def State.groupHead (s : State) (d : Desc) (off n : Nat) : Nat := leNat (s.fetch (descFld d 0x10 0 48 + off) n)

/-- The header of a group table breaks R330. -/
def State.groupHeadBad (s : State) (d : Desc) : Bool :=
  let a := descFld d 0x10 0 48
  let h := s.groupHead d
  let g := s.groupSize d
  s.fetchPoisoned a 64 || decide (h 0 4 ≠ 0x47504301) || decide (h 4 4 ≠ 1) || decide (h 8 4 ≠ g) ||
  decide (g = 0) || decide (65536 < g) || decide (h 0xC 4 = 0) || decide (g < h 0xC 4) || decide (g ≤ h 0x10 4) ||
  (s.fetch (a + 0x14) 44).any (fun b => decide (b ≠ 0))

/-- A group table breaks R330: its header, or, where all of it can be read, its entries. -/
def State.groupBad (s : State) (part : Nat) (d : Desc) : Bool :=
  let h := s.groupHead d
  let es := s.groupEntries part d
  let ms := es.map (·.1)
  let self := bits (h 0x10 4) 0 17
  s.groupHeadBad d || s.groupReadable d && (s.fetchPoisoned (descFld d 0x10 0 48) (64 + 8 * s.groupSize d) ||
  es.any (fun e => !e.2) || !groupOrdered none ms ||
  decide ((ms.getLast?.map (fun m => m.sord + 1)).getD 0 ≠ h 0xC 4) ||
  ms.any (fun x => ms.any (fun y => decide (x.sord = y.sord) != decide (x.dev / 256 = y.dev / 256))) ||
  decide ((ms.getD self ⟨0, 0, 0, 0⟩).rank ≠ s.selfRank part))

/-- The ranks of a group table that the partition's window refuses; each counts (R317, R327, R330). -/
def State.groupRefused (s : State) (part : Nat) (d : Desc) : Nat :=
  if s.groupReadable d && !s.groupHeadBad d then
    ((List.range (s.groupSize d)).filter (fun i =>
      decide ((s.translate part (bits (leNat (s.fetch (descFld d 0x10 0 48 + 64 + 8 * i) 8)) 0 24)).1 ≠ 0))).length
  else 0

/-! ### Members, chunks, collectors and roots (R334) -/

def Coll.member (c : Coll) (i : Nat) : Member := c.members.getD i ⟨0, 0, 0, 0⟩
def Coll.me (c : Coll) : Member := c.member c.self
def Coll.g (c : Coll) : Nat := c.members.length
/-- n_s. -/
def Coll.n (c : Coll) (sord : Nat) : Nat := (c.members.filter (fun m => decide (m.sord = sord))).length
/-- P_s(x). -/
def Coll.p (c : Coll) (sord x : Nat) : Nat := indexOf (fun m => decide (m.sord = sord) && decide (m.pos = x)) c.members

/-- The bytes of the vector, segment or block that a move belongs to (R331, R332). -/
def Coll.total (c : Coll) (frm dst : Nat) : Nat :=
  if c.op = opA2av then
    (if frm = c.self then (c.sizes.getD dst (0, 0)).1 else (c.sizes.getD frm (0, 0)).2)
  else if c.op = opFused then streamLen (c.fusion.map (fun e => e.2.2))
  else if c.op = opBar then 0
  else c.count

/-- The chunks of `n` bytes (R334). -/
def Coll.chunks (c : Coll) (n : Nat) : Nat := max 1 (ceilDiv n c.chunk)

/-- The payload bytes of a move's chunk. -/
def Coll.len (c : Coll) (m : Move) : Nat := min c.chunk (c.total m.frm m.dst - m.chunk * c.chunk)

/-- The bytes that this member expects of its own block of ALL_TO_ALLV: its receive size from itself (R332). -/
def Coll.ownSize (c : Coll) : Nat := (c.sizes.getD c.self (0, 0)).2

/-- The LENGTH that the consumer of a move's chunk expects (R332, R340). -/
def Coll.landLen (c : Coll) (m : Move) : Nat :=
  if c.op = opA2av ∧ m.frm = c.self ∧ m.dst = c.self then min c.chunk (c.ownSize - m.chunk * c.chunk) else c.len m

/-- The collector of a chunk in a saltern ordinal (R334). -/
def Coll.collector (c : Coll) (seg k sord : Nat) : Nat :=
  if c.op = opAr ∨ c.op = opFused then c.p sord (k % c.n sord)
  else if c.op = opBar then c.p sord 0
  else
    let r := if c.op = opBc then c.root else seg
    if sord = (c.member r).sord then r else c.p sord ((c.member r).pos % c.n sord)

/-- The root of a chunk (R334); in ALL_GATHER the owner of the segment. -/
def Coll.rootOf (c : Coll) (seg k : Nat) : Nat :=
  if c.op = opAr ∨ c.op = opFused then c.collector seg k (k % c.salterns)
  else if c.op = opBar then c.p 0 0
  else if c.op = opBc then c.root else seg

/-- The chunks of a collective that are not blocks: segment and number, ascending. -/
def Coll.keys (c : Coll) : List (Nat × Nat) :=
  (if c.op = opRs ∨ c.op = opAg then List.range c.g else [0]).flatMap (fun seg =>
    (List.range (c.chunks (c.total c.self c.self))).map (fun k => (seg, k)))

/-- The moves of one chunk (R335). -/
def Coll.keyMoves (c : Coll) (seg k : Nat) : List Move :=
  let col := c.collector seg k
  let root := c.rootOf seg k
  let sord := fun i => (c.member i).sord
  let others := (List.range c.salterns).filter (fun x => decide (col x ≠ root))
  if isReduction c.op ∨ c.op = opBar then
    let bar := decide (c.op = opBar)
    (List.range c.g).map (fun i => ⟨1, i, col (sord i), if bar then 5 else 1, seg, k⟩) ++
    others.flatMap (fun x => [⟨2, col x, root, if bar then 5 else 2, seg, k⟩, ⟨2, root, col x, 3, seg, k⟩]) ++
    (if c.op = opRs then [seg] else List.range c.g).map (fun i => ⟨1, col (sord i), i, 3, seg, k⟩)
  else
    others.map (fun x => ⟨2, root, col x, 4, seg, k⟩) ++
    (List.range c.g).map (fun i => ⟨1, col (sord i), i, 4, seg, k⟩)

/-- The blocks from `i` to `j` of an all-to-all; of a member's own block as many chunks as the larger of its two sizes has (R332). -/
def Coll.blockMoves (c : Coll) (i j : Nat) : List Move :=
  let n := if c.op = opA2av ∧ i = c.self ∧ j = c.self then max (c.total i j) c.ownSize else c.total i j
  (List.range (c.chunks n)).map (fun k =>
    ⟨if (c.member i).sord = (c.member j).sord then 1 else 2, i, j, 4, j, k⟩)

/-- Every move that this member sends or receives, in ascending chunk and segment order (R341). -/
def Coll.moves (c : Coll) : List Move :=
  if c.op = opSend then []
  else if isA2a c.op then
    (List.range c.g).flatMap (fun i =>
      (if i = c.self then List.range c.g else [c.self]).flatMap (fun j => c.blockMoves i j))
  else (c.keys.flatMap (fun x => c.keyMoves x.1 x.2)).filter (fun m => decide (m.frm = c.self) || decide (m.dst = c.self))

def Coll.sends (c : Coll) : List Move := c.moves.filter (fun m => decide (m.frm = c.self))
def Coll.receives (c : Coll) : List Move := c.moves.filter (fun m => decide (m.dst = c.self) && decide (m.frm ≠ c.self))

/-! ### The workspace and chunk headers (R336 to R338) -/

/-- WS_NEED with n_s = `n` and S = `sal`. -/
def wsNeed (depth chunk n sal : Nat) : Nat := depth * (chunk + 64) * (n + sal + 2)

/-- The offset of slot (area, k) within WS_REGION. -/
def Coll.slot (c : Coll) (area k : Nat) : Nat := c.wsOff + (area * c.depth + k % c.depth) * (c.chunk + 64)

def Coll.ownN (c : Coll) : Nat := c.n c.me.sord
def Coll.accArea (c : Coll) : Nat := c.ownN + c.salterns
def Coll.stageArea (c : Coll) : Nat := c.ownN + c.salterns + 1

/-- The physical address of an offset in a local region. -/
def State.localAt (s : State) (region off : Nat) : Nat := (s.region region).base + off

/-- The fabric address of an offset in a region of a group member. -/
def Coll.remote (c : Coll) (i region off : Nat) : Nat := (c.member i).dev % 256 * 2 ^ 56 + region * 2 ^ 40 + off

/-- SHAPE (R338): the CRC-32C of the opcode, OP, CHUNK_LOG2, DEPTH, COUNT and G, and of the fusion table with SRC as
zero. -/
def shapeOf (d : Desc) (g : Nat) (table : Bytes) : Nat :=
  crc32c (leBytes 1 (descFld d 0 0 8) ++ leBytes 1 (descFld d 0 8 4) ++ leBytes 1 (descFld d 0 32 4) ++
    leBytes 1 (descFld d 0 36 4) ++ leBytes 8 (descFld d 8 0 40) ++ leBytes 4 g ++ table)

/-- The fusion table's bytes with every SRC field zero. -/
def State.fusionImage (s : State) (d : Desc) : Bytes :=
  if descFld d 0 0 8 ≠ opFused then []
  else (List.range (descFld d 0x48 0 9)).flatMap (fun i =>
    List.replicate 6 0 ++ (s.fetch (descFld d 0x40 0 48 + 32 * i) 32).drop 6)

/-- The first 28 bytes of a chunk header (R337). -/
def Coll.head28 (c : Coll) (m : Move) (rank : Nat) (empty poison : Bool) (len : Nat) : Bytes :=
  leBytes 8 (m.kind + b2n empty * 2 ^ 8 + b2n poison * 2 ^ 9 + c.tag * 2 ^ 16 + m.chunk * 2 ^ 32) ++
  leBytes 8 (rank + c.op * 2 ^ 24 + c.shape * 2 ^ 32) ++ leBytes 8 c.step ++ leBytes 4 len

/-- A chunk header (R337). -/
def Coll.header (c : Coll) (m : Move) (empty poison : Bool) (payload : Bytes) (piece pieces : Nat) : Bytes :=
  let h := c.head28 m c.me.rank empty poison payload.length
  h ++ leBytes 4 (crc32c (h ++ payload)) ++ leBytes 8 (piece + pieces * 2 ^ 16 + m.seg * 2 ^ 32) ++ List.replicate 24 0

def hdrKind (h : Bytes) : Nat := hfld h 0 1 0 8
def hdrEmpty (h : Bytes) : Bool := decide (hfld h 1 1 0 1 = 1)
def hdrPoison (h : Bytes) : Bool := decide (hfld h 1 1 1 1 = 1)
def hdrTag (h : Bytes) : Nat := hfld h 2 2 0 16
def hdrChunk (h : Bytes) : Nat := hfld h 4 4 0 32
def hdrRank (h : Bytes) : Nat := hfld h 8 3 0 24
def hdrOpcode (h : Bytes) : Nat := hfld h 11 1 0 8
def hdrShape (h : Bytes) : Nat := hfld h 12 4 0 32
def hdrStep (h : Bytes) : Nat := hfld h 16 8 0 64
def hdrLen (h : Bytes) : Nat := hfld h 24 4 0 32
def hdrCrc (h : Bytes) : Nat := hfld h 28 4 0 32
def hdrPiece (h : Bytes) : Nat := hfld h 32 2 0 16
def hdrPieces (h : Bytes) : Nat := hfld h 34 2 0 16
def hdrSeg (h : Bytes) : Nat := hfld h 36 3 0 24

/-- A header names a collective: TAG, OPCODE, SHAPE and STEP. -/
def Coll.names (c : Coll) (h : Bytes) : Bool :=
  decide (hdrTag h = c.tag) && decide (hdrOpcode h = c.op) && decide (hdrShape h = c.shape) && decide (hdrStep h = c.step)

/-! ### Acceptance (R330, R333) -/

/-- The input and result bytes of this member. -/
def collNeeds (d : Desc) (g self : Nat) (sizes : List (Nat × Nat)) : Nat × Nat :=
  let op := descFld d 0 0 8
  let n := descFld d 8 0 40
  if op = opA2a then (n * g, n * g)
  else if op = opA2av then ((sizes.map (·.1)).sum, (sizes.map (·.2)).sum)
  else if op = opRs then (n * g, n)
  else if op = opAg then (n, n * g)
  else if op = opBc then (if descFld d 0x38 0 24 = self then n else 0, n)
  else if op = opAr then (n, n)
  else if op = opSend then (n, 0)
  else (0, 0)

/-- A local range is illegal or a local region too small (R333). -/
def State.collAddr (s : State) (d : Desc) : Bool :=
  let op := descFld d 0 0 8
  let src := descFld d 0x18 0 48
  if op = opSend then !aligned src 64 || !s.inLpOrCore src (max 1 (descFld d 8 0 40))
  else
    let g := s.groupSize d
    let self := bits (leNat (s.fetch (descFld d 0x10 0 48 + 0x10) 4)) 0 17
    let ms := (s.groupEntries 0 d).map (fun e => e.1)
    let own := (ms.getD self ⟨0, 0, 0, 0⟩).sord
    let n := (ms.filter (fun m => decide (m.sord = own))).length
    let sal := leNat (s.fetch (descFld d 0x10 0 48 + 0xC) 4)
    let need := collNeeds d g self (if op = opA2av then s.sizeTable d g else [])
    let dOff := descFld d 0x20 16 40
    let wOff := descFld d 0x28 16 40
    let ws := wsNeed (descFld d 0 36 4) (4096 * 2 ^ descFld d 0 32 4) n sal
    !s.groupReadable d || !s.tableReadable d || !aligned src 64 || !s.inLpOrCore src (max 1 need.1) ||
    !aligned dOff 64 || !aligned wOff 64 ||
    (decide (need.2 ≠ 0) && decide ((s.region (descFld d 0x20 0 16)).size < dOff + need.2)) ||
    decide ((s.region (descFld d 0x28 0 16)).size < wOff + ws)

/-- QUEUE is not a TC2 queue, or an active collective uses it (R333); a SEND, whose QUEUE lies at its destination, uses none here. -/
def State.collQueueBusy (s : State) (d : Desc) : Bool :=
  let q := descFld d 0x30 0 12
  decide (s.fld Reg.QUE_CFG_TYPE (queueDelta q) ≠ 1) ||
    s.colls.any (fun c => c.active && decide (c.op ≠ opSend) && decide (c.queue = q))

/-- The checks of a collective command in the order of R333. -/
def State.collCode (s : State) (part : Nat) (d : Desc) : Option Nat :=
  let op := descFld d 0 0 8
  let zero := collZero d
  firstCode [
    (decide (op < 0x50) || decide (0x58 < op), 0x3401),
    (collNotZero d, 0x3402),
    (zero.isSome, zero.getD 0),
    (s.collRange d, 0x3404),
    (decide (op = opFused) && s.tableReadable d && s.fusionBad d, 0x340C),
    (decide (op ≠ opSend) && s.groupHeadReadable d && s.groupBad part d, 0x3405),
    (s.collAddr d, 0x3406),
    (s.collQueueBusy d, 0x340F),
    (decide (s.fld Reg.COL_CTRL_ENABLE = 0), 0x3407)]

/-- Change the collectives; COL_STATE shows how many are active. -/
def State.setColls (s : State) (l : List Coll) : State :=
  { s with colls := l }.setFld Reg.COL_STATE_ACTIVE 0 (l.filter (fun (c : Coll) => c.active)).length

def State.updColl (s : State) (seq : Nat) (f : Coll → Coll) : State :=
  s.setColls (s.colls.map (fun c => if c.seq = seq then f c else c))

def State.coll? (s : State) (seq : Nat) : Option Coll := s.colls.find? (fun c => decide (c.seq = seq))

/-- A sequencer's queue of 8 commands has room (R328). -/
def State.collRoom (s : State) (core : Nat) : Bool :=
  decide ((s.colls.filter (fun c => decide (c.core = core) && !c.active && !c.ended)).length < 8)

/-- Mark the current step of a partition void (R374, R347); the first code is kept. -/
def State.voidStep (s : State) (p code : Nat) : State :=
  if s.fld Reg.COL_PART_STATEp_VOID_CUR (8 * p) = 1 then s
  else (s.setFld Reg.COL_PART_STATEp_VOID_CUR (8 * p) 1).setFld Reg.COL_PART_STATEp_VOID_CODE (8 * p) code

/-- Mark the next step of a partition void (R347). -/
def State.voidNext (s : State) (p code : Nat) : State :=
  if s.fld Reg.COL_PART_STATEp_VOID_NEXT (8 * p) = 1 then s
  else { s.setFld Reg.COL_PART_STATEp_VOID_NEXT (8 * p) 1 with voidNextCode := s.voidNextCode.set (fun _ => 0) p code }

/-- The step counter of a partition (R370). -/
def State.partStep (s : State) (p : Nat) : Nat := (s.reg (Reg.SCH_PART_STEP + instDelta p)).toNat

/-- A STEP_VOID for a step takes effect at a partition; false: it is stale (R347). -/
def State.applyVoid (s : State) (p step code : Nat) : Bool × State :=
  if step = s.partStep p then (true, s.voidStep p code)
  else if step = s.partStep p + 1 then (true, s.voidNext p code)
  else (false, s)

/-- The watch range of a context: the first ERR it holds (R374). -/
def State.watchError (s : State) (ctx : Nat) : Nat :=
  let w := (s.reg (Reg.CTX_DESC2 + ctxDelta ctx)).toNat
  let base := bits w 8 14
  ((s.counters.filter (fun e => decide (base ≤ e.1) && decide (e.1 < base + bits w 22 15) && decide (e.2.err ≠ 0))).map
    (fun e => e.2.err)).headD 0

/-- A collective command reaches the engine with room for it (R328, R333, R374). -/
def State.collAccept (s : State) (core : Nat) (d : Desc) : State :=
  let ctx := s.coreContext core
  let part := s.ctxPartition ctx
  match s.collCode part d with
  | some c =>
    let s := if c = 0x3405 then s.stat Reg.FAB_STAT_RANK_REFUSED (s.groupRefused part d) else s
    (s.raise colSite c).complete (collCompletion d) c
  | none =>
    let op := descFld d 0 0 8
    let send := decide (op = opSend)
    let g := s.groupSize d
    let ms := if send then [] else (s.groupEntries part d).map (fun e => e.1)
    let err := if op = opBar ∧ bit (descWord d 0) 40 then s.watchError ctx else 0
    let s := if err = 0 then s else s.voidStep part err
    let c : Coll :=
      { seq := s.pumpSeq, core := core, context := ctx, part := part, desc := d, key := s.ctxKey ctx, epoch := s.ctxEpoch ctx,
        strict := s.ctxStrict ctx, step := s.partStep part, members := ms,
        self := if send then 0 else bits (leNat (s.fetch (descFld d 0x10 0 48 + 0x10) 4)) 0 17,
        salterns := if send then 0 else leNat (s.fetch (descFld d 0x10 0 48 + 0xC) 4),
        fusion := if op = opFused then (s.fusionEntries d).map (fun e => (e.1, e.2.1, e.2.2.1)) else [],
        sizes := if op = opA2av then s.sizeTable d g else [],
        ops := if op = opFused then (s.fusionEntries d).map (fun e => e.2.2.2.1) else [],
        shape := if send then 0 else shapeOf d g (s.fusionImage d),
        active := false, since := s.tb, moved := s.tb, vals := [], sent := [], owed := [], got := [], times := [], asm := [], code := 0, ended := false }
    { s with pumpSeq := s.pumpSeq + 1 }.setColls (s.colls ++ [c])

/-! ### STEP_VOID and early ends (R346 to R349) -/

/-- A control packet of this device (R297, R314). -/
def State.sendControl (s : State) (dest ctype : Nat) (body : Bytes) (sluice : Bool := false) : State :=
  let s := { s with nextReq := (s.nextReq + 1) % 2 ^ 24 }
  s.originate { typ := 0x30, dest := dest, src := s.selfDev, len := body.length, tag := s.selfDev + ctype * 2 ^ 24,
                reqId := (s.nextReq + 2 ^ 24 - 1) % 2 ^ 24, budget := s.fld Reg.FAB_MSG_CFG_DEFAULT_BUDGET, body := body }
    sluice

/-- STEP_VOID to every other member of the group, and the sender's own partition (R347). -/
def State.sendStepVoid (s : State) (c : Coll) (code : Nat) : State :=
  let own := (s.applyVoid c.part c.step code).2
  ((List.range c.g).filter (fun i => decide (i ≠ c.self))).foldl (fun s i =>
    let body := leBytes 8 c.step ++ leBytes 4 code ++ leBytes 4 c.me.rank ++ leBytes 4 (c.member i).rank ++
      List.replicate 44 0
    (s.stat Reg.COL_STAT_STEP_VOID_SENT 1).sendControl (c.member i).dev 1 body) own

/-- A collective ends early with a code (R348, R349): nothing more is sent or awaited. -/
def State.endColl (s : State) (c : Coll) (code : Nat) : State :=
  let s := { s with outstanding := s.outstanding.filter (fun r =>
    match r.owner with | .coll q _ => decide (q ≠ c.seq) | _ => true) }
  let s := s.updColl c.seq (fun x => { x with ended := true, code := firstNonzero x.code code })
  if c.op = opSend then s else s.sendStepVoid c code

/-! ### What a move carries (R331, R343 to R345, R352) -/

/-- The packed stream of the fusion table, and the first code of a poisoned entry. -/
def State.fuseStream (s : State) (c : Coll) : Bytes × Nat :=
  c.fusion.foldl (fun acc e =>
    let bs := s.fetch e.1 e.2.2
    (acc.1 ++ bs ++ List.replicate (64 * ceilDiv e.2.2 64 - e.2.2) 0, firstNonzero acc.2 (s.readCode e.1 e.2.2)))
    (([], 0) : Bytes × Nat)

/-- Where a move's own input lies (R335). -/
def Coll.srcAt (c : Coll) (m : Move) : Nat :=
  let base := c.src + m.chunk * c.chunk
  if c.op = opRs then base + m.seg * c.count
  else if c.op = opA2a then base + m.dst * c.count
  else if c.op = opA2av then base + ((c.sizes.take m.dst).map (·.1)).sum
  else base

/-- This member's own input for a move: the bytes and the code of a poisoned read. -/
def State.ownInput (s : State) (c : Coll) (m : Move) : Bytes × Nat :=
  let n := c.len m
  if c.op = opFused then
    let x := s.fuseStream c
    ((x.1.drop (m.chunk * c.chunk)).take n, x.2)
  else (s.fetch (c.srcAt m) n, s.readCode (c.srcAt m) n)

/-- Where this member's own input for a move lies: the entries whose part of the packed stream the move carries, or one
range. -/
def Coll.ownRanges (c : Coll) (m : Move) : List (Nat × Nat) :=
  let n := c.len m
  let o := m.chunk * c.chunk
  if c.op = opFused then
    ((List.range c.fusion.length).zip c.fusion).filterMap (fun x =>
      let p := streamLen ((c.fusion.take x.1).map (fun e => e.2.2))
      let lo := max o p
      let hi := min (o + n) (p + x.2.2.2)
      if lo < hi then some (x.2.1 + lo - p, hi - lo) else none)
  else [(c.srcAt m, n)]

/-- A value held for a chunk. -/
def Coll.val (c : Coll) (what : ValKind) (m : Move) : Option ChunkVal :=
  c.vals.find? (fun v => decide (v.what = what) && decide (v.seg = m.seg) && decide (v.chunk = m.chunk))

/-- The value that a move passes on, if it does not carry this member's own input (R335). -/
def Coll.passes (c : Coll) (m : Move) : Option ValKind :=
  if m.kind = 2 ∨ (m.kind = 5 ∧ m.level = 2) then some .partialOwn
  else if m.kind = 3 then some .result
  else if m.kind = 4 ∧ !isA2a c.op ∧ c.rootOf m.seg m.chunk ≠ c.self then some .data
  else none

/-- A move can be made: what it passes on is there. -/
def Coll.ready (c : Coll) (m : Move) : Bool :=
  match c.passes m with | none => true | some k => (c.val k m).isSome

/-- The bytes (none: EMPTY) and the poison of a move. -/
def State.carried (s : State) (c : Coll) (m : Move) : Option Bytes × Bool :=
  match c.passes m with
  | some k => match c.val k m with
    | some v => (v.data, v.poison)
    | none => (none, false)
  | none =>
    if m.kind = 5 then (some [], decide (s.fld Reg.COL_PART_STATEp_VOID_CUR (8 * c.part) = 1))
    else if c.empty then (none, false)
    else
      let x := s.ownInput c m
      (some x.1, decide (x.2 ≠ 0))

/-- The ranges of DST_REGION that a chunk's payload fills: region offset, offset in the payload, length (R335, R352). -/
def Coll.dstRanges (c : Coll) (m : Move) : List (Nat × Nat × Nat) :=
  let n := c.landLen m
  let o := m.chunk * c.chunk
  if c.op = opBar then []
  else if c.op = opFused then
    ((List.range c.fusion.length).zip c.fusion).filterMap (fun x =>
      let p := streamLen ((c.fusion.take x.1).map (fun e => e.2.2))
      let lo := max o p
      let hi := min (o + n) (p + x.2.2.2)
      if lo < hi then some (x.2.2.1 + lo - p, lo - o, hi - lo) else none)
  else
    let at_ := if c.op = opAg then m.seg * c.count
      else if c.op = opA2a then m.frm * c.count
      else if c.op = opA2av then ((c.sizes.take m.frm).map (·.2)).sum
      else 0
    if n = 0 then [] else [(c.dstOff + at_ + o, 0, n)]

/-- Bytes that this member writes into a region of its own, through that region's checks (R253): the first refusing code. -/
def State.writeOwn (s : State) (c : Coll) (region off : Nat) (bs : Bytes) (poison : Bool) : Nat × State :=
  (cuts off bs.length).foldl (fun acc q =>
    let p : Pkt := { typ := 1, len := q.2, dest := acc.2.selfDev, src := acc.2.selfDev, poison := poison,
                     addr := acc.2.selfMember * 2 ^ 56 + region * 2 ^ 40 + off + q.1, key := c.key, epoch := c.epoch,
                     strict := c.strict, body := (bs.drop q.1).take q.2 }
    let x := acc.2.performCore 0 .self p
    (firstNonzero acc.1 x.1, x.2.2)) ((0, s) : Nat × State)

/-- A payload goes to this member's own DST, through its region's checks (R253); poison is written as the poison word. -/
def State.fillDst (s : State) (c : Coll) (m : Move) (data : Option Bytes) (poison : Bool) : Nat × State :=
  let bs := (data.getD []) ++ List.replicate (c.landLen m - (data.getD []).length) 0
  (c.dstRanges m).foldl (fun acc r =>
    let x := acc.2.writeOwn c c.dstRegion r.1 ((bs.drop r.2.1).take r.2.2) poison
    (firstNonzero acc.1 x.1, x.2)) ((0, s) : Nat × State)

/-- A payload goes to this member's own DST; a refusal there ends the collective with its code. -/
def State.landDst (s : State) (c : Coll) (m : Move) (data : Option Bytes) (poison : Bool) : State :=
  let r := s.fillDst c m data poison
  if r.1 = 0 then r.2 else r.2.endColl c r.1

/-- Every line of a workspace slot becomes the poison word (R346). -/
def State.poisonSlot (s : State) (c : Coll) (area k : Nat) : State :=
  s.put (s.localAt c.wsRegion (c.slot area k)) (List.replicate (c.chunk + 64) 0) true

/-- What a move into this member fills: its own slot, or DST (R336, R346). A block of ALL_TO_ALLV passes through the slot
of its sender, whose size table does not give its place in DST. -/
def Coll.inSlot (c : Coll) (m : Move) : Option Nat :=
  if m.kind = 1 ∨ (m.kind = 5 ∧ m.level = 1) then some (c.member m.frm).pos
  else if m.level = 2 ∧ (m.kind = 2 ∨ m.kind = 3 ∨ m.kind = 5) then some (c.ownN + (c.member m.frm).sord)
  else none

/-- Poison what a move into this member fills (R346). -/
def State.poisonMove (s : State) (c : Coll) (m : Move) : State :=
  match c.inSlot m with
  | some a => s.poisonSlot c a m.chunk
  | none =>
    if m.level = 2 ∧ !isA2a c.op then s
    else (s.fillDst c m none true).2

/-! ### Reduction and the harvest (R342 to R344) -/

/-- The identity of an operation, as the bytes of one element (R344). -/
def identityElem (op : Nat) : Bytes :=
  leBytes (nmWidth op) (match op with
    | 2 => 0x7FFFFFFFFFFFFFFF | 3 => 0x8000000000000000 | 4 => 0xFFFFFFFFFFFFFFFF | 8 => 0xFFFFFFFFFFFFFFFF
    | 6 => 0x7F800000 | 7 => 0xFF800000 | _ => 0)

/-- `n` bytes of the identity. -/
def identityBytes (op n : Nat) : Bytes := (List.range (n / nmWidth op)).flatMap (fun _ => identityElem op)

/-- Two vectors combined element by element (R220, R342). -/
def combineBytes (op : Nat) (a b : Bytes) : Bytes :=
  let w := nmWidth op
  (List.range (a.length / w)).flatMap (fun i =>
    leBytes w (nmResult op (leNat ((a.drop (i * w)).take w)) (leNat ((b.drop (i * w)).take w)) 0))

/-- The operations of a chunk of `n` bytes, each with the bytes it reduces: the descriptor's, or in a packed stream those of the
entries that the chunk covers, their padding included (R352). -/
def Coll.spans (c : Coll) (k n : Nat) : List (Nat × Nat) :=
  if c.op ≠ opFused then [(c.redOp, n)]
  else (List.range c.fusion.length).filterMap (fun i =>
    let ls := c.fusion.map (fun e => e.2.2)
    let lo := max (k * c.chunk) (streamLen (ls.take i))
    let hi := min (k * c.chunk + n) (streamLen (ls.take (i + 1)))
    if lo < hi then some (c.ops.getD i 0, hi - lo) else none)

/-- Two payloads combined, each span of bytes under its own operation. -/
def combineSpans : List (Nat × Nat) → Bytes → Bytes → Bytes
  | [], _, _ => []
  | (op, n) :: t, a, b => combineBytes op (a.take n) (b.take n) ++ combineSpans t (a.drop n) (b.drop n)

/-- Fold the values that are not EMPTY, in the order of the list (R342). -/
def foldVals (spans : List (Nat × Nat)) (vs : List ChunkVal) : Option Bytes :=
  match vs.filterMap (fun v => v.data) with
  | [] => none
  | x :: xs => some (xs.foldl (combineSpans spans) x)

/-- A reduction that uses ADD_F32. -/
def Coll.addsF32 (c : Coll) : Bool :=
  isReduction c.op && (if c.op = opFused then c.ops.contains 1 else decide (c.redOp = 1))

/-- Contributions are combined in ascending POS, but as they pass in FAST mode with ADD_F32 (R342). -/
def Coll.inOrder (c : Coll) : Bool := c.strict || !c.addsF32

/-- The values of a kind held for a chunk, in the order of combination. -/
def Coll.valsOf (c : Coll) (what : ValKind) (seg k : Nat) (sorted : Bool) : List ChunkVal :=
  let vs := c.vals.filter (fun v => decide (v.what = what) && decide (v.seg = seg) && decide (v.chunk = k))
  if sorted then sortBy (fun a b => decide (a.idx < b.idx)) vs else vs

/-- A credit for a chunk goes back to its sender (R341). -/
def State.giveCredit (s : State) (c : Coll) (m : Move) : State :=
  let h := c.head28 m c.me.rank false false 0
  s.sendControl (c.member m.frm).dev 2
    (h ++ leBytes 4 0 ++ leBytes 8 ((if m.level = 2 then 1 else 0) * 2 ^ 16 + m.seg * 2 ^ 32) ++ List.replicate 24 0)

/-- Credits for the received moves of a chunk that match a test. -/
def State.giveCredits (s : State) (c : Coll) (seg k : Nat) (f : Move → Bool) : State :=
  (c.got.filter (fun m => decide (m.seg = seg) && decide (m.chunk = k) && f m)).foldl (fun s m => s.giveCredit c m) s

/-- A partial of a chunk with OP ADD_F32 formed in FAST mode is a hazard of the step (R410); of a packed stream a chunk that covers such
an entry (R352). -/
def State.collFast (s : State) (c : Coll) (spans : List (Nat × Nat)) : State :=
  if isReduction c.op ∧ spans.any (fun x => decide (x.1 = 1)) ∧ !c.strict then s.hazard c.context 2 else s

/-- Where the accumulator of a chunk lies (R336). -/
def State.accAt (s : State) (c : Coll) (k : Nat) : Nat := s.localAt c.wsRegion (c.slot c.accArea k + 64)

/-- A contribution passes in FAST mode with ADD_F32 (R342): the first is copied into the accumulator, a later one applied there by
near-memory REDUCEs; the first refusing code. -/
def State.passBy (s : State) (c : Coll) (m : Move) (bs : Bytes) : Nat × State :=
  if (c.valsOf .contribution m.seg m.chunk false).any (fun v => v.data.isSome && !v.poison) then
    let x := (c.spans m.chunk bs.length).foldl (fun (x : Nat × Nat × State) sp =>
      let r := x.2.2.reduceAt sp.1 (s.accAt c m.chunk + x.1) ((bs.drop x.1).take sp.2) false
      (x.1 + sp.2, firstNonzero x.2.1 r.1, r.2)) (0, 0, s)
    x.2
  else (0, s.put (s.accAt c m.chunk) bs)

/-- Note a value that arrived for a chunk. -/
def Coll.note (c : Coll) (v : ChunkVal) : Coll := { c with vals := c.vals ++ [v] }

/-- A contribution is there for its chunk (R342): where it is combined as it passes, a refusal of the near-memory unit ends the
collective with its code. -/
def State.contribute (s : State) (c : Coll) (m : Move) (pos : Nat) (data : Option Bytes) (bad : Bool) : State :=
  let bs := data.getD []
  let r := if c.inOrder || bad || bs.isEmpty then (0, s) else s.passBy c m bs
  let s := r.2.updColl c.seq (fun x => x.note ⟨.contribution, m.seg, m.chunk, pos, data, bad⟩)
  if r.1 = 0 then s else s.endColl c r.1

/-- The partial of one chunk that this member collects, if it can be formed now (R342). -/
def State.formPartial (s : State) (c : Coll) (seg k : Nat) : Option State :=
  let vs := c.valsOf .contribution seg k c.inOrder
  let m : Move := ⟨1, c.self, c.self, 1, seg, k⟩
  if c.collector seg k c.me.sord ≠ c.self ∨ (c.val .partialOwn m).isSome ∨ vs.length ≠ c.ownN then none
  else
    let poison := vs.any (fun v => v.poison) || (decide (c.op = opBar) && decide (c.code ≠ 0))
    let data := if c.op = opBar then some [] else foldVals (c.spans k (c.len m)) vs
    let acc : ChunkVal := ⟨.partialOwn, seg, k, c.me.sord, data, poison⟩
    let more := if c.rootOf seg k = c.self then [{ acc with what := .partialIn }] else []
    let s := match data with
      | some bs => if bs.isEmpty || (!c.inOrder && !poison) then s else s.put (s.accAt c k) bs poison
      | none => s
    let s := s.updColl c.seq (fun x => { x with vals := x.vals ++ acc :: more })
    let s := s.collFast c (c.spans k (c.len m))
    some (if c.inOrder then s.giveCredits c seg k (fun m => decide (m.level = 1) && (decide (m.kind = 1) || decide (m.kind = 5)))
      else s)

/-- The result of one chunk whose root this member is, if it can be formed now (R342 to R344). -/
def State.formResult (s : State) (c : Coll) (seg k : Nat) : Option State :=
  let vs := c.valsOf .partialIn seg k true
  let m : Move := ⟨1, c.self, c.self, 3, seg, k⟩
  if c.rootOf seg k ≠ c.self ∨ (c.val .result m).isSome ∨ vs.length ≠ c.salterns then none
  else
    let poison := vs.any (fun v => v.poison) || (decide (c.op = opBar) && decide (c.code ≠ 0))
    let spans := c.spans k (c.len ⟨1, c.self, c.self, 1, seg, k⟩)
    let data := if c.op = opBar then [] else (foldVals spans vs).getD (spans.flatMap (fun x => identityBytes x.1 x.2))
    let s := if data.isEmpty then s else s.put (s.accAt c k) data poison
    let s := s.updColl c.seq (fun x => { x with vals := x.vals ++ [⟨.result, seg, k, 0, some data, poison⟩] })
    let s := s.collFast c spans
    some (s.giveCredits c seg k (fun m => decide (m.level = 2) && (decide (m.kind = 2) || decide (m.kind = 5))))

/-- Form one partial or result, if any can be formed. -/
def State.formOne (s : State) (c : Coll) : Option State :=
  if !(isReduction c.op) && decide (c.op ≠ opBar) then none
  else c.keys.findSome? (fun x => match s.formPartial c x.1 x.2 with
    | some t => some t
    | none => s.formResult c x.1 x.2)

/-! ### Failing chunks (R346) -/

/-- What a received move is kept as. -/
def Coll.keptAs (c : Coll) (m : Move) : Option ValKind :=
  if m.kind = 1 ∨ (m.kind = 5 ∧ m.level = 1) then some .contribution
  else if m.kind = 2 ∨ (m.kind = 5 ∧ m.level = 2) then some .partialIn
  else if m.kind = 3 ∧ (m.level = 2 ∨ c.op = opBar) then some .result
  else if m.kind = 4 ∧ m.level = 2 ∧ !isA2a c.op then some .data
  else none

/-- The held values of a collective that a test selects are poisoned: what is formed of them carries POISON (R346). -/
def Coll.spoil (c : Coll) (f : ChunkVal → Bool) : Coll := { c with vals := c.vals.map (fun v => if f v then { v with poison := true } else v) }

/-- The value held for a move is that of a move's chunk and sender. -/
def Coll.holds (c : Coll) (m : Move) (v : ChunkVal) : Bool :=
  decide (c.keptAs m = some v.what) && decide (v.seg = m.seg) && decide (v.chunk = m.chunk) &&
  (!([ValKind.contribution, .partialIn].contains v.what) ||
    decide (v.idx = if m.level = 1 then (c.member m.frm).pos else (c.member m.frm).sord))

/-- A move into this member has failed with a code (R346): what it fills is poisoned, the code is noted and logged, a value held
for it is poisoned, and STEP_VOID goes out. -/
def State.failMove (s : State) (c : Coll) (m : Move) (code : Nat) : State :=
  let s := s.poisonMove c m
  let s := s.stat (if code = 0x3408 then Reg.COL_STAT_CRC_FAIL else Reg.COL_STAT_MISMATCH) 1
  let s := s.updColl c.seq (fun x => { x.spoil (c.holds m) with code := firstNonzero x.code code })
  (s.raise colSite code).sendStepVoid c code

/-! ### Making moves (R335, R339, R341) -/

/-- A level-1 request of a collective. -/
def State.collRequest (s : State) (c : Coll) (i : Nat) (addr : Nat) (bs : Bytes) (last : Bool) : State :=
  s.sendRequest (.coll c.seq i)
    { typ := 1, strict := c.strict, last := last, len := bs.length, dest := 0, src := 0, addr := addr, key := c.key,
      epoch := c.epoch, body := bs } 0

/-- A payload written at another member, in requests that cross no 4 KiB boundary. -/
def State.collWrite (s : State) (c : Coll) (i : Nat) (dst region off : Nat) (bs : Bytes) : State :=
  (cuts off bs.length).foldl (fun s q => s.collRequest c i (c.remote dst region (off + q.1)) ((bs.drop q.1).take q.2) false) s

/-- A TC2 message (R297); it is acknowledged like a request (R241, R353). -/
def State.sendMessage (s : State) (owner : Owner) (dest queue rank tag budget : Nat) (body : Bytes) : State :=
  let id := s.nextReq
  let s := { s with nextReq := (id + 1) % 2 ^ 24
                    outstanding := s.outstanding ++ [(⟨id, owner, 0x20, 0, body.length, s.tb⟩ : Sent)] }
  s.originate { typ := 0x20, dest := dest, src := s.selfDev, len := body.length, addr := queue, tag := rank + tag * 2 ^ 24,
                reqId := id, budget := budget, body := body }

/-- A chunk on level 1: payload first, header last (R339). -/
def State.sendLevel1 (s : State) (c : Coll) (i : Nat) (m : Move) (empty poison : Bool) (bs : Bytes) : State :=
  let slot := c.slot c.me.pos m.chunk
  let s := if bs.isEmpty then s
    else if m.kind = 1 ∨ c.op = opA2av then s.collWrite c i m.dst c.wsRegion (slot + 64) bs
    else (c.dstRanges m).foldl (fun s r => s.collWrite c i m.dst c.dstRegion r.1 ((bs.drop r.2.1).take r.2.2)) s
  s.collRequest c i (c.remote m.dst c.wsRegion slot) (c.header m empty poison bs 0 0) true

/-- A chunk on level 2: its pieces, one message each (R339). -/
def State.sendLevel2 (s : State) (c : Coll) (i : Nat) (m : Move) (empty poison : Bool) (bs : Bytes) : State :=
  let n := max 1 (ceilDiv bs.length 8192)
  (List.range n).foldl (fun s k =>
    s.sendMessage (.coll c.seq i) (c.member m.dst).dev c.queue c.me.rank c.tag c.budget
      (c.header m empty poison bs k n ++ (bs.drop (8192 * k)).take 8192)) s

/-- A local move (R253): a contribution or an arrival goes to this member's own slot, anything else to its DST; a block of ALL_TO_ALLV
whose two sizes differ fails the LENGTH check (R332, R340). -/
def State.moveSelf (s : State) (c : Coll) (m : Move) (data : Option Bytes) (poison : Bool) : State :=
  if m.kind = 1 ∨ m.kind = 5 then
    let slot := c.slot c.me.pos m.chunk
    let bs := if m.kind = 5 then [] else data.getD []
    let x := s.writeOwn c c.wsRegion (slot + 64) bs poison
    let y := x.2.writeOwn c c.wsRegion slot (c.header m data.isNone poison bs 0 0) false
    let code := firstNonzero x.1 y.1
    if code = 0 then y.2.contribute c m c.me.pos data poison else y.2.endColl c code
  else if c.len m ≠ c.landLen m then s.failMove c m 0x340E
  else s.landDst c m data poison

/-- The time of the latest event of a move (R348). -/
def Coll.stamp (c : Coll) (m : Move) (t : Nat) : Coll :=
  { c with times := (m, t) :: c.times.filter (fun x => decide (x.1 ≠ m)) }

/-- Make a move (R335). -/
def State.makeMove (s : State) (c : Coll) (m : Move) : State :=
  let x := s.carried c m
  let s := if (c.passes m).isNone ∧ m.kind ≠ 5 ∧ !c.empty then s.noteReads (c.ownRanges m) else s
  let i := c.sent.length
  let own := decide (m.dst = c.self)
  let s := s.updColl c.seq (fun x =>
    { x with sent := x.sent ++ [m], owed := if own then x.owed else x.owed ++ [m], moved := s.tb }.stamp m s.tb)
  let s := if x.1.isNone ∧ (c.passes m).isNone then s.stat Reg.COL_STAT_EMPTY 1 else s
  if own then s.moveSelf c m x.1 x.2
  else
    let bs := if m.kind = 5 ∨ c.op = opBar then [] else x.1.getD []
    let pieces := if m.level = 1 then 1 else max 1 (ceilDiv bs.length 8192)
    let s := s.stat Reg.COL_STAT_CHUNKS_SENT pieces
    if m.level = 1 then s.sendLevel1 c i m x.1.isNone x.2 bs else s.sendLevel2 c i m x.1.isNone x.2 bs

/-- A sender may send its next chunk to a receiver: fewer than DEPTH are outstanding and its slot is free (R341). -/
def Coll.credit (c : Coll) (m : Move) : Bool :=
  let mine := c.owed.filter (fun x => decide (x.level = m.level) && decide (x.dst = m.dst))
  decide (mine.length < c.depth) && !mine.any (fun x => decide (x.chunk % c.depth = m.chunk % c.depth))

/-- The next move that can be made: no earlier chunk of its kind to its receiver waits (R341). -/
def Coll.nextMove (c : Coll) : Option Move :=
  let left := c.sends.filter (fun m => !c.sent.contains m)
  left.find? (fun m =>
    c.ready m && (decide (m.dst = c.self) || c.credit m) &&
    (match left.find? (fun x => decide (x.level = m.level) && decide (x.dst = m.dst) && decide (x.kind = m.kind)) with
     | some x => decide (x = m)
     | none => true))

/-- Form and move until nothing more follows. -/
def State.runColl (seq : Nat) : Nat → State → State
  | 0, s => s
  | n + 1, s =>
    match s.coll? seq with
    | none => s
    | some c =>
      if !c.active || c.ended then s
      else match s.formOne c with
        | some t => t.runColl seq n
        | none => match c.nextMove with
          | some m => (s.makeMove c m).runColl seq n
          | none => s

/-- Enough rounds for every move and every value of a collective. -/
def State.advanceColl (s : State) (seq : Nat) : State :=
  match s.coll? seq with
  | none => s
  | some c => s.runColl seq (c.moves.length + 2 * c.keys.length + 1)

/-! ### Start (R328, R353) -/

/-- A SEND sends its message, or completes with the refusal of its rank or of its input's read (R353). -/
def State.startSend (s : State) (c : Coll) : State :=
  let t := s.translate c.part c.root
  let code := if t.1 ≠ 0 then t.1 else s.readCode c.src c.count
  match t.2 with
  | some dev =>
    let bs := s.fetch c.src c.count
    let s := s.noteFetch c.src c.count
    if code ≠ 0 then s.endColl c code
    else s.sendMessage (.coll c.seq 0) dev c.queue (s.selfRank c.part) c.tag c.budget bs
  | none => (s.stat Reg.FAB_STAT_RANK_REFUSED 1).endColl c code

/-- The head commands of the sequencers' queues that wait for an active entry. -/
def State.collHeads (s : State) : List Coll :=
  let waiting := s.colls.filter (fun c => !c.active && !c.ended)
  waiting.filter (fun c => !waiting.any (fun x => decide (x.core = c.core) && decide (x.seq < c.seq)))

/-- A queued collective command starts when an active entry is free, lowest core first (R328). -/
def State.startColl (s : State) : State :=
  if 64 ≤ (s.colls.filter (fun c => c.active)).length then s
  else match (sortBy (fun (a b : Coll) => decide (a.core < b.core)) s.collHeads).head? with
    | none => s
    | some c =>
      let s := s.updColl c.seq (fun x => { x with active := true, since := s.tb, moved := s.tb })
      if c.op = opSend then s.startSend c else s.advanceColl c.seq

/-! ### Arrivals (R339 to R346) -/

/-- A received chunk is consumed: kept, or brought to DST; its slot is freed (R339 to R346). `bytes` is the payload unless
the chunk is EMPTY; `placed`: the payload already lies in DST. -/
def State.consume (s : State) (c : Coll) (m : Move) (bytes : Option Bytes) (poison placed : Bool) (code : Nat) : State :=
  let s := s.stat Reg.COL_STAT_CHUNKS_RECV 1
  let s := s.updColl c.seq (fun x => { x with got := x.got ++ [m], moved := s.tb }.stamp m s.tb)
  let s := if code ≠ 0 then s.failMove c m code else s
  let bad := poison || decide (code ≠ 0)
  let pick := s.fresh
  let s := if poison ∧ code = 0 ∧ m.kind ≠ 5 ∧ c.op ≠ opBar then
      { pick.2.updColl c.seq (fun x => { x with
          code := firstNonzero x.code (if pick.1.getLsbD 0 then 0x3408 else 0x340E) }) with free := pick.2.free }
    else s
  let idx := if m.level = 1 then (c.member m.frm).pos else (c.member m.frm).sord
  let kept := c.keptAs m
  let bytes := if code = 0 then bytes else some (List.replicate (c.len m) 0)
  let s := match kept with
    | some .contribution => s.contribute c m idx bytes bad
    | some w => s.updColl c.seq (fun x => x.note ⟨w, m.seg, m.chunk, idx, bytes, bad⟩)
    | none =>
      if code ≠ 0 then s
      else if poison then s.landDst c m none true
      else if placed ∧ bytes.isSome then s
      else s.landDst c m bytes false
  let later := match kept with
    | some .contribution => c.inOrder
    | some .partialIn => true
    | _ => false
  let gone := ((s.coll? c.seq).map (fun x => x.ended)).getD true
  if gone then s else (if later then s else s.giveCredit c m).advanceColl c.seq

/-- The code of R340's checks of a chunk against the move it should be. -/
def Coll.chunkCode (c : Coll) (m : Move) (h payload : Bytes) (damaged : Bool) : Nat :=
  let want := if hdrEmpty h then 0 else c.len m
  if damaged || decide (crc32c (h.take 28 ++ payload) ≠ hdrCrc h) then 0x3408
  else if !c.names h || decide (hdrChunk h ≠ m.chunk) || decide (hdrLen h ≠ want) || decide (hdrRank h ≠ (c.member m.frm).rank) ||
    decide (hdrKind h ≠ m.kind) || decide (hdrSeg h ≠ m.seg) || decide (bits (hfld h 0 2 0 16) 10 6 ≠ 0) ||
    (h.drop 39).any (fun b => decide (b ≠ 0)) then 0x340E
  else 0

/-- A slot of an active workspace that a header offset names: the collective, the area, the slot. -/
def Coll.slotAt (c : Coll) (region off : Nat) : Option (Nat × Nat) :=
  if region ≠ c.wsRegion ∨ off < c.wsOff then none
  else
    let i := (off - c.wsOff) / (c.chunk + 64)
    if (off - c.wsOff) % (c.chunk + 64) = 0 ∧ i < c.depth * c.ownN then some (i / c.depth, i % c.depth) else none

/-- The collective and the slot that a reported header belongs to. -/
def State.headerHome (s : State) (a : Nat) : Option (Coll × Nat × Nat) :=
  s.colls.findSome? (fun c =>
    if c.active && !c.ended && decide (c.op ≠ opSend) then
      (match c.slotAt (a / 2 ^ 40) (a % 2 ^ 40) with | some x => some (c, x.1, x.2) | none => none)
    else none)

/-- The move that a level-1 header stands for: as it says, else the next one that this slot expects. -/
def Coll.level1Move (c : Coll) (h : Bytes) (pos k : Nat) : Option Move :=
  let frm := c.p c.me.sord pos
  let due := c.receives.filter (fun m => decide (m.level = 1) && decide (m.frm = frm) && !c.got.contains m)
  match due.find? (fun m => decide (m.kind = hdrKind h) && decide (m.seg = hdrSeg h) && decide (m.chunk = hdrChunk h) &&
      decide (m.chunk % c.depth = k)) with
  | some m => some m
  | none => due.find? (fun m => decide (m.chunk % c.depth = k))

/-- Where the payload of a level-1 chunk lies. -/
def State.level1Ranges (s : State) (c : Coll) (m : Move) (n pos k : Nat) : List (Nat × Nat) :=
  if m.kind = 1 ∨ c.op = opA2av then [(s.localAt c.wsRegion (c.slot pos k + 64), min n c.chunk)]
  else (c.dstRanges m).map (fun r => (s.localAt c.dstRegion r.1, r.2.2))

/-- The payload of a level-1 chunk where its sender put it, and whether it reads poisoned. -/
def State.level1Payload (s : State) (c : Coll) (m : Move) (n pos k : Nat) : Bytes × Bool :=
  if m.kind = 1 ∨ c.op = opA2av then
    let a := s.localAt c.wsRegion (c.slot pos k + 64)
    (s.fetch a (min n c.chunk), s.fetchPoisoned a (min n c.chunk))
  else
    let bs := (c.dstRanges m).foldl (fun (acc : Bytes × Bool) r =>
      let a := s.localAt c.dstRegion r.1
      (acc.1 ++ List.replicate (r.2.1 - acc.1.length) 0 ++ s.fetch a r.2.2, acc.2 || s.fetchPoisoned a r.2.2)) ([], false)
    (bs.1 ++ List.replicate (min n c.chunk - bs.1.length) 0, bs.2)

/-- A completed level-1 header is reported to the engine and its chunk checked and consumed (R339, R340). -/
def State.chunkArrive (s : State) : State :=
  match s.chunkHeaders.find? (fun x => (s.headerHome x.1).isSome) with
  | none => s
  | some x =>
    let s := { s with chunkHeaders := s.chunkHeaders.filter (fun y => decide (y.1 ≠ x.1)) }
    match s.headerHome x.1 with
    | none => s
    | some (c, pos, k) =>
      match c.level1Move x.2 pos k with
      | none =>
        let s := s.poisonSlot c pos k
        let s := ((s.stat Reg.COL_STAT_MISMATCH 1).raise colSite 0x340E).sendStepVoid c 0x340E
        s.updColl c.seq (fun y => { y.spoil (fun v => decide (v.what = .contribution) && decide (v.idx = pos) &&
          decide (v.chunk % c.depth = k)) with code := firstNonzero y.code 0x340E })
      | some m =>
        let n := if hdrEmpty x.2 then 0 else hdrLen x.2
        let pay := s.level1Payload c m n pos k
        let code := c.chunkCode m x.2 pay.1 pay.2
        let s := s.noteReads (s.level1Ranges c m n pos k)
        s.consume c m (if hdrEmpty x.2 then none else some pay.1) (hdrPoison x.2) (decide (c.op ≠ opA2av)) code

/-- Bytes that look like a chunk header: its KIND and OPCODE are those of a chunk (R337). -/
def chunkLike (h : Bytes) : Bool :=
  decide (1 ≤ hdrKind h) && decide (hdrKind h ≤ 5) && decide (0x50 ≤ hdrOpcode h) && decide (hdrOpcode h ≤ 0x57)

/-- A 64-byte WRITE to a slot of an active workspace is a completed header, whatever it holds; one that looks like a header may be
for a collective not yet active here. Each is kept for the engine, and a newer one replaces it (R339). -/
def State.noteHeader (s : State) (p : Pkt) : State :=
  let a := p.addr % 2 ^ 56
  if p.typ = 1 ∧ p.len = 64 ∧ ((s.headerHome a).isSome ∨ chunkLike p.body) then
    { s with chunkHeaders := s.chunkHeaders.filter (fun x => decide (x.1 ≠ a)) ++ [(a, p.body)] }
  else s

/-- The move that a level-2 piece belongs to. -/
def Coll.level2Move (c : Coll) (h : Bytes) : Option Move :=
  c.receives.find? (fun m => decide (m.level = 2) && decide ((c.member m.frm).rank = hdrRank h) && decide (m.kind = hdrKind h) &&
    decide (m.seg = hdrSeg h) && decide (m.chunk = hdrChunk h))

/-- The chunk whose place a piece that belongs to none takes: the next one due from the piece's sender. -/
def Coll.level2Due (c : Coll) (h : Bytes) : Option Move :=
  c.receives.find? (fun m => decide (m.level = 2) && decide ((c.member m.frm).rank = hdrRank h) && !c.got.contains m)

/-- A piece that belongs to no collective, or to no chunk that can be named: it is logged and STEP_VOID sent; it has no destination to
poison, so no collective takes its code (R340, R346). -/
def State.strayPiece (s : State) (c : Coll) : State :=
  ((s.stat Reg.COL_STAT_MISMATCH 1).raise colSite 0x340E).sendStepVoid c 0x340E

/-- A piece cannot be placed (R346): it fails what is known of its move. -/
def Coll.pieceBad (c : Coll) (m : Move) (first h payload : Bytes) (have_ : SMap Bytes) : Bool :=
  let want := if hdrEmpty h then 0 else c.len m
  let n := max 1 (ceilDiv want 8192)
  decide (hdrPieces h ≠ n) || decide (n ≤ hdrPiece h) || decide (payload.length ≠ min 8192 (want - 8192 * hdrPiece h)) ||
  (SMap.find? have_ (hdrPiece h)).isSome || decide (h.take 32 ≠ first.take 32)

/-- A piece of an active collective is assembled; the last one in has the chunk checked and consumed (R339). -/
def State.takePiece (s : State) (c : Coll) (h payload : Bytes) : State :=
  match c.level2Move h with
  | none =>
    match c.level2Due h with
    | none => s.strayPiece c
    | some m => s.consume c m none false false 0x340E
  | some m =>
    if c.got.contains m then s.failMove c m 0x340E
    else
      let a := (c.asm.find? (fun x => decide (x.move = m))).getD ⟨m, h, []⟩
      let drop := fun (y : Coll) => { y with asm := y.asm.filter (fun x => decide (x.move ≠ m)) }
      if c.pieceBad m a.header h payload a.pieces then
        let s := s.updColl c.seq drop
        match s.coll? c.seq with
        | some c => s.consume c m none true false 0x340E
        | none => s
      else
        let pieces := SMap.insert a.pieces (hdrPiece h) payload
        let stage := s.localAt c.wsRegion (c.slot c.stageArea m.chunk)
        let s := s.put stage h
        let s := if payload.isEmpty then s else s.put (stage + 64 + 8192 * hdrPiece h) payload
        if pieces.length < hdrPieces h then
          s.updColl c.seq (fun y => ({ drop y with asm := (drop y).asm ++ [⟨m, a.header, pieces⟩], moved := s.tb } : Coll).stamp m s.tb)
        else
          let bs := pieces.flatMap (fun x => x.2)
          let s := s.updColl c.seq drop
          let code := c.chunkCode m h bs false
          let s := match c.inSlot m with
            | some area => if code ≠ 0 then s else
                let at_ := s.localAt c.wsRegion (c.slot area m.chunk)
                let s := s.put at_ h
                if bs.isEmpty then s else s.put (at_ + 64) bs
            | none => s
          match s.coll? c.seq with
          | some c => s.consume c m (if hdrEmpty h then none else some bs) (hdrPoison h) false code
          | none => s

/-- The engine pops a piece of a queue that an active collective uses (R339, R340); a piece of another collective of this
device stays at the head. -/
def State.pieceArrive (s : State) (q : Nat) : State :=
  let users := s.colls.filter (fun c => c.active && !c.ended && decide (c.op ≠ opSend) && decide (c.queue = q))
  match users with
  | [] => s
  | first :: _ =>
    match s.takeHead q with
    | (none, t) => t
    | (some p, t) =>
      let h := p.payload.take 64
      match users.find? (fun c => c.names h) with
      | some c => t.takePiece c h (p.payload.drop 64)
      | none => if s.colls.any (fun x => !x.ended && x.names h) then s else t.strayPiece first

/-- A credit packet frees a slot at the sender (R341). -/
def State.creditArrive (s : State) (p : Pkt) : State :=
  let h := p.body.take 64
  match s.colls.find? (fun c => c.active && !c.ended && c.names h) with
  | none => s
  | some c =>
    let level := if hdrPieces h = 0 then 1 else 2
    let hit := fun (m : Move) => decide (m.level = level) && decide ((c.member m.dst).rank = hdrRank h) &&
      decide (m.kind = hdrKind h) && decide (m.seg = hdrSeg h) && decide (m.chunk = hdrChunk h)
    (s.updColl c.seq (fun x => { x with owed := x.owed.filter (fun m => !hit m), moved := s.tb })).advanceColl c.seq

/-- A STEP_VOID packet is taken by the engine (R347). -/
def State.stepVoidArrive (s : State) (p : Pkt) : State :=
  let w := fun i => leNat ((p.body.drop (8 * i)).take 8)
  let s := s.stat Reg.COL_STAT_STEP_VOID_RECV 1
  match (List.range 16).find? (fun q => decide (s.rankSize q ≠ 0) && decide (s.selfRank q = bits (w 2) 0 24)) with
  | none => s.stat Reg.COL_STAT_STEP_VOID_STALE 1
  | some q =>
    let r := s.applyVoid q (w 0) (bits (w 1) 0 16)
    if r.1 then r.2 else s.stat Reg.COL_STAT_STEP_VOID_STALE 1

/-! ### Acknowledgements and timeouts (R348, R349, R353) -/

/-- An acknowledgement resolves a request or message of a collective. -/
def State.resolveColl (s : State) (r : Sent) (code : Nat) : State :=
  let s := { s with outstanding := s.outstanding.filter (fun x => decide (x.id ≠ r.id)) }
  match r.owner with
  | .coll q _ =>
    if code = 0 then s
    else match s.coll? q with
      | none => s
      | some c => if c.ended then s else s.endColl c code
  | _ => s

/-- Every request and message of a collective has its acknowledgement. -/
def State.collQuiet (s : State) (seq : Nat) : Bool :=
  !s.outstanding.any (fun r => match r.owner with | .coll q _ => decide (q = seq) | _ => false)

/-- A collective has made its last move, or has ended early. -/
def State.collDone (s : State) (c : Coll) : Bool :=
  c.ended || (c.active && c.sends.all (fun m => c.sent.contains m) && c.receives.all (fun m => c.got.contains m) &&
    s.collQuiet c.seq)

/-- The latest event of the moves that a test selects; the start of the collective where there was none. -/
def Coll.lastOf (c : Coll) (f : Move → Bool) : Nat := ((c.times.filter (fun x => f x.1)).map (fun x => x.2)).foldl max c.since

/-- A move of an earlier chunk than another's. -/
def Move.earlier (x m : Move) : Bool := decide (x.seg < m.seg) || (decide (x.seg = m.seg) && decide (x.chunk < m.chunk))

/-- Since when a chunk, or the next piece of it, is waited for: once the earlier chunks of its level and kind are in, from the last
of them or the last piece (DEDUCED, log entry 123). -/
def Coll.chunkWait (c : Coll) (m : Move) : Option Nat :=
  let before := fun (x : Move) => decide (x.dst = c.self) && decide (x.level = m.level) && decide (x.kind = m.kind) && x.earlier m
  if c.got.contains m || !(c.receives.filter before).all (fun x => c.got.contains x) then none
  else some (c.lastOf (fun x => decide (x = m) || (before x && decide (x.frm ≠ c.self))))

/-- Since when a chunk that could be sent waits for a credit: from the last chunk sent to that receiver, or from the arrival of what
it passes on (DEDUCED, log entry 123). -/
def Coll.creditWait (c : Coll) (m : Move) : Option Nat :=
  if c.sent.contains m || decide (m.dst = c.self) || !c.ready m || c.credit m then none
  else some (c.lastOf (fun x => (decide (x.frm = c.self) && decide (x.level = m.level) && decide (x.dst = m.dst)) ||
    (decide (x.frm ≠ c.self) && decide (x.seg = m.seg) && decide (x.chunk = m.chunk))))

/-- A collective has waited for a chunk, a credit or a piece beyond `limit`. -/
def Coll.overdue (c : Coll) (limit now : Nat) : Bool :=
  c.active && !c.ended && decide (c.op ≠ opSend) &&
  (c.receives.filterMap c.chunkWait ++ c.sends.filterMap c.creditWait).any (fun t => decide (t + limit < now))

/-- The oldest collective that has waited longer than CHUNK_TIMEOUT ends: every range not yet filled becomes poison, and
STEP_VOID goes out (R348). -/
def State.collTimeout (s : State) : State :=
  let limit := s.fld Reg.COL_CTRL_CHUNK_TIMEOUT * 1000
  match s.colls.find? (fun c => c.overdue limit s.tb) with
  | none => s
  | some c =>
    let left := c.moves.filter (fun m => decide (m.dst = c.self) && (c.inSlot m).isNone && !c.got.contains m &&
      !(decide (m.frm = c.self) && c.sent.contains m) && !(decide (m.level = 2) && !isA2a c.op))
    let s := left.foldl (fun s m => (s.fillDst c m none true).2) s
    ((s.stat Reg.COL_STAT_TIMEOUTS 1).raise colSite 0x340A).endColl c 0x340A

/-! ### Teardown (R354) -/

/-- The collectives that a predicate selects end with a code; the running ones send STEP_VOID (R354, R479). -/
def State.collsStop (s : State) (sel : Coll → Bool) (code : Nat) : State :=
  (s.colls.filter (fun c => sel c && !c.ended)).foldl (fun s c =>
    let s := (if code = 0x340B then s.stat Reg.COL_STAT_CANCELLED 1 else s).raise colSite code
    let s := s.updColl c.seq (fun x => { x with code := code })
    if c.active then s.endColl c code else s.updColl c.seq (fun x => { x with ended := true })) s

/-- The collectives of a context end with 0x340B (R354). -/
def State.collsCancel (s : State) (ctx : Nat) : State := s.collsStop (fun c => decide (c.context = ctx)) 0x340B

end Sys2Proof.Machine
end

