-- ==== Sys2Proof/Machine/Seq.lean ====
section
/-! DEFINITION. The core sequencers: their registers and predicates, starting and stopping programs (R172 to R181). -/

namespace Sys2Proof.Machine

/-- A sequencer after reset. -/
def seqInit : Seq := ⟨[], 0, .none, none, 0, 0, 0, 0, 0, none⟩

/-- Sequencer `n`. -/
def State.seq (s : State) (n : Nat) : Seq := s.seqs.get (fun _ => seqInit) n

/-- Set a sequencer. -/
def State.setSeq (s : State) (n : Nat) (q : Seq) : State := { s with seqs := s.seqs.set (fun _ => seqInit) n q }

/-- The log site of sequencer `n`. -/
def seqSite (n : Nat) : Site := site 4 n

/-- The states of SEQ_STATE. -/
def seqIdle : Nat := 0
def seqRunning : Nat := 1
def seqWait : Nat := 2
def seqWaitt : Nat := 3
def seqStalled : Nat := 4
def seqLoad : Nat := 5
def seqFaulted : Nat := 6

/-- SEQ_STATE.STATE, CONTEXT and PC of sequencer `n`. -/
def State.seqPhase (s : State) (n : Nat) : Nat := s.fld Reg.SEQ_STATE_STATE (instDelta n)
def State.seqCtx (s : State) (n : Nat) : Nat := s.fld Reg.SEQ_STATE_CONTEXT (instDelta n)
def State.seqPc (s : State) (n : Nat) : Nat := s.fld Reg.SEQ_STATE_PC (instDelta n)
def State.setSeqPhase (s : State) (n v : Nat) : State := s.setFld Reg.SEQ_STATE_STATE (instDelta n) v
def State.setSeqPc (s : State) (n v : Nat) : State := s.setFld Reg.SEQ_STATE_PC (instDelta n) v

/-- A program runs on sequencer `n`. -/
def State.seqActive (s : State) (n : Nat) : Bool := decide (s.seqPhase n ≠ seqIdle) && decide (s.seqPhase n ≠ seqFaulted)

/-- SEQ_CTRL.RUN. -/
def State.seqRun (s : State) (n : Nat) : Bool := decide (s.fld Reg.SEQ_CTRL_RUN (instDelta n) = 1)

/-- SEQ_CTRL.WAIT_LIMIT in ns. -/
def State.waitLimit (s : State) (n : Nat) : Nat := s.fld Reg.SEQ_CTRL_WAIT_LIMIT (instDelta n) * 1000

/-- A scalar register; s0 reads zero (R177). -/
def Seq.reg (q : Seq) (r : Nat) : Word := if r = 0 then 0 else q.regs.get (fun _ => 0) r

/-- Write a scalar register; a write of s0 is discarded (R177). -/
def Seq.setReg (q : Seq) (r : Nat) (v : Word) : Seq := if r = 0 then q else { q with regs := q.regs.set (fun _ => 0) r v }

/-- A predicate; p0 reads true (R178). -/
def Seq.pred (q : Seq) (p : Nat) : Bool := if p = 0 then true else bit q.preds p

/-- Write a predicate; a write of p0 is discarded (R178). -/
def Seq.setPred (q : Seq) (p : Nat) (v : Bool) : Seq := if p = 0 then q else { q with preds := setBits q.preds p 1 (b2n v) }

/-- The instruction word at an index; unwritten words read zero (R179). -/
def State.imemWord (s : State) (n i : Nat) : Nat := s.imem.get (fun _ => 0) (n * 65536 + i)

/-- Store an instruction word (R179). -/
def State.setImem (s : State) (n i w : Nat) : State := { s with imem := s.imem.set (fun _ => 0) (n * 65536 + i) w }

/-- The cycles of a WAIT, WAITT or stalled ISSUE that ends are counted (R205). -/
def State.countHold (s : State) (n : Nat) : State :=
  match (s.seq n).hold with
  | .wait _ _ _ _ => s.freeStat (Reg.SEQ_STAT_WAIT_CYCLES + instDelta n)
  | .waitt _ => s.freeStat (Reg.SEQ_STAT_WAIT_CYCLES + instDelta n)
  | .issue _ _ _ => s.freeStat (Reg.SEQ_STAT_ISSUE_STALL + instDelta n)
  | _ => s

/-- A program that runs is stopped at an instruction boundary with a code (R175, R176): a load in flight and an ISSUE not
yet taken are dropped, and its step is void. -/
def State.stopProgram (s : State) (n code : Nat) : State :=
  if !s.seqActive n then s
  else
    let q := s.seq n
    let s := s.countHold n
    let torn := if code = 0x100E then some ⟨s.tb, s.seqPhase n, q.hold, q.refused⟩ else none
    let s := (s.setSeqPhase n seqIdle).setSeq n { q with hold := .none, refused := none, torn := torn }
    let s := s.raise (seqSite n) code
    let s := if code = 0x100D then s.stat (Reg.SEQ_STAT_OVERRUNS + instDelta n) 1 else s
    s.voidStep q.part code

/-- The slot that starts at `at_` starts a program on core `n` (R172 to R175): a program still running is stopped, and with
RUN = 0 none starts. -/
def State.startProgram (s : State) (n ctx part pc arg slot at_ : Nat) : State :=
  let s := s.stopProgram n 0x100D
  if !s.seqRun n then
    ((s.raise (seqSite n) 0x100F).stat (Reg.SEQ_STAT_NOT_RUN + instDelta n) 1).voidStep part 0x100F
  else
    let s := s.setSeq n { seqInit with arg := arg, entry := pc, slot := slot, part := part, slotStart := at_ }
    let s := s.setReg (Reg.SEQ_STATE + instDelta n) (BitVec.ofNat 64 (seqRunning + ctx * 2 ^ 16 + pc * 2 ^ 32))
    s.stat (Reg.SEQ_STAT_PROGRAMS + instDelta n) 1

end Sys2Proof.Machine
end

