-- ==== Sys2Proof/Machine/Context.lean ====
section
/-! DEFINITION. Contexts and their teardown (R361, R384 to R387), and the triggers of the escalation ladder (R475 to R478, R483). -/

namespace Sys2Proof.Machine

/-- The log site of a context's registers. -/
def ctxSite (c : Nat) : Site := site 15 (c / 32)
/-- The log site of partition `p`'s SCHED instance. -/
def schSite (p : Nat) : Site := site 14 p
/-- The log sites of RAS, the MC and the DET unit. -/
def rasSite : Site := site 21 0
def mgtSite : Site := site 19 0
def detSite : Site := site 22 0

/-- Change a context's state; CTX_STATE records the time (R361, R385). -/
def State.setCtxState (s : State) (c st : Nat) : State :=
  s.setReg (Reg.CTX_STATE + ctxDelta c) (BitVec.ofNat 64 (s.tb - s.tb % 4 + st))

/-- The fills that a predicate selects end with a code and write nothing further (R404, R479). -/
def State.fillsStop (s : State) (sel : Fill → Bool) (code : Nat) : State :=
  (s.fills.filter sel).foldl (fun s f => (s.raise detSite code).complete f.completion code)
    { s with fills := s.fills.filter (fun f => !sel f) }

/-- The programs of a context stop (R176). -/
def State.programsCancel (s : State) (c : Nat) : State :=
  (List.range 64).foldl (fun s n => if s.seqCtx n = c then s.stopProgram n 0x100E else s) s

/-- Every engine stops the commands of a context (R385). -/
def State.enginesCancel (s : State) (c : Nat) : State :=
  let s := (List.range 128).foldl (fun s m => s.matCancel m c) s
  let s := (List.range 64).foldl (fun s n => s.chainCancel n c) s
  (((s.routersCancel c).pumpsCancel c).collsCancel c).fillsStop (fun f => decide (f.ctx = c)) 0x580E

/-- A context that has been torn down. -/
def tornInit : Torn := ⟨0, false⟩

/-- When a context was torn down. -/
def State.tornOf (s : State) (c : Nat) : Torn := s.torn.get (fun _ => tornInit) c

/-- An ACTIVE context is torn down; in any other state nothing happens (R384, R385). -/
def State.teardown (s : State) (c : Nat) : State :=
  if s.ctxState c ≠ 1 then s
  else
    let s := { s with torn := s.torn.set (fun _ => tornInit) c ⟨s.tb, false⟩ }.setCtxState c 2
    ((s.advanceOwner c).queuesCancel c |>.programsCancel c).enginesCancel c

/-! ### The escalation ladder -/

/-- Set the running escalations; BUSY_LEVEL is the highest level among them. -/
def State.setEscs (s : State) (l : List Esc) : State :=
  { s with ras := { s.ras with escs := l } }.setFld Reg.RAS_STATE_BUSY_LEVEL 0 (l.foldl (fun (a : Nat) (e : Esc) => max a e.level) 0)

/-- The partition that has a core (R357). -/
def State.partOfCore (s : State) (n : Nat) : Option Nat :=
  (List.range 16).find? (fun p => decide (s.fld Reg.SCH_PART_STATE_STATE (instDelta p) ≠ 0) &&
    (s.reg (Reg.SCH_PART_CORES + instDelta p)).getLsbD n)

/-- The core of a per-core engine. -/
def engineCore (cls inst : Nat) : Option Nat :=
  match cls with | 2 => some (inst / 2) | 3 => some inst | 4 => some inst | _ => none

/-- The classes that hold engines (R477): arrays, chain engines, sequencers, routers, near-memory units, copy pumps, the
collective engine, the DET unit. -/
def engineClass (cls : Nat) : Bool := [2, 3, 4, 5, 7, 12, 13, 22].contains cls

/-- A running escalation is for a target or for anything that contains it (R478). -/
def State.escCovers (s : State) (e : Esc) (level cls inst : Nat) : Bool :=
  decide (level ≤ e.level) &&
  (decide (4 ≤ e.level) ||
   (decide (e.level = 3) && (match level with
      | 3 => decide (e.inst = inst)
      | 2 => (match engineCore cls inst with
        | some n => (s.reg (Reg.SCH_PART_CORES + instDelta e.inst)).getLsbD n
        | none => false)
      | _ => decide (s.ctxPartition inst = e.inst))) ||
   (decide (e.level = level) && decide (e.cls = cls) && decide (e.inst = inst)))

/-- RAS_CAPTURE (R476). -/
def State.capture (s : State) (code level die inst : Nat) : State :=
  s.setReg Reg.RAS_CAPTURE (BitVec.ofNat 64 (code + level * 2 ^ 16 + die * 2 ^ 20 + inst % 2 ^ 16 * 2 ^ 24))

/-- An escalation was triggered in this MGCLK cycle (R478). -/
def State.escNow (s : State) (e : Esc) : Bool := decide (mgclkCycle e.since = mgclkCycle s.tb)

/-- A trigger merges (R477, R478): an escalation covers it, a trigger of this MGCLK cycle has a higher level, or its context is in
TEARDOWN. -/
def State.merges (s : State) (level cls inst : Nat) : Bool :=
  s.ras.escs.any (fun e => s.escCovers e level cls inst || (s.escNow e && decide (level < e.level))) ||
  (decide (level = 1) && decide (s.ctxState inst = 2))

/-- A trigger (R476, R478): logged with its severity; merged, or captured and begun, taking over what it contains, and the triggers
of a lower level in its MGCLK cycle merge into it (log entry 162). The answer says whether it has begun. -/
def State.trigger (s : State) (level cls inst code die sev detail : Nat) : Bool × State :=
  let s := s.occur ⟨21, inst, die⟩ code sev detail
  if s.merges level cls inst then (false, s.stat Reg.RAS_STAT_MERGED 1)
  else
    let s := s.capture code level die inst
    let e : Esc := ⟨level, cls, inst, code, die, s.tb⟩
    let lower := fun (x : Esc) => s.escNow x && decide (x.level < level)
    let s := s.stat Reg.RAS_STAT_MERGED (s.ras.escs.filter lower).length
    (true, s.setEscs (s.ras.escs.filter (fun x => !(s.escCovers e x.level x.cls x.inst || lower x)) ++ [e]))

/-- The RAS block logs the code of a trigger that it has raised, under its own die and instance (R476; log entry 89). -/
def State.rasLogs (code : Nat) (s : State) : State := s.raise rasSite code

/-- An escalation ends. -/
def State.endEsc (s : State) (level cls inst : Nat) : State :=
  s.setEscs (s.ras.escs.filter (fun e => !(decide (e.level = level) && decide (e.cls = cls) && decide (e.inst = inst))))

/-- The escalations of a level end. -/
def State.endLevel (s : State) (level : Nat) : State := s.setEscs (s.ras.escs.filter (fun e => decide (e.level ≠ level)))

/-- A context-level trigger raised by a block (R476, R477): the context is torn down. A context in QUARANTINE or FREE is
captured, logged and counted only. -/
def State.escalateContext (s : State) (c code : Nat) (blk : Site) : State :=
  let r := s.trigger 1 15 c code 0 (if raisesAlert code then 2 else 1) (c + blk.cls * 2 ^ 16 + blk.instance_.inst * 2 ^ 22)
  if !r.1 then r.2
  else
    let s := r.2.stat Reg.RAS_STAT_CONTEXT 1
    if s.ctxState c = 1 then s.teardown c else s.endEsc 1 15 c

/-- Power-cycle level (R477, R484): what the trigger asks for is carried out by the MC. -/
def State.escalatePower (s : State) (code : Nat) (blk : Site) (detail : Nat := 0) : State :=
  (s.trigger 6 blk.cls blk.inst code blk.die 3 detail).2

/-- Fallow mode is entered from running (R461, R477, R486), or a power cycle is asked for where FALLOW_EN = 0. -/
def State.escalateFallow (s : State) (code : Nat) (blk : Site) : State :=
  if s.fld Reg.RAS_CTRL_FALLOW_EN = 1 then (s.trigger 5 blk.cls blk.inst code blk.die 3 0).2 else s.escalatePower code blk

/-- A chip-level reset has failed (R483): a second one, or fallow mode, whose warm boot RAS_CAPTURE shows with its own level code
(R475), or a power cycle. -/
def State.chipFailed (s : State) (code : Nat) (blk : Site) (detail : Nat := 0) : State :=
  let s := { s with ras := { s.ras with failDies := s.ras.failDies ++ [blk.die], runningAt := none } }
  let fails := min 2 (s.fld Reg.RAS_STATE_CHIP_FAILS + 1)
  let s := s.setFld Reg.RAS_STATE_CHIP_FAILS 0 fails
  if fails = 1 then (s.trigger 4 blk.cls blk.inst code blk.die 3 detail).2
  else if s.ras.failDies.all (fun d => decide (d = 0)) ∧ s.fld Reg.RAS_CTRL_FALLOW_EN = 1 then
    (s.setFld Reg.RAS_STATE_FALLOW 0 1).trigger 5 blk.cls blk.inst code blk.die 3 detail |>.2
  else s.escalatePower code blk detail

/-- The escalation for which the chip is reset: of chip level, or of fallow mode where R483 has decided on it. -/
def State.chipEsc (s : State) : Option Esc :=
  s.ras.escs.find? (fun e => decide (e.level = 4) || (decide (e.level = 5) && decide (s.fld Reg.RAS_STATE_FALLOW = 1)))

/-- The reset window of R483 is open: the warm boot reached RUNNING less than CHIP_WINDOW_S ago. -/
def State.inChipWindow (s : State) : Bool :=
  match s.ras.runningAt with
  | none => false
  | some t => decide (s.tb < t + s.fld Reg.RAS_CTRL_CHIP_WINDOW_S * 1000000000)

/-- A chip-level trigger (R477, R483). -/
def State.escalateChip (s : State) (code : Nat) (blk : Site) (detail : Nat := 0) : State :=
  if s.fld Reg.RAS_STATE_FALLOW = 1 then s.escalatePower code blk detail
  else if s.inChipWindow then s.chipFailed code blk detail
  else (s.trigger 4 blk.cls blk.inst code blk.die 3 detail).2

/-- Less than REPEAT_S since an earlier reset (R477, R478). -/
def State.repeated (s : State) (last : Option Nat) : Bool :=
  match last with
  | none => false
  | some t => decide (s.tb < t + s.fld Reg.RAS_CTRL_REPEAT_S * 1000000000)

/-- A partition-level trigger (R477). -/
def State.escalatePartition (s : State) (p code : Nat) (blk : Site) : State :=
  if s.repeated (SMap.find? s.ras.partResets p) then s.escalateChip 0x540C blk
  else (s.trigger 3 14 p code 0 3 0).2

/-- The level above an engine (R477): the partition of its core, or the chip for a shared engine. -/
def State.aboveEngine (s : State) (cls inst code : Nat) : State :=
  match engineCore cls inst with
  | none => s.escalateChip code (site cls inst)
  | some n => match s.partOfCore n with
    | some p => s.escalatePartition p code (site cls inst)
    | none => (s.trigger 2 cls inst code (dieOf cls inst) 3 0).2

/-- An engine-level trigger (R477). -/
def State.escalateEngine (s : State) (cls inst code : Nat) : State :=
  if s.repeated (SMap.find? s.ras.engineResets (cls * 1024 + inst)) then s.aboveEngine cls inst 0x5402
  else (s.trigger 2 cls inst code (dieOf cls inst) 3 0).2

/-! ### The end of a teardown (R386, R387) -/

/-- Every engine has completed every command of a context. -/
def State.ctxQuiet (s : State) (c : Nat) : Bool :=
  !s.colls.any (fun x => decide (x.context = c)) && !s.pumps.any (fun x => decide (x.context = c) && x.core.isSome && decide (x.cancelled = 0)) &&
  !(List.range 4).any (fun j => s.routerHolds j c)

/-- A torn-down context enters QUARANTINE (R386). -/
def State.quarantine (s : State) (c : Nat) : State :=
  if s.ctxState c = 2 ∧ s.ctxQuiet c then (s.setCtxState c 3).endEsc 1 15 c else s

/-- A teardown has not reached QUARANTINE after 20 µs (R386, R477): the engines that still hold its commands are reset. -/
def State.teardownSlow (s : State) (c : Nat) : State :=
  let t := s.tornOf c
  if s.ctxState c = 2 ∧ !t.slow ∧ t.at_ + 20000 < s.tb then
    let s := { s with torn := s.torn.set (fun _ => tornInit) c { t with slow := true } }.raise (ctxSite c) 0x3C06 c
    let s := if s.colls.any (fun x => decide (x.context = c)) then s.escalateEngine 13 0 0x3C06 else s
    let s := (List.range 4).foldl (fun s j => if s.routerHolds j c then s.escalateEngine 5 j 0x3C06 else s) s
    if s.pumps.any (fun x => decide (x.context = c) && x.core.isSome && decide (x.cancelled = 0)) then s.escalateEngine 12 0 0x3C06 else s
  else s

/-- A quarantined context becomes FREE (R387). -/
def State.ctxFree (s : State) (c : Nat) : State :=
  if s.ctxState c = 3 ∧ (s.tornOf c).at_ + 8388480 ≤ s.tb then
    { s with torn := s.torn.set (fun _ => tornInit) c tornInit }.setCtxState c 0
  else s

/-! ### A context's descriptor (R361, R362) -/

/-- The masks of the defined bits of CTX_DESC0 to 7. -/
def ctxMasks : List Nat :=
  [0xFFFFFFFF000000FF, maskOf 0 64, maskOf 0 37, 0, maskOf 0 64, maskOf 0 64, maskOf 0 64, maskOf 0 64]

/-- The staged descriptor of a context. -/
def State.ctxStaged (s : State) (c : Nat) : Desc := (List.range 8).map (fun i => s.stagedReg (Reg.CTX_DESC0 + ctxDelta c + 8 * i))

/-- The committed descriptor of a context; the STATE bits are not part of it. -/
def State.ctxDesc (s : State) (c : Nat) : Desc := (List.range 8).map (fun i => s.reg (Reg.CTX_DESC0 + ctxDelta c + 8 * i))

/-- A commit of a context descriptor (R361, R362). -/
def State.contextApply (s : State) (c : Nat) : Nat × State :=
  let d := s.ctxStaged c
  let st := s.ctxState c
  let illegal := decide (descFld d 0 0 2 ≠ 1) || !reservedClear d ctxMasks 8 || decide (16384 < descFld d 0x10 8 14 + descFld d 0x10 22 15)
  let old := s.ctxDesc c
  let fixed := fun (x : Desc) => (descFld x 0 2 5, descFld x 0 32 32, descWord x 1, (x.drop 4))
  let code := firstCode [
    (decide (2 ≤ st), 0x3C03),
    (illegal, 0x3C01),
    (decide (st = 1) && decide (fixed d ≠ fixed old), 0x3C02)]
  match code with
  | some k => (k, s.raise (ctxSite c) k c)
  | none =>
    let s := (List.range 8).foldl (fun s i => s.setReg (Reg.CTX_DESC0 + ctxDelta c + 8 * i) (d.getD i 0)) s
    (0, if st = 1 then s else s.setCtxState c 1)

/-- A write of CTX_TEARDOWN with its bit set (R384): the refusing code, if any. -/
def State.teardownWrite (s : State) (c : Nat) : Nat × State :=
  if s.ctxState c = 0 then (0x3C05, s) else (0, s.teardown c)

end Sys2Proof.Machine
end

