-- ==== Sys2Proof/Machine/Det.lean ====
section
/-! DEFINITION. Keyed randomness, the record log and replay (R399 to R413). -/

namespace Sys2Proof.Machine

/-! ### ChaCha20 (RFC 8439, R400) -/

/-- Word `i` of a ChaCha state. -/
def chaGet (x : List (BitVec 32)) (i : Nat) : BitVec 32 := x.getD i 0

/-- The quarter round on four words of a state. -/
def chaQuarter (x : List (BitVec 32)) (a b c d : Nat) : List (BitVec 32) :=
  let half := fun (x : List (BitVec 32)) (r1 r2 : Nat) =>
    let x := x.set a (chaGet x a + chaGet x b)
    let x := x.set d ((chaGet x d ^^^ chaGet x a).rotateLeft r1)
    let x := x.set c (chaGet x c + chaGet x d)
    x.set b ((chaGet x b ^^^ chaGet x c).rotateLeft r2)
  half (half x 16 12) 8 7

/-- A column round and a diagonal round. -/
def chaDouble (x : List (BitVec 32)) : List (BitVec 32) :=
  let x := chaQuarter x 0 4 8 12
  let x := chaQuarter x 1 5 9 13
  let x := chaQuarter x 2 6 10 14
  let x := chaQuarter x 3 7 11 15
  let x := chaQuarter x 0 5 10 15
  let x := chaQuarter x 1 6 11 12
  let x := chaQuarter x 2 7 8 13
  chaQuarter x 3 4 9 14

/-- The ChaCha20 block function over a state of 16 words, serialised little-endian. -/
def chaBlock (x : List (BitVec 32)) : Bytes :=
  let y := (List.range 10).foldl (fun y _ => chaDouble y) x
  ((List.range 16).map (fun i => leBytes 4 (chaGet x i + chaGet y i).toNat)).flatten

/-- Block `e` of stage `g` for context `c` at step `st` under a 32-byte seed (R400). -/
def keystream (seed : Bytes) (c g st e : Nat) : Bytes :=
  let w := fun (n : Nat) => BitVec.ofNat 32 n
  chaBlock ([0x61707865, 0x3320646e, 0x79622d32, 0x6b206574] ++
    (List.range 8).map (fun i => w (leNat ((seed.drop (4 * i)).take 4))) ++ [w e, w c, w g, w st])

/-! ### Fills (R402 to R404) -/

/-- The SEED of a context (R361). -/
def State.ctxSeed (s : State) (c : Nat) : Bytes :=
  ((List.range 4).map (fun i => leBytes 8 (s.reg (Reg.CTX_DESC4 + ctxDelta c + 8 * i)).toNat)).flatten

/-- The defined bits of a fill descriptor. -/
def fillMasks : List Nat :=
  [0xFFFFFFFF000001FF, maskOf 0 14, maskOf 0 64, maskOf 0 32, maskOf 0 33, maskOf 0 48, maskOf 0 14]

/-- A range of a fill lies in the general area or in enabled core store. -/
def State.fillSpace (s : State) (a n : Nat) : Bool := s.inEnabledSpace a n

/-- Memory holds the 64 bytes at an address: LPDDR6, a store of the core die or a router store. -/
def State.descriptorHeld (s : State) (a : Nat) : Bool :=
  [a, a + 63].all (fun x => decide (s.physCode x = 0) && (match physArea x with | .csrWindow _ => false | _ => true))

/-- The acceptance checks of a fill written by a sequencer's core, or by the MC, with its descriptor at `addr` (R403). -/
def State.fillCode (s : State) (core : Option Nat) (addr : Nat) (d : Desc) : Option Nat :=
  let c := descFld d 8 0 14
  let first := descFld d 0x18 0 32
  let blocks := descFld d 0x20 0 33
  let dest := descFld d 0x28 0 48
  firstCode [
    (decide (descFld d 0 0 8 ≠ 0x60) || !reservedClear d fillMasks 8 || (!bit (descWord d 0) 8 && decide (descWord d 2 ≠ 0)), 0x5801),
    (decide (2 ^ 32 < first + blocks), 0x5804),
    (!aligned addr 64 || !s.fillSpace addr 64 || !aligned dest 64 || !s.fillSpace dest (64 * blocks), 0x5802),
    (decide (s.ctxState c ≠ 1) || (match core with | some n => decide (s.coreContext n ≠ c) | none => false), 0x5803),
    (decide (s.fld Reg.DET_CTRL_RNG_EN = 0), 0x580D)]

/-- A write of DET_RNG_FILL (R402, R403): the code that refuses the write, 0 for none. A descriptor that no memory holds has no COMPLETION
and is logged alone; one that cannot be read refuses the write with the code of the read (DESIGN CHOICE, log entry 153). -/
def State.detFill (s : State) (core : Option Nat) (addr : Nat) : Nat × State :=
  if 64 ≤ s.fills.length then (0x580C, s)
  else if !s.descriptorHeld addr then (0, s.raise detSite 0x5802)
  else if s.readCode addr 64 ≠ 0 then (s.readCode addr 64, s.noteFetch addr 64)
  else
    let d := bytesToDesc 8 (s.fetch addr 64)
    let s := s.noteFetch addr 64
    let cnt := descFld d 0x30 0 14
    match s.fillCode core addr d with
    | some k => (0, (s.raise detSite k).complete cnt k)
    | none =>
      let c := descFld d 8 0 14
      let f : Fill :=
        { ctx := c, stage := descFld d 0 32 32,
          step := if bit (descWord d 0) 8 then descWord d 2 else s.partStep (s.ctxPartition c),
          first := descFld d 0x18 0 32, blocks := descFld d 0x20 0 33, dest := descFld d 0x28 0 48, completion := cnt, since := s.tb }
      (0, { s with fills := s.fills ++ [f] })

/-- The first of the waiting fills comes to the front: its progress is watched from now on (R474). -/
def Fill.toFront (now : Nat) : List Fill → List Fill
  | [] => []
  | f :: rest => { f with since := now } :: rest

/-- The oldest fill writes its blocks and completes (R404). -/
def State.fillComplete (s : State) : State :=
  match s.fills with
  | [] => s
  | f :: rest =>
    let seed := s.ctxSeed f.ctx
    let s := (List.range f.blocks).foldl (fun s j =>
      s.put (f.dest + 64 * j) (keystream seed f.ctx f.stage f.step (f.first + j))) { s with fills := Fill.toFront s.tb rest }
    (s.stat Reg.DET_STAT_FILL_BLOCKS f.blocks).complete f.completion 0

/-! ### The record log (R406 to R410) -/

/-- The part's DET_CLASS (R399). -/
def State.detClass (s : State) : Nat := s.fuses.stepping % 256 + 0x0100 + 0x010000

/-- The types of records (R408). -/
def recStart : Nat := 1
def recTake : Nat := 2
def recPop : Nat := 3
def recStepEnd : Nat := 4

/-- A partition is recorded (R407). -/
def State.recorded (s : State) (p : Nat) : Bool :=
  bit (s.fld Reg.DET_CTRL_LOG_PARTS) p && decide (s.fld Reg.DET_LOG_SIZE_SIZE ≠ 0) && s.coreOn

/-- ROLLBACKS of a partition (R351). -/
def State.rollbacks (s : State) (p : Nat) : Nat := s.fld Reg.COL_PART_STATEp_ROLLBACKS (8 * p)

/-- A record: header, payload, zero padding to a multiple of 32 bytes (R408). -/
def recordBytes (typ part run entry step time source ordinal : Nat) (payload : Bytes) : Bytes :=
  let head := leBytes 2 (typ + part * 256 + run * 4096) ++ leBytes 2 entry ++ leBytes 4 payload.length ++ leBytes 8 step ++
    leBytes 8 time ++ leBytes 2 source ++ leBytes 2 ordinal
  let n := payload.length
  head ++ leBytes 4 (crc32c (head ++ payload)) ++ payload ++ List.replicate ((32 - n % 32) % 32) 0

/-- The bytes the log has room for; an illegal tail count is logged once and leaves none (R406). One that cannot be read is none that is
legal (DESIGN CHOICE, log entry 153). -/
def State.logRoom (s : State) : Nat × State :=
  let head := s.fld Reg.DET_LOG_HEAD_HEAD
  let size := s.fld Reg.DET_LOG_SIZE_SIZE
  let at_ := s.fld Reg.DET_LOG_TAIL_ADDR_TAIL_ADDR
  let tail := s.fetchNat at_ 8
  let bad := decide (s.readCode at_ 8 ≠ 0)
  let s := s.noteReads [(at_, 8)]
  if bad ∨ head < tail ∨ tail + size < head then
    (0, if s.detTailBad then s else { s.raise detSite 0x5809 with detTailBad := true })
  else (size - (head - tail), { s with detTail := tail, detTailBad := false })

/-- Write a record at the head of the log, 32 bytes at a time. -/
def State.putRecord (s : State) (bs : Bytes) : State :=
  let base := s.fld Reg.DET_LOG_BASE_BASE
  let size := s.fld Reg.DET_LOG_SIZE_SIZE
  let head := s.fld Reg.DET_LOG_HEAD_HEAD
  let s := (List.range (bs.length / 32)).foldl (fun s i =>
    s.put (base + (head + 32 * i) % size) ((bs.drop (32 * i)).take 32)) s
  (s.setFld Reg.DET_LOG_HEAD_HEAD 0 (head + bs.length)).stat Reg.DET_STAT_RECORDS 1

/-- The buffered records go to the log while it has room (R407). -/
def State.flushRecords : List Bytes → State → State
  | [], s => { s with detBuffer := [] }
  | b :: rest, s =>
    let r := s.logRoom
    if b.length ≤ r.1 then (r.2.putRecord b).flushRecords rest else { r.2 with detBuffer := b :: rest }

/-- A record of a recorded partition is written, buffered, or lost (R407). -/
def State.record (s : State) (p typ entry source ordinal : Nat) (payload : Bytes) : State :=
  if !s.recorded p then s
  else
    let bs := recordBytes typ p (s.rollbacks p) entry (s.partStep p) s.tb source ordinal payload
    let s := s.flushRecords s.detBuffer
    let r := s.logRoom
    if s.detBuffer.isEmpty ∧ bs.length ≤ r.1 then r.2.putRecord bs
    else
      let s := r.2
      if (s.detBuffer.map List.length).sum + bs.length ≤ 1048576 then { s with detBuffer := s.detBuffer ++ [bs] }
      else
        let x := s.part p
        let s := if x.lostLogged then s else s.raise detSite 0x5808 p
        (s.stat Reg.DET_STAT_LOST 1).setPart p { s.part p with lost := true, lostLogged := true }

/-- The START record of a partition that enters RUNNING (R409). -/
def State.recordStart (s : State) (p job : Nat) : State :=
  s.record p recStart 0 0 0 (leBytes 8 job ++ leBytes 8 (s.reg (Reg.SCH_PART_T0 + instDelta p)).toNat ++ leBytes 8 (s.partStep p) ++
    leBytes 8 s.detClass ++ leBytes 8 (s.reg Reg.DET_IMAGE_ID).toNat ++ List.replicate 24 0)

/-- The STEP_END record of a step (R409, R410). LOG_LOST stays for the next one where this one is itself lost, or where none is made
(R407). -/
def State.recordStepEnd (s : State) (p outcome code : Nat) : State :=
  let x := s.part p
  let hz := x.hazard + (if x.lost then 8 else 0)
  let s := s.setPart p { x with lost := x.lost && !s.recorded p }
  let s := s.record p recStepEnd 0 0 0 (leBytes 1 outcome ++ leBytes 1 hz ++ leBytes 2 code ++ List.replicate 12 0)
  let y := s.part p
  s.setPart p { y with hazard := 0, lostLogged := false, pops := [] }

/-- A commit of the record log group (R406). Records that still wait in the writer's buffer go to the new log (DEDUCED, log
entry 127). -/
def State.logApply (s : State) : Nat × State :=
  let base := s.stagedFld Reg.DET_LOG_BASE_BASE
  let size := s.stagedFld Reg.DET_LOG_SIZE_SIZE
  let tail := s.stagedFld Reg.DET_LOG_TAIL_ADDR_TAIL_ADDR
  if !aligned base 4096 || !aligned size 4096 || decide (2 ^ 39 < size) || !inLpddr base size || !aligned tail 8 || !s.fillSpace tail 8 then
    (0x5809, s.raise detSite 0x5809)
  else
    let s := ((s.applyStaged Reg.DET_LOG_BASE).applyStaged Reg.DET_LOG_SIZE).applyStaged Reg.DET_LOG_TAIL_ADDR
    let s := { s.setFld Reg.DET_LOG_HEAD_HEAD 0 0 with detTail := 0, detTailBad := false }
    (0, s.put tail (leBytes 8 0))

/-! ### Replay (R411 to R413) -/

/-- A record of a log image. -/
structure LogRecord where
  typ : Nat
  part : Nat
  run : Nat
  entry : Nat
  step : Nat
  source : Nat
  ordinal : Nat
  good : Bool
  payload : Bytes
  addr : Nat
deriving DecidableEq, Repr

/-- The records of a log image of `n` bytes at an address; the last one is bad where its LENGTH leaves the image. A record whose lines
cannot be read fails its CRC (R214; DESIGN CHOICE, log entry 153). -/
def State.imageRecords (s : State) : Nat → Nat → Nat → List LogRecord
  | 0, _, _ => []
  | fuel + 1, a, n =>
    if n < 32 then []
    else
      let h := s.fetch a 32
      let f := fun off k => leNat ((h.drop off).take k)
      let len := f 4 4
      let total := 32 + ceilDiv len 32 * 32
      let fits := decide (total ≤ n)
      let payload := if fits then s.fetch (a + 32) len else []
      let w := f 0 2
      let r : LogRecord :=
        { typ := bits w 0 8, part := bits w 8 4, run := bits w 12 4, entry := f 2 2, step := f 8 8, source := f 0x18 2,
          ordinal := f 0x1A 2, good := fits && decide (f 0x1C 4 = crc32c (h.take 28 ++ payload)) && decide (s.readCode a (32 + len) = 0),
          payload := payload, addr := a }
      r :: (if fits then s.imageRecords fuel (a + total) (n - total) else [])

/-- The active replay image's records. -/
def State.replayRecords (s : State) : List LogRecord :=
  let n := s.fld Reg.DET_REPLAY_SIZE_SIZE
  s.imageRecords (n / 32) (s.fld Reg.DET_REPLAY_BASE_BASE) n

/-- A partition is replayed (R412). -/
def State.replayed (s : State) (p : Nat) : Bool :=
  bit (s.fld Reg.DET_REPLAY_PARTS_PARTS) p && decide (s.fld Reg.DET_REPLAY_SIZE_SIZE ≠ 0) && s.coreOn

/-- A commit of the replay group (R411). -/
def State.replayApply (s : State) : Nat × State :=
  let base := s.stagedFld Reg.DET_REPLAY_BASE_BASE
  let size := s.stagedFld Reg.DET_REPLAY_SIZE_SIZE
  let parts := s.stagedFld Reg.DET_REPLAY_PARTS_PARTS
  let busy := (setBitsOf parts 16).any (fun p => decide (2 ≤ s.fld Reg.SCH_PART_STATE_STATE (instDelta p)))
  let bad := !aligned base 32 || !aligned size 32 || !inLpddr base size ||
    rangesOverlap base size (s.fld Reg.DET_LOG_BASE_BASE) (s.fld Reg.DET_LOG_SIZE_SIZE) || busy ||
    decide (parts &&& s.fld Reg.DET_CTRL_LOG_PARTS ≠ 0)
  let rs := s.imageRecords (size / 32) base size
  let startBad := fun (r : LogRecord) => decide (r.typ = recStart) && bit parts r.part &&
    (decide (leNat ((r.payload.drop 24).take 8) ≠ s.detClass) ||
     decide (leNat ((r.payload.drop 32).take 8) ≠ (s.reg Reg.DET_IMAGE_ID).toNat))
  if bad then (0x5809, s.raise detSite 0x5809)
  else
  let s := s.noteReads [(base, size)]
  if rs.any (fun r => !r.good || startBad r) then (0x580A, s.raise detSite 0x580A)
  else (0, ((s.applyStaged Reg.DET_REPLAY_BASE).applyStaged Reg.DET_REPLAY_SIZE).applyStaged Reg.DET_REPLAY_PARTS)

/-- The record that replays an input of a step (R412, R413): that of the highest RUN among the runs whose STEP_END has
OUTCOME 0, or among all runs where no STEP_END of the step has. -/
def State.replayRecord (s : State) (p typ step entry source ordinal : Nat) : Option LogRecord :=
  let mine := s.replayRecords.filter (fun r => r.good && decide (r.part = p) && decide (r.step = step))
  let good := (mine.filter (fun r => decide (r.typ = recStepEnd) && decide (r.payload.headD 1 = 0))).map (·.run)
  let runs := if good.isEmpty then mine.map (·.run) else good
  let run := runs.foldl max 0
  mine.find? (fun r => decide (r.typ = typ) && decide (r.run = run) && decide (r.entry = entry) && decide (r.source = source) &&
    decide (r.ordinal = ordinal))

/-- A replayed input is counted, and the record it uses is read (R412, R413). -/
def State.replayCount (s : State) (r : Option LogRecord) : State :=
  match r with
  | none => s.stat Reg.DET_STAT_REPLAY_MISS 1
  | some x => (s.noteReads [(x.addr, 32 + x.payload.length)]).stat Reg.DET_STAT_REPLAY_HITS 1

/-! ### QUE_POP under recording and replay (R409, R412, R413) -/

/-- The record of a pop that met a framing word of bad parity, which writes nothing (R242, R245, R409; DESIGN CHOICE, log entry 154). -/
def framingRecord : Bytes := popRecord 0 0 0 0 0xFFFFFFFF 0x2409

/-- A replayed POP of queue `q` writes the recorded pop record and bytes, or the zero shape (R412, R413); one recorded with 0x2409 wrote
nothing and writes nothing. -/
def State.popReplay (s : State) (q v : Nat) (r : Option LogRecord) : Nat × State :=
  let dest := bits v 0 48
  let cnt := bits v 48 14
  let bad := s.popDest dest (64 + ((r.map (fun x => x.payload.length - 64)).getD 0))
  if bad ≠ 0 then (bad, s.raise (queueSite q) bad)
  else
    let s := s.replayCount r
    match r with
    | none => (0, ((s.put dest (List.replicate 64 0)).raise detSite 0x580B).complete cnt 0x580B)
    | some x =>
      let code := leNat ((x.payload.drop 0x18).take 2)
      let s := if code = 0x2409 then s else (s.put (dest + 64) (x.payload.drop 64)).put dest (x.payload.take 64)
      (0, s.complete cnt code)

/-- QUE_POP by a requester: on an Ethernet queue a program's pop is counted for its ORDINAL, and recorded or replayed where its partition
is (R408, R409, R412). -/
def State.detPop (s : State) (core : Option Nat) (q v : Nat) (framing : Bool) (words : List Nat) : Nat × State :=
  match core with
  | none => s.quePop q v framing words
  | some n =>
    let p := s.ctxPartition (s.coreContext n)
    if s.fld Reg.QUE_CFG_TYPE (queueDelta q) ≠ 3 then s.quePop q v framing words
    else
      let entry := (s.seq n).slot
      let key := entry * 4096 + q
      let ord := (s.part p).pops.get (fun _ => 0) key
      let lost := match (s.queue q).packets with
        | [] => false
        | x :: _ => framing || x.bad.contains 0
      let r := if s.replayed p then s.popReplay q v (s.replayRecord p recPop (s.partStep p) entry q ord) else s.quePop q v framing words
      if r.1 ≠ 0 then r
      else
        let t := r.2.setPart p { r.2.part p with pops := (r.2.part p).pops.set (fun _ => 0) key (ord + 1) }
        if s.replayed p then (0, t)
        else
          let dest := bits v 0 48
          let rec_ := t.fetch dest 64
          let bytes := t.fetch (dest + 64) (leNat ((rec_.drop 12).take 4))
          (0, t.record p recPop entry q ord (if lost then framingRecord else rec_ ++ bytes))

end Sys2Proof.Machine
end

