-- ==== Sys2Proof/Machine/Power.lean ====
section
/-! DEFINITION. Power profiles and their limits, sprint windows, measured power, thermal limits, slot stretching, the wear
ledger and feed-forward (R452 to R465). -/

namespace Sys2Proof.Machine

def pwrSite : Site := site 17 0

/-! ### Profiles and the limits of R454 -/

/-- The entries of a profile: OFFSET_NS and POWER_W (R452). -/
def profEntries (ws : List Word) : List (Nat × Nat) := ws.map (fun w => (bits w.toNat 0 30, bits w.toNat 32 11))

/-- The segments of a profile over a frame: start, end, power. -/
def profSegments (frame : Nat) : List (Nat × Nat) → List (Nat × Nat × Nat)
  | [] => []
  | [(o, p)] => [(o, frame, p)]
  | (o, p) :: (o', p') :: t => (o, o', p) :: profSegments frame ((o', p') :: t)

/-- The energy from the start of a frame to `t` within it, in W ns. -/
def profEnergy (segs : List (Nat × Nat × Nat)) (t : Nat) : Nat :=
  (segs.map (fun x => x.2.2 * (min t x.2.1 - min t x.1))).sum

/-- The largest power of a profile. -/
def profPeak (ws : List Word) : Nat := (profEntries ws).foldl (fun a e => max a e.2) 0

/-- The 1 s energy bound n * E + X of a profile whose frame is `frame` (R454). -/
def profSecond (frame : Nat) (ws : List Word) : Nat :=
  let es := profEntries ws
  let segs := profSegments frame es
  let e := profEnergy segs frame
  let n := 1000000000 / frame
  let r := 1000000000 % frame
  let upTo := fun t => t / frame * e + profEnergy segs (t % frame)
  let window := fun t => upTo (t + r) - upTo t
  let starts := es.flatMap (fun x => [x.1, (x.1 + frame - r) % frame])
  n * e + starts.foldl (fun a t => max a (window t)) 0

/-- Partition `p` has SPRINT = 1 (R456). -/
def State.sprinting (s : State) (p : Nat) : Bool := decide (s.fld Reg.PWR_PART_CFGp_SPRINT (8 * p) = 1)

/-- The committed profile of a partition and kind. -/
def State.profile (s : State) (p k : Nat) : List Word := s.power.profiles.get (fun _ => []) (2 * p + k)

/-- The profile of a partition's selected kind. -/
def State.selectedProfile (s : State) (p : Nat) : List Word := s.profile p (b2n (s.sprinting p))

/-- FRAME_NS of a partition. -/
def State.frameNs (s : State) (p : Nat) : Nat := s.fld Reg.SCH_PART_FRAME_FRAME_NS (instDelta p)

/-- The instant test and the 1 s test in a state (R454): the failing code, if any. -/
def State.powerCode (s : State) : Option Nat :=
  let ps := List.range 16
  let base := s.fld Reg.PWR_CTRL_BASE_W
  let l := if ps.any s.sprinting then 1250 else 1100
  firstCode [
    (decide (1250 < base + (ps.map (fun p => profPeak (s.selectedProfile p))).sum), 0x4402),
    (decide (l * 1000000000 < base * 1000000000 + (ps.map (fun p => profSecond (s.frameNs p) (s.selectedProfile p))).sum), 0x4403)]

/-- A power commit is refused: logged and counted (R455, R472). -/
def State.powerRefuse (s : State) (k : Nat) : Nat × State :=
  (k, (s.raise pwrSite k).stat Reg.PWR_STAT_REFUSED 1)

/-- The offsets of a profile start at 0, ascend strictly and lie below FRAME_NS (R453). -/
def profOrdered (frame : Nat) (last : Option Nat) : List (Nat × Nat) → Bool
  | [] => true
  | (o, _) :: t =>
    (match last with | none => decide (o = 0) | some l => decide (l < o)) && decide (o < frame) && profOrdered frame (some o) t

/-- A commit of a profile with its staged COUNT and entries (R453, R454). -/
def State.profileApply (s : State) (p k count : Nat) (words : SMap (List Word)) : Nat × State :=
  let ws := (List.range count).map (fun i => (words.get (fun _ => [0]) i).headD 0)
  let es := profEntries ws
  let bad := ws.any (fun w => decide (w.toNat &&& 0x000007FF3FFFFFFF ≠ w.toNat)) || es.any (fun e => decide (1250 < e.2)) ||
    decide (1024 < count) || !profOrdered (s.frameNs p) none es
  if bad then (0x4401, s.raise pwrSite 0x4401)
  else
    let t := { s with power := { s.power with profiles := s.power.profiles.set (fun _ => []) (2 * p + k) ws } }
    match t.powerCode with
    | some c => s.powerRefuse c
    | none => (0, t)

/-- A commit of PWR_CTRL (R455). -/
def State.pwrCtrlApply (s : State) : Nat × State :=
  let base := s.stagedFld Reg.PWR_CTRL_BASE_W
  let lead := s.stagedFld Reg.PWR_CTRL_LEAD_NS
  let tol := s.stagedFld Reg.PWR_CTRL_TOL_PCT
  if 1250 < base ∨ lead < 100 ∨ 4000 < lead ∨ tol = 0 ∨ 100 < tol then (0x440C, s.raise pwrSite 0x440C)
  else
    let t := s.applyStaged Reg.PWR_CTRL
    match t.powerCode with
    | some c => s.powerRefuse c
    | none => (0, t)

/-! ### Sprint windows (R456) -/

/-- The ledger is exhausted (R465). -/
def State.exhausted (s : State) : Bool := decide (s.fld Reg.PWR_STATE_EXHAUSTED = 1)

/-- The open sprint window closes. -/
def State.closeSprint (s : State) : State :=
  match s.power.sprintAt with
  | none => s
  | some _ =>
    let s := { s with power := { s.power with sprintAt := none, sprintClosed := some s.tb } }
    (s.setFld Reg.PWR_STATE_SPRINT_OPEN 0 0).raise pwrSite 0x440D

/-- Fewer than COOLDOWN_S seconds have passed since the last window closed. -/
def State.cooling (s : State) : Bool :=
  match s.power.sprintClosed with
  | none => false
  | some t => decide (s.tb < t + s.fld Reg.PWR_SPRINT_CFG_COOLDOWN_S * 1000000000)

/-- A commit of PWR_PART_CFGp (R455, R456). -/
def State.sprintApply (s : State) (p : Nat) : Nat × State :=
  let t := s.applyStaged (Reg.PWR_PART_CFGp + 8 * p)
  match t.powerCode with
  | some c => s.powerRefuse c
  | none =>
    if t.sprinting p then
      if s.exhausted || s.cooling || s.power.sprintAt.isSome then s.powerRefuse 0x4404
      else (0, ({ t with power := { t.power with sprintAt := some s.tb } }.setFld Reg.PWR_STATE_SPRINT_OPEN 0 1).stat Reg.PWR_STAT_SPRINTS 1)
    else (0, if (List.range 16).any t.sprinting then t else t.closeSprint)

/-- A sprint window reaches its end (R456). -/
def State.sprintEnd (s : State) : State :=
  match s.power.sprintAt with
  | none => s
  | some t => if t + s.fld Reg.PWR_SPRINT_CFG_SPRINT_MAX_MS * 1000000 ≤ s.tb ∨ s.exhausted then s.closeSprint else s

/-! ### The predicted load (R457, R463) -/

/-- A time of a frame under a stretch factor, in whole ns (R463). -/
def stretched (x s : Nat) : Nat := x * s / 256

/-- The power of a profile at a stretched time of its frame. -/
def profAt (ws : List Word) (stretch t : Nat) : Nat :=
  (profEntries ws).foldl (fun a e => if stretched e.1 stretch ≤ t then e.2 else a) 0

/-- Partition `p` is RUNNING (R359). -/
def State.partRunning (s : State) (p : Nat) : Bool := decide (s.fld Reg.SCH_PART_STATE_STATE (instDelta p) = 3)

/-- The stretch factor s (R462). -/
def State.stretch (s : State) : Nat := s.fld Reg.PWR_STATE_STRETCH

/-- The selected profile of a partition from its next frame boundary on: what a commit that is due there brings, unless it would be
refused (R453, R457). -/
def State.profileAhead (s : State) (p : Nat) : List Word :=
  let k := b2n (s.sprinting p)
  match s.pends.find? (fun x => decide (x.group = .profile p k) && x.due) with
  | none => s.selectedProfile p
  | some x => (({ s with staged := x.staged }.profileApply p k ({ s with staged := x.staged }.stagedFld Reg.PWR_PROF_COUNT_COUNT) x.words).2).selectedProfile p

/-- The predicted load of a RUNNING partition at a time (R457): that of its current frame, and from the boundary on nothing where it
stops there, else that of the frames that follow, at the stretch they take there (R463). -/
def State.partLoad (s : State) (p t : Nat) : Nat :=
  let x := s.part p
  if t < x.frameAt then 0
  else if t < x.nextFrame then profAt (s.selectedProfile p) x.stretch (t - x.frameAt)
  else if x.stopTo.isSome then 0
  else profAt (s.profileAhead p) s.stretch ((t - x.nextFrame) % stretched (s.frameNs p) s.stretch)

/-- The predicted core-die load at a time (R457). -/
def State.predictedAt (s : State) (t : Nat) : Nat :=
  ((List.range 16).map (fun p => if s.partRunning p then s.partLoad p t else 0)).sum

/-- LEAD_NS before a change of the predicted load, the new value goes to the regulators (R457). -/
def State.feedForward (s : State) : State :=
  let w := s.predictedAt (s.tb + s.fld Reg.PWR_CTRL_LEAD_NS)
  if !s.coreOn ∨ w = s.power.announced then s else { s with power := { s.power with announced := w } }.emit (.feed w)

/-! ### Sensors (R443, R459 to R461) -/

/-- The sensors that exist. -/
def sensorIds : List Nat := List.range 0x24 ++ [0x28, 0x29, 0x2A] ++ (List.range 32).map (· + 0x40)
def dieSensor (i : Nat) : Bool := decide (i < 0x24)
def memSensor (i : Nat) : Bool := decide (0x40 ≤ i) && decide (i < 0x60)

def sensorInit : Sensor := ⟨0, false, 0⟩
def State.sensor (s : State) (i : Nat) : Sensor := s.sensors.get (fun _ => sensorInit) i

/-- A temperature in 1/16 °C. -/
def Sensor.temp (x : Sensor) : Int := (BitVec.ofNat 16 x.value).toInt

/-- Some good sensor of a group reads at least a temperature in °C. -/
def State.anyAt (s : State) (group : Nat → Bool) (deg : Int) : Bool :=
  sensorIds.any (fun i => group i && (s.sensor i).ok && decide (16 * deg ≤ (s.sensor i).temp))

/-- A maximum threshold is met. -/
def State.atMaximum (s : State) : Bool := s.anyAt dieSensor 105 || s.anyAt memSensor 100

/-- The highest temperature of a group so far. -/
def State.highestOf (s : State) (group : Nat → Bool) (h : Int) : Int :=
  sensorIds.foldl (fun a i => if group i ∧ (s.sensor i).ok then max a (s.sensor i).temp else a) h

/-- The grade's CCLK in MHz under a stretch factor, rounded down (R463). -/
def State.cclkMhz (s : State) : Nat := if s.coreOn then (if s.fuses.gradeB then 1550 else 1700) * 256 / s.stretch else 0

/-- The stretch factor follows its three demands (R462 to R464). -/
def State.applyStretch (s : State) : State :=
  let old := s.stretch
  let f := max s.power.sTh (max s.power.sPw s.power.sLg)
  let s := s.setFld Reg.PWR_STATE_STRETCH 0 f
  let s := s.setFld Reg.PWR_STATE_TH 0 (b2n (decide (256 < s.power.sTh)))
  let s := s.setFld Reg.PWR_STATE_PW 0 (b2n (decide (256 < s.power.sPw)))
  let s := s.setFld Reg.PWR_STATE_LG 0 (b2n (decide (256 < s.power.sLg)))
  let s := s.setFld Reg.CLK_STATE_CCLK_MHZ 0 s.cclkMhz
  if (old = 256 ∧ f ≠ 256) ∨ (old ≠ 1024 ∧ f = 1024) then s.raise pwrSite 0x4405 else s

/-- The limit of the measured 1 s average (R456, R460). -/
def State.limitW (s : State) : Nat := if s.power.sprintAt.isSome then 1250 else 1100

/-- The measured average exceeds a power, or is at most a power (R460). -/
def State.avgAbove (s : State) (w : Nat) : Bool := decide (w * 10 * s.power.samples.length < s.power.samples.sum)
def State.avgAtMost (s : State) (w : Nat) : Bool := decide (s.power.samples.sum ≤ w * 10 * s.power.samples.length)

/-- A sample in 100 mW exceeds the predicted device power by more than TOL_PCT per cent (R459). The predicted core-die load is
scaled by 256 / s, as CCLK is (R462; DEDUCED, log entry 129). -/
def State.sampleHigh (s : State) (v : Nat) : Bool :=
  let predicted := s.fld Reg.PWR_CTRL_BASE_W * s.stretch + s.predictedAt s.tb * 256
  decide (predicted * 10 * (100 + s.fld Reg.PWR_CTRL_TOL_PCT) < v * 100 * s.stretch)

/-- A power sample is compared with the prediction and taken into the average (R459, R460). -/
def State.samplePower (s : State) (v : Nat) : State :=
  let high := s.sampleHigh v
  let run := if high then s.power.overRun + 1 else 0
  let samples := (v :: s.power.samples).take 1000
  let s := { s with power := { s.power with overRun := run, samples := samples } }
  let s := s.setFld Reg.PWR_STATE_AVG_W 0 (samples.sum / (10 * samples.length))
  let s := if high then s.stat Reg.PWR_STAT_MISMATCH 1 else s
  let quiet := match s.power.mismatchAt with | none => true | some t => decide (t + 60000000000 ≤ s.tb)
  if decide (10 ≤ run) && quiet then { s with power := { s.power with mismatchAt := some s.tb } }.raise pwrSite 0x4407 else s

/-- A ms with the sample above 1,100 W counts in the ledger (R465). -/
def State.countLedger (s : State) (v : Nat) : State :=
  if v ≤ 11000 then s
  else
    let used := s.power.usedMs + 1
    let s := { s with power := { s.power with usedMs := used } }.setFld Reg.PWR_LEDGER_USED_S 0 (used / 1000)
    let s := if used = 4860000000 then s.raise pwrSite 0x4408 else s
    if used = 5400000000 then ((s.setFld Reg.PWR_STATE_EXHAUSTED 0 1).raise pwrSite 0x4409).closeSprint else s

/-- A maximum threshold sets s_th to 1,024 at once (R462), and each core-die sensor held there has the time of R461 run. -/
def State.checkMaximum (s : State) (before : Bool) : State :=
  let s := if s.atMaximum then
      let s := { s with power := { s.power with sTh := 1024 } }.applyStretch
      if before then s else s.raise pwrSite 0x4406
    else s
  let hot := fun (i : Nat) => decide (s.stretch = 1024) && s.anyAt (fun j => decide (j = i)) 105
  { s with power := { s.power with hotSince := ((List.range 16).filter hot).map (fun i =>
      (i, (SMap.find? s.power.hotSince i).getD s.tb)) } }

/-- The hub samples every sensor (R443, R459 to R461, R465): the values read, by ID; the others have failed. -/
def State.sensorSample (s : State) (vals : List (Nat × BitVec 16)) : State :=
  let before := s.atMaximum
  let s := sensorIds.foldl (fun s i => match vals.find? (fun x => decide (x.1 = i)) with
    | some x => { s with sensors := s.sensors.set (fun _ => sensorInit) i ⟨x.2.toNat, true, s.tb⟩ }
    | none => { s with sensors := s.sensors.set (fun _ => sensorInit) i { s.sensor i with ok := false } }) s
  let h := s.power.highest
  let s := { s with power := { s.power with poweredMs := s.power.poweredMs + 1,
                                            highest := [s.highestOf dieSensor (h.getD 0 0), s.highestOf memSensor (h.getD 1 0)] } }
  let s := if (s.sensor 0x2A).ok then (s.samplePower (s.sensor 0x2A).value).countLedger (s.sensor 0x2A).value else s
  s.checkMaximum before

/-- One demand: up by 8, down by 2, within 256 and 1,024 (R462). -/
def demand (x : Nat) (up down : Bool) : Nat := if up then min 1024 (x + 8) else if down then max 256 (x - 2) else x

/-- The controller's update of each ms (R462, R464). -/
def State.stretchUpdate (s : State) : State :=
  let l := s.limitW
  let th := demand s.power.sTh (s.anyAt dieSensor 100 || s.anyAt memSensor 95)
    (!s.anyAt dieSensor 98 && !s.anyAt memSensor 93)
  let pw := demand s.power.sPw (s.avgAbove l) (s.avgAtMost (l - 20))
  let lg := demand s.power.sLg (s.exhausted && s.avgAbove 1100) (s.avgAtMost 1080)
  let s := { s with power := { s.power with sTh := if s.atMaximum then 1024 else th, sPw := pw, sLg := lg } }.applyStretch
  if 256 < s.stretch then s.stat Reg.PWR_STAT_STRETCH_MS 1 else s

/-- VIN has been outside 10.8 to 13.2 V for some time (R458). -/
def State.vinOutside (s : State) (mv ns : Nat) : State :=
  if (mv < 10800 ∨ 13200 < mv) ∧ 100000 < ns then s.raise pwrSite 0x440A else s

/-- The MC writes the ledger each hour (R465). -/
def State.ledgerHour (s : State) : State :=
  if s.power.savedAt + 3600000000000 ≤ s.tb then s.saveLedger else s

end Sys2Proof.Machine
end

