-- ==== Sys2Proof/Machine/Sched.lean ====
section
/-! DEFINITION. Partitions, the cyclic schedule, step ends and input rings (R357 to R378). -/

namespace Sys2Proof.Machine

/-! ### Partition states (R359) -/

def partOff : Nat := 0
def partReady : Nat := 1
def partArmed : Nat := 2

/-- SCH_PART_STATE.STATE of a partition. -/
def State.partState (s : State) (p : Nat) : Nat := s.fld Reg.SCH_PART_STATE_STATE (instDelta p)
def State.setPartState (s : State) (p v : Nat) : State := s.setFld Reg.SCH_PART_STATE_STATE (instDelta p) v

/-- CORES of a partition. -/
def State.partCores (s : State) (p : Nat) : Nat := (s.reg (Reg.SCH_PART_CORES + instDelta p)).toNat

/-- The schedule may run: not while a boot is in its stages 3 to 7, nor in HELD or RECOVERY (R425, R426). -/
def State.scheduleOn (s : State) : Bool := [0, 6].contains (s.fld Reg.MGT_BOOT_STATE)

/-- A core that belongs to no enabled partition runs no program (R357): its program ends there, which no rule gives a code for
(DEDUCED, log entry 126). -/
def State.orphansStop (s : State) : State :=
  (List.range 64).foldl (fun s n =>
    if s.seqActive n ∧ (s.partOfCore n).isNone then
      let q := s.seq n
      ((s.countHold n).setSeqPhase n seqIdle).setSeq n { q with hold := .none, refused := none }
    else s) s

/-- A partition enters RUNNING; its first frame is frame `f`, at time `t` (R360, R409). -/
def State.runFrom (s : State) (p f t job : Nat) : State :=
  let s := s.setPart p { s.part p with frameAt := t, nextFrame := t, index := f, stopTo := none, entry := 0, skip := true }
  (s.setPartState p 3).recordStart p job

/-- START_MODE 0: the partition runs from the first frame at or after now (R360). -/
def State.runNow (s : State) (p : Nat) : State :=
  let t0 := (s.reg (Reg.SCH_PART_T0 + instDelta p)).toNat
  let f := ceilDiv (s.tb - t0) (s.frameNs p)
  s.runFrom p f (t0 + f * s.frameNs p) 0

/-- The registers of a partition's commit group. -/
def partRegs (p : Nat) : List Nat :=
  [Reg.SCH_PART_CFG, Reg.SCH_PART_CORES, Reg.SCH_PART_FRAME, Reg.SCH_PART_T0].map (· + instDelta p)

/-! ### The schedule table (R364 to R366) -/

/-- A table entry's fields (R364). -/
structure TblEntry where
  offset : Nat
  action : Nat
  ctx : Nat
  pc : Nat
  arg : Nat
  mask : Nat
deriving DecidableEq, Repr

/-- The defined bits of a table entry. -/
def tblMasks : List Nat := [0x003FFF0F3FFFFFFF, 0xFFFFFFFF0000FFFF, maskOf 0 64, 0]

/-- A table entry from its four words. -/
def tblEntry (d : List Word) : TblEntry :=
  ⟨descFld d 0 0 30, descFld d 0 32 4, descFld d 0 40 14, descFld d 8 0 16, descFld d 8 32 32, descWord d 2⟩

/-- An all-zero entry. -/
def tblZero (_ : Nat) : List Word := [0, 0, 0, 0]

/-- An entry breaks R364 or names a core outside the partition (R365). -/
def tblEntryBad (frame cores : Nat) (d : List Word) : Bool :=
  let e := tblEntry d
  !reservedClear d tblMasks 4 || decide (frame ≤ e.offset) ||
  (match e.action with
   | 0 => decide (e.pc ≠ 0) || decide (e.arg ≠ 0) || decide (e.mask ≠ 0)
   | 1 => decide (e.mask = 0) || decide (e.mask &&& cores ≠ e.mask)
   | 2 => decide (e.pc ≠ 0) || decide (e.mask ≠ 0) || decide (e.arg &&& 0x1FFF000F ≠ e.arg) ||
     decide (bits e.arg 16 13 = 0) || decide (4096 < bits e.arg 16 13)
   | _ => true)

/-- The offsets ascend, equal ones allowed. -/
def tblAscends : List TblEntry → Bool
  | a :: b :: t => decide (a.offset ≤ b.offset) && tblAscends (b :: t)
  | _ => true

/-- Two RUN entries at one offset name one core. -/
def tblClash : List TblEntry → Bool
  | [] => false
  | a :: t => t.any (fun b => decide (a.action = 1) && decide (b.action = 1) && decide (a.offset = b.offset) && decide (a.mask &&& b.mask ≠ 0)) ||
    tblClash t

/-- The first `n` entries of a table. -/
def tblList (t : SMap (List Word)) (n : Nat) : List (List Word) := (List.range n).map (fun i => t.get tblZero i)

/-- The words of one entry staged since the COMMIT stand over it. -/
def lateEntry (since : SMap Word) (i : Nat) (old : List Word) : List Word :=
  (List.range 4).map (fun k => (SMap.find? since (4 * i + k)).getD (old.getD k 0))

/-- The words staged since the COMMIT stand over the bank that becomes staged (R366, R379). -/
def lateOver (since : SMap Word) (bank : SMap (List Word)) : SMap (List Word) :=
  (since.map (fun e => e.1 / 4)).foldl (fun m i => SMap.set m tblZero i (lateEntry since i (bank.get tblZero i))) bank

/-- A commit of a partition's table group: the captured table is checked and swapped in (R365, R366). Words staged since
the COMMIT stay staged (R379). -/
def State.tableApply (s : State) (p : Nat) (words : SMap (List Word)) : Nat × State :=
  let a := Reg.SCH_TBL_COUNT + instDelta p
  let n := s.stagedFld Reg.SCH_TBL_COUNT_COUNT (instDelta p)
  let ds := tblList words n
  let es := ds.map tblEntry
  if 4096 < n ∨ ds.any (tblEntryBad (s.frameNs p) (s.partCores p)) ∨ !tblAscends es ∨ tblClash es then (0x3801, s.raise (schSite p) 0x3801)
  else
    let x := s.part p
    let staged := lateOver x.since x.table
    let active := (List.range n).foldl (fun m i => SMap.set m tblZero i (words.get tblZero i)) []
    (0, (s.setPart p { x with table := active, staged := staged }).applyStaged a)

/-- The active table's entries. -/
def State.tblActive (s : State) (p : Nat) : List TblEntry :=
  (tblList (s.part p).table (s.fld Reg.SCH_TBL_COUNT_COUNT (instDelta p))).map tblEntry

/-! ### Partition commits (R358, R455) -/

/-- The staged values of a partition break R358. -/
def State.partBad (s : State) (p : Nat) : Bool :=
  let cores := (s.stagedReg (Reg.SCH_PART_CORES + instDelta p)).toNat
  let en := s.stagedFld Reg.SCH_PART_CFG_ENABLE (instDelta p)
  let frame := s.stagedFld Reg.SCH_PART_FRAME_FRAME_NS (instDelta p)
  (setBitsOf cores 64).any (fun n => !s.coreEnabled n) ||
  (List.range 16).any (fun q => decide (q ≠ p) && decide (s.fld Reg.SCH_PART_CFG_ENABLE (instDelta q) = 1) && decide (s.partCores q &&& cores ≠ 0)) ||
  (decide (en = 1) && decide (cores = 0)) || decide (frame < 1000) || decide (1000000000 < frame) ||
  (s.tblActive p).any (fun e => decide (e.action = 1) && decide (e.mask &&& cores ≠ e.mask))

/-- The commit only disables the partition (R358). -/
def State.partDisables (s : State) (p : Nat) : Bool :=
  decide (s.stagedFld Reg.SCH_PART_CFG_ENABLE (instDelta p) = 0) &&
  decide (s.stagedFld Reg.SCH_PART_CFG_START_MODE (instDelta p) = s.fld Reg.SCH_PART_CFG_START_MODE (instDelta p)) &&
  ((partRegs p).drop 1).all (fun a => decide (s.stagedReg a = s.reg a))

/-- A READY partition with START_MODE 0 runs at once (R359), but not before stage 8 of a boot (R425). -/
def State.startNow (s : State) (p : Nat) : State :=
  if s.scheduleOn ∧ s.fld Reg.SCH_PART_CFG_ENABLE (instDelta p) = 1 ∧ s.fld Reg.SCH_PART_CFG_START_MODE (instDelta p) = 0 ∧
      s.partState p = partReady then s.runNow p else s

/-- The committed partition takes its state (R359); cores that have left it run no program (R357). -/
def State.partSettle (s : State) (p : Nat) : State :=
  let st := s.partState p
  if s.fld Reg.SCH_PART_CFG_ENABLE (instDelta p) = 0 then
    if st = 3 then s.setPart p { s.part p with stopTo := some partOff } else (s.setPartState p partOff).orphansStop
  else
    let s := if st = partOff then s.setPartState p partReady else s
    s.orphansStop.startNow p

/-- A commit of a partition group (R358, R359, R455). -/
def State.partitionApply (s : State) (p : Nat) : Nat × State :=
  if 2 ≤ s.partState p ∧ !s.partDisables p then (0x3810, s.raise (schSite p) 0x3810)
  else if s.partBad p then (0x3802, s.raise (schSite p) 0x3802)
  else
    let t := (partRegs p).foldl State.applyStaged s
    let code := if t.frameNs p = s.frameNs p then none else t.powerCode
    match code with
    | some k => s.powerRefuse k
    | none => (0, t.partSettle p)

/-- A write of SCH_PART_STOP with its bit set (R359). -/
def State.partStop (s : State) (p : Nat) : State :=
  let x := s.part p
  if s.partState p = 3 ∧ x.stopTo.isNone then s.setPart p { x with stopTo := some partReady } else s

/-! ### Input rings (R375 to R378) -/

def ringInit : Ring := ⟨6, 0, 0, 0, 0, 0⟩
def State.ring (s : State) (p r : Nat) : Ring := (s.part p).rings.get (fun _ => ringInit) r
def State.setRing (s : State) (p r : Nat) (x : Ring) : State :=
  s.setPart p { s.part p with rings := (s.part p).rings.set (fun _ => ringInit) r x }
def Ring.size (x : Ring) : Nat := 2 ^ bits x.cfg.toNat 0 4
def Ring.count (x : Ring) : Nat := bits x.cfg.toNat 4 17
def Ring.counter (x : Ring) : Nat := bits x.cfg.toNat 21 14

/-- The staged registers of a ring; what has not been staged is the ring's own. -/
def State.ringStaged (s : State) (p r : Nat) : Ring :=
  let x := s.ring p r
  let f := fun (a : Nat) (v : Word) => (SMap.find? s.staged (a + instDelta p)).getD v
  ⟨f Reg.SCH_RING_CFG x.cfg, f Reg.SCH_RING_BASE x.base, f Reg.SCH_RING_LAND x.land, f Reg.SCH_RING_HEAD_ADDR x.headAddr, 0, 0⟩

/-- A commit of ring `r` of partition `p` (R375). -/
def State.ringApply (s : State) (p r : Nat) : Nat × State :=
  let x := s.ringStaged p r
  let log2 := bits x.cfg.toNat 0 4
  let n := x.count
  let space := s.inEnabledSpace
  let bad := decide (log2 < 6) || decide (12 < log2) || decide (65536 < n) || decide (n &&& (n - 1) ≠ 0) ||
    !aligned x.base.toNat x.size || !aligned x.land.toNat x.size || !aligned x.headAddr.toNat 8 ||
    !space x.base.toNat (n * x.size) || !space x.land.toNat 64 || !space x.headAddr.toNat 8
  if bad then (0x3809, s.raise (schSite p) 0x3809 r)
  else (0, (s.setRing p r x).put x.headAddr.toNat (leBytes 8 0))

/-- Every ring's H becomes its T and is written (R378). -/
def State.commitHeads (s : State) (p : Nat) : State :=
  (List.range 16).foldl (fun s r =>
    let x := s.ring p r
    if x.count = 0 then s else (s.setRing p r { x with head := x.take }).put x.headAddr.toNat (leBytes 8 x.take)) s

/-- Every ring's T becomes its H (R378). -/
def State.revertHeads (s : State) (p : Nat) : State :=
  (List.range 16).foldl (fun s r => s.setRing p r { s.ring p r with take := (s.ring p r).head }) s

/-- The entries of a ring that are ready from T on, at most `m`: how many, and whether one holds poison (R376, R377). -/
def State.readyEntries (s : State) (x : Ring) : Nat → Nat → Nat × Bool
  | 0, _ => (0, false)
  | m + 1, t =>
    let a := x.base.toNat + t % x.count * x.size
    if s.fetchPoisoned a 8 ∨ leNat (s.fetch a 8) = (t + 1) % 2 ^ 64 then
      let r := s.readyEntries x m (t + 1)
      (r.1 + 1, r.2 || s.fetchPoisoned a x.size)
    else (0, false)

/-- The take header (R377). -/
def takeHeader (step first taken entry ring : Nat) : Bytes :=
  leBytes 8 step ++ leBytes 8 first ++ leBytes 2 taken ++ leBytes 2 entry ++ leBytes 1 ring ++ List.replicate 43 0

/-- The lines of one ring entry go to its slot, poisoned where they are (R377). -/
def State.copyEntry (s : State) (src dst n : Nat) : State :=
  (List.range (n / 64)).foldl (fun s k =>
    let bad := s.fetchPoisoned (src + 64 * k) 64
    (s.noteFetch (src + 64 * k) 64).put (dst + 64 * k) (s.fetch (src + 64 * k) 64) bad) s

/-- A take ends: T advances, the slots beyond are zero, COUNTER increments (R377). -/
def State.takeEnd (s : State) (p r m taken : Nat) (header : Bytes) (code : Nat) : State :=
  let x := s.ring p r
  let s := s.put (x.land.toNat + 64 + taken * x.size) (List.replicate ((m - taken) * x.size) 0)
  let s := s.put x.land.toNat header
  let s := s.setRing p r { x with take := (x.take + taken) % 2 ^ 64 }
  s.complete x.counter code

/-- A TAKE of a replayed partition (R412, R413). -/
def State.takeReplay (s : State) (p i r m : Nat) : State :=
  let x := s.ring p r
  match s.replayRecord p recTake (s.partStep p) i r 0 with
  | none => ((s.replayCount none).raise detSite 0x580B).takeEnd p r m 0 (List.replicate 64 0) 0x580B
  | some rec_ =>
    let taken := min m (leNat ((rec_.payload.drop 0x10).take 2))
    let s := (s.replayCount (some rec_)).put (x.land.toNat + 64) ((rec_.payload.drop 64).take (taken * x.size))
    s.takeEnd p r m taken (rec_.payload.take 64) 0

/-- TAKE entry `i` on ring `r` with MAX `m` (R377, R407, R412). The record of a take of a disabled ring, which writes nothing, holds a take
header with TAKEN 0 (DESIGN CHOICE, log entry 154). -/
def State.take (s : State) (p i r m : Nat) : State :=
  let x := s.ring p r
  if x.count = 0 then
    ((s.raise (schSite p) 0x3809 r).complete x.counter 0x3809).record p recTake i r 0
      (takeHeader (s.partStep p) ((x.take + 1) % 2 ^ 64) 0 i r)
  else if s.replayed p then s.takeReplay p i r m
  else
    let ready := s.readyEntries x m x.take
    let at_ := fun k => x.base.toNat + (x.take + k) % x.count * x.size
    let header := takeHeader (s.partStep p) ((x.take + 1) % 2 ^ 64) ready.1 i r
    let taken := (List.range ready.1).flatMap (fun k => s.fetch (at_ k) x.size)
    let s := (List.range ready.1).foldl (fun s k => s.copyEntry (at_ k) (x.land.toNat + 64 + k * x.size) x.size) s
    let code := if ready.2 then 0x380A else 0
    let s := (s.stat (Reg.SCH_STAT_TAKEN + instDelta p) ready.1).raiseOpt (schSite p) code r
    (s.takeEnd p r m ready.1 header code).record p recTake i r 0 (header ++ taken)

/-! ### Frames and slot starts (R360, R366 to R370) -/

/-- A step-end barrier of the partition has been accepted and is not complete (R370). -/
def State.barrierPending (s : State) (p : Nat) : Bool :=
  s.colls.any (fun c => decide (c.op = opBar) && c.stepEnd && decide (c.part = p))

/-- The next frame of a running partition begins (R359, R360, R370, R463). -/
def State.frameBegin (s : State) (p : Nat) : State :=
  let x := s.part p
  match x.stopTo with
  | some st => ((s.setPart p { x with stopTo := none }).setPartState p st).orphansStop
  | none =>
    let f := s.stretch
    let skip := s.barrierPending p
    let s := s.setPart p { x with frameAt := x.nextFrame, nextFrame := x.nextFrame + stretched (s.frameNs p) f, index := x.index + 1,
                                  stretch := f, entry := 0, skip := skip }
    let s := s.setFld Reg.SCH_PART_STATE_FRAME (instDelta p) x.index
    if skip then (s.raise (schSite p) 0x3804).stat (Reg.SCH_STAT_FRAMES_SKIPPED + instDelta p) 1
    else s.stat (Reg.SCH_STAT_FRAMES + instDelta p) 1

/-- A running partition's next frame is due. -/
def State.frameDue (s : State) (p : Nat) : Bool :=
  decide (s.partState p = 3) && decide (s.fld Reg.MGT_BOOT_STATE ≠ 7) && decide ((s.part p).nextFrame ≤ s.tb)

/-- The next entry of the current frame that is not IDLE, with its index. -/
def State.nextEntry (s : State) (p : Nat) : Option (Nat × TblEntry) :=
  let x := s.part p
  let es := s.tblActive p
  ((List.range es.length).zip es).find? (fun e => decide (x.entry ≤ e.1) && decide (e.2.action ≠ 0))

/-- The slot start of an entry in the current frame (R364, R463). -/
def State.slotTimeOf (s : State) (p : Nat) (e : TblEntry) : Nat :=
  (s.part p).frameAt + stretched e.offset (s.part p).stretch

/-- The entry whose slot start is due (R364, R463). -/
def State.dueEntry (s : State) (p action : Nat) : Option (Nat × TblEntry) :=
  let x := s.part p
  match s.nextEntry p with
  | none => none
  | some e =>
    if s.partState p = 3 ∧ !x.skip ∧ e.2.action = action ∧ s.slotTimeOf p e.2 ≤ s.tb then some e else none

/-- The check at a slot start (R367): true with the entry counted and its context noted, or the entry skipped. -/
def State.slotCheck (s : State) (p i : Nat) (e : TblEntry) : Bool × State :=
  let s := s.setPart p { s.part p with entry := i + 1 }
  if s.ctxState e.ctx ≠ 1 ∨ s.ctxPartition e.ctx ≠ p then
    (false, ((s.raise (schSite p) 0x3803 i).stat (Reg.SCH_STAT_ENTRIES_SKIPPED + instDelta p) 1).voidStep p 0x3803)
  else
    let x := s.part p
    (true, (s.setPart p { x with took := if x.took.contains e.ctx then x.took else x.took ++ [e.ctx] }).stat
      (Reg.SCH_STAT_ENTRIES_RUN + instDelta p) 1)

/-- A RUN entry's slot start (R367 to R369); the slot starts at the entry's place in the frame (R364, R463). -/
def State.slotRun (s : State) (p : Nat) : State :=
  match s.dueEntry p 1 with
  | none => s
  | some (i, e) =>
    let at_ := s.slotTimeOf p e
    let r := s.slotCheck p i e
    if !r.1 then r.2
    else (setBitsOf e.mask 64).foldl (fun s n =>
      let s := (s.setFld Reg.CORE_CONTEXT_CONTEXT (instDelta n) e.ctx).setFld Reg.CORE_CONTEXT_VALID (instDelta n) 1
      s.startProgram n e.ctx p e.pc e.arg i at_) r.2

/-- A TAKE entry's slot start (R367, R377). -/
def State.slotTake (s : State) (p : Nat) : State :=
  match s.dueEntry p 2 with
  | none => s
  | some (i, e) =>
    let r := s.slotCheck p i e
    if !r.1 then r.2 else r.2.take p i (bits e.arg 0 4) (bits e.arg 16 13)

/-- The next slot start that names a core, stretching applied; 0 where the table holds none (R201). A skipped frame starts no
entry (R370). -/
def State.nextSlotOf (s : State) (p n : Nat) : Nat :=
  let x := s.part p
  let mine := (s.tblActive p).filter (fun e => decide (e.action = 1) && bit e.mask n)
  match mine.find? (fun e => !x.skip && decide (s.tb < s.slotTimeOf p e)) with
  | some e => s.slotTimeOf p e
  | none => match mine with
    | [] => 0
    | e :: _ => x.nextFrame + stretched e.offset s.stretch

/-! ### The end of a step (R351, R370 to R373, R401) -/

/-- The step-end barrier's outcome is VOID (R350). -/
def Coll.voided (c : Coll) : Bool := c.ended || c.vals.any (fun v => decide (v.what = .result) && v.poison)

/-- The void flags after a step: VOID_NEXT moves into VOID_CUR on COMPLETE, both clear otherwise (R351). -/
def State.nextVoid (s : State) (p : Nat) (complete : Bool) : State :=
  let moved := complete && decide (s.fld Reg.COL_PART_STATEp_VOID_NEXT (8 * p) = 1)
  let code := if moved then s.voidNextCode.get (fun _ => 0) p else 0
  let s := s.setFld Reg.COL_PART_STATEp_VOID_CUR (8 * p) (b2n moved)
  let s := s.setFld Reg.COL_PART_STATEp_VOID_CODE (8 * p) code
  { s.setFld Reg.COL_PART_STATEp_VOID_NEXT (8 * p) 0 with voidNextCode := s.voidNextCode.set (fun _ => 0) p 0 }

/-- Commits pending at the step that a partition reaches become due (R371, R380). -/
def State.commitsDue (s : State) (p step : Nat) : State :=
  { s with pends := s.pends.map (fun x => if x.via = p ∧ x.atStep = some step then { x with due := true } else x) }

/-- The step completes (R351, R371, R378, R401). -/
def State.stepComplete (s : State) (p : Nat) : State :=
  let s := s.recordStepEnd p 0 0
  let step := (s.partStep p + 1) % 2 ^ 64
  let s := s.setReg (Reg.SCH_PART_STEP + instDelta p) (BitVec.ofNat 64 step)
  let s := if step % 2 ^ 32 = 0 then (s.raise detSite 0x5807 p).stat Reg.DET_STAT_STEP_WRAPS 1 else s
  let s := (s.nextVoid p true).setFld Reg.COL_PART_STATEp_ROLLBACKS (8 * p) 0
  ((s.setPart p { s.part p with took := [] }).commitHeads p).commitsDue p step

/-- The step is void (R351, R372, R373). -/
def State.stepVoid (s : State) (p : Nat) : State :=
  let db := decide (s.fld Reg.COL_PART_CFGp_STEP_DB (8 * p) = 1)
  let rb := s.rollbacks p
  let code := s.fld Reg.COL_PART_STATEp_VOID_CODE (8 * p)
  let took := (s.part p).took
  if db && decide (rb < s.fld Reg.COL_PART_CFGp_ROLLBACK_MAX (8 * p)) then
    let s := (s.recordStepEnd p 1 code).nextVoid p false
    (((s.setFld Reg.COL_PART_STATEp_ROLLBACKS (8 * p) (rb + 1)).stat Reg.COL_STAT_ROLLBACKS 1).setPart p
      { s.part p with took := [] }).revertHeads p
  else
    let s := (s.recordStepEnd p 2 code).nextVoid p false
    let s := (s.setPart p { s.part p with took := [] }).commitHeads p
    let k := if db then 0x340D else 0x3409
    let s := if db then s.raise colSite k p else s
    took.foldl (fun s c => s.escalateContext c k colSite) s

/-- A finished collective leaves (R346, R351): a step-end barrier first gives its step its outcome, then COMPLETION
increments. The cycles its chunks were in flight or waited are free numbers (log entry 65). -/
def State.finishColl (s : State) (c : Coll) : State :=
  let bar := decide (c.op = opBar)
  let code := if c.ended || !bar then c.code
    else if c.stepEnd then (if c.voided then 0x3409 else 0)
    else if c.voided then firstNonzero c.code 0x3409 else c.code
  let s := s.setColls (s.colls.filter (fun x => decide (x.seq ≠ c.seq)))
  let s := s.stat Reg.COL_STAT_OPS 1
  let s := [Reg.COL_STAT_L1_OCC, Reg.COL_STAT_L1_BLOCKED, Reg.COL_STAT_L2_OCC, Reg.COL_STAT_L2_BLOCKED].foldl State.freeStat s
  let s := if bar && decide (code = 0x3409) then s.raise colSite 0x3409 else s
  let s := s.complete (collCompletion c.desc) code
  if bar && c.stepEnd then (if c.voided then s.stepVoid c.part else s.stepComplete c.part) else s

/-- The oldest collective that has made its last move, or ended, completes (R346). -/
def State.collComplete (s : State) : State :=
  match s.colls.find? s.collDone with
  | none => s
  | some c => s.finishColl c

/-- The step-end barrier of a partition gives its outcome (R351). -/
def State.barrierOutcome (s : State) (p : Nat) : State :=
  match s.colls.find? (fun c => s.collDone c && decide (c.op = opBar) && c.stepEnd && decide (c.part = p)) with
  | none => s
  | some c => s.finishColl c

end Sys2Proof.Machine
end

