-- ==== Sys2Proof/Machine/Launch.lean ====
section
/-! DEFINITION. Job launch: the manifest, the launch packets and their timeouts (R388 to R392, R414, R415). -/

namespace Sys2Proof.Machine

/-- A manifest entry (R388). -/
structure LaunchEntry where
  dev : Nat
  forwarder : Bool
  parent : Nat
deriving DecidableEq, Repr

/-- A manifest that passed the checks of R388, with the index of this device's own entry. -/
structure Manifest where
  job : Nat
  startStep : Nat
  crc : Nat
  entries : List LaunchEntry
  self : Nat
deriving DecidableEq, Repr

/-- The control types of the launch packets (R389). -/
def ctLaunch : Nat := 3
def ctAck : Nat := 4
def ctReady : Nat := 5
def ctGo : Nat := 6
def ctAbort : Nat := 7

/-- No launch. -/
def launchInit : Launch := ⟨0, [], [], 0, none, [], false⟩

/-- The launch of a SCHED instance. -/
def State.launch (s : State) (p : Nat) : Launch := s.launches.get (fun _ => launchInit) p
def State.setLaunch (s : State) (p : Nat) (x : Launch) : State :=
  { s with launches := s.launches.set (fun _ => launchInit) p x }

/-- PHASE and CODE of SCH_LAUNCH_STATE. -/
def State.launchPhase (s : State) (p : Nat) : Nat := s.fld Reg.SCH_LAUNCH_STATE_PHASE (instDelta p)
def State.setLaunchPhase (s : State) (p v : Nat) : State := s.setFld Reg.SCH_LAUNCH_STATE_PHASE (instDelta p) v

/-- Where the manifest of an instance lies, if it names one in the general area (R388). -/
def State.manifestBase (s : State) (p : Nat) : Option Nat :=
  let a := s.fld Reg.SCH_LAUNCH_BASE_BASE (instDelta p)
  if a = 0 ∨ a % 64 ≠ 0 ∨ !inLpddr a 64 then none else some a

/-- The JOB_ID in the manifest of an instance; 0 for none. -/
def State.manifestJob (s : State) (p : Nat) : Nat :=
  match s.manifestBase p with | none => 0 | some a => leNat (s.fetch (a + 0x0C) 4)

/-- A manifest entry from its 16 bytes; none where a field breaks R388. -/
def launchEntry (i : Nat) (b : Bytes) : Option LaunchEntry :=
  let v := leNat (b.take 8)
  let parent := bits v 32 17
  if v &&& 0x0001FFFF01FFFFFF ≠ v ∨ leNat (b.drop 8) ≠ 0 ∨ (if i = 0 then decide (parent ≠ 0) else decide (i ≤ parent)) then none
  else some ⟨bits v 0 24, bit v 24, parent⟩

/-- The entries of a manifest in order; none where one breaks R388. -/
def launchEntries : Nat → Nat → Bytes → Option (List LaunchEntry)
  | 0, _, _ => some []
  | n + 1, i, b =>
    match launchEntry i (b.take 16), launchEntries n (i + 1) (b.drop 16) with
    | some e, some t => some (e :: t)
    | _, _ => none

/-- The manifest of an instance; none where it is bad (R388). -/
def State.manifest (s : State) (p : Nat) : Option Manifest :=
  match s.manifestBase p with
  | none => none
  | some a =>
    let h := s.fetch a 64
    let d := leNat ((h.drop 8).take 4)
    let job := leNat ((h.drop 12).take 4)
    let crc := leNat ((h.drop 24).take 4)
    if leNat (h.take 4) ≠ 0x4C4E4301 ∨ leNat ((h.drop 4).take 4) ≠ 1 ∨ d = 0 ∨ 65536 < d ∨ job = 0 ∨
        (h.drop 28).any (fun b => decide (b ≠ 0)) ∨ !inLpddr a (64 + 16 * d) ∨ s.fetchPoisoned a (64 + 16 * d) then none
    else
      let body := s.fetch (a + 64) (16 * d)
      if crc32c body ≠ crc then none
      else match launchEntries d 0 body with
        | none => none
        | some es =>
          match (List.range d).filter (fun i => decide ((es.getD i ⟨0, false, 0⟩).dev = s.selfDev)) with
          | [i] => some ⟨job, leNat ((h.drop 16).take 8), crc, es, i⟩
          | _ => none

/-- What the read of a manifest counts and logs. -/
def State.noteManifest (s : State) (p : Nat) : State :=
  match s.manifestBase p with
  | none => s
  | some a =>
    let d := leNat (((s.fetch a 64).drop 8).take 4)
    s.noteFetch a (if 65536 < d ∨ !inLpddr a (64 + 16 * d) then 64 else 64 + 16 * d)

/-- Entry `i` of a manifest. -/
def Manifest.entry (m : Manifest) (i : Nat) : LaunchEntry := m.entries.getD i ⟨0, false, 0⟩
/-- This device is a MEMBER of the launch. -/
def Manifest.member (m : Manifest) : Bool := !(m.entry m.self).forwarder
/-- The children of an entry. -/
def Manifest.children (m : Manifest) (e : Nat) : List Nat :=
  (List.range m.entries.length).filter (fun i => decide (0 < i) && decide ((m.entry i).parent = e))
/-- The MEMBER entries. -/
def Manifest.members (m : Manifest) : List Nat :=
  (List.range m.entries.length).filter (fun i => !(m.entry i).forwarder)

/-- The first 8 bytes of every launch packet's body (R389). -/
def launchHead (job index : Nat) : Bytes := leBytes 4 job ++ leBytes 4 index

/-- LAUNCH or GO goes to an entry, which owes an ACK (R389 to R391). -/
def State.launchSend (s : State) (p : Nat) (m : Manifest) (phase entry : Nat) (sluice : Bool) : State :=
  let x := s.launch p
  let tail := if phase = 0 then leBytes 8 m.crc else leBytes 8 (x.tStart.getD 0)
  (s.setLaunch p { x with waits := x.waits ++ [⟨entry, phase, s.tb⟩] }).sendControl (m.entry entry).dev
    (if phase = 0 then ctLaunch else ctGo) (launchHead m.job m.self ++ tail) sluice

/-- A packet of a phase goes to every child of this device. -/
def State.launchDown (s : State) (p : Nat) (m : Manifest) (phase : Nat) : State :=
  (m.children m.self).foldl (fun s e => s.launchSend p m phase e false) s

/-- An ACK goes back to the sender of LAUNCH or GO (R389). -/
def State.launchAck (s : State) (dest job index phase code : Nat) : State :=
  s.sendControl dest ctAck (launchHead job index ++ leBytes 2 phase ++ leBytes 2 code ++ leBytes 4 0)

/-- What an abort does to a MEMBER's own partition and the contexts of the job (R392). A launch counts as aborted once (R393). -/
def State.launchDrop (s : State) (p job code : Nat) : State :=
  let x := s.launch p
  let aborted := if x.aborted.contains job then x.aborted else x.aborted ++ [job]
  let mine := decide (job ≠ 0) && decide (x.job = job)
  let s := s.setLaunch p (if mine then { x with job := 0, waits := [], ready := [], tStart := none, aborted := aborted }
    else { x with aborted := aborted })
  let s := (s.setLaunchPhase p 5).setFld Reg.SCH_LAUNCH_STATE_CODE (instDelta p) code
  let s := if x.aborted.contains job && decide (job ≠ 0) then s else s.stat (Reg.SCH_STAT_ABORTS + instDelta p) 1
  if !mine || !x.member then s
  else if s.partState p = partArmed then s.setPartState p partReady
  else if s.partState p = 3 then
    let to_ := (s.part p).stopTo.getD partReady
    let s := ((s.setPart p { s.part p with stopTo := none }).setPartState p to_).orphansStop
    ((List.range 16384).filter (fun c => decide (descFld (s.ctxDesc c) 0 32 32 = job))).foldl State.teardown s
  else s

/-- This device aborts a launch with a code: it logs the code and sends ABORT to every other entry (R391, R392). -/
def State.launchAbort (s : State) (p : Nat) (m : Manifest) (blk : Site) (code : Nat) : State :=
  let s := s.raise blk code m.job
  let s := ((List.range m.entries.length).filter (fun i => decide (i ≠ m.self))).foldl (fun s i =>
    s.sendControl (m.entry i).dev ctAbort (launchHead m.job m.self ++ leBytes 2 code ++ leBytes 6 0) true) s
  s.launchDrop p m.job code

/-- The time base is locked (R470). -/
def State.tbLocked (s : State) : Bool := decide (s.fld Reg.CLK_TB_STATE_LOCKED = 1)

/-- The checks of a MEMBER at LAUNCH (R390, R415). -/
def State.launchCode (s : State) (p : Nat) (m : Manifest) : Nat :=
  if !m.member then 0
  else if s.partState p ≠ partReady ∨ s.fld Reg.SCH_PART_CFG_START_MODE (instDelta p) ≠ 1 then 0x380C
  else if !s.tbLocked then 0x5805
  else 0

/-- The site that logs a code of the launch. -/
def launchSite (p code : Nat) : Site := if code / 0x400 = 0x16 then detSite else schSite p

/-- A device whose checks passed takes part: it forwards LAUNCH, and a MEMBER arms (R390). -/
def State.launchEnter (s : State) (p : Nat) (m : Manifest) : State :=
  let s := s.setLaunch p { s.launch p with job := m.job, waits := [], ready := [], since := s.tb, tStart := none, member := m.member }
  let s := (s.setLaunchPhase p 1).launchDown p m 0
  if m.member then (s.setPartState p partArmed).setLaunchPhase p 2 else s

/-- GO has its T_START: it goes down the tree, and a MEMBER takes its start time and step (R390). -/
def State.goTake (s : State) (p : Nat) (m : Manifest) (t : Nat) : State :=
  let s := (s.setLaunch p { s.launch p with tStart := some t }).setLaunchPhase p 3
  let s := s.launchDown p m 1
  if m.member then
    let s := s.setReg (Reg.SCH_PART_T0 + instDelta p) (BitVec.ofNat 64 t)
    (s.setReg (Reg.SCH_PART_STEP + instDelta p) (BitVec.ofNat 64 m.startStep)).commitsDue p m.startStep
  else s

/-- The root sends GO once READY from every MEMBER has come (R390). -/
def State.goWhenReady (s : State) (p : Nat) (m : Manifest) : State :=
  let x := s.launch p
  if m.self = 0 ∧ x.tStart.isNone ∧ m.members.all (fun i => x.ready.contains i) then
    s.goTake p m (s.tb + s.fld Reg.SCH_LAUNCH_CFG_LEAD_US (instDelta p) * 1000)
  else s

/-- A launch begins at the root (R390): the refusing code where the manifest names none, else the launch or its abort. -/
def State.launchBegin (s : State) (p : Nat) : State :=
  match s.manifest p with
  | none =>
    (((s.noteManifest p).raise (schSite p) 0x380B).launchDrop p (s.manifestJob p) 0x380B)
  | some m =>
    let code := if m.self ≠ 0 then 0x380B else if (s.launch p).aborted.contains m.job then 0x380E else s.launchCode p m
    if code ≠ 0 then s.launchAbort p m (launchSite p code) code
    else
      let s := s.launchEnter p m
      let s := if m.member then s.setLaunch p { s.launch p with ready := [0] } else s
      s.goWhenReady p m

/-- The place in a queue of the first message whose first 4 bytes equal a JOB_ID (R390): its framing is good, and no pop has begun on
it. -/
def Queue.launchAt (x : Queue) (job : Nat) : Option Nat :=
  (List.range x.packets.length).find? (fun i =>
    match x.packets[i]? with
    | some m => !m.bad.contains 0 && decide (i ≠ 0 ∨ x.consumed = 0) && decide (4 ≤ m.payload.length) && decide (leNat (m.payload.take 4) = job)
    | none => false)

/-- The message at place `i` of a queue leaves it for the launch engine (DESIGN CHOICE, log entry 158). -/
def State.takeAt (s : State) (q i : Nat) : State :=
  if i = 0 then (s.takeHead q).2
  else (s.setQueue q { s.queue q with packets := (s.queue q).packets.eraseIdx i }).stat (Reg.QUE_STAT_POPS + queueDelta q) 1

/-- A message in the launch queue begins a launch where its first 4 bytes equal JOB_ID (R390), whatever stands before it. -/
def State.launchMessage (s : State) (p : Nat) : State :=
  let q := s.fld Reg.SCH_LAUNCH_CFG_QUEUE (instDelta p)
  if s.fld Reg.SCH_LAUNCH_CFG_QUEUE_EN (instDelta p) = 0 ∨ s.manifestJob p = 0 then s
  else match (s.queue q).launchAt (s.manifestJob p) with
    | some i => (s.takeAt q i).launchBegin p
    | none => if ((s.queue q).packets.head?.map (fun m => m.bad.contains 0)).getD false then s.badFraming q else s

/-- The instance whose manifest carries a JOB_ID. -/
def State.launchInstance (s : State) (job : Nat) : Option Nat :=
  if job = 0 then none else (List.range 16).find? (fun p => decide (s.manifestJob p = job))

/-- The fields that a launch packet's body begins with. -/
def pktJob (p : Pkt) : Nat := leNat (p.body.take 4)
def pktEntry (p : Pkt) : Nat := leNat ((p.body.drop 4).take 4)

/-- LAUNCH arrives (R390, R392, R415). -/
def State.launchArrive (s : State) (k : Pkt) : State :=
  match s.launchInstance (pktJob k) with
  | none => s.launchAck k.src (pktJob k) 0 0 0x380B
  | some p =>
    match s.manifest p with
    | none => ((s.noteManifest p).raise (schSite p) 0x380B).launchAck k.src (pktJob k) 0 0 0x380B
    | some m =>
      if (s.launch p).aborted.contains m.job then s.launchAck k.src m.job m.self 0 0x380E
      else
        let code := if leNat ((k.body.drop 8).take 4) ≠ m.crc then 0x380B else s.launchCode p m
        let s := s.launchAck k.src m.job m.self 0 code
        if code ≠ 0 then s.raise (launchSite p code) code m.job
        else
          let s := s.launchEnter p m
          if m.member then s.sendControl (m.entry 0).dev ctReady (launchHead m.job m.self ++ leBytes 8 0) else s

/-- The instance that runs a launch of a job, with its manifest. -/
def State.launchRunning (s : State) (job : Nat) : Option (Nat × Manifest) :=
  match (List.range 16).find? (fun p => decide (job ≠ 0) && decide ((s.launch p).job = job)) with
  | none => none
  | some p => match s.manifest p with | some m => if m.job = job then some (p, m) else none | none => none

/-- ACK confirms a child's LAUNCH or GO (R391). -/
def State.launchAckArrive (s : State) (k : Pkt) : State :=
  match s.launchRunning (pktJob k) with
  | none => s
  | some (p, _) =>
    let x := s.launch p
    let phase := leNat ((k.body.drop 8).take 2)
    s.setLaunch p { x with waits := x.waits.filter (fun w => !(decide (w.entry = (pktEntry k)) && decide (w.phase = phase))) }

/-- READY reaches the root (R390, R391). -/
def State.readyArrive (s : State) (k : Pkt) : State :=
  match s.launchRunning (pktJob k) with
  | none => s
  | some (p, m) =>
    let code := leNat ((k.body.drop 8).take 2)
    if m.self ≠ 0 ∨ (s.launch p).tStart.isSome then s
    else if code ≠ 0 then s.launchAbort p m (launchSite p code) code
    else
      let x := s.launch p
      let s := s.setLaunch p { x with ready := if x.ready.contains (pktEntry k) then x.ready else x.ready ++ [(pktEntry k)] }
      s.goWhenReady p m

/-- GO arrives (R390, R392, R415). -/
def State.goArrive (s : State) (k : Pkt) : State :=
  match s.launchInstance (pktJob k) with
  | none => s.launchAck k.src (pktJob k) 0 1 0x380B
  | some p =>
    match s.manifest p with
    | none => s.launchAck k.src (pktJob k) 0 1 0x380B
    | some m =>
      let t := leNat ((k.body.drop 8).take 8)
      if (s.launch p).aborted.contains m.job then s.launchAck k.src m.job m.self 1 0x380E
      else if (s.launch p).job ≠ m.job ∨ (m.member ∧ (s.launch p).tStart.isNone ∧ s.partState p ≠ partArmed) then
        s.launchAck k.src m.job m.self 1 0x380C
      else
        let s := s.launchAck k.src m.job m.self 1 0
        if (s.launch p).tStart.isSome then s
        else if m.member ∧ t ≤ s.tb + 1000 then s.launchAbort p m detSite 0x5806
        else s.goTake p m t

/-- ABORT arrives (R392). -/
def State.abortArrive (s : State) (k : Pkt) : State :=
  match s.launchInstance (pktJob k) with
  | none => s
  | some p => (s.raise (schSite p) 0x380E (pktJob k)).launchDrop p (pktJob k) (leNat ((k.body.drop 8).take 2))

/-- A launch packet by its control type (R389). -/
def State.launchPacket (s : State) (ctype : Nat) (k : Pkt) : State :=
  if ctype = ctLaunch then s.launchArrive k
  else if ctype = ctAck then s.launchAckArrive k
  else if ctype = ctReady then s.readyArrive k
  else if ctype = ctGo then s.goArrive k
  else if ctype = ctAbort then s.abortArrive k
  else s

/-- A child has not acknowledged within CHILD_TIMEOUT_US (R391): a FORWARDER is bypassed, a MEMBER aborts the launch. -/
def State.childTimeout (s : State) (p : Nat) : State :=
  let x := s.launch p
  let limit := s.fld Reg.SCH_LAUNCH_CFG_CHILD_TIMEOUT_US (instDelta p) * 1000
  match s.launchRunning x.job, x.waits.find? (fun w => decide (w.since + limit < s.tb)) with
  | some (_, m), some w =>
    if (m.entry w.entry).forwarder then
      let s := s.setLaunch p { x with waits := x.waits.filter (fun v => decide (v ≠ w)) }
      (m.children w.entry).foldl (fun s e => s.launchSend p m w.phase e true) s
    else s.launchAbort p m (schSite p) 0x380D
  | _, _ => s

/-- The root has not heard READY from every MEMBER within READY_TIMEOUT_US (R391). -/
def State.readyTimeout (s : State) (p : Nat) : State :=
  let x := s.launch p
  let limit := s.fld Reg.SCH_LAUNCH_CFG_READY_TIMEOUT_US (instDelta p) * 1000
  match s.launchRunning x.job with
  | some (_, m) => if m.self = 0 ∧ x.tStart.isNone ∧ x.since + limit < s.tb then s.launchAbort p m (schSite p) 0x380D else s
  | none => s

/-- An ARMED member has no GO within twice READY_TIMEOUT_US of its LAUNCH (R391). -/
def State.noGo (s : State) (p : Nat) : State :=
  let x := s.launch p
  let limit := 2 * s.fld Reg.SCH_LAUNCH_CFG_READY_TIMEOUT_US (instDelta p) * 1000
  if s.partState p = partArmed ∧ x.tStart.isNone ∧ x.since + limit < s.tb then
    ((s.setPartState p partReady).setLaunch p { x with job := 0, waits := [], ready := [] }).setLaunchPhase p 0
      |>.raise (schSite p) 0x380F x.job
  else s

/-- An ARMED member's time base reaches T_START: it runs from frame 0 (R390, R414). -/
def State.tStartReached (s : State) (p : Nat) : State :=
  match (s.launch p).tStart with
  | none => s
  | some t =>
    if s.partState p = partArmed ∧ t ≤ s.tb then
      ((s.runFrom p 0 t (s.launch p).job).setLaunchPhase p 4).stat (Reg.SCH_STAT_LAUNCHES + instDelta p) 1
    else s

/-- A write of SCH_LAUNCH_BASE forgets the aborted jobs (R392). -/
def State.launchBaseWritten (s : State) (p : Nat) : State := s.setLaunch p { s.launch p with aborted := [] }

end Sys2Proof.Machine
end

