-- ==== Sys2Proof/Machine/Clocks.lean ====
section
/-! DEFINITION. The clocks and the steering of the time base (R326, R469 to R471). -/

namespace Sys2Proof.Machine

def clkSite : Site := site 18 0

/-- REFCLK is present. -/
def State.refclk (s : State) : Bool := decide (s.fld Reg.CLK_STATE_REFCLK_OK = 1)

/-! ### Lock -/

/-- The time base loses lock (R470, R472). -/
def State.tbUnlock (s : State) : State :=
  let s := { s with clock := { s.clock with good := 0 } }
  if s.fld Reg.CLK_TB_STATE_LOCKED = 0 then s
  else ((s.setFld Reg.CLK_TB_STATE_LOCKED 0 0).setFld Reg.CLK_TB_STATE_OFFSET_NS 0 0 |>.stat Reg.CLK_STAT_UNLOCKS 1).raise clkSite 0x4803

/-- OFFSET_NS: signed, saturating. -/
def offsetField (e : Int) : Nat := (BitVec.ofInt 32 (max (-2147483648) (min 2147483647 e))).toNat

/-- Some partition is ARMED or RUNNING (R471). -/
def State.anyStarted (s : State) : Bool := (List.range 16).any (fun p => decide (2 ≤ s.partState p))

/-- The steering accumulator has an offset to correct by rate (R470). -/
def State.setSlew (s : State) (e : Int) : State := { s with clock := { s.clock with slew := e } }

/-- The count is held no longer. -/
def State.endHold (s : State) : State := { s with clock := { s.clock with holdNs := 0 } }

/-- A count of the 1 GHz clock while the count is held: it is held on, but once a partition is ARMED or RUNNING what is left of the
offset is taken up by rate (R471). -/
def State.heldCount (s : State) : State :=
  if s.anyStarted then (s.endHold.setSlew (s.clock.slew - s.clock.holdNs)).count
  else { s with clock := { s.clock with holdNs := s.clock.holdNs - 1 } }

/-- The offset is corrected (R471): by rate alone while a partition is ARMED or RUNNING, else above 1 µs by a step forward
or by holding the count. -/
def State.steer (s : State) (e : Int) : State :=
  if s.anyStarted then (if 1000000 < e.natAbs then s.raise clkSite 0x4804 e.natAbs else s).endHold.setSlew e
  else if e.natAbs ≤ 1000 then s.setSlew e
  else if 0 < e then { s with tb := (s.tb + e.toNat) % 2 ^ 64 }.setSlew 0
  else { s with clock := { s.clock with holdNs := e.natAbs } }.setSlew 0

/-- An offset estimate under a source whose bound is `bound`; `locks` says from the number of good measurements whether the
lock is reached (R470). -/
def State.measure (s : State) (e : Int) (bound : Nat) (good : Nat) (locks : Bool) : State :=
  let inside := decide (e.natAbs ≤ bound)
  let s := { s with clock := { s.clock with heard := s.tb, good := if inside then good else 0 } }
  let locked := decide (s.fld Reg.CLK_TB_STATE_LOCKED = 1)
  let s := if inside && locks && !locked && s.refclk then s.setFld Reg.CLK_TB_STATE_LOCKED 0 1 else s
  let s := if locked && decide (4 * bound < e.natAbs) then s.tbUnlock else s
  (s.setFld Reg.CLK_TB_STATE_OFFSET_NS 0 (offsetField e)).steer e

/-- The offset to the nearest second boundary. -/
def State.secondOffset (s : State) : Int :=
  let r := s.tb % 1000000000
  if r ≤ 500000000 then -(r : Int) else 1000000000 - (r : Int)

/-- A PPS_IN rising edge (R470). -/
def State.ppsEdge (s : State) : State :=
  if s.fld Reg.CLK_TB_CFG_SOURCE ≠ 2 then s
  else s.measure s.secondOffset 20 (s.clock.good + 1) (decide (16 ≤ s.clock.good + 1))

/-- The offset to TB_MASTER that an exchange measures: the master's time and every hop's measured delay, against the own time
(R470, R290). -/
def State.salternOffset (s : State) (x : TimeExchange) : Int :=
  (x.sent : Int) + x.hops.sum + s.fld (delayFld x.link) (instDelta (x.link / 2)) - s.tb

/-- A time exchange with TB_MASTER (R470). -/
def State.salternExchange (s : State) (x : TimeExchange) : State :=
  if s.fld Reg.CLK_TB_CFG_SOURCE ≠ 3 then s
  else s.measure (s.salternOffset x) 1 (s.clock.good + 1) (decide (1000 ≤ s.clock.good + 1))

/-- Whole seconds of an offset, rounded to the nearest. -/
def wholeSeconds (e : Int) : Int := (e + 500000000) / 1000000000 * 1000000000

/-- An offset measured by PTP on a port (R470): under SOURCE 1 the offset itself, under SOURCE 2 the time of day. -/
def State.ptpOffset (s : State) (port : Nat) (e : Int) : State :=
  if s.fld Reg.CLK_TB_CFG_PTP_PORT ≠ port then s
  else if s.fld Reg.CLK_TB_CFG_SOURCE = 1 then
    let since := if s.clock.good = 0 then s.tb + 1 else s.clock.good
    s.measure e 20 since (decide (since + 16000000000 ≤ s.tb + 1))
  else if s.fld Reg.CLK_TB_CFG_SOURCE = 2 ∧ wholeSeconds e ≠ 0 then s.steer (wholeSeconds e)
  else s

/-- A Sync that left the source at `t1` and arrived at `t2`: it gives the offset to the source once the path delay is added to `t1`. -/
def State.ptpSynced (s : State) (port t1 t2 : Nat) : State :=
  let p := (s.ethPort port).ptp
  let s := s.setEthPort port { s.ethPort port with ptp := { p with twoStep := none, last := some (t1, t2) } }
  s.ptpOffset port ((t1 : Int) + p.delay - t2)

/-- What a message of the time source does (R326): its time stamp is the time base at its arrival. A one-step Sync, or the
Follow_Up of a two-step one, gives an offset; the answer to a Delay_Req gives the path delay, half of both ways together.
Before the first answer the path delay counts as 0 (DESIGN CHOICE, log entry 122). -/
def State.ptpTake (s : State) (port : Nat) : PtpBody → State
  | .sync _ (some t1) => s.ptpSynced port t1 s.tb
  | .sync seq none =>
    s.setEthPort port { s.ethPort port with ptp := { (s.ethPort port).ptp with twoStep := some (seq.toNat, s.tb) } }
  | .followUp seq t1 =>
    match (s.ethPort port).ptp.twoStep with
    | some (q, t2) => if q = seq.toNat then s.ptpSynced port t1 t2 else s
    | none => s
  | .delayResp t4 =>
    let p := (s.ethPort port).ptp
    match p.last, p.asked with
    | some (t1, t2), some t3 =>
      let both : Int := (t2 : Int) - t1 + (t4 - t3)
      s.setEthPort port { s.ethPort port with ptp := { p with asked := none, delay := (both / 2).toNat } }
    | _, _ => s

/-- A PTP message on a port (R326): a frame received; with PTP_EN = 1 the port's PTP clock takes it. -/
def State.ptpMessage (s : State) (port : Nat) (m : PtpMsg) : State :=
  s.frameEnter port m.frame fun s =>
    if s.fld Reg.ETH_CFG_PTP_EN (instDelta port) = 0 then s
    else
      let s := s.setEthPort port { s.ethPort port with ptp := { (s.ethPort port).ptp with transport := m.transport } }
      s.ptpTake port m.body

/-- The source of the time base has failed for 2 s, or 1 ms under SOURCE 3 (R470). -/
def State.sourceLost (s : State) : State :=
  let limit := if s.fld Reg.CLK_TB_CFG_SOURCE = 3 then 1000000 else 2000000000
  if s.fld Reg.CLK_TB_STATE_LOCKED = 1 ∧ s.clock.heard + limit < s.tb then s.tbUnlock else s

/-- A port sends a one-step Delay_Req on the transport it last heard, IEEE 802.3 before any (DESIGN CHOICE, log entry 122), and
remembers when it left (R326). -/
def State.delayReqSend (s : State) (port : Nat) : State :=
  if s.fld Reg.ETH_CFG_PTP_EN (instDelta port) = 0 ∨ !s.ethUp port then s
  else
    let p := (s.ethPort port).ptp
    let s := s.setEthPort port { s.ethPort port with ptp := { p with asked := some s.tb } }
    s.ethSend port (.delayReq p.transport s.tb)

/-- A value of CLK_TB_CFG is illegal (R470, R12). The table can be read two ways: PTP_PORT is refused for PTP_EN = 0 only under a
SOURCE that listens to PTP (1, 2), and the own member index as TB_MASTER only under SOURCE 3 (DESIGN CHOICE, log entry 106). -/
def State.tbCfgBad (s : State) (v : Nat) : Bool :=
  let source := bits v 0 2
  ((decide (source = 1) || decide (source = 2)) && decide (s.fld Reg.ETH_CFG_PTP_EN (instDelta (bits v 2 2)) = 0)) ||
  (decide (source = 3) && decide (bits v 4 8 = s.selfMember))

/-- A legal value of CLK_TB_CFG: a changed source starts without lock. -/
def State.tbCfgWrite (s : State) (v : Word) : State :=
  let old := s.reg Reg.CLK_TB_CFG
  let s := s.setReg Reg.CLK_TB_CFG v
  if old = v then s else { s.tbUnlock with clock := { s.tbUnlock.clock with heard := s.tb, slew := 0 } }

/-! ### REFCLK and the PLLs (R469) -/

/-- A port that is UP retrains because its reference has moved (R469). -/
def State.refRetrain (s : State) (l : Nat) : State :=
  if s.lportUp l then
    let s := (s.stat (Reg.LNK_STAT_RETRAINS + instDelta (l / 2)) 1).setLportState l 2
    (s.setLport l (s.lport l).fresh).failTransfers l
  else s

/-- REFCLK has had no edge for 1 µs (R469). -/
def State.refclkLoss (s : State) : State :=
  if !s.refclk then s
  else
    let s := ((s.setFld Reg.CLK_STATE_REFCLK_OK 0 0).raise clkSite 0x4801).tbUnlock
    let s := (List.range 32).foldl State.refRetrain s
    (List.range 4).foldl State.ethDown s

/-- REFCLK is back (R469). -/
def State.refclkReturn (s : State) : State := s.setFld Reg.CLK_STATE_REFCLK_OK 0 1

def State.pllLocked (s : State) (k : Nat) : Bool := bit (s.fld Reg.CLK_STATE_PLL_LOCK) k
def State.setPll (s : State) (k : Nat) (v : Bool) : State :=
  s.setFld Reg.CLK_STATE_PLL_LOCK 0 (setBits (s.fld Reg.CLK_STATE_PLL_LOCK) k 1 (b2n v))

/-- A PLL loses lock with REFCLK present (R469): the blocks of its die stop until it relocks. -/
def State.pllUnlock (s : State) (k : Nat) : State :=
  if !s.refclk ∨ !s.pllLocked k then s
  else
    let s := { s.setPll k false with clock := { s.clock with unlocked := s.clock.unlocked.set (fun _ => 0) k (s.tb + 1) } }
    (s.stat Reg.CLK_STAT_PLL_UNLOCKS 1).raise clkSite 0x4802 k

/-- The loss of a PLL's lock is over. -/
def State.pllForgets (s : State) (k : Nat) : State :=
  { s with clock := { s.clock with unlocked := s.clock.unlocked.set (fun _ => 0) k 0 } }

/-- A PLL that lost lock relocks (R469), and its blocks run again. -/
def State.pllRelock (s : State) (k : Nat) : State := if s.clockStops k then (s.setPll k true).pllForgets k else s

/-- A PLL has not relocked within 10 ms (R477). -/
def State.pllTimeout (s : State) (k : Nat) : State :=
  let t := s.clock.unlocked.get (fun _ => 0) k
  if t = 0 ∨ s.tb + 1 < t + 10000000 then s
  else s.escalateChip 0x4802 clkSite k

end Sys2Proof.Machine
end

