-- ==== Sys2Proof/Machine/Crypto.lean ====
section
/-! DEFINITION. SHA-384 and ECDSA over P-384, by which images, tokens and reports are checked and signed (R420, R421, R434
to R436, R449; FIPS 180-4 and FIPS 186-5). -/

namespace Sys2Proof.Machine

/-! ### SHA-384 -/

/-- The primes that the constants of SHA-384 come from. -/
def shaPrimes : List Nat :=
  let small := [2, 3, 5, 7, 11, 13, 17, 19]
  small ++ ((List.range 410).drop 20).filter (fun n => small.all (fun d => decide (n % d ≠ 0)))

/-- The greatest r of at most `n` bits above `lo` with r ^ k at most x. -/
def rootBelow (k x : Nat) : Nat → Nat → Nat
  | 0, lo => lo
  | n + 1, lo => rootBelow k x n (if (lo + 2 ^ n) ^ k ≤ x then lo + 2 ^ n else lo)

/-- The first 64 bits of the fraction of the k-th root of p. -/
def rootFraction (k p : Nat) : BitVec 64 := BitVec.ofNat 64 (rootBelow k (p * 2 ^ (64 * k)) 70 0)

/-- The round constants: the fractions of the cube roots of the first eighty primes. -/
def shaK : List (BitVec 64) := (shaPrimes.take 80).map (rootFraction 3)

/-- The initial hash value of SHA-384: the fractions of the square roots of the ninth to the sixteenth prime, in two
halves. -/
def shaInit : List (BitVec 64) × List (BitVec 64) :=
  (((shaPrimes.drop 8).take 4).map (rootFraction 2), ((shaPrimes.drop 12).take 4).map (rootFraction 2))

/-- The value of a big-endian byte string. -/
def beNat (bs : Bytes) : Nat := bs.foldl (fun a b => a * 256 + b.toNat) 0

/-- The `n` big-endian bytes of a value. -/
def beBytes (n v : Nat) : Bytes := (leBytes n v).reverse

/-- The exclusive or of the rotations of a word to the right by some amounts. -/
def rotations (rs : List Nat) (x : BitVec 64) : BitVec 64 := rs.foldl (fun acc r => acc ^^^ x.rotateRight r) 0

/-- The message schedule, newest word first: `n` more words after the first sixteen. -/
def shaExpand : Nat → List (BitVec 64) → List (BitVec 64)
  | 0, w => w
  | n + 1, w =>
    let ago := fun i => w.getD (i - 1) 0
    let late := rotations [19, 61] (ago 2) ^^^ ago 2 >>> 6
    let early := rotations [1, 8] (ago 15) ^^^ ago 15 >>> 7
    shaExpand n ((ago 16 + early + ago 7 + late) :: w)

/-- One round, over the last four words of each of the two sequences that the working variables run through, newest
first. -/
def shaRound (v : List (BitVec 64) × List (BitVec 64)) (add : BitVec 64) : List (BitVec 64) × List (BitVec 64) :=
  let a := fun i => v.1.getD i 0
  let e := fun i => v.2.getD i 0
  let choice := e 2 ^^^ (e 0 &&& (e 1 ^^^ e 2))
  let majority := (a 0 &&& (a 1 ||| a 2)) ||| (a 1 &&& a 2)
  let t := e 3 + rotations [14, 18, 41] (e 0) + choice + add
  ((t + rotations [28, 34, 39] (a 0) + majority) :: v.1.take 3, (a 3 + t) :: v.2.take 3)

/-- The sums of two lists, entry by entry. -/
def addWords (x y : List (BitVec 64)) : List (BitVec 64) := (x.zip y).map (fun p => p.1 + p.2)

/-- One 128-byte block. -/
def shaBlock (h : List (BitVec 64) × List (BitVec 64)) (bs : Bytes) : List (BitVec 64) × List (BitVec 64) :=
  let w := (List.range 16).map (fun i => BitVec.ofNat 64 (beNat ((bs.drop (8 * i)).take 8)))
  let v := (addWords shaK (shaExpand 64 w.reverse).reverse).foldl shaRound h
  (addWords h.1 v.1, addWords h.2 v.2)

/-- A message and its padding. -/
def shaPad (bs : Bytes) : Bytes :=
  bs ++ [0x80] ++ List.replicate ((239 - bs.length % 128) % 128) 0 ++ beBytes 16 (8 * bs.length)

/-- SHA-384 of a byte string, 48 bytes. -/
def sha384 (bs : Bytes) : Bytes :=
  let m := shaPad bs
  let h := (List.range (m.length / 128)).foldl (fun h i => shaBlock h ((m.drop (128 * i)).take 128)) shaInit
  (h.1 ++ h.2.take 2).flatMap (fun w => beBytes 8 w.toNat)

/-! ### P-384 -/

/-- The field, the group order, the coefficient b and the base point of P-384. -/
def p384P : Nat := 2 ^ 384 - 2 ^ 128 - 2 ^ 96 + 2 ^ 32 - 1
def p384N : Nat := 0xffffffffffffffffffffffffffffffffffffffffffffffffc7634d81f4372ddf581a0db248b0a77aecec196accc52973
def p384B : Nat := 0xb3312fa7e23ee7e4988e056be3f82d19181d9c6efe8141120314088f5013875ac656398d8a2ed19d2a85c8edd3ec2aef
def p384Gx : Nat := 0xaa87ca22be8b05378eb1c71ef320ad746e1d3b628ba79b9859f741e082542a385502f25dbf55296c3a545e3872760ab7
def p384Gy : Nat := 0x3617de4a96262c6f5d9e98bf9292dc29f8f41dbd289a147ce9da3113b5f0b8c00a60b1ce1d7e819d7a431d7c90ea0e5f

/-- A power modulo m, over the `n` low bits of the exponent. -/
def powMod (m : Nat) : Nat → Nat → Nat → Nat
  | 0, _, _ => 1 % m
  | n + 1, b, e =>
    let r := powMod m n (b * b % m) (e / 2)
    if e % 2 = 1 then r * b % m else r

/-- The inverse modulo a 384-bit prime. -/
def invMod (m x : Nat) : Nat := powMod m 384 (x % m) (m - 2)

/-- A point in Jacobian coordinates; Z = 0 is the neutral element. -/
abbrev JPoint := Nat × Nat × Nat

/-- The neutral element. -/
def jZero : JPoint := (1, 1, 0)

/-- The difference modulo the field prime. -/
def subP (a b : Nat) : Nat := (a + p384P - b % p384P) % p384P

/-- Twice a point. -/
def jDouble (q : JPoint) : JPoint :=
  let (x, y, z) := q
  if z = 0 ∨ y = 0 then jZero
  else
    let delta := z * z % p384P
    let gamma := y * y % p384P
    let beta := x * gamma % p384P
    let alpha := 3 * (subP x delta * ((x + delta) % p384P)) % p384P
    let x3 := subP (alpha * alpha) (8 * beta)
    let z3 := subP (subP ((y + z) * (y + z)) gamma) delta
    let y3 := subP (alpha * subP (4 * beta) x3) (8 * gamma * gamma)
    (x3, y3, z3)

/-- The sum of two points. -/
def jAdd (q r : JPoint) : JPoint :=
  let (x1, y1, z1) := q
  let (x2, y2, z2) := r
  if z1 = 0 then r
  else if z2 = 0 then q
  else
    let zz1 := z1 * z1 % p384P
    let zz2 := z2 * z2 % p384P
    let u1 := x1 * zz2 % p384P
    let u2 := x2 * zz1 % p384P
    let s1 := y1 * z2 % p384P * zz2 % p384P
    let s2 := y2 * z1 % p384P * zz1 % p384P
    if u1 = u2 then (if s1 = s2 then jDouble q else jZero)
    else
      let h := subP u2 u1
      let w := subP s2 s1
      let hh := h * h % p384P
      let hhh := h * hh % p384P
      let v := u1 * hh % p384P
      let x3 := subP (subP (w * w) hhh) (2 * v)
      let y3 := subP (w * subP v x3) (s1 * hhh)
      (x3, y3, z1 * z2 % p384P * h % p384P)

/-- A multiple of a point, over the `n` low bits of the scalar. -/
def jMul : Nat → Nat → JPoint → JPoint
  | 0, _, _ => jZero
  | n + 1, k, q =>
    let r := jMul n (k / 2) (jDouble q)
    if k % 2 = 1 then jAdd q r else r

/-- The affine coordinates of a point other than the neutral element. -/
def jAffine (q : JPoint) : Nat × Nat :=
  let i := invMod p384P q.2.2
  let ii := i * i % p384P
  (q.1 * ii % p384P, q.2.1 * ii % p384P * i % p384P)

/-- A public key names a point of the curve. -/
def p384Valid (x y : Nat) : Bool :=
  decide (x < p384P) && decide (y < p384P) && decide (y * y % p384P = subP (x * x * x + p384B) (3 * x))

/-- The base point. -/
def p384G : JPoint := (p384Gx, p384Gy, 1)

/-- ECDSA verification over the SHA-384 of a message (R421): the 96-byte key and signature. -/
def ecdsaVerify (key msg sig : Bytes) : Bool :=
  let x := beNat (key.take 48)
  let y := beNat ((key.drop 48).take 48)
  let r := beNat (sig.take 48)
  let t := beNat ((sig.drop 48).take 48)
  if !p384Valid x y ∨ r = 0 ∨ p384N ≤ r ∨ t = 0 ∨ p384N ≤ t then false
  else
    let w := invMod p384N t
    let e := beNat (sha384 msg)
    let q := jAdd (jMul 384 (e * w % p384N) p384G) (jMul 384 (r * w % p384N) (x, y, 1))
    decide (q.2.2 ≠ 0) && decide ((jAffine q).1 % p384N = r)

/-- The 96-byte public key of a scalar. -/
def p384Public (d : Nat) : Bytes :=
  let q := jAffine (jMul 384 d p384G)
  beBytes 48 q.1 ++ beBytes 48 q.2

/-- The 96-byte ECDSA signature of a message with scalar `d` and the per-message secret `k`. -/
def ecdsaSign (d k : Nat) (msg : Bytes) : Bytes :=
  let r := (jAffine (jMul 384 k p384G)).1 % p384N
  let t := invMod p384N k * (beNat (sha384 msg) + r * d) % p384N
  beBytes 48 r ++ beBytes 48 t

end Sys2Proof.Machine
end

