-- ==== Sys2Proof/Machine/Member.lean ====
section
/-! DEFINITION. Saltern membership: the configuration, heartbeats, the decision, sweeps, fencing, joining and leaving
(R489 to R503). -/

namespace Sys2Proof.Machine

/-! ### The configuration and the sets (R489 to R492) -/

/-- A member entry after reset: WEIGHT 1. -/
def mbrInit (_ : Nat) : Word := 0x100

/-- The entry of a member: CONFIGURED, TIE, WEIGHT. -/
def State.mbrEntry (s : State) (m : Nat) : Nat := (s.ras.members.get mbrInit m).toNat
def State.mbrConfigured (s : State) (m : Nat) : Bool := bit (s.mbrEntry m) 0
def State.mbrTie (s : State) (m : Nat) : Bool := bit (s.mbrEntry m) 1
def State.mbrWeight (s : State) (m : Nat) : Nat := bits (s.mbrEntry m) 8 8

/-- The member states (R491). -/
def mbrJoining : Nat := 1
def mbrNormal : Nat := 2
def mbrFenced : Nat := 3
def mbrLeft : Nat := 4
def State.mbrState (s : State) : Nat := s.fld Reg.RAS_MBR_STATE_STATE
def State.setMbrState (s : State) (v : Nat) : State := s.setFld Reg.RAS_MBR_STATE_STATE 0 v
def State.sweepCount (s : State) : Nat := s.fld Reg.RAS_MBR_STATE_SW

/-- A set of members in four registers of 64 bits from `a`. -/
def State.memberSet (s : State) (a : Nat) : List Nat :=
  (List.range 256).filter (fun m => (s.reg (a + 8 * (m / 64))).getLsbD (m % 64))
def setWord (l : List Nat) (n : Nat) : Nat := ((l.filter (fun m => decide (m / 64 = n))).map (fun m => 2 ^ (m % 64))).sum
def State.setMemberSet (s : State) (a : Nat) (l : List Nat) : State :=
  (List.range 4).foldl (fun s n => s.setReg (a + 8 * n) (BitVec.ofNat 64 (setWord l n))) s

def State.view (s : State) : List Nat := s.memberSet Reg.RAS_MBR_VIEW
def State.reach (s : State) : List Nat := s.memberSet Reg.RAS_MBR_REACH
def State.weightOf (s : State) (l : List Nat) : Nat := (l.map s.mbrWeight).sum

/-- REACH_WEIGHT: the weight of R within the view. -/
def State.noteWeights (s : State) : State :=
  let v := s.view
  let s := s.setFld Reg.RAS_MBR_STATE_VIEW_WEIGHT 0 (s.weightOf v)
  let s := s.setFld Reg.RAS_MBR_STATE_VIEW_COUNT 0 v.length
  s.setFld Reg.RAS_MBR_STATE_REACH_WEIGHT 0 (s.weightOf (s.reach.filter v.contains))

/-- FAB_ADMIT takes a set, the own bit clear (R490). -/
def State.setAdmit (s : State) (l : List Nat) : State :=
  s.setMemberSet Reg.FAB_ADMIT (l.filter (fun m => decide (m ≠ s.selfMember)))

/-- The view changes; FAB_ADMIT follows it in NORMAL and is zero otherwise (R490). -/
def State.setView (s : State) (l : List Nat) : State :=
  let s := (s.setMemberSet Reg.RAS_MBR_VIEW l).noteWeights
  s.setAdmit (if s.mbrState = mbrNormal then l else [])

def heardInit : Heard := ⟨none, 0, 0⟩
def State.heardOf (s : State) (m : Nat) : Heard := s.ras.heard.get (fun _ => heardInit) m

/-- Member `m` is reachable (R492). -/
def State.reachesMember (s : State) (m : Nat) : Bool :=
  decide (m = s.selfMember) ||
  (match SMap.find? s.ras.heard m with
   | none => false
   | some h => h.time.any (fun t => decide (s.tb ≤ t + s.fld Reg.RAS_MBR_CFG_HB_TIMEOUT_US * 1000)))

/-- R follows what has been heard; a change starts SETTLE_US (R492). -/
def State.updateReach (s : State) : State :=
  let r := (List.range 256).filter s.reachesMember
  if r = s.reach then s
  else { (s.setMemberSet Reg.RAS_MBR_REACH r).noteWeights with ras := { s.ras with changedAt := some s.tb } }

/-- The device enters JOINING: no view, and the decision is taken anew. -/
def State.enterJoining (s : State) : State :=
  let s := (s.setMbrState mbrJoining).setView []
  { s with ras := { s.ras with changedAt := some s.tb, join := none, joinAfter := 0 } }.updateReach

/-- The staged entries hold an illegal value (R489). -/
def State.mbrBad (s : State) (words : SMap Word) : Bool :=
  let e := fun m => (words.get mbrInit m).toNat
  let hb := s.stagedFld Reg.RAS_MBR_CFG_HB_INTERVAL_US
  !bit (e s.selfMember) 0 ||
  decide (((List.range 256).map (fun m => if bit (e m) 0 then bits (e m) 8 8 else 0)).sum = 0) ||
  (List.range 256).any (fun m => bit (e m) 1 && !bit (e m) 0) ||
  decide (hb = 0) || decide (s.stagedFld Reg.RAS_MBR_CFG_HB_TIMEOUT_US < 2 * hb) ||
  decide (s.mbrState ≠ 0)

/-- A commit of the membership group (R489). -/
def State.membershipApply (s : State) (words : SMap Word) : Nat × State :=
  if s.mbrBad words then (0x5405, s.raise rasSite 0x5405)
  else
    let s := { s.applyStaged Reg.RAS_MBR_CFG with ras := { s.ras with members := words } }
    if s.fld Reg.RAS_MBR_CFG_ENABLE = 0 then (0, s)
    else (0, (List.range 16).foldl (fun s n => if s.fld Reg.LNK_CFG_ENABLE (instDelta n) = 1 then s.settlePort n else s) s.enterJoining)

/-! ### Packets (R491) -/

def ctHeartbeat : Nat := 0x20
def ctJoinReq : Nat := 0x21
def ctJoinAck : Nat := 0x22
def ctLeave : Nat := 0x23

/-- A membership packet to a member of this saltern. -/
def State.sendMember (s : State) (ctype m code : Nat) (view : Option (List Nat)) : State :=
  let tail := match view with
    | none => []
    | some l => (List.range 4).flatMap (fun n => leBytes 8 (setWord l n))
  s.sendControl (s.fld Reg.FAB_SELF_SALTERN * 256 + m) ctype
    (leBytes 1 s.selfMember ++ leBytes 1 s.mbrState ++ leBytes 2 (s.fld Reg.RAS_STATE_FALLOW) ++ leBytes 4 code ++
      leBytes 8 s.sweepCount ++ tail)

def mbrBodyMember (k : Pkt) : Nat := leNat (k.body.take 1)
def mbrBodyState (k : Pkt) : Nat := leNat ((k.body.drop 1).take 1)
def mbrBodyFlags (k : Pkt) : Nat := leNat ((k.body.drop 2).take 1)
def mbrBodyCode (k : Pkt) : Nat := leNat ((k.body.drop 4).take 2)
def mbrBodySw (k : Pkt) : Nat := leNat ((k.body.drop 8).take 1)
def mbrBodyView (k : Pkt) : List Nat :=
  (List.range 256).filter (fun m => bit (leNat ((k.body.drop (16 + m / 8)).take 1)) (m % 8))

/-- The packet comes from a configured member of this saltern (R491). -/
def State.fromMember (s : State) (k : Pkt) : Bool :=
  decide (k.src / 256 = s.fld Reg.FAB_SELF_SALTERN) && s.mbrConfigured (mbrBodyMember k)

/-- The device sends its heartbeats when they are due (R491). -/
def State.heartbeatSend (s : State) : State :=
  let due := match s.ras.lastBeat with
    | none => true
    | some t => decide (t + s.fld Reg.RAS_MBR_CFG_HB_INTERVAL_US * 1000 ≤ s.tb)
  if s.mbrState = 0 ∨ !due then s
  else
    let s := { s with ras := { s.ras with lastBeat := some s.tb } }
    ((List.range 256).filter (fun m => s.mbrConfigured m && decide (m ≠ s.selfMember))).foldl (fun s m =>
      s.sendMember ctHeartbeat m 0 none) s

/-- A heartbeat arrives (R491, R492): one of STATE 1 or 2 makes its sender reachable for HB_TIMEOUT_US, whatever comes after it. -/
def State.heartbeat (s : State) (k : Pkt) : State :=
  let st := mbrBodyState k
  let h : Heard := ⟨if st = 1 ∨ st = 2 then some s.tb else (s.heardOf (mbrBodyMember k)).time, st, mbrBodyFlags k⟩
  { s with ras := { s.ras with heard := SMap.insert s.ras.heard (mbrBodyMember k) h } }.updateReach

/-- A member has not been heard for HB_TIMEOUT_US (R492). -/
def State.heartbeatTimeout (s : State) (m : Nat) : State := if s.reachesMember m then s else s.updateReach

/-! ### Sweeps and fencing (R494, R495) -/

/-- The regions that a sweep advances. -/
def State.sweptRegions (s : State) : List Nat := s.regionsWhere (fun x => decide (x.size ≠ 0) && decide (x.scope ≠ 1))

/-- A sweep (R494). -/
def State.sweep (s : State) : State :=
  let s := s.advanceAll s.sweptRegions
  let s := s.setFld Reg.RAS_MBR_STATE_SW 0 ((s.sweepCount + 1) % 256)
  ((List.range 16384).filter (fun c => decide (s.ctxState c = 1))).foldl (fun s c =>
    let a := Reg.CTX_DESC2 + ctxDelta c
    s.setReg a (BitVec.ofNat 64 (setBits (s.reg a).toNat 0 8 (s.ctxEpoch c + 1)))) s

/-- The rank window of a partition holds a VALID entry of this saltern that names a member outside a set (R495). -/
def State.windowSpans (s : State) (p : Nat) (r : List Nat) : Bool :=
  (List.range (s.rankSize p)).any (fun i =>
    let e := s.ranks.get (fun _ => 0) (s.rankBase p + i)
    bit e 24 && decide (bits e 8 16 = s.fld Reg.FAB_SELF_SALTERN) && !r.contains (bits e 0 8))

/-- The device fences itself (R495). -/
def State.fence (s : State) : State :=
  let r := s.reach
  let admitted := (s.memberSet Reg.FAB_ADMIT).filter r.contains
  let s := ((s.setMbrState mbrFenced).setAdmit admitted).sweep.raise rasSite 0x5406
  ((List.range 16384).filter (fun c => decide (s.ctxState c = 1) && s.windowSpans (s.ctxPartition c) r)).foldl (fun s c =>
    s.escalateContext c 0x5406 rasSite) s

/-! ### The decision (R493) -/

/-- quorum(l, base) of R493. -/
def State.quorum (s : State) (l base : List Nat) : Bool :=
  let wBase := s.weightOf base
  let wS := s.weightOf (l.filter base.contains)
  decide (wBase < 2 * wS) || (decide (2 * wS = wBase) && (match base.find? s.mbrTie with | none => false | some t => l.contains t))

/-- The members of R other than this device whose last heartbeat carried a state. -/
def State.heardAs (s : State) (st : Nat) : List Nat :=
  s.reach.filter (fun m => decide (m ≠ s.selfMember) && decide ((s.heardOf m).state = st))

/-- JOIN_REQ goes to every reachable NORMAL member (R493, R498): the first of an attempt, or a further one of it. -/
def State.sendJoin (s : State) : State :=
  let peers := s.heardAs mbrNormal
  if peers.isEmpty then s
  else peers.foldl (fun s m => s.sendMember ctJoinReq m 0 none)
    { s with ras := { s.ras with join := some (s.ras.join.getD ⟨s.tb, [], none⟩), joinAfter := 0 } }

/-- The device becomes NORMAL with a view. -/
def State.becomeNormal (s : State) (view : List Nat) : State :=
  let s := (s.setMbrState mbrNormal).setView view
  { s with ras := { s.ras with join := none, joinAfter := 0, changedAt := some s.tb } }.stat Reg.RAS_STAT_JOINS (view.length - 1)

/-- Members leave the view, with a sweep (R493, R501). -/
def State.removeMembers (s : State) (lost : List Nat) : State :=
  let s := (s.setView (s.view.filter (fun m => !lost.contains m))).sweep
  (s.stat Reg.RAS_STAT_REMOVED lost.length).raise rasSite 0x5407

/-- The decision is taken once R has been stable for SETTLE_US (R492, R493). -/
def State.mbrDecision (s : State) : State :=
  match s.ras.changedAt with
  | none => s
  | some t =>
    if s.tb < t + s.fld Reg.RAS_MBR_CFG_SETTLE_US * 1000 then s
    else
      let s := { s with ras := { s.ras with changedAt := none } }
      if s.mbrState = mbrJoining then
        if !(s.heardAs mbrNormal).isEmpty then s.sendJoin
        else
          let l := (List.range 256).filter (fun m => decide (m = s.selfMember) || (s.heardAs mbrJoining).contains m)
          if s.quorum l ((List.range 256).filter s.mbrConfigured) then s.becomeNormal l else s
      else if s.mbrState = mbrNormal then
        let lost := s.view.filter (fun m => !s.reach.contains m)
        if lost.isEmpty then s
        else if s.quorum s.reach s.view then s.removeMembers lost
        else s.fence
      else s

/-! ### Joining (R498 to R500) -/

/-- The code of the JOIN_ACK that answers a JOIN_REQ of a member that announces a state (R498, R500). -/
def State.joinCode (s : State) (m st : Nat) : Nat :=
  if s.mbrState ≠ mbrNormal ∨ !s.mbrConfigured m then 0x5408
  else if s.view.contains m ∧ st = mbrJoining then 0
  else if (s.heardAs mbrNormal).contains m then 0x5409
  else 0

/-- JOIN_REQ arrives (R498). -/
def State.joinReq (s : State) (k : Pkt) : State :=
  let m := mbrBodyMember k
  let code := s.joinCode m (mbrBodyState k)
  let s := if code = 0 ∧ !s.view.contains m then
      (s.setView ((List.range 256).filter (fun x => decide (x = m) || s.view.contains x))).stat Reg.RAS_STAT_JOINS 1
    else s
  s.sendMember ctJoinAck m code (some s.view)

/-- A region is owed `n` advances more. -/
def State.owe (s : State) (r n : Nat) : State :=
  { s with ras := { s.ras with owed := s.ras.owed.set (fun _ => 0) r (s.ras.owed.get (fun _ => 0) r + n) } }

/-- A region is advanced `n` times, as successive advances (R259, R499); what must wait is owed. -/
def State.catchUp (s : State) (r : Nat) : Nat → State
  | 0 => s
  | n + 1 =>
    if (s.region r).revoking then s.owe r (n + 1)
    else
      let s := s.advance r
      if (s.region r).revoking then s.owe r n else s.catchUp r n

/-- The sweep count that this device has once the advances it owes are made. -/
def State.sweepAhead (s : State) : Nat := s.ras.sweepTo.getD s.sweepCount

/-- Once no advance is owed, the sweep count is that of the JOIN_ACK (R499). -/
def State.caughtUp (s : State) : State :=
  match s.ras.sweepTo with
  | none => s
  | some w =>
    if s.ras.owed ≠ [] then s else { s with ras := { s.ras with sweepTo := none } }.setFld Reg.RAS_MBR_STATE_SW 0 w

/-- The joiner has a good JOIN_ACK from every other member of its view (R498). -/
def State.allAcked (s : State) (j : Joining) : Bool :=
  match j.view with
  | none => false
  | some v => v.all (fun m => decide (m = s.selfMember) || j.acks.contains m)

/-- The joiner becomes NORMAL when its view has answered and its catch-up is done (R498, R499). -/
def State.tryNormal (s : State) : State :=
  match s.ras.join with
  | none => s
  | some j => match j.view with
    | none => s
    | some v =>
      if s.mbrState = mbrJoining ∧ s.allAcked j ∧ s.ras.owed = [] ∧ !s.sweptRegions.any (fun r => (s.region r).revoking) then s.becomeNormal v
      else s

/-- JOIN_ACK arrives (R498 to R500): a code other than 0 is logged; a good one that comes more than 10 ms after the first JOIN_REQ no
longer counts; the first good one gives the view, and the advances that are missing. -/
def State.joinAck (s : State) (k : Pkt) : State :=
  match s.mbrState, s.ras.join with
  | 1, none => if mbrBodyCode k ≠ 0 then s.raise rasSite (mbrBodyCode k) (mbrBodyMember k) else s
  | 1, some j =>
    if mbrBodyCode k ≠ 0 then s.raise rasSite (mbrBodyCode k) (mbrBodyMember k)
    else if j.since + 10000000 < s.tb then s
    else
      let acks := if j.acks.contains (mbrBodyMember k) then j.acks else j.acks ++ [mbrBodyMember k]
      match j.view with
      | some _ => { s with ras := { s.ras with join := some { j with acks := acks } } }.tryNormal
      | none =>
        let v := (List.range 256).filter (fun m => decide (m = s.selfMember) || (mbrBodyView k).contains m)
        let d := (mbrBodySw k + 256 - s.sweepAhead) % 256
        let s := { s with ras := { s.ras with join := some { j with acks := acks, view := some v }, sweepTo := some (mbrBodySw k) } }.setView v
        (s.sweptRegions.foldl (fun s r => s.catchUp r d) s).caughtUp.tryNormal
  | _, _ => s

/-- A pending advance takes effect, and the next one owed to the region follows it (R259, R499). -/
def State.revokingStep (s : State) (r : Nat) : State :=
  if !(s.region r).revoking ∨ !s.advanceDue r then s
  else
    let s := s.revokingAdvance r
    let n := s.ras.owed.get (fun _ => 0) r
    let s := { s with ras := { s.ras with owed := s.ras.owed.set (fun _ => 0) r 0 } }
    (s.catchUp r n).caughtUp.tryNormal

/-- A joiner lacks a JOIN_ACK after 10 ms, or tries again 100 ms after that (R498). -/
def State.joinTimeout (s : State) : State :=
  match s.ras.join with
  | some j =>
    if s.mbrState = mbrJoining ∧ !s.allAcked j ∧ j.since + 10000000 < s.tb then
      { s with ras := { s.ras with join := none, joinAfter := s.tb + 100000000 } }.raise rasSite 0x540A
    else s
  | none => if s.mbrState = mbrJoining ∧ s.ras.joinAfter ≠ 0 ∧ s.ras.joinAfter ≤ s.tb then s.sendJoin else s

/-! ### Leaving and coming back (R496, R501) -/

/-- LEAVE arrives (R501). -/
def State.leave (s : State) (k : Pkt) : State :=
  let m := mbrBodyMember k
  if s.mbrState = mbrNormal ∧ s.view.contains m then s.removeMembers [m] else s

/-- A write of RAS_MBR_CTRL.LEAVE by a NORMAL device (R501); FAB_ADMIT is zero while it is LEFT (R490). -/
def State.leaveWrite (s : State) : State :=
  if s.mbrState ≠ mbrNormal then s
  else
    let peers := s.view.filter (fun m => decide (m ≠ s.selfMember))
    let s := { (s.setMbrState mbrLeft).setAdmit [] with ras := { s.ras with leftAt := some s.tb } }
    peers.foldl (fun s m => s.sendMember ctLeave m 0 none) s

/-- 1 ms after LEAVE the device is idle (R501). -/
def State.leaveIdle (s : State) : State :=
  match s.ras.leftAt with
  | none => s
  | some t =>
    if s.tb < t + 1000000 then s
    else
      let s := { s.setAdmit [] with ras := { s.ras with leftAt := none } }
      (List.range 16).foldl State.settlePort s

/-- A write of RAS_MBR_CTRL.REJOIN by a FENCED device (R496). -/
def State.rejoin (s : State) : State := if s.mbrState = mbrFenced then s.enterJoining else s

/-- A membership packet by its control type (R491). -/
def State.memberPacket (s : State) (ctype : Nat) (k : Pkt) : State :=
  if s.mbrState = 0 then s
  else if ctype = ctJoinReq ∧ k.src / 256 = s.fld Reg.FAB_SELF_SALTERN then s.joinReq k
  else if !s.fromMember k then s.stat Reg.RAS_STAT_HB_FOREIGN 1
  else if ctype = ctHeartbeat then s.heartbeat k
  else if ctype = ctJoinAck then s.joinAck k
  else if ctype = ctLeave then s.leave k
  else s

end Sys2Proof.Machine
end

