-- ==== Sys2Proof/Machine/Image.lean ====
section
/-! DEFINITION. The configuration flash, the image and its checks, measurements and the attestation report, the error log's
copies, and loads and updates of the image (R417 to R424, R430 to R439, R445). -/

namespace Sys2Proof.Machine

/-! ### Measurements and the report (R434 to R436) -/

/-- M := SHA-384(M ‖ value). -/
def State.extend (s : State) (i : Nat) (v : Bytes) : State :=
  { s with mgmt := { s.mgmt with meas := s.mgmt.meas.set i (sha384 (s.mgmt.meas.getD i [] ++ v)) } }

/-- A runtime event extends MEAS3; its 12 bytes of detail are free (log entry 3). -/
def State.measEvent (s : State) (typ code : Nat) : State :=
  let (a, s) := s.fresh
  let (b, s) := s.fresh
  s.extend 3 (leBytes 2 typ ++ leBytes 2 code ++ leBytes 8 a.toNat ++ leBytes 4 b.toNat)

/-- The identity key's scalar (R435). -/
def Fuses.idScalar (f : Fuses) : Nat :=
  beNat (sha384 (f.idSeed ++ [0x4C, 0x4B, 0x39, 0x2D, 0x49, 0x44])) % (p384N - 1) + 1

/-- DEVICE_ID, 16 bytes. -/
def State.deviceId (s : State) : Bytes := (List.range 2).flatMap (fun i => leBytes 8 (s.fuses.deviceId.getD i 0).toNat)

/-- IMAGE_ID of the running image. -/
def State.imageId (s : State) : Nat := (s.reg Reg.DET_IMAGE_ID).toNat

/-- FLAGS of the report: unlocked since boot, fallow, HELD, DET_MISMATCH, warm boot. -/
def State.attestFlags (s : State) : Nat :=
  s.fld Reg.MGT_BOOT_UNLOCKED + 2 * s.fld Reg.RAS_STATE_FALLOW + 4 * b2n (decide (s.fld Reg.MGT_BOOT_STATE = 7)) +
  8 * s.fld Reg.MGT_BOOT_DET_MISMATCH + 16 * s.fld Reg.MGT_BOOT_WARM

/-- The IMAGE_ID in the header kept in MC SRAM. -/
def State.headerImageId (s : State) : Nat := leNat ((s.mgmt.header.drop 8).take 8)

/-- The attestation report for a nonce (R436). The signature's per-message secret is free (log entry 3). -/
def State.attest (s : State) (nonce : Bytes) : Bytes × State :=
  let body := leBytes 4 0x41545401 ++ leBytes 2 1 ++ leBytes 2 s.attestFlags ++ s.deviceId ++ leBytes 8 s.detClass ++
    leBytes 8 s.headerImageId ++ leBytes 4 (s.fld Reg.SEC_SVN_IMAGE) ++ leBytes 4 s.fuses.minSvn ++
    leBytes 8 s.flash.coldBoots ++ leBytes 8 s.tb ++ (nonce ++ List.replicate (48 - nonce.length) 0).take 48 ++
    s.mgmt.meas.flatten ++ p384Public s.fuses.idScalar
  let ws := (List.range 6).map (fun i => (Config.freeWord (s.free + i)).toNat)
  let k := ws.foldl (fun a w => a * 2 ^ 64 + w) 0 % (p384N - 1) + 1
  (body ++ ecdsaSign s.fuses.idScalar k body, { s with free := s.free + 6 })

/-! ### The log's entries and copies (R437, R439) -/

/-- The 32 bytes of a log entry (R437). -/
def LogEntry.bytes (e : LogEntry) : Bytes :=
  let b := leBytes 8 e.time ++ leBytes 2 e.code ++ leBytes 2 e.count ++ leBytes 1 (e.severity + 128 * b2n e.dropped) ++
    leBytes 1 e.die ++ leBytes 2 e.inst ++ leBytes 8 e.detail ++ leBytes 4 e.seq
  b ++ leBytes 4 (crc32c b)

/-- SEQ of an entry's bytes, and whether they fit their CRC (R437). -/
def entrySeq (b : Bytes) : Nat := leNat ((b.drop 0x18).take 4)
def entryGood (b : Bytes) : Bool := decide (leNat ((b.drop 0x1C).take 4) = crc32c (b.take 0x1C))

/-- The kept entry with a SEQ, or 32 zero bytes. -/
def State.logEntry (s : State) (n : Nat) : Bytes :=
  match s.log.entries.find? (fun e => decide (e.seq = n)) with
  | some e => e.bytes
  | none => List.replicate 32 0

def mirrorBase : Nat := 0x023FBE000000

/-- Entries not yet in the mirror are copied there (R439). -/
def State.mirrorLog (s : State) : State :=
  let new := (s.log.entries.filter (fun e => decide (s.log.mirrored ≤ e.seq))).reverse
  let s := new.foldl (fun s e => s.writeBytes (mirrorBase + e.seq % 524288 * 32) e.bytes) s
  { s with log := { s.log with mirrored := s.log.nextSeq } }

/-- The kept entries that the flash log does not hold yet. -/
def State.unflashed (s : State) : List LogEntry :=
  s.log.entries.filter (fun e => decide (s.log.flashed ≤ e.seq) && !s.flash.log.any (fun f => decide (entrySeq f = e.seq)))

/-- Entries go to the flash log area; when it is full its oldest sector of 2,048 entries is erased (R439). -/
def State.flashWrite (s : State) (es : List LogEntry) : State :=
  let l := es.map LogEntry.bytes ++ s.flash.log
  let l := if 393216 < l.length then l.take (393216 - 2048 + l.length % 2048) else l
  ({ s with flash := { s.flash with log := l, writing := some (.log es.length, s.tb) } }.stat Reg.MGT_STAT_FLASH_COMMITS 1)

/-- Everything kept is in the flash log. -/
def State.flashAll (s : State) : State :=
  let s := if s.unflashed.isEmpty then s else s.flashWrite s.unflashed
  { s with log := { s.log with flashed := s.log.nextSeq } }

/-- The entries that are due for the flash log go there (R439): severity 2 and 3 at once, the others as a batch of 4 KiB or
after 60 s; `fails` says that the write fails. -/
def State.flashBatch (s : State) (fails : Bool) : State :=
  let high := s.unflashed.filter (fun e => decide (2 ≤ e.severity))
  let low := s.unflashed.filter (fun e => decide (e.severity < 2))
  let lowDue := decide (128 ≤ low.length) || low.any (fun e => decide (e.time + 60000000000 ≤ s.tb))
  if high.isEmpty ∧ !lowDue then s
  else if fails ∨ !s.flash.good then s.raise mgtSite 0x4C11
  else if lowDue then s.flashAll
  else s.flashWrite high

/-! ### The flash and the image header (R417 to R421) -/

/-- The flash answers as R417 asks, with a capacity from 64 MiB to 2 GiB. -/
def Flash.usable (f : Flash) : Bool := f.good && decide (0x4000000 ≤ f.capacity) && decide (f.capacity ≤ 0x80000000)

/-- An erased byte. -/
def erased (_ : Nat) : Byte := 0xFF

/-- `n` bytes of the image area. -/
def Flash.read (f : Flash) (a n : Nat) : Bytes := (List.range n).map (fun i => f.image.get erased (a + i))

/-- Program bytes of the image area. -/
def Flash.program (f : Flash) (a : Nat) : Bytes → Flash
  | [] => f
  | b :: t => Flash.program { f with image := f.image.set erased a b } (a + 1) t

/-- Erase sector 0. -/
def Flash.eraseFirst (f : Flash) : Flash := { f with image := f.image.filter (fun e => decide (65536 ≤ e.1)) }

/-- A field of the header (R420). -/
def hdrNat (h : Bytes) (a n : Nat) : Nat := leNat ((h.drop a).take n)
def imgCfgLen (h : Bytes) : Nat := hdrNat h 0x18 8
def imgMemLen (h : Bytes) : Nat := hdrNat h 0x20 8
def imgSvn (h : Bytes) : Nat := hdrNat h 0x10 4
def imgLen (h : Bytes) : Nat := 0x200 + imgCfgLen h + imgMemLen h
/-- ARRAY_REQ of a MATRIX instance. -/
def imgArrayReq (h : Bytes) (m : Nat) : Nat := bits (hdrNat h (0x38 + m / 4) 1) (2 * (m % 4)) 2

/-- A range of header bytes is zero. -/
def zeroBytes (h : Bytes) (a n : Nat) : Bool := ((h.drop a).take n).all (fun b => decide (b = 0))

/-- The header breaks R420 (check 1 of R421). -/
def State.headerBad (s : State) (h : Bytes) : Bool :=
  decide (hdrNat h 0 4 ≠ 0x4C4B0901) || decide (hdrNat h 4 2 ≠ 1) || decide (3 < hdrNat h 6 1) || decide (1 < hdrNat h 7 1) ||
  decide (hdrNat h 8 8 = 0) || decide (64 < imgSvn h) || decide (3 < hdrNat h 0x14 4) ||
  !aligned (imgCfgLen h) 16 || decide (imgCfgLen h < 32) || decide (12582912 < imgCfgLen h) || !aligned (imgMemLen h) 16 ||
  decide (hdrNat h 0x30 8 = 0) || (List.range 128).any (fun m => decide (imgArrayReq h m = 3)) ||
  !zeroBytes h 0x58 8 || !zeroBytes h 0xF0 16 || !zeroBytes h 0x160 160 ||
  decide (s.flash.capacity - 0x1000000 < imgLen h)

/-- A fused key slot is provisioned, not revoked, and holds the hash of a public key (check 2 of R421). -/
def State.keyGood (s : State) (slot : Nat) (key : Bytes) : Bool :=
  bit s.fuses.keysProvisioned slot && !bit s.fuses.keysRevoked slot && decide (sha384 key = s.fuses.keyHashes.getD slot [])

/-- Checks 1 to 5 of R421: the first failing code. -/
def State.headerCode (s : State) (h : Bytes) : Option Nat :=
  let key := (h.drop 0x90).take 96
  firstCode [
    (s.headerBad h, 0x4C02),
    (!s.keyGood (hdrNat h 6 1) key, 0x4C03),
    (!ecdsaVerify key (h.take 0x100) ((h.drop 0x100).take 96), 0x4C04),
    (decide (imgSvn h < s.fuses.minSvn), 0x4C05),
    ((decide (hdrNat h 7 1 = 0) && s.fuses.gradeB) ||
      decide (hdrNat h 0x30 8 &&& s.fuses.corePresent.toNat ≠ hdrNat h 0x30 8), 0x4C06)]

/-- The configuration section has the hash that the header names (check 6 of R421). -/
def cfgHashGood (h cfg : Bytes) : Bool := decide (sha384 cfg = (h.drop 0x60).take 48)

/-! ### Records (R422 to R424) -/

/-- A record: TYPE, ADDR and payload (R422). -/
structure BootRecord where
  typ : Nat
  addr : Nat
  data : Bytes
deriving DecidableEq, Repr

/-- The record at the start of a byte string, with the bytes it takes; none where it is malformed (R422). -/
def recordAt (bs : Bytes) : Option (BootRecord × Nat) :=
  let len := hdrNat bs 4 4
  let total := 16 + ceilDiv len 16 * 16
  let pad := (bs.drop (16 + len)).take (total - 16 - len)
  if bs.length < 16 ∨ bs.length < total ∨ hdrNat bs 2 2 ≠ 0 ∨ pad.any (fun b => decide (b ≠ 0)) then none
  else some (⟨hdrNat bs 0 2, hdrNat bs 8 8, (bs.drop 16).take len⟩, total)

/-- A record has the ADDR and payload its type asks for, in its section (R422). -/
def BootRecord.good (r : BootRecord) (config first : Bool) : Bool :=
  let n := r.data.length
  match r.typ with
  | 1 => config && (decide (n = 4) || decide (n = 8)) && decide (r.addr < 2 ^ 32)
  | 2 => config && decide (n = 0) && decide (r.addr < 2 ^ 32)
  | 3 => !config && decide (1 ≤ n) && decide (n ≤ 16777216)
  | 4 => !config && decide (n = 16) && aligned r.addr 64 && aligned (leNat (r.data.take 8)) 64
  | 5 => config && decide (4 ≤ n) && aligned n 4
  | 6 => config && first && decide (r.addr = 0) && aligned n 48
  | 7 => config && decide (n = 0) && decide (1 ≤ r.addr) && decide (r.addr ≤ 100000)
  | 8 => decide (r.addr = 0) && decide (n = 0)
  | _ => false

/-- The CHUNK_TABLE of a configuration section: the payload of its first record where that is one. -/
def chunkTable (cfg : Bytes) : Option Bytes :=
  match recordAt cfg with
  | some (r, _) => if r.typ = 6 then some r.data else none
  | none => none

/-- CHUNK_TABLE fits MEM_LEN (R423). -/
def chunkTableGood (h cfg : Bytes) : Bool :=
  if imgMemLen h = 0 then true
  else match chunkTable cfg with
    | none => false
    | some t => decide (t.length = 48 * ceilDiv (imgMemLen h) 1048576)

/-- Chunk `j` of a memory section has its hash (R424). -/
def chunkGood (cfg mem : Bytes) (j : Nat) : Bool :=
  decide (sha384 ((mem.drop (1048576 * j)).take 1048576) = (((chunkTable cfg).getD []).drop (48 * j)).take 48)

/-- Checks 1 to 6 of R421, CHUNK_TABLE and every chunk: the first failing code (R445). -/
def State.imageCode (s : State) (img : Bytes) : Option Nat :=
  let h := img.take 0x200
  let cfg := (img.drop 0x200).take (imgCfgLen h)
  let mem := (img.drop (0x200 + imgCfgLen h)).take (imgMemLen h)
  match s.headerCode h with
  | some k => some k
  | none => firstCode [
      (decide (img.length < imgLen h), 0x4C02),
      (!cfgHashGood h cfg, 0x4C07),
      (!chunkTableGood h cfg, 0x4C08),
      (!(List.range (ceilDiv (imgMemLen h) 1048576)).all (chunkGood cfg mem), 0x4C07)]

/-- The bytes of the image that the flash holds. -/
def State.flashImage (s : State) : Bytes := s.flash.read 0 (min (imgLen (s.flash.read 0 0x200)) (s.flash.capacity - 0x1000000))

/-- The flash holds a valid image (R432). -/
def State.flashValid (s : State) : Bool := s.flash.usable && (s.headerCode (s.flash.read 0 0x200)).isNone && (s.imageCode s.flashImage).isNone

/-! ### Recovery loads (R431 to R433) -/

/-- The device is in RECOVERY. -/
def State.recovering (s : State) : Bool := decide (s.fld Reg.MGT_BOOT_STATE = 8)

/-- A load is abandoned: sector 0 is erased, the code is logged with 0x4C0E (R433), each in an MGCLK cycle of its own, since
the erasure lies between them. -/
def State.loadFail (s : State) (code : Nat) : State :=
  { ((s.raise mgtSite code).siteLater mgtSite).raise mgtSite 0x4C0E code with
    flash := s.flash.eraseFirst, mgmt := { s.mgmt with load := [] } }

/-- The first check of a load that fails when it grows from `old` to `new` bytes (R433). -/
def State.loadCode (s : State) (old new : Bytes) : Option Nat :=
  let h := new.take 0x200
  let cfgEnd := 0x200 + imgCfgLen h
  let crossed := fun (n : Nat) => decide (old.length < n) && decide (n ≤ new.length)
  let cfg := (new.drop 0x200).take (imgCfgLen h)
  if crossed 0x200 ∧ (s.headerCode h).isSome then s.headerCode h
  else if new.length < 0x200 then none
  else firstCode [
    (crossed cfgEnd && !cfgHashGood h cfg, 0x4C07),
    (crossed cfgEnd && !chunkTableGood h cfg, 0x4C08),
    (decide (cfgEnd ≤ new.length) && (List.range (ceilDiv (imgMemLen h) 1048576)).any (fun j =>
      crossed (min (cfgEnd + 1048576 * (j + 1)) (imgLen h)) && !chunkGood cfg (new.drop cfgEnd) j), 0x4C07)]

/-- The next bytes of a load: checked, programmed, and the header last (R433). The answer is the failing code. -/
def State.loadTake (s : State) (bs : Bytes) : Nat × State :=
  let old := s.mgmt.load
  let new := old ++ bs
  match s.loadCode old new with
  | some k => (k, s.loadFail k)
  | none =>
    let h := new.take 0x200
    let f := if old.length < 0x200 ∧ 0x200 ≤ new.length then { s.flash with image := [] } else s.flash
    let from_ := max 0x200 old.length
    let f := if new.length ≤ 0x200 then f else f.program from_ (new.drop from_)
    if 0x200 ≤ new.length ∧ imgLen h ≤ new.length then
      let s := { s with flash := f.program 0 h, mgmt := { s.mgmt with load := [], asking := none } }
      (0, (s.setFld Reg.RAS_STATE_CYCLE_REQ 0 1).raise rasSite 0x540D)
    else (0, { s with flash := f, mgmt := { s.mgmt with load := new } })

/-- The next UP port at or above a number (R432). -/
def State.nextUp (s : State) (l : Nat) : Option Nat := (List.range 32).find? (fun x => decide (l ≤ x) && s.lportUp x)

/-- A control packet to the device at the other end of a link (R432). -/
def State.sendNeighbour (s : State) (l ctype : Nat) (body : Bytes) : State :=
  let p : Pkt := { typ := 0x30, dest := 0xFFFFFF, src := s.selfDev, len := body.length, tag := s.selfDev + ctype * 2 ^ 24,
                   reqId := s.nextReq, budget := s.fld Reg.FAB_MSG_CFG_DEFAULT_BUDGET, inject := s.tb % 2 ^ 32, body := body }
  { s with nextReq := (s.nextReq + 1) % 2 ^ 24 }.pushTx l ⟨p, s.fld Reg.FAB_RT_CTRL_INJECT_EPOCH, true, s.tb, none⟩

/-- How many bytes the next IMAGE_REQ asks for. -/
def State.loadWant (s : State) : Nat :=
  let n := s.mgmt.load.length
  if n < 0x200 then 0x200 - n else min 1008 (imgLen (s.mgmt.load.take 0x200) - n)

/-- An IMAGE_REQ goes out on a port (R432). -/
def State.askImage (s : State) (l repeats : Nat) : State :=
  let s := { s with mgmt := { s.mgmt with asking := some ⟨l, s.tb, repeats, none⟩ } }
  s.sendNeighbour l 0x10 (leBytes 8 s.mgmt.load.length ++ leBytes 2 s.loadWant)

/-- The ROM asks the first UP port at or above a number, from the start of the image; with none left it waits 10 s. -/
def State.askFrom (s : State) (l : Nat) : State :=
  let s := { s with mgmt := { s.mgmt with load := [] } }
  match s.nextUp l with
  | some k => s.askImage k 0
  | none => { s with mgmt := { s.mgmt with asking := some ⟨0, s.tb, 0, some (s.tb + 10000000000)⟩ } }

/-- The monitor's load is running. -/
def State.monitorLoads (s : State) : Bool :=
  match s.mgmt.monitor.xfer with
  | some x => (match x.kind with | .load _ => true | _ => false)
  | none => false

/-- The time for an IMAGE_REQ has come: the first, a repeat, the next port, or the start after 10 s (R432). -/
def State.imageReqTimeout (s : State) : State :=
  if !s.recovering ∨ !s.flash.usable ∨ s.monitorLoads then s
  else match s.mgmt.asking with
    | none => if (s.nextUp 0).isSome then s.askFrom 0 else s
    | some a => match a.resumeAt with
      | some t => if t ≤ s.tb then s.askFrom 0 else s
      | none =>
        if s.tb < a.sentAt + 10000000 then s
        else if a.repeats < 2 then s.askImage a.port (a.repeats + 1)
        else s.askFrom (a.port + 1)

/-- IMAGE_DATA arrives on a port (R432, R433). -/
def State.imageData (s : State) (l : Nat) (body : Bytes) : State :=
  match s.mgmt.asking with
  | none => s
  | some a =>
    let off := leNat (body.take 8)
    let len := leNat ((body.drop 8).take 2)
    if !s.recovering ∨ a.port ≠ l ∨ a.resumeAt.isSome ∨ off ≠ s.mgmt.load.length then s
    else if len = 0 then s.askFrom (l + 1)
    else
      let r := s.loadTake (((body.drop 10).take len).take s.loadWant)
      if r.1 ≠ 0 then r.2.askFrom (l + 1)
      else if r.2.mgmt.asking.isNone then r.2
      else r.2.askImage l 0

/-- The port still serves a client: an IMAGE_DATA that answers a request waits to be sent on it (DEDUCED, log entry 160). -/
def State.serving (s : State) (l : Nat) : Bool :=
  (s.lport l).queues.flatten.any (fun t => decide (t.r.pkt.typ = 0x30) && decide (t.r.pkt.tag / 2 ^ 24 = 0x11))

/-- IMAGE_REQ arrives on a port (R432): the image in flash is served, one client at a time; a request while the port serves is answered
with length 0. -/
def State.imageReq (s : State) (l : Nat) (body : Bytes) : State :=
  let off := leNat (body.take 8)
  let len := leNat ((body.drop 8).take 2)
  if s.fld Reg.MGT_CTRL_SERVE_EN = 0 ∨ len = 0 ∨ 1008 < len ∨ !s.flashValid then s
  else if s.serving l then s.sendNeighbour l 0x11 (leBytes 8 off ++ leBytes 2 0)
  else
    let n := min len (imgLen (s.flash.read 0 0x200) - off)
    s.sendNeighbour l 0x11 (leBytes 8 off ++ leBytes 2 n ++ s.flash.read off n)

/-! ### Updates (R445) -/

/-- An update starts, or is refused because one runs or its range is illegal (R445). -/
def State.updateStart (s : State) (addr len : Nat) (by_ : UpdateBy) : Nat × State :=
  if s.mgmt.update.isSome then (0x4C0F, s.raise mgtSite 0x4C0F)
  else if len = 0 ∨ !inLpddr addr len then (0x4C13, s.raise mgtSite 0x4C13)
  else
    let s := { s with mgmt := { s.mgmt with update := some (addr, len, by_) } }
    (0, s.setReg Reg.MGT_UPDATE 1)

/-- MGT_UPDATE after an update. -/
def updateWord (phase code mib : Nat) : Word := BitVec.ofNat 64 (phase + code * 2 ^ 16 + mib * 2 ^ 32)

/-- PHASE and MIB_DONE of MGT_UPDATE. -/
def State.updatePhase (s : State) : Nat := s.fld Reg.MGT_UPDATE_PHASE

/-- An update ends with a code; the answer says who waits. -/
def State.updateFail (s : State) (by_ : UpdateBy) (k : Nat) : Option (UpdateBy × Nat) × State :=
  (some (by_, k), (({ s with mgmt := { s.mgmt with update := none } }.raise mgtSite k).setReg Reg.MGT_UPDATE (updateWord 6 k 0)))

/-- A failure after erasure erases sector 0 (R445). -/
def State.updateSpoil (s : State) (by_ : UpdateBy) : Option (UpdateBy × Nat) × State :=
  { s with flash := s.flash.eraseFirst }.updateFail by_ 0x4C10

/-- Step 1 of an update ends: the image in memory is checked (R445). -/
def State.updateVerify (s : State) (addr len : Nat) (by_ : UpdateBy) : Option (UpdateBy × Nat) × State :=
  let code := if s.fetchPoisoned addr len then some 0x4C07 else s.imageCode (s.fetch addr len)
  let s := s.noteFetch addr len
  match code with
  | some k => s.updateFail by_ k
  | none => (none, s.setReg Reg.MGT_UPDATE (updateWord 2 0 0))

/-- The erasure of an update ends (R433, R445): no valid header is in flash. -/
def State.updateErase (s : State) (by_ : UpdateBy) (fails : Bool) : Option (UpdateBy × Nat) × State :=
  if !s.flash.usable then s.updateFail by_ 0x4C01
  else if fails then s.updateSpoil by_
  else (none, { s with flash := { s.flash with image := [] } }.setReg Reg.MGT_UPDATE (updateWord 3 0 0))

/-- Programming comes as far as `mib` MiB of the image (R433, R445): from flash offset 0x200 on, and the header last. -/
def State.updateProgram (s : State) (addr len : Nat) (by_ : UpdateBy) (mib : Nat) (fails : Bool) : Option (UpdateBy × Nat) × State :=
  if fails then s.updateSpoil by_
  else
    let img := s.fetch addr len
    let n := imgLen (img.take 0x200)
    let done := max (s.fld Reg.MGT_UPDATE_MIB_DONE) mib * 1048576
    let s := s.noteFetch addr len
    let f := s.flash.program 0x200 ((img.take (min n done)).drop 0x200)
    if n ≤ done then
      (none, { s with flash := f.program 0 (img.take 0x200) }.setReg Reg.MGT_UPDATE (updateWord 4 0 (ceilDiv n 1048576)))
    else (none, { s with flash := f }.setReg Reg.MGT_UPDATE (updateWord 3 0 (done / 1048576)))

/-- Step 3 of an update ends: the flash is read back and hashed against the image, and has the hashes of its header (R445). -/
def State.updateReadBack (s : State) (addr len : Nat) (by_ : UpdateBy) (fails : Bool) : Option (UpdateBy × Nat) × State :=
  let img := s.fetch addr len
  let n := imgLen (img.take 0x200)
  let back := s.flash.read 0 n
  let same := !s.fetchPoisoned addr len && decide (sha384 back = sha384 (img.take n)) && (s.imageCode back).isNone
  let s := s.noteFetch addr len
  if fails ∨ !same then s.updateSpoil by_
  else
    let s := ({ s with mgmt := { s.mgmt with update := none } }.measEvent 3 0).stat Reg.MGT_STAT_UPDATES 1
    (some (by_, 0), s.setReg Reg.MGT_UPDATE (updateWord 5 0 (ceilDiv n 1048576)))

/-- The phase of MGT_UPDATE that a mark reaches at the latest, and the MiB it programs. -/
def markPhase : UpdateMark → Nat
  | .verified => 2
  | .erased => 3
  | .programmed _ => 4
  | .ended => 5
def markMib : UpdateMark → Nat
  | .programmed mib => mib
  | _ => 2048

/-- A step of an update runs where it is next, and the mark lies beyond it. -/
def State.updatePart (r : Option (UpdateBy × Nat) × State) (phase : Nat) (mark : UpdateMark)
    (f : State → Option (UpdateBy × Nat) × State) : Option (UpdateBy × Nat) × State :=
  if r.1.isNone ∧ r.2.updatePhase = phase ∧ phase < markPhase mark then f r.2 else r

/-- The running update comes as far as `mark` says (R445); `fails` says that the flash fails in the last step of that. The answer says
who waits, once it has ended. -/
def State.updateEnd (s : State) (mark : UpdateMark) (fails : Bool) : Option (UpdateBy × Nat) × State :=
  match s.mgmt.update with
  | none => (none, s)
  | some (addr, len, by_) =>
    let last := fun (n : Nat) => fails && decide (markPhase mark = n)
    let r := State.updatePart (none, s) 1 mark fun s => s.updateVerify addr len by_
    let r := State.updatePart r 2 mark fun s => s.updateErase by_ (last 3)
    let r := State.updatePart r 3 mark fun s => s.updateProgram addr len by_ (markMib mark) (last 4)
    State.updatePart r 4 mark fun s => s.updateReadBack addr len by_ (last 5)

end Sys2Proof.Machine
end

