-- ==== Sys2Proof/Machine/Commit.lean ====
section
/-! DEFINITION. Commit groups: which group an address names, what a COMMIT captures, when it is applied (R379 to R383). -/

namespace Sys2Proof.Machine

/-! ### The group of an address (R379) -/

/-- The addresses from `a` on, 8 bytes apart. -/
def wordsFrom (a n : Nat) : List Nat := (List.range n).map (fun i => a + 8 * i)

/-- The commit group that a register of instance `i` of a class belongs to; `a` is its address in instance 0. -/
def State.groupIn (s : State) (cls i a : Nat) : Option Group :=
  match cls with
  | 7 => ((List.range 64).find? (fun v => [mbdBase 0 v, mbdBlocks 0 v, mbdIndex 0 v].contains a)).map (Group.brine i)
  | 8 => if (poolRegs 0).contains a then some (.pool i) else none
  | 9 =>
    let q := 4 * i + csrOff a / 0x4000
    let r := a - csrOff a / 0x4000 * 0x4000
    if r = Reg.QUE_CFG then some (.queCfg q) else if r = Reg.QUE_WM then some (.queWm q)
    else if r = Reg.QUE_NOTIFY then some (.queNotify q) else none
  | 10 =>
    if a = Reg.LNK_CFG then some (.lnkCfg i)
    else if a = Reg.LNK_STh_T0 ∨ a = Reg.LNK_STh_LEN then some (.linkTable (2 * i))
    else if a = Reg.LNK_STh_T0 + 0x10 ∨ a = Reg.LNK_STh_LEN + 0x10 then some (.linkTable (2 * i + 1))
    else if a = Reg.LNK_ST_DATA then some (.linkTable (2 * i + s.fld Reg.LNK_ST_SEL_HALF (instDelta i)))
    else none
  | 11 =>
    if a = Reg.ETH_CFG then some (.ethCfg i)
    else if i = 0 ∧ (wordsFrom Reg.ETH_QP_DATA 8).contains a then some (.qp (s.fld Reg.ETH_QP_SEL_QP)) else none
  | 12 =>
    if [Reg.FAB_RGN_KEY, Reg.FAB_RGN_BASE, Reg.FAB_RGN_SIZE, Reg.FAB_RGN_ATTR].contains a then some (.region (s.fld Reg.FAB_RGN_SEL_INDEX))
    else ((List.range 16).find? (fun p => decide (a = Reg.FAB_RANK_WINp_A + 0x10 * p) || decide (a = Reg.FAB_RANK_WINp_B + 0x10 * p))).map Group.rank
  | 14 =>
    if (partRegs 0).contains a then some (.partition i)
    else if a = Reg.SCH_TBL_COUNT ∨ (wordsFrom Reg.SCH_TBL_DATA 4).contains a then some (.table i)
    else if [Reg.SCH_RING_CFG, Reg.SCH_RING_BASE, Reg.SCH_RING_LAND, Reg.SCH_RING_HEAD_ADDR].contains a then
      some (.ring i (s.fld Reg.SCH_RING_SEL_RING (instDelta i)))
    else none
  | 15 => if csrOff a % 0x800 < 0x40 ∧ csrOff a < 32 * 0x800 then some (.context (32 * i + csrOff a / 0x800)) else none
  | 17 =>
    if a = Reg.PWR_CTRL then some .pwrCtrl
    else if a = Reg.PWR_PROF_DATA ∨ a = Reg.PWR_PROF_COUNT then some (.profile (s.fld Reg.PWR_PROF_SEL_PART) (s.fld Reg.PWR_PROF_SEL_KIND))
    else ((List.range 16).find? (fun p => decide (a = Reg.PWR_PART_CFGp + 8 * p))).map Group.pwrPart
  | 21 => if a = Reg.RAS_MBR_CFG ∨ a = Reg.RAS_MBR_DATA then some .membership else none
  | 22 =>
    if [Reg.DET_LOG_BASE, Reg.DET_LOG_SIZE, Reg.DET_LOG_TAIL_ADDR].contains a then some .detLog
    else if [Reg.DET_REPLAY_BASE, Reg.DET_REPLAY_SIZE, Reg.DET_REPLAY_PARTS].contains a then some .detReplay
    else none
  | _ => none

/-- The commit group that a CSR address names. -/
def State.groupOfAddr (s : State) (a : Nat) : Option Group :=
  s.groupIn (csrClass a) (csrInst a) (a - instDelta (csrInst a))

/-- Two COMMITs are of one group: each ring, each region and each queue pair that a selector names is a group of its own (R375, R379,
R381; DEDUCED for regions and queue pairs, log entry 156). -/
def sameGroup (a b : Group) : Bool := decide (a = b)

/-- A group held on both link dies (R380): the region descriptors and the rank windows. -/
def fabricGroup : Group → Bool
  | .region _ => true
  | .rank _ => true
  | _ => false

/-! ### Application (R382) -/

/-- The staged entries that a commit of a group captures. -/
def State.captureWords (s : State) : Group → SMap (List Word)
  | .table p => (s.part p).staged
  | .profile p k => (s.power.staged.filter (fun e => decide (e.1 / 1024 = 2 * p + k))).map (fun e => (e.1 % 1024, [e.2]))
  | .membership => s.ras.staged.map (fun e => (e.1, [e.2]))
  | _ => []

/-- The staged slot table that a commit captures. -/
def State.captureSlots (s : State) : Group → SlotTable
  | .linkTable l => (s.lport l).staged
  | _ => slotTableInit

/-- The staged words of a queue pair; what is not staged is the pair's own. -/
def State.qpStaged (s : State) (q : Nat) : List Word :=
  (List.range 8).map (fun i => (SMap.find? s.staged (Reg.ETH_QP_DATA + 8 * i)).getD ((s.qp q).words.getD i 0))

/-- The COUNT staged for a profile. -/
def State.profileCount (s : State) : Nat := s.stagedFld Reg.PWR_PROF_COUNT_COUNT

/-- A group takes its staged values, or refuses them with the owning block's code (R382). -/
def State.applyGroup (s : State) (words : SMap (List Word)) : Group → Nat × State
  | .partition p => s.partitionApply p
  | .table p => s.tableApply p words
  | .ring p r => s.ringApply p r
  | .context c => s.contextApply c
  | .region r => (s.regionShown r).regionApply r
  | .rank p => s.rankApply p
  | .lnkCfg n => s.lnkCfgApply n
  | .linkTable l => s.linkTableApply l
  | .ethCfg n => s.ethCfgApply n
  | .qp q => s.qpApply q (s.qpStaged q)
  | .queCfg q => s.queCfgApply q
  | .queWm q => s.queWmApply q
  | .queNotify q => s.queNotifyApply q
  | .pool p => s.poolApply p
  | .brine b v => s.viewApply b v
  | .profile p k => s.profileApply p k s.profileCount words
  | .pwrCtrl => s.pwrCtrlApply
  | .pwrPart p => s.sprintApply p
  | .membership => s.membershipApply (words.map (fun e => (e.1, e.2.headD 0)))
  | .detLog => s.logApply
  | .detReplay => s.replayApply

/-- The outcome of an applied commit is noted; that of a view whose scan has begun is, when the scan ends (R232), and that of a
checked slot table, when the banks swap (R306). -/
def State.noteApplied (s : State) (x : Pend) (code : Nat) : State :=
  match x.group with
  | .brine b v =>
    match SMap.find? s.brineScans (b * 64 + v) with
    | some scan =>
      { s with brineScans := SMap.insert s.brineScans (b * 64 + v) { scan with via := x.via, atStep := x.atStep.isSome } }
    | none => s.noteCommit x.via code x.atStep.isSome
  | .linkTable l =>
    if code = 0 then s.setLport l { s.lport l with swapBy := (x.via, x.atStep.isSome) } else s.noteCommit x.via code x.atStep.isSome
  | _ => s.noteCommit x.via code x.atStep.isSome

/-- A link table's captured entries stand in the staged bank while it is applied. -/
def State.withSlots (s : State) (g : Group) (t : SlotTable) : State :=
  match g with
  | .linkTable l => s.setLport l { s.lport l with staged := t }
  | _ => s

/-- A pending commit is applied with what it captured; staging keeps its contents (R379, R382). The code is the block's refusal. -/
def State.applyPendCode (s : State) (x : Pend) : Nat × State :=
  let now := s.staged
  let slots := s.captureSlots x.group
  let s := { s with pends := s.pends.filter (fun y => decide (y ≠ x)), staged := x.staged }
  let r := (s.withSlots x.group x.slots).applyGroup x.words x.group
  (r.1, (({ r.2 with staged := now }.withSlots x.group slots).noteApplied x r.1).ackPend x)

def State.applyPend (s : State) (x : Pend) : State := (s.applyPendCode x).2

/-- The safe point of a group has come as far as no other event marks it: a table and a profile of a RUNNING partition wait for
its next frame (R365, R453). -/
def State.safeNow (s : State) : Group → Bool
  | .table p => decide (s.partState p ≠ 3)
  | .profile p _ => decide (s.partState p ≠ 3)
  | _ => true

/-- The pending commit of a group that may be applied now. -/
def State.applyDue (s : State) (sel : Group → Bool) : State :=
  match s.pends.find? (fun x => sel x.group && x.due && s.safeNow x.group) with
  | none => s
  | some x => s.applyPend x

/-- The oldest pending commit whose safe point has come is applied (R380, R382). -/
def State.commitApply (s : State) : State := s.applyDue (fun _ => true)

/-- A due commit takes effect at the frame boundary of partition `p` at the latest: one of its table and profiles (R365, R366, R453),
and one at a step of `p`, before any entry of the next frame starts (R371), unless it waits for another partition's boundary. -/
def State.boundaryDue (s : State) (p : Nat) (x : Pend) : Bool :=
  x.due && (match x.group with
    | .table q => decide (q = p) || (decide (x.via = p) && x.atStep.isSome && s.safeNow x.group)
    | .profile q _ => decide (q = p) || (decide (x.via = p) && x.atStep.isSome && s.safeNow x.group)
    | _ => decide (x.via = p) && x.atStep.isSome)

/-- The pending commits whose last moment is a partition's frame boundary are applied there. -/
def State.boundaryCommits (s : State) (p : Nat) : State := (s.pends.filter (s.boundaryDue p)).foldl State.applyPend s

/-- The start of a frame: the pending commits first, then the frame (R366, R370). -/
def State.frameStart (s : State) (p : Nat) : State := if s.frameDue p then (s.boundaryCommits p).frameBegin p else s

/-! ### The COMMIT itself (R380, R381) -/

/-- A commit of the group waits: pending, or a checked link table or a scanned view waits for its safe point. -/
def State.commitPending (s : State) (g : Group) : Bool :=
  s.pends.any (fun x => sameGroup x.group g) ||
  (match g with
   | .linkTable l => (s.lport l).swap.isSome
   | .brine b v => (SMap.find? s.brineScans (b * 64 + v)).isSome
   | _ => false)

/-- A commit at a step no longer waits at an instance (R381, R382). -/
def State.pendingLess (s : State) (via : Nat) (atStep : Bool) : State :=
  if atStep then s.setFld Reg.SCH_COMMIT_STATUS_PENDING (instDelta via) (s.fld Reg.SCH_COMMIT_STATUS_PENDING (instDelta via) - 1) else s

/-- CANCEL removes the pending commit of a group (R381); a writer that waits for it is answered. -/
def State.commitCancel (s : State) (g : Group) : State :=
  let s := match g with
    | .linkTable l =>
      if (s.lport l).swap.isSome then
        (s.setLport l { s.lport l with swap := none }).pendingLess (s.lport l).swapBy.1 (s.lport l).swapBy.2
      else s
    | .brine b v =>
      match SMap.find? s.brineScans (b * 64 + v) with
      | some x => { s with brineScans := SMap.erase s.brineScans (b * 64 + v) }.pendingLess x.via x.atStep
      | none => s
    | _ => s
  match s.pends.find? (fun x => sameGroup x.group g) with
  | none => s
  | some x => ({ s with pends := s.pends.filter (fun y => decide (y ≠ x)) }.pendingLess x.via x.atStep.isSome).ackPend x

/-- A COMMIT of a table begins a new list of what is staged after it (R379). -/
def State.freshSince (s : State) (g : Group) : State :=
  match g with
  | .table p => s.setPart p { s.part p with since := [] }
  | .linkTable l => s.setLport l { s.lport l with since := [] }
  | _ => s

/-- A COMMIT through instance `via` to the group of one instance's address: the refusing code, 0 for none (R379 to R381). -/
def State.commitOne (s : State) (via a : Nat) (atStep cancel : Bool) : Nat × State :=
  match s.groupOfAddr a with
  | none => (0x3805, s)
  | some g =>
    match classInstances (csrClass a) with
    | none => (0x3805, s)
    | some n =>
      if n ≤ csrInst a then (0x0003, s)
      else if cancel then (0, s.commitCancel g)
      else if s.commitPending g then (0x3806, s)
      else
        let δ := instDelta via
        let step := s.fld Reg.SCH_COMMIT_STEP_STEP δ
        if atStep ∧ step ≤ s.partStep via then (0x3807, s)
        else
          let x : Pend := ⟨g, via, if atStep then some step else none, !atStep, s.staged, s.captureSlots g, s.captureWords g, .none⟩
          let s := { s with pends := s.pends ++ [x] }.freshSince g
          (0, if atStep then s.setFld Reg.SCH_COMMIT_STATUS_PENDING δ (s.fld Reg.SCH_COMMIT_STATUS_PENDING δ + 1) else s)

end Sys2Proof.Machine
end

