-- ==== Sys2Proof/Machine/CsrRead.lean ====
section
/-! DEFINITION. What a CSR read returns and what it does: the registers a selector addresses, the fused fields, the fields
that read zero, and the clearing and setting of RC and RS fields (R9, R13, R516, R525). -/

namespace Sys2Proof.Machine

/-! ### Requesters (R508, R516) -/

/-- The place of a requester's own rake registers: 0 the MC path, n + 1 sequencer n. -/
def reqKey : Requester → Nat
  | .mc => 0
  | .seq n => n.val + 1

/-- The core of a sequencer's access. -/
def reqCore : Requester → Option Nat
  | .mc => none
  | .seq n => some n.val

def rakeInit : RakeReq := ⟨0, 0⟩

/-- The rake registers of a requester (R516). -/
def State.rakeOf (s : State) (r : Requester) : RakeReq := s.rake.get (fun _ => rakeInit) (reqKey r)

/-- Set the rake registers of a requester. -/
def State.setRake (s : State) (r : Requester) (x : RakeReq) : State :=
  { s with rake := s.rake.set (fun _ => rakeInit) (reqKey r) x }

/-- The key of a word of a group mask (R516). -/
def maskKey (cls group word : Nat) : Nat := cls * 1024 + group * 64 + word

/-- A word of a group mask. -/
def State.groupMask (s : State) (cls group word : Nat) : Word := s.rakeMask.get (fun _ => 0) (maskKey cls group word)

/-- CLASS, GROUP and WORD of a selection. -/
def selClass (w : Word) : Nat := bits w.toNat 0 6
def selGroup (w : Word) : Nat := bits w.toNat 6 4
def selWord (w : Word) : Nat := bits w.toNat 10 4

/-- The mask words of a class (R516). -/
def maskWords (cls : Nat) : Nat := ceilDiv ((classInstances cls).getD 0) 64

/-- The mask word that a requester's GLB_RAKE_SEL selects. -/
def State.selectedMask (s : State) (r : Requester) : Word :=
  let w := (s.rakeOf r).sel
  s.groupMask (selClass w) (selGroup w) (selWord w)

/-- WORD advances after an access of GLB_RAKE_DATA and wraps after the last word (R516). -/
def State.advanceMask (s : State) (r : Requester) : State :=
  let x := s.rakeOf r
  let n := selWord x.sel + 1
  s.setRake r { x with sel := BitVec.ofNat 64 (setBits x.sel.toNat 10 4 (if n < maskWords (selClass x.sel) then n else 0)) }

/-! ### Registers behind selectors -/

/-- The value of a slot entry in LNK_ST_DATA (R306). -/
def slotValue : SlotEntry → Nat
  | .idle => 0
  | .shared => 1
  | .tc0 src xfer => 2 + src * 4 + xfer * 256

/-- The key of the route entry that FAB_RT_SEL selects (R309). -/
def State.routeSel (s : State) : Nat :=
  s.fld Reg.FAB_RT_SEL_BANK * 2 ^ 17 + s.fld Reg.FAB_RT_SEL_TABLE * 2 ^ 16 + s.fld Reg.FAB_RT_SEL_INDEX

/-- The status of a sensor: 2 failed, absent or not in the table, 1 older than 10 ms, 0 valid (R443). -/
def State.sensorStatus (s : State) (id : Nat) : Nat :=
  if !sensorIds.contains id || !(s.sensor id).ok then 2
  else if (s.sensor id).time + 10000000 < s.tb then 1 else 0

/-- The log entry that MGT_LOG_SEL selects, as 32 bytes. -/
def State.selectedLog (s : State) : Bytes := s.logEntry (s.fld Reg.MGT_LOG_SEL_SEQ)

/-- Where the crash dump lies (R441). -/
def dumpBase : Nat := 0x023FC0000000

/-- The seconds until the unlock lapses, rounded up (R447). -/
def State.unlockSeconds (s : State) : Nat :=
  match s.mgmt.monitor.unlockedTo with
  | none => 0
  | some t => ceilDiv (t - s.tb) 1000000000

/-- The values that a class shows elsewhere than in its stored registers: `a` is the address in instance 0 (in copy 0 of a
QUEUE), `i` the instance, `d` the distance from instance 0. -/
def State.shownAt (s : State) (req : Requester) (cls i a d : Nat) : Nat :=
  let own := (s.reg (a + d)).toNat
  match cls with
  | 0 =>
    if a = Reg.GLB_ID then s.fuses.stepping % 256 + 0x100 + b2n s.fuses.gradeB * 2 ^ 16 + 0xB009 * 2 ^ 32
    else if a = Reg.GLB_CORE_PRESENT then s.fuses.corePresent.toNat
    else if a = Reg.GLB_RAKE_STATUS then (s.rakeOf req).status.toNat
    else if a = Reg.GLB_RAKE_SEL then (s.rakeOf req).sel.toNat
    else if a = Reg.GLB_RAKE_DATA then (s.selectedMask req).toNat
    else own
  | 2 => if a = Reg.MAT_ID then i % 2 + i / 2 * 2 + 0x100
    else if a = Reg.MAT_FUSE then (s.fuseSkip i).1 % 16 + (s.fuseSkip i).2 % 32 * 16
    else own
  | 3 => if a = Reg.CHN_STATE then setBits own 4 2 (b2n (s.streamStalled i 0) + 2 * b2n (s.streamStalled i 1)) else own
  | 5 => if a = Reg.ORT_STATUS then s.statusShown i else own
  | 4 =>
    if a = Reg.SEQ_IMEM_DATA then s.imemWord i (s.fld Reg.SEQ_IMEM_ADDR_INDEX d)
    else if (a = Reg.SEQ_FAULT ∨ a = Reg.SEQ_FAULT_INSN) ∧ s.fld Reg.SEQ_FAULT_VALID d = 0 then 0
    else own
  | 10 =>
    if a = Reg.LNK_ST_DATA then
      slotValue ((s.stagedTable (2 * i + s.fld Reg.LNK_ST_SEL_HALF d)).entry (s.fld Reg.LNK_ST_SEL_INDEX d))
    else own
  | 11 => if (wordsFrom Reg.ETH_QP_DATA 8).contains a then ((s.qp (s.fld Reg.ETH_QP_SEL_QP)).words.getD ((a - Reg.ETH_QP_DATA) / 8) 0).toNat else own
  | 12 =>
    let x := s.region (s.fld Reg.FAB_RGN_SEL_INDEX)
    if a = Reg.FAB_RGN_KEY then x.key
    else if a = Reg.FAB_RGN_BASE then x.base
    else if a = Reg.FAB_RGN_SIZE then x.size
    else if a = Reg.FAB_RGN_ATTR then x.attr
    else if a = Reg.FAB_RGN_STATUS then x.epoch + b2n x.revoking * 256
    else if a = Reg.FAB_RGN_ADV_TIME then x.advTime.getD 0
    else if a = Reg.FAB_RT_DATA then s.routes.get (fun _ => 0) s.routeSel
    else if a = Reg.FAB_SLUICE_DATA then s.sluices.get (fun _ => 0) (s.fld Reg.FAB_SLUICE_SEL_INDEX)
    else if a = Reg.FAB_RANK_DATA then s.ranks.get (fun _ => 0) (s.fld Reg.FAB_RANK_SEL_INDEX)
    else own
  | 14 =>
    let x := s.ring i (s.fld Reg.SCH_RING_SEL_RING d)
    if (wordsFrom Reg.SCH_TBL_DATA 4).contains a then
      (((s.part i).staged.get tblZero (s.fld Reg.SCH_TBL_SEL_INDEX d)).getD ((a - Reg.SCH_TBL_DATA) / 8) 0).toNat
    else if a = Reg.SCH_RING_CFG then x.cfg.toNat
    else if a = Reg.SCH_RING_BASE then x.base.toNat
    else if a = Reg.SCH_RING_LAND then x.land.toNat
    else if a = Reg.SCH_RING_HEAD_ADDR then x.headAddr.toNat
    else if a = Reg.SCH_RING_HEAD then x.head
    else own
  | 15 =>
    if 0x20 ≤ csrOff a % 0x800 ∧ csrOff a % 0x800 < 0x40 then 0
    else if csrOff a % 0x800 = 0 then setBits own 0 2 (s.ctxState (32 * i + csrOff a / 0x800))
    else own
  | 16 =>
    let c := s.counter (s.fld Reg.SYN_CNT_SEL_INDEX)
    if a = Reg.SYN_CNT_COUNT then c.count.toNat
    else if a = Reg.SYN_CNT_STATE then c.err + b2n c.remote * 2 ^ 16
    else own
  | 17 =>
    if a = Reg.PWR_PROF_DATA then
      (s.power.staged.get (fun _ => 0)
        ((2 * s.fld Reg.PWR_PROF_SEL_PART + s.fld Reg.PWR_PROF_SEL_KIND) * 1024 + s.fld Reg.PWR_PROF_SEL_INDEX)).toNat
    else if a = Reg.PWR_PROF_COUNT then (s.profile (s.fld Reg.PWR_PROF_SEL_PART) (s.fld Reg.PWR_PROF_SEL_KIND)).length
    else own
  | 19 =>
    let id := s.fld Reg.MGT_SENSOR_SEL_ID
    if a = Reg.MGT_BOOT_COUNT then s.flash.coldBoots % 2 ^ 32 + own / 2 ^ 32 * 2 ^ 32
    else if (wordsFrom Reg.MGT_LOG_DATA 4).contains a then leNat ((s.selectedLog.drop (a - Reg.MGT_LOG_DATA)).take 8)
    else if a = Reg.MGT_SENSOR_DATA then
      let st := s.sensorStatus id
      (s.sensor id).value % 65536 + st * 65536
    else if a = Reg.MGT_DUMP then s.readNat (dumpBase + 0x11) 1 + s.readNat (dumpBase + 6) 2 * 65536
    else own
  | 20 =>
    if a = Reg.SEC_DEVICE_ID then (s.fuses.deviceId.getD 0 0).toNat
    else if a = Reg.SEC_DEVICE_ID + 8 then (s.fuses.deviceId.getD 1 0).toNat
    else if a = Reg.SEC_SVN then s.fuses.minSvn % 128 + own / 128 * 128
    else if a = Reg.SEC_KEYS then s.fuses.keysProvisioned % 16 + s.fuses.keysRevoked % 16 * 16
    else if a = Reg.SEC_MON then own % 2 ^ 32 + s.unlockSeconds % 2 ^ 32 * 2 ^ 32
    else if a = Reg.SEC_MEAS_DATA then
      leNat (((s.mgmt.meas.getD (s.fld Reg.SEC_MEAS_SEL_REG) []).drop (8 * s.fld Reg.SEC_MEAS_SEL_WORD)).take 8)
    else own
  | 21 => if a = Reg.RAS_MBR_DATA then s.mbrEntry (s.fld Reg.RAS_MBR_SEL_INDEX) else own
  | 22 => if a = Reg.DET_CLASS then s.detClass else own
  | _ => own

/-- The address of a register in instance 0, and in copy 0 of a QUEUE. -/
def csrHome (a : Nat) : Nat :=
  let z := csrClass a * 2 ^ 26 + csrOff a
  if csrClass a = 9 then csrClass a * 2 ^ 26 + csrOff a % 0x4000 else z

/-- The value of the register at an 8-byte aligned CSR address as this requester's read finds it. -/
def State.shown (s : State) (req : Requester) (a : Nat) : Word :=
  BitVec.ofNat 64 (s.shownAt req (csrClass a) (csrInst a) (csrHome a) (a - csrHome a))

/-! ### The side effects of a read (R9, R13, R525) -/

/-- The bits of one half or of both: `half` 0 the lower, 1 the upper, 2 both. -/
def halfLo (half : Nat) : Nat := if half = 1 then 32 else 0
def halfHi (half : Nat) : Nat := if half = 0 then 32 else 64

/-- A field has a bit in the half accessed. -/
def FieldSpec.inHalf (f : FieldSpec) (half : Nat) : Bool := decide (f.lo < halfHi half) && decide (halfLo half < f.lo + f.w)

/-- Add one to a selector field modulo its range. -/
def State.nextSel (s : State) (f : Fld) (d n : Nat) : State :=
  s.setFld f d (if s.fld f d + 1 < n then s.fld f d + 1 else 0)

/-- Selectors advance after an access of their data register (R179, R306, R309, R311, R317, R364, R452, R489). -/
def State.advanceSel (s : State) (req : Requester) (a : Nat) : State :=
  let h := csrHome a
  let d := a - h
  if h = Reg.SEQ_IMEM_DATA then s.nextSel Reg.SEQ_IMEM_ADDR_INDEX d 65536
  else if h = Reg.LNK_ST_DATA then s.nextSel Reg.LNK_ST_SEL_INDEX d 16375
  else if h = Reg.FAB_RT_DATA then s.nextSel Reg.FAB_RT_SEL_INDEX 0 (if s.fld Reg.FAB_RT_SEL_TABLE = 0 then 256 else 65536)
  else if h = Reg.FAB_SLUICE_DATA then s.nextSel Reg.FAB_SLUICE_SEL_INDEX 0 (2 ^ 17)
  else if h = Reg.FAB_RANK_DATA then s.nextSel Reg.FAB_RANK_SEL_INDEX 0 65536
  else if h = Reg.RAS_MBR_DATA then s.nextSel Reg.RAS_MBR_SEL_INDEX 0 256
  else if h = Reg.SCH_TBL_DATA + 24 then s.nextSel Reg.SCH_TBL_SEL_INDEX d 4096
  else if h = Reg.PWR_PROF_DATA then s.nextSel Reg.PWR_PROF_SEL_INDEX 0 1024
  else if h = Reg.GLB_RAKE_DATA then s.advanceMask req
  else s

/-- RC fields clear and RS fields set, whole, when a bit of them is read (R9, R525). -/
def State.readEffects (s : State) (rs : RegSpec) (a half : Nat) : State :=
  let v := rs.fields.foldl (fun v f =>
    if f.acc = .RC ∧ f.inHalf half then setBits v f.lo f.w 0
    else if f.acc = .RS ∧ f.inHalf half then setBits v f.lo f.w (2 ^ f.w - 1) else v) (s.reg a).toNat
  s.setReg a (BitVec.ofNat 64 v)

/-- A read of the register at an 8-byte aligned address: the value of the half, or of both, and the state. -/
def State.readReg (s : State) (req : Requester) (rs : RegSpec) (a half : Nat) : Word × State :=
  let v := s.shown req a
  let s := (s.readEffects rs a half).advanceSel req a
  let s := if csrHome a = Reg.MGT_LOG_DATA + 24 then s.nextSel Reg.MGT_LOG_SEL_SEQ 0 (2 ^ 32) else s
  (if half = 2 then v else BitVec.ofNat 64 (bits v.toNat (halfLo half) 32), s)

end Sys2Proof.Machine
end

