-- ==== Sys2Proof/Machine/CsrWrite.lean ====
section
/-! DEFINITION. What a CSR write does: the values a register refuses, the registers whose write is an action, staging, and
the general rule of R9. -/

namespace Sys2Proof.Machine

/-- How a write reaches an instance: by rake, and by a rake to every instance of the class (R232, R383). -/
structure Via where
  rake : Bool
  all : Bool
deriving DecidableEq, Repr

/-- The block that raises what is refused at an address (R16, R437). -/
def siteOf (a : Nat) : Site :=
  match csrClass a with
  | 9 => queueSite (4 * csrInst a + csrOff a / 0x4000)
  | 12 => fabSite 0
  | c => site c (csrInst a)

/-! ### The values a register refuses (R12) -/

/-- The staged value of a register: what is not staged is the active value (R9). -/
def State.stagedAt (s : State) (req : Requester) (a : Nat) : Word :=
  let h := csrHome a
  let i := csrInst a
  let d := a - h
  if (wordsFrom Reg.SCH_TBL_DATA 4).contains h then
    ((s.part i).staged.get tblZero (s.fld Reg.SCH_TBL_SEL_INDEX d)).getD ((h - Reg.SCH_TBL_DATA) / 8) 0
  else if h = Reg.PWR_PROF_DATA then
    s.power.staged.get (fun _ => 0) ((2 * s.fld Reg.PWR_PROF_SEL_PART + s.fld Reg.PWR_PROF_SEL_KIND) * 1024 + s.fld Reg.PWR_PROF_SEL_INDEX)
  else if h = Reg.RAS_MBR_DATA then
    (SMap.find? s.ras.staged (s.fld Reg.RAS_MBR_SEL_INDEX)).getD (s.shown req a)
  else if csrClass a = 15 then s.stagedReg a
  else (SMap.find? s.staged a).getD (s.shown req a)

/-- A route bank may not be written yet (R309): the bank in use, or the other one too soon after a switch-over. -/
def State.routeEarly (s : State) : Bool :=
  decide (s.fld Reg.FAB_CTRL_ENABLE = 1) &&
  (decide (s.fld Reg.FAB_RT_SEL_BANK = s.fld Reg.FAB_RT_CTRL_INJECT_EPOCH) ||
   (decide (s.reg Reg.FAB_RT_SWITCH_TIME ≠ 0) && decide (s.tb < (s.reg Reg.FAB_RT_SWITCH_TIME).toNat + 8388480)))

/-- The code with which a register refuses the value `v` by its own rules; `h` is its address in instance 0 (copy 0 of a
QUEUE), `i` the instance, `d` the distance from instance 0. -/
def State.writeBad (s : State) (via : Via) (h i d v : Nat) : Option Nat :=
  if h = Reg.GLB_RAKE_SEL then
    let c := bits v 0 6
    firstCode [(decide (c = 9) || (classInstances c).isNone || decide (bits v 6 4 = 15) || decide (maskWords c ≤ bits v 10 4), 0x0008)]
  else if h = Reg.MAT_REPAIR then
    let r := bits v 0 4
    let c := bits v 4 5
    let f := s.fuseSkip i
    firstCode [
      ((decide (r ≠ 15) && (decide (f.1 ≠ 15) || decide (8 ≤ r))) || (decide (c ≠ 31) && (decide (f.2 ≠ 31) || decide (16 ≤ c))), 0x080F),
      (!s.matIdle i, 0x080E)]
  else if h = Reg.MAT_CTRL then
    firstCode [(decide (bits v 1 1 ≠ s.fld Reg.MAT_CTRL_CHECKSUM_REQ d) && !s.matIdle i, 0x080E)]
  else if h = Reg.SEQ_IMEM_DATA then firstCode [(s.seqRun i, 0x100C)]
  else if h = Reg.MCH_ECC_CTRL then firstCode [(decide (5 ≤ bits v 0 3) || decide (5 ≤ bits v 4 3), 0x1807)]
  else if Reg.MBD_BRINE_BASE ≤ h ∧ h < Reg.MBD_BRINE_BASE + 64 * 0x20 then firstCode [(!via.all, 0x1C09)]
  else if h = Reg.FAB_CTRL then firstCode [(decide (bits v 16 16 = 0), 0x3017)]
  else if h = Reg.FAB_SELF then firstCode [(s.pumps.any (fun c => decide (c.cancelled = 0)), 0x3017)]
  else if h = Reg.FAB_RGN_ADVANCE then firstCode [(decide (bits v 16 2 = 3), 0x3017)]
  else if h = Reg.FAB_RT_SEL then firstCode [(!bit v 1 && decide (255 < bits v 2 16), 0x3101)]
  else if h = Reg.FAB_RT_DATA then firstCode [(bit v 6 && decide (bits v 0 5 ≠ 0), 0x3101), (s.routeEarly, 0x3103)]
  else if h = Reg.FAB_SLUICE_CFG then
    firstCode [(s.sluiceLocked, 0x3104),
      (decide (bits v 32 32 = 0) || decide (bit v 29 = decide (bits v 0 24 = s.selfDev)), 0x3101)]
  else if h = Reg.FAB_SLUICE_SEL ∨ h = Reg.FAB_SLUICE_DATA then firstCode [(s.sluiceLocked, 0x3104)]
  else if h = Reg.FAB_MSG_CFG then firstCode [(decide (bits v 0 16 = 0), 0x3106)]
  else if h = Reg.FAB_GANG then
    let n := bits v 0 4
    firstCode [(decide (s.fld Reg.FAB_CTRL_ENABLE = 1) || decide (n = 0) || decide (8 < n) || decide (n ≤ bits v 4 3) ||
      (decide (bits v 8 16 = 0) && decide (1 < n)), 0x310A)]
  else if h = Reg.LNK_ST_SEL then
    firstCode [(bit v 0 && !s.split i, 0x2801), (decide (16374 < bits v 1 14), 0x2802)]
  else if h = Reg.LNK_ST_DATA then
    let k := bits v 0 2
    let src := bits v 2 6
    firstCode [(decide (k = 3) || (decide (k = 2) && decide (32 ≤ src) && decide (src ≠ 63)) ||
      (decide (k ≠ 2) && decide (bits v 2 22 ≠ 0)), 0x2802)]
  else if h = Reg.COL_CTRL then firstCode [(decide (bits v 16 16 = 0), 0x3404)]
  else if h = Reg.SCH_PART_STEP then firstCode [(decide (2 ≤ s.partState i), 0x3810)]
  else if h = Reg.SCH_LAUNCH_CFG then
    firstCode [(decide (bits v 0 16 = 0) || decide (bits v 16 16 = 0) || decide (bits v 32 16 = 0), 0x380B)]
  else if h = Reg.SCH_COMMIT then firstCode [(via.rake, 0x3808)]
  else if csrClass h = 15 ∧ csrOff h % 0x800 = 0x48 then
    firstCode [(bit v 0 && decide (s.ctxState (32 * i + csrOff h / 0x800) = 0), 0x3C05)]
  else if h = Reg.PWR_SPRINT_CFG then firstCode [(decide (bits v 0 13 = 0) || decide (6000 < bits v 0 13), 0x440C)]
  else if h = Reg.CLK_TB_CFG then firstCode [(s.tbCfgBad v, 0x4805)]
  else if h = Reg.MGT_REPLY_BASE then
    firstCode [(decide (bits v 0 48 ≠ 0) && (!aligned (bits v 0 48) 4096 || !inLpddr (bits v 0 48) 65536), 0x4C17)]
  else if h = Reg.SEC_MEAS_SEL then firstCode [(decide (6 ≤ bits v 2 3), 0x5001)]
  else if h = Reg.RAS_CTRL then firstCode [(decide (bits v 0 16 = 0), 0x5401)]
  else if h = Reg.RAS_MBR_CTRL then
    firstCode [((bit v 0 && decide (s.mbrState ≠ mbrFenced)) || (bit v 1 && decide (s.mbrState ≠ mbrNormal)), 0x5401)]
  else if h = Reg.RAS_ESCALATE then
    let lv := bits v 0 3
    let c := bits v 4 6
    let t := bits v 10 16
    firstCode [
      (decide (lv = 0) || decide (lv = 5) || decide (lv = 7) || (decide (lv = 2) && !engineClass c), 0x5401),
      ((decide (lv = 1) && decide (16384 ≤ t)) || (decide (lv = 3) && decide (16 ≤ t)) ||
        (decide (lv = 2) && (decide ((classInstances c).getD 0 ≤ t) ||
          (match engineCore c t with | some n => !s.coreEnabled n | none => false))), 0x0003)]
  else if h = Reg.DET_RNG_FILL then firstCode [(decide (64 ≤ s.fills.length), 0x580C)]
  else none

/-! ### COMMIT (R380 to R383, R515) -/

/-- The instances of a class that exist (R506, R4). -/
def State.instExists (s : State) (cls i : Nat) : Bool :=
  decide (i < (classInstances cls).getD 0) &&
  (match cls with
   | 1 => s.coreEnabled i
   | 2 => s.coreEnabled (i / 2)
   | 3 => s.coreEnabled i
   | 4 => s.coreEnabled i
   | _ => true)

/-- The existing instances that a rake instance value addresses (R509). -/
def State.rakeMembers (s : State) (cls inst : Nat) : List Nat :=
  (List.range ((classInstances cls).getD 0)).filter (fun i => s.instExists cls i &&
    (decide (inst = 0x3FF) || (s.groupMask cls (inst - 0x3F0) (i / 64)).getLsbD (i % 64)))

/-- What an address reaches (R506, R509 to R511): nothing, with a code; one instance; the members of a rake. -/
inductive Target where
  | none (code : Nat)
  | one (i : Nat)
  | many (is : List Nat)
deriving DecidableEq, Repr

/-- Decode the class and the instance of an address (R506, R509 to R511). -/
def State.target (s : State) (a : Nat) : Target :=
  let c := csrClass a
  let i := csrInst a
  match classInstances c with
  | none => .none 0x0002
  | some _ =>
    if i < 0x3F0 ∨ classRake c = .no then (if s.instExists c i then .one i else .none 0x0003)
    else
      match classRake c with
      | .yes => if (s.rakeMembers c i).isEmpty then .none 0x0007 else .many (s.rakeMembers c i)
      | _ => if (s.rakeMembers c i).isEmpty then .none 0x0003 else .one 0

/-- The same register in another instance. -/
def atInst (a i : Nat) : Nat := csrClass a * 2 ^ 26 + i * 2 ^ 16 + csrOff a

/-- The outcome of a rake write for its writer: the refusing members with their codes, lowest first (R512). -/
def State.noteRakeWrite (s : State) (req : Requester) (bad : List (Nat × Nat)) : State :=
  let x := s.rakeOf req
  let v := setBits (setBits (setBits x.status.toNat 16 16 (bad.headD (0, 0)).2) 32 10 (bad.headD (0, 0)).1) 42 10 bad.length
  s.setRake req { x with status := BitVec.ofNat 64 v }

/-- A view register is reached together with every other bridge's, or not (R232, R515). -/
def brineSplit (g : Option Group) (all : Bool) : Bool :=
  match g with
  | some (.brine _ _) => !all
  | _ => false

/-- A COMMIT whose address is a rake address: every member accepts or refuses it (R383, R515). -/
def State.commitRake (s : State) (req : Requester) (via a : Nat) (atStep cancel : Bool) (is : List Nat) : Nat × State :=
  let all := decide (is.length = (classInstances (csrClass a)).getD 0)
  let r := is.foldl (fun (acc : List (Nat × Nat) × State) i =>
    let ai := atInst a i
    let x := if brineSplit (acc.2.groupOfAddr ai) all then (0x1C09, acc.2) else acc.2.commitOne via ai atStep cancel
    if x.1 = 0 then (acc.1, x.2) else (acc.1 ++ [(i, x.1)], x.2.raise (siteOf ai) x.1)) ([], s)
  ((r.1.headD (0, 0)).2, r.2.noteRakeWrite req r.1)

/-- A write of SCH_COMMIT on instance `p` (R380 to R383): the code, and the state with a refusal raised. -/
def State.commitWrite (s : State) (req : Requester) (p v : Nat) : Nat × State :=
  let a := bits v 0 32
  let deny := fun (c : Nat) => (c, s.raise (schSite p) c)
  match s.target a with
  | .many is =>
    if (s.groupOfAddr (atInst a (is.headD 0))).isNone then deny 0x3805 else s.commitRake req p a (bit v 32) (bit v 33) is
  | .one i =>
    let ai := atInst a i
    if brineSplit (s.groupOfAddr ai) false then (0x1C09, s.raise (siteOf ai) 0x1C09)
    else
      let r := s.commitOne p ai (bit v 32) (bit v 33)
      if r.1 = 0 then r else (r.1, r.2.raise (schSite p) r.1)
  | .none c => if (s.groupOfAddr (atInst a 0)).isNone then deny 0x3805 else deny c

/-! ### Actions -/

/-- A trigger asked for through RAS_ESCALATE (R477, R488), which the RAS block also logs under its own die and instance
(R476; log entry 89). -/
def State.escalateWrite (s : State) (v : Nat) : State := State.rasLogs 0x540F <|
  match bits v 0 3 with
  | 1 => s.escalateContext (bits v 10 16) 0x540F rasSite
  | 2 => s.escalateEngine (bits v 4 6) (bits v 10 16) 0x540F
  | 3 => s.escalatePartition (bits v 10 16) 0x540F rasSite
  | 4 => s.escalateChip 0x540F rasSite
  | _ => s.escalatePower 0x540F rasSite

/-- The entry that a value of LNK_ST_DATA names. -/
def slotOf (v : Nat) : SlotEntry :=
  match bits v 0 2 with
  | 0 => .idle
  | 1 => .shared
  | _ => .tc0 (bits v 2 6) (bits v 8 16)

/-- A route, sluice or rank table entry, a staged slot, a staged table or profile entry is stored through its data
register. -/
def State.storeSelected (s : State) (req : Requester) (h i d v : Nat) : State :=
  let w := BitVec.ofNat 64 v
  if h = Reg.SEQ_IMEM_DATA then s.setImem i (s.fld Reg.SEQ_IMEM_ADDR_INDEX d) (bits v 0 32)
  else if h = Reg.LNK_ST_DATA then
    let l := 2 * i + s.fld Reg.LNK_ST_SEL_HALF d
    let p := s.lport l
    let k := s.fld Reg.LNK_ST_SEL_INDEX d
    s.setLport l { p with staged := { p.staged with entries := p.staged.entries.set slotDefault k (slotOf v) },
                          since := SMap.insert p.since k (slotOf v) }
  else if h = Reg.FAB_RT_DATA then { s with routes := s.routes.set (fun _ => 0) s.routeSel v }
  else if h = Reg.FAB_SLUICE_DATA then { s with sluices := s.sluices.set (fun _ => 0) (s.fld Reg.FAB_SLUICE_SEL_INDEX) v }
  else if h = Reg.FAB_RANK_DATA then { s with ranks := s.ranks.set (fun _ => 0) (s.fld Reg.FAB_RANK_SEL_INDEX) v }
  else if h = Reg.GLB_RAKE_DATA then
    let x := (s.rakeOf req).sel
    { s with rakeMask := s.rakeMask.set (fun _ => 0) (maskKey (selClass x) (selGroup x) (selWord x)) w }
  else if h = Reg.RAS_MBR_DATA then
    { s with ras := { s.ras with staged := SMap.insert s.ras.staged (s.fld Reg.RAS_MBR_SEL_INDEX) w } }
  else if h = Reg.PWR_PROF_DATA then
    let k := (2 * s.fld Reg.PWR_PROF_SEL_PART + s.fld Reg.PWR_PROF_SEL_KIND) * 1024 + s.fld Reg.PWR_PROF_SEL_INDEX
    { s with power := { s.power with staged := s.power.staged.set (fun _ => 0) k w } }
  else if (wordsFrom Reg.SCH_TBL_DATA 4).contains h then
    let x := s.part i
    let n := s.fld Reg.SCH_TBL_SEL_INDEX d
    let k := (h - Reg.SCH_TBL_DATA) / 8
    s.setPart i { x with staged := x.staged.set tblZero n ((x.staged.get tblZero n).set k w), since := SMap.insert x.since (4 * n + k) w }
  else s

/-- The data registers that a selector serves. -/
def selectedReg (h : Nat) : Bool :=
  [Reg.SEQ_IMEM_DATA, Reg.LNK_ST_DATA, Reg.FAB_RT_DATA, Reg.FAB_SLUICE_DATA, Reg.FAB_RANK_DATA, Reg.GLB_RAKE_DATA,
   Reg.RAS_MBR_DATA, Reg.PWR_PROF_DATA].contains h || (wordsFrom Reg.SCH_TBL_DATA 4).contains h

/-- The action of a register with WO fields: the refusing code, 0 for none, and the state. -/
def State.writeAction (s : State) (req : Requester) (par : QueueParity) (h i v off : Nat) : Nat × State :=
  if h = Reg.PAN_ALLOC then (0, s.panAlloc i v)
  else if h = Reg.PAN_RETAIN then s.panRetain i v
  else if h = Reg.PAN_RELEASE then s.panRelease i v
  else if h = Reg.QUE_POP then s.detPop (reqCore req) (4 * i + off / 0x4000) v par.framing par.words
  else if h = Reg.QUE_DROP then (0, s.queDrop (4 * i + off / 0x4000) v)
  else if h = Reg.FAB_RGN_ADVANCE then (0, s.regionAdvanceWrite v)
  else if h = Reg.SYN_CNT_CLEAR then (0, s.setCounter (bits v 0 14) { s.counter (bits v 0 14) with err := 0 })
  else if h = Reg.SCH_PART_STOP then (0, if bit v 0 then s.partStop i else s)
  else if h = Reg.SCH_COMMIT then s.commitWrite req i v
  else if h = Reg.SCH_LAUNCH_CTRL then (0, if bit v 0 then s.launchBegin i else s)
  else if csrClass h = 15 then (0, if bit v 0 then (s.teardownWrite (32 * i + off / 0x800)).2 else s)
  else if h = Reg.DET_RNG_FILL then s.detFill (reqCore req) (bits v 0 48)
  else if h = Reg.RAS_ESCALATE then (0, s.escalateWrite v)
  else if h = Reg.RAS_MBR_CTRL then (0, if bit v 0 then s.rejoin else if bit v 1 then s.leaveWrite else s)
  else (0, s)

/-- What a stored value changes besides its register. -/
def State.afterStore (s : State) (h i : Nat) (old new : Word) : State :=
  if h = Reg.MAT_REPAIR ∨ h = Reg.MAT_CTRL then s.syncMat i
  else if h = Reg.FAB_CTRL then (if new.getLsbD 0 then { s with sluiceLocked := true } else s)
  else if h = Reg.FAB_RT_CTRL then
    (if old = new then s else (s.setReg Reg.FAB_RT_SWITCH_TIME (BitVec.ofNat 64 s.tb)).stat Reg.FAB_STAT_SWITCHES 1)
  else if h = Reg.SCH_LAUNCH_BASE then s.launchBaseWritten i
  else if h = Reg.SCH_PART_STEP then s.commitsDue i new.toNat
  else s

/-! ### The general rule (R9, R10, R525) -/

/-- The bits of the fields that a predicate selects. -/
def fieldMask (fs : List FieldSpec) (p : FieldSpec → Bool) : Nat := ((fs.filter p).map (fun f => (2 ^ f.w - 1) * 2 ^ f.lo)).sum

/-- The bits of a half. -/
def halfMask (half : Nat) : Nat := 2 ^ halfHi half - 2 ^ halfLo half

/-- `v` in the bits of the mask, `old` elsewhere. -/
def blend (old v mask : Nat) : Nat := (old &&& (2 ^ 64 - 1 - mask)) ||| (v &&& mask)

/-- The register has a field of an access type. -/
def RegSpec.has (rs : RegSpec) (acc : Access) : Bool := rs.fields.any (fun f => decide (f.acc = acc))

/-- The whole value that a write stands for: the bits of the other half count as zero in a WO register, at their staged
values in a WC register, at their current values elsewhere (R525). -/
def State.writeValue (s : State) (req : Requester) (rs : RegSpec) (a v half : Nat) : Nat :=
  let other := if rs.has .WO then 0 else if rs.has .WC then (s.stagedAt req a).toNat else (s.shown req a).toNat
  blend other v (halfMask half)

/-- Store by access type: RW fields take their bits, W1C fields lose the bits written 1, WC fields stage theirs (R9). -/
def State.storeReg (s : State) (req : Requester) (rs : RegSpec) (a v half : Nat) : State :=
  let hm := halfMask half
  let rw := fieldMask rs.fields (fun f => decide (f.acc = .RW)) &&& hm
  let w1 := fieldMask rs.fields (fun f => decide (f.acc = .W1C)) &&& hm
  let wc := fieldMask rs.fields (fun f => decide (f.acc = .WC)) &&& hm
  let old := (s.reg a).toNat
  let s := if rw = 0 ∧ w1 = 0 then s else s.setReg a (BitVec.ofNat 64 (blend (blend old v rw) 0 (v &&& w1)))
  if wc = 0 then s
  else { s with staged := SMap.insert s.staged a (BitVec.ofNat 64 (blend (s.stagedAt req a).toNat v wc)) }

/-- A write that a block instance receives at one of its registers, after the checks of R526 up to the requester's right:
the refusing code, 0 for none, and the state. -/
def State.writeReg (s : State) (req : Requester) (via : Via) (par : QueueParity) (rs : RegSpec) (a v half : Nat) : Nat × State :=
  let hm := halfMask half
  let h := csrHome a
  let i := csrInst a
  let d := a - h
  let deny := fun (c : Nat) => (c, s.raise (siteOf a) c)
  if (v &&& hm) &&& (2 ^ 64 - 1 - fieldMask rs.fields (fun _ => true)) ≠ 0 then deny 0x0001
  else
    let w := s.writeValue req rs a v half
    match s.writeBad via h i d w with
    | some c => deny c
    | none =>
      if rs.has .WO then
        if rs.fields.any (fun f => decide (f.acc = .WO) && f.inHalf half) then s.writeAction req par h i w (csrOff a) else (0, s)
      else if selectedReg h then (0, (s.storeSelected req h i d w).advanceSel req a)
      else if h = Reg.GLB_RAKE_SEL then (0, s.setRake req { s.rakeOf req with sel := BitVec.ofNat 64 w })
      else if h = Reg.SYN_CNT_STATE then
        (0, if half = 1 then s else
          s.setCounter (s.fld Reg.SYN_CNT_SEL_INDEX) { s.counter (s.fld Reg.SYN_CNT_SEL_INDEX) with remote := bit w 16 })
      else if h = Reg.CLK_TB_CFG then (0, s.tbCfgWrite (BitVec.ofNat 64 w))
      else
        let old := s.reg a
        let s := s.storeReg req rs a v half
        (0, s.afterStore h i old (s.reg a))

end Sys2Proof.Machine
end

