-- ==== Sys2Proof/Machine/Csr.lean ====
section
/-! DEFINITION. One CSR access: the checks in the order of R526, direct accesses, rakes (R509 to R515), and the CSR window
of a sequencer (R35, R363). -/

namespace Sys2Proof.Machine

/-- A class of the core die, and the PWR registers held there (R506, R507). -/
def onCoreDie (a : Nat) : Bool :=
  [1, 2, 3, 4, 5, 13, 14, 15, 16, 22].contains (csrClass a) ||
  (decide (csrClass a = 17) && ([Reg.PWR_PROF_SEL, Reg.PWR_PROF_DATA, Reg.PWR_PROF_COUNT].contains (csrHome (a / 8 * 8)) ||
    (decide (Reg.PWR_PART_CFGp ≤ csrHome a) && decide (csrHome a < Reg.PWR_PART_CFGp + 16 * 8))))

/-- The register at an address; the queue-pair registers stand in ETH instance 0 only (R11). -/
def regAt (a : Nat) : Option RegSpec :=
  if csrClass a = 11 ∧ csrInst a ≠ 0 ∧ csrOff Reg.ETH_QP_SEL ≤ csrOff a ∧ csrOff a < csrOff Reg.ETH_QP_SEL + 0x48 then none
  else findReg (classRegs (csrClass a)) (csrOff a / 8 * 8)

/-- The code with which an instance refuses a requester (R516, R234, and the MGMT and RAS registers). -/
def rightCode (req : Requester) (a : Nat) (write : Bool) : Nat :=
  match req with
  | .mc => 0
  | .seq _ =>
    match csrClass a with
    | 0 => if write ∧ !([Reg.GLB_RAKE_SEL, Reg.GLB_RAKE_DATA].contains (csrOff a / 8 * 8)) then 0x0009 else 0
    | 8 => if csrInst a < 4 then 0x200A else 0
    | 19 => if write then 0x4C17 else 0
    | 21 => if write then 0x5401 else 0
    | _ => 0

/-- What an access reaches: refused with a code by a block, one instance, the members of a rake. -/
inductive Reach where
  | refused (code : Nat) (blk : Site)
  | one (i : Nat) (rs : RegSpec)
  | many (is : List Nat) (rs : RegSpec)

/-- The half an access of 32 or 64 bits reaches: 0 lower, 1 upper, 2 both (R525). -/
def halfOf (a width : Nat) : Nat := if width = 64 then 2 else a / 4 % 2

/-- The block that records 0x0006: the PWR instance, whose own registers stand on LD0, for the PWR registers of the core die;
GLOBAL for the classes that are absent with it (R16, R506). -/
def offSite (a : Nat) : Site := if csrClass a = 17 then siteOf a else glbSite

/-- The checks 1 to 6 of R526. A rake access that has members but meets an offset without a register is refused once, and its
0x0002 is recorded in GLB_ERR and in no member's error register (R513; DESIGN CHOICE, log entry 137). -/
def State.reachOf (s : State) (a width : Nat) : Reach :=
  if (width ≠ 32 ∧ width ≠ 64) ∨ a % (width / 8) ≠ 0 then
    .refused 0x0004 (match s.target a with | .one i => siteOf (atInst a i) | _ => glbSite)
  else
    match s.target a with
    | .none c => .refused c glbSite
    | .one i =>
      if onCoreDie a ∧ !s.coreOn then .refused 0x0006 (offSite (atInst a i))
      else match regAt (atInst a i) with
        | none => .refused 0x0002 (siteOf (atInst a i))
        | some rs => .one i rs
    | .many is =>
      if onCoreDie a ∧ !s.coreOn then .refused 0x0006 glbSite
      else match findReg (classRegs (csrClass a)) (csrOff a / 8 * 8) with
        | none => .refused 0x0002 glbSite
        | some rs => .many is rs

/-- A write at one instance: its code, 0 for none. A refused write of PAN_RETAIN or PAN_RELEASE is counted (R251). -/
def State.writeInst (s : State) (req : Requester) (via : Via) (par : QueueParity) (rs : RegSpec) (a v width : Nat) : Nat × State :=
  let rc := rightCode req a true
  if rc ≠ 0 then
    let release := decide (csrClass a = 8) && [csrOff Reg.PAN_RETAIN, csrOff Reg.PAN_RELEASE].contains (csrOff a / 8 * 8)
    (rc, (if release then s.stat (Reg.PAN_STAT_REFUSED + instDelta (csrInst a)) 1 else s).raise (siteOf a) rc)
  else if (regAt a).isNone then (0x0002, s.raise (siteOf a) 0x0002)
  else
    let h := halfOf a width
    s.writeReg req via par rs (a / 8 * 8) (if h = 1 then v % 2 ^ 32 * 2 ^ 32 else if h = 0 then v % 2 ^ 32 else v) h

/-- A CSR write (R508, R512, R526): the code the writer receives, 0 for none, and the state. -/
def State.csrWrite (s : State) (req : Requester) (a width v : Nat) (par : QueueParity := ⟨false, []⟩) : Nat × State :=
  match s.reachOf a width with
  | .refused c t => (c, s.raise t c)
  | .one i rs => s.writeInst req ⟨false, false⟩ par rs (atInst a i) v width
  | .many is rs =>
    let all := decide (is.length = (classInstances (csrClass a)).getD 0)
    let r := is.foldl (fun (acc : List (Nat × Nat) × State) i =>
      let x := acc.2.writeInst req ⟨true, all⟩ par rs (atInst a i) v width
      (if x.1 = 0 then acc.1 else acc.1 ++ [(i, x.1)], x.2)) ([], s)
    ((r.1.headD (0, 0)).2, r.2.noteRakeWrite req r.1)

/-- A read at one instance: its code, its value. -/
def State.readInst (s : State) (req : Requester) (rs : RegSpec) (a width : Nat) : Nat × Word × State :=
  let rc := rightCode req a false
  if rc ≠ 0 then (rc, 0, s.raise (siteOf a) rc)
  else if (regAt a).isNone then (0x0002, 0, s.raise (siteOf a) 0x0002)
  else
    let r := s.readReg req rs (a / 8 * 8) (halfOf a width)
    (0, r.1, r.2)

/-- The outcome of a rake read for its reader (R513, R516): how many members were read, and whether they differed. -/
def State.noteRakeRead (s : State) (req : Requester) (n : Nat) (diff : Bool) : State :=
  let x := s.rakeOf req
  s.setRake req { x with status := BitVec.ofNat 64 (setBits (setBits x.status.toNat 0 1 (b2n diff)) 1 10 n) }

/-- An address asks for a rake. -/
def isRake (a : Nat) : Bool := decide (0x3F0 ≤ csrInst a) && decide (classRake (csrClass a) = .yes)

/-- A CSR read (R11, R508, R513, R526): the code, 0 for none, the value, and the state. A refused read gives zero. -/
def State.csrRead (s : State) (req : Requester) (a width : Nat) : Nat × Word × State :=
  match s.reachOf a width with
  | .refused c t =>
    let s := s.raise t c
    (c, 0, if isRake a then s.noteRakeRead req 0 false else s)
  | .one i rs => s.readInst req rs (atInst a i) width
  | .many is rs =>
    let r := is.foldl (fun (acc : List (Nat × Word) × State) i =>
      let x := acc.2.readInst req rs (atInst a i) width
      (acc.1 ++ [(x.1, x.2.1)], x.2.2)) ([], s)
    let good := r.1.filter (fun e => decide (e.1 = 0))
    let v := good.foldl (fun (acc : Word) e => acc ||| e.2) 0
    let diff := match good with | [] => false | e :: t => t.any (fun f => decide (f.2 ≠ e.2))
    ((r.1.map (·.1)).find? (fun c => decide (c ≠ 0)) |>.getD 0, v, r.2.noteRakeRead req good.length diff)

/-- The context of a sequencer's program may use the CSR window (R35, R363). -/
def State.csrEn (s : State) (ctx : Nat) : Bool := (s.reg (Reg.CTX_DESC0 + ctxDelta ctx)).getLsbD 7

/-- A program of a core writes through the CSR window (R35, R363). -/
def State.windowWrite (s : State) (core : Fin 64) (a width v : Nat) (par : QueueParity := ⟨false, []⟩) : Nat × State :=
  if s.csrEn (s.seqCtx core) then s.csrWrite (.seq core) a width v par
  else (0x3C04, s.raise (ctxSite (s.seqCtx core)) 0x3C04)

/-- A program of a core reads through the CSR window (R35, R363). -/
def State.windowRead (s : State) (core : Fin 64) (a width : Nat) : Nat × Word × State :=
  if s.csrEn (s.seqCtx core) then s.csrRead (.seq core) a width
  else (0x3C04, 0, s.raise (ctxSite (s.seqCtx core)) 0x3C04)

/-- The registers at an address stand on a clock that has stopped (R469): those of one block instance, and of FABRIC with either link
die's. The ring access waits for the clock, and its sender gets no answer meanwhile (log entry 17). -/
def State.csrStops (s : State) (a : Nat) : Bool :=
  if isRake a then false
  else if onCoreDie a then s.clockStops 0
  else if csrClass a = 12 then s.clockStops 9 || s.clockStops 10
  else [6, 7, 8, 9, 10, 11].contains (csrClass a) && s.clockStops (siteOf a).die

/-- The FABRIC group whose COMMIT, with AT_STEP and CANCEL clear, a write of `v` at `a` is (R380). -/
def State.fabricCommit (s : State) (a v : Nat) : Option Group :=
  if csrHome a = Reg.SCH_COMMIT ∧ v / 2 ^ 32 = 0 then
    match s.target v with
    | .one i => (s.groupOfAddr (atInst v i)).filter fabricGroup
    | _ => none
  else none

/-- A CSR write is answered with its code; that of a FABRIC group's COMMIT once both copies have applied it (R380), one at a step at
once (DEDUCED, log entry 157). -/
def State.writeAnswer (s : State) (to_ : CommitAck) (a v : Nat) (r : Nat × State) (answer : Nat → Out) : State :=
  match (s.fabricCommit a v).filter (fun _ => decide (r.1 = 0)) with
  | some g => { r.2 with pends := r.2.pends.map (fun x => if x.group = g then { x with ack := to_ } else x) }
  | none => r.2.emit (answer r.1)

/-- A CSR write by the MC path or by a program, as a command: a program's access is one through its window. -/
def State.accessWrite (s : State) (req : Requester) (a width v : Nat) (par : QueueParity := ⟨false, []⟩) : State :=
  if s.csrStops a then s else
  let r := match req with
    | .mc => s.csrWrite .mc a width v par
    | .seq n => s.windowWrite n a width v par
  s.writeAnswer .csr a v r (.csr · 0)

/-- A CSR read by the MC path or by a program, as a command. -/
def State.accessRead (s : State) (req : Requester) (a width : Nat) : State :=
  if s.csrStops a then s else
  let r := match req with
    | .mc => s.csrRead .mc a width
    | .seq n => s.windowRead n a width
  r.2.2.emit (.csr r.1 r.2.1.toNat)

end Sys2Proof.Machine
end

