-- ==== Sys2Proof/Machine/Dump.lean ====
section
/-! DEFINITION. The crash dump (R441, R442). -/

namespace Sys2Proof.Machine

/-- STATE, CODE and LENGTH of the dump header (R441). -/
def State.dumpState (s : State) : Nat := s.readNat (dumpBase + 0x11) 1
def State.dumpLength (s : State) : Nat := s.readNat (dumpBase + 0x20) 8

/-- The registers of one instance of a class in CSR address order, as address and value. -/
def State.instSnapshot (s : State) (cls i : Nat) : Bytes :=
  ((List.range 8192).map (fun k => cls * 2 ^ 26 + i * 2 ^ 16 + 8 * k)).flatMap (fun a =>
    if (regAt a).isSome then leBytes 8 a ++ leBytes 8 (s.shown .mc a).toNat else [])

/-- The snapshot of a class (section type 2). -/
def State.classSnapshot (s : State) (cls : Nat) : Bytes :=
  ((List.range ((classInstances cls).getD 0)).filter (fun i => s.instExists cls i)).flatMap (fun i => s.instSnapshot cls i)

/-- The arrival counters (section type 3): 16 bytes each, the count, then ERR and the REMOTE bit (log entry 46). -/
def State.counterDump (s : State) : Bytes :=
  (List.range 16384).flatMap (fun i =>
    let c := s.counter i
    leBytes 8 c.count.toNat ++ leBytes 8 (c.err + b2n c.remote * 65536))

/-- The context descriptors with SEED as zero (section type 4). -/
def State.contextDump (s : State) : Bytes :=
  (List.range 16384).flatMap (fun c =>
    (s.ctxDesc c |>.take 4).flatMap (fun w => leBytes 8 w.toNat) ++ List.replicate 32 0)

/-- The cores named in the capture: the cores of the engines whose escalation reached chip level (log entry 46). -/
def State.capturedCores (s : State) : List Nat :=
  (List.range 64).filter (fun n => s.ras.escs.any (fun e => decide (4 ≤ e.level) && decide (engineCore e.cls e.inst = some n)))

/-- The sections of a dump, type and contents; those that need the core die only with `core`. -/
def State.dumpSections (s : State) (core : Bool) : List (Nat × Bytes) :=
  [(1, s.log.entries.reverse.flatMap LogEntry.bytes)] ++
  ((List.range 23).filter (fun c => core || !onCoreDie (c * 2 ^ 26))).map (fun c => (2, s.classSnapshot c)) ++
  (if core then [(3, s.counterDump), (4, s.contextDump)] ++
      s.capturedCores.map (fun n => (5, s.readBytes (coreAddr n 0) storeSize))
   else [])

/-- Writing stops after `n` bytes: each section as far as it is written, and whether it is cut short (R441). -/
def cutSections : Nat → List (Nat × Bytes) → List (Nat × Bytes × Bool)
  | _, [] => []
  | n, (t, b) :: rest => (t, b.take n, decide (n < b.length)) :: cutSections (n - b.length) rest

/-- Sections with their offsets in units of 4 KiB from the area's start. -/
def placeSections : Nat → List (Nat × Bytes × Bool) → List (Nat × Nat × Bytes × Bool)
  | _, [] => []
  | off, (t, b) :: rest => (off, t, b) :: placeSections (off + max 1 (ceilDiv b.1.length 4096)) rest

/-- A section padded to whole units of 4 KiB. -/
def padSection (b : Bytes) : Bytes := b ++ List.replicate (max 1 (ceilDiv b.length 4096) * 4096 - b.length) 0

/-- A directory entry (R441): TYPE, FLAGS with TRUNCATED in bit 0, OFFSET and the LENGTH that is written. -/
def dirEntry (x : Nat × Nat × Bytes × Bool) : Bytes :=
  leBytes 2 x.2.1 ++ leBytes 2 (b2n x.2.2.2) ++ leBytes 4 x.1 ++ leBytes 8 x.2.2.1.length

/-- The bytes of a complete dump, of whose sections `n` bytes are written in its 50 ms (R441). -/
def State.dumpBytes (s : State) (code level n : Nat) (core : Bool) : Bytes :=
  let secs := placeSections 1 (cutSections n (s.dumpSections core))
  let body := secs.flatMap (fun x => padSection x.2.2.1)
  let head := leBytes 4 0x444D5001 ++ leBytes 2 1 ++ leBytes 2 code ++ leBytes 8 s.tb ++ leBytes 1 level ++ leBytes 1 2 ++
    leBytes 2 0 ++ leBytes 2 secs.length ++ leBytes 2 0 ++ leBytes 8 s.headerImageId ++ leBytes 8 (4096 + body.length) ++
    leBytes 4 (crc32c body) ++ List.replicate 20 0 ++ secs.flatMap dirEntry
  head ++ List.replicate (4096 - head.length) 0 ++ body

/-- The MC writes a dump where none is kept unread (R441). How many bytes it writes in 50 ms the spec does not say: a free number
(log entry 46). The sections that need the core die are written while it is powered, and unless they are skipped. -/
def State.writeDump (s : State) (code level : Nat) (core : Bool := true) : State :=
  if s.dumpState = 0 ∨ s.dumpState = 3 then
    let v := s.fresh
    (v.2.lpStore dumpBase (s.dumpBytes code level v.1.toNat (s.coreOn && core)) false true).2
  else s.raise mgtSite 0x4C12

/-- DUMP_EXPORT (R442): the code, and the state. -/
def State.dumpExport (s : State) (a n : Nat) : Nat × State :=
  let len := s.dumpLength
  if s.dumpState = 0 ∨ !aligned a 4096 ∨ !inLpddr a n ∨ n < len then (0x4C13, s.raise mgtSite 0x4C13)
  else
    let whole := len / 64 * 64
    let s := (s.noteFetch (dumpBase + whole) (len % 64)).copyEntry dumpBase a len
    let s := s.put (a + whole) (s.fetch (dumpBase + whole) (len % 64)) (s.fetchPoisoned (dumpBase + whole) (len % 64))
    (0, (s.lpStore (dumpBase + 0x11) (leBytes 1 3) false true).2)

end Sys2Proof.Machine
end

