-- ==== Sys2Proof/Machine/Reset.lean ====
section
/-! DEFINITION. Resets and what they keep: the core die off (R26), engine, partition and chip-level resets (R479 to R483), power
and power-cycle level (R466 to R468, R484, R485), fallow mode (R486), RESET_N (R520). -/

namespace Sys2Proof.Machine

/-! ### The core die off (R26) -/

/-- A group whose registers are on the core die. -/
def groupOnCore : Group → Bool
  | .partition _ => true | .table _ => true | .ring _ _ => true | .context _ => true | .detLog => true | .detReplay => true
  | .profile _ _ => true | .pwrPart _ => true
  | _ => false

/-- The entries of a map by CSR address that do not belong to the core die. -/
def offCore (m : SMap Word) : SMap Word := m.filter (fun e => !onCoreDie e.1)

/-- An address outside the core-store and router-store windows. -/
def outsideStores (a : Nat) : Bool := decide (a < coreStoreBase) || decide (coreStoreBase + 0x22000000 ≤ a)

/-- The launches this device has taken part in and that have not started their partition end towards those who wait for them
(R26, log entry 108): a MEMBER's READY carries 0x0006, and the root aborts with it. -/
def State.launchesOff (s : State) : State :=
  (List.range 16).foldl (fun s p =>
    match s.manifest p with
    | none => s
    | some m =>
      if m.job ≠ (s.launch p).job ∨ s.partState p = 3 then s
      else if m.self = 0 then s.launchAbort p m (schSite p) 0x0006
      else if m.member then s.sendControl (m.entry 0).dev ctReady (launchHead m.job m.self ++ leBytes 2 0x0006 ++ leBytes 6 0)
      else s) s

/-- Every command that the engines of the core die have accepted completes with 0x0006 (R26). -/
def State.enginesOff (s : State) : State :=
  let s := (List.range 128).foldl (fun s m => s.matStop m (fun _ => true) 0x0006) s
  let s := (List.range 64).foldl (fun s n => s.chainStop n (fun _ => true) 0x0006 0x0006) s
  let s := (List.range 4).foldl (fun s j => s.unackedStop j 0x0006) s
  let s := (s.routersStop (fun _ _ => true) 0x0006).collsStop (fun _ => true) 0x0006
  s.pumpsStop (fun c => c.core.isSome) (fun _ => 0x0006)

/-- The core die powers down (R26): what it had accepted completes with 0x0006, and its state is gone. -/
def State.coreOff (s : State) : State :=
  if !s.coreOn then s
  else
    let s := s.launchesOff.enginesOff.closeSprint
    let s := s.scratchArea coreStoreBase 0x22000000
    { s with
      coreOn := false
      regs := offCore s.regs
      staged := offCore s.staged
      bad := s.bad.filter (fun e => outsideStores (8 * e.1))
      counters := []
      routers := []
      arrays := []
      spoilt := s.spoilt.filter (fun x => inLpddr x.1 x.2.1)
      chains := []
      seqs := []
      imem := []
      colls := []
      chunkHeaders := []
      voidNextCode := []
      torn := []
      parts := []
      launches := []
      fills := []
      detBuffer := []
      detTail := 0
      detTailBad := false
      outstanding := s.outstanding.filter (fun r => match r.owner with | .coll _ _ => false | _ => true)
      pends := s.pends.filter (fun x => !groupOnCore x.group) }
    |>.setFld Reg.CLK_STATE_CCLK_MHZ 0 0 |>.setPll 0 false |>.pllForgets 0

/-! ### Engine level (R474, R479) -/

/-- Every command of one engine instance ends with 0x5402. -/
def State.resetEngine (s : State) (cls inst : Nat) : State :=
  match cls with
  | 2 => s.matStop inst (fun _ => true) 0x5402
  | 3 => s.chainStop inst (fun _ => true) 0x5402 0x5402
  | 4 => s.stopProgram inst 0x5402
  | 5 => (s.unackedStop inst 0x5402).routersStop (fun j _ => decide (j = inst)) 0x5402
  | 12 => s.pumpsStop (fun _ => true) (fun _ => 0x5402)
  | 13 => s.collsStop (fun _ => true) 0x5402
  | 22 => s.fillsStop (fun _ => true) 0x5402
  | _ => s

/-- An escalation of a level for a target is running. -/
def State.escRuns (s : State) (level cls inst : Nat) : Bool :=
  s.ras.escs.any (fun e => decide (e.level = level) && decide (e.cls = cls) && decide (e.inst = inst))

/-- An engine-level reset (R479). -/
def State.engineReset (s : State) (cls inst : Nat) : State :=
  if !s.escRuns 2 cls inst then s
  else
    let s := (s.resetEngine cls inst).stat Reg.RAS_STAT_ENGINE 1
    { s with ras := { s.ras with engineResets := SMap.insert s.ras.engineResets (cls * 1024 + inst) s.tb } }.endEsc 2 cls inst

/-- Since when a command that an engine runs has made no progress (R474): a router is watched from its window's end; a FENCE moves with
the commands it covers. -/
def State.engineSince (s : State) (cls inst : Nat) : Option Nat :=
  match cls with
  | 2 => s.passMoved inst
  | 3 => s.chainMoved inst
  | 5 => (s.router inst).unacked.head?.map (fun x => x.2.2.1)
  | 12 => ((s.pumps.filter (fun c => c.started && decide (c.cancelled = 0) && decide (pumpOp c.desc ≠ 0x25))).map (fun c => c.moved)).min?
  | 13 => ((s.colls.filter (fun c => c.active)).map (fun c => c.moved)).min?
  | 22 => s.fills.head?.map (fun f => f.since)
  | _ => none

/-- The watchdog of an engine expires (R474). -/
def State.engineWatchdog (s : State) (cls inst : Nat) : State :=
  match s.engineSince cls inst with
  | none => s
  | some t => if s.tb < t + s.fld Reg.RAS_CTRL_ENGINE_WD_MS * 1000000 then s
    else (s.escalateEngine cls inst 0x540B).rasLogs 0x540B

/-! ### Partition level (R480) -/

/-- The contexts whose PARTITION is `p`. -/
def State.partContexts (s : State) (p : Nat) : List Nat :=
  (List.range 16384).filter (fun c => decide (s.ctxState c = 1) && decide (s.ctxPartition c = p))

/-- A partition-level reset (R480). -/
def State.partitionReset (s : State) (p : Nat) : State :=
  if !s.escRuns 3 14 p then s
  else
    let s := (s.partContexts p).foldl (fun s c => s.teardown c) s
    let cores := (List.range 64).filter (fun n => (s.reg (Reg.SCH_PART_CORES + instDelta p)).getLsbD n)
    let s := cores.foldl (fun s n =>
      (((s.resetEngine 2 (2 * n)).resetEngine 2 (2 * n + 1)).resetEngine 3 n).resetEngine 4 n) s
    let s := ((s.revertHeads p).setPartState p partOff).stat Reg.RAS_STAT_PARTITION 1
    ({ s with ras := { s.ras with partResets := SMap.insert s.ras.partResets p s.tb } }.raise rasSite 0x540C).endEsc 3 14 p

/-! ### Bounds (R475, R478) -/

/-- The bound of a level, in ns; context level escalates under R386. -/
def escBound (level : Nat) : Option Nat :=
  match level with | 2 => some 100000 | 3 => some 1000000 | 4 => some 200000000 | 5 => some 200000000 | _ => none

/-- The oldest escalation that has exceeded its bound goes to the next level with 0x5410 (R478). -/
def State.escalationTimeout (s : State) : State :=
  match s.ras.escs.find? (fun e => match escBound e.level with | none => false | some b => decide (e.since + b < s.tb)) with
  | none => s
  | some e =>
    let blk : Site := ⟨e.cls, e.inst, e.die⟩
    State.rasLogs 0x5410 <| match e.level with
    | 2 => s.aboveEngine e.cls e.inst 0x5410
    | 3 => s.escalateChip 0x5410 (schSite e.inst)
    | 4 => (s.endLevel 4).chipFailed 0x5410 blk
    | _ => s.escalatePower 0x5410 blk

/-! ### Chip level (R481, R483) -/

/-- The CSRs that a chip-level reset keeps (log entry 47): MGMT and SEC, which the MC holds; RAS_CAPTURE, RAS_STATE and the
statistics of RAS; the clocks' state; the ledger. -/
def keptByChip (a : Nat) : Bool :=
  decide (csrClass a = 19) || decide (csrClass a = 20) ||
  [Reg.RAS_CAPTURE, Reg.RAS_STATE, Reg.CLK_STATE, Reg.PWR_LEDGER].contains a ||
  (decide (Reg.RAS_STAT_CONTEXT ≤ a) && decide (a ≤ Reg.RAS_STAT_HB_FOREIGN))

/-- The sweep count alone of RAS_MBR_STATE survives (R499). -/
def State.keepSweep (s : State) (sw : Nat) : State := s.setFld Reg.RAS_MBR_STATE_SW 0 sw

/-- Every die is reset with memory contents kept (R211, R481); a warm boot is due. -/
def State.chipReset (s : State) : State :=
  match s.chipEsc with
  | none => s
  | some e =>
    let s := (s.writeDump e.code 3).coreOff
    let sw := s.fld Reg.RAS_MBR_STATE_SW
    let fresh := State.reset
    let t : State := { fresh with
      tb := s.tb, free := s.free, regs := s.regs.filter (fun x => keptByChip x.1), log := s.log, mem := s.mem, bad := s.bad,
      scratch := s.scratch, fuses := s.fuses, tap := s.tap, coreOn := false, channels := s.channels, regions := s.regions,
      power := { fresh.power with samples := s.power.samples, usedMs := s.power.usedMs, saved := s.power.saved,
                                  savedAt := s.power.savedAt, saving := s.power.saving, sprintClosed := s.power.sprintClosed, poweredMs := s.power.poweredMs, highest := s.power.highest },
      pins := s.pins, clock := s.clock, sensors := s.sensors, flash := s.flash,
      mgmt := { s.mgmt with boot := some false, load := [], asking := none },
      ras := { fresh.ras with escs := [e], engineResets := s.ras.engineResets,
                              partResets := s.ras.partResets, failDies := s.ras.failDies, owed := s.ras.owed, sweepTo := s.ras.sweepTo },
      spoilt := s.spoilt, out := s.out, inputs := s.inputs, pending := s.pending }
    let t := (List.range 384).foldl (fun t c => t.setFld Reg.MCH_STATE_SELF_REFRESH (instDelta c) 1) t
    ((t.keepSweep sw).stat Reg.RAS_STAT_CHIP 1).raise rasSite 0x5404 e.code

/-- CHIP_WINDOW_S in RUNNING without a trigger returns CHIP_FAILS to 0 (R483). -/
def State.chipWindowExpiry (s : State) : State :=
  match s.ras.runningAt with
  | none => s
  | some t =>
    if s.tb < t + s.fld Reg.RAS_CTRL_CHIP_WINDOW_S * 1000000000 then s
    else { s with ras := { s.ras with runningAt := none, failDies := [] } }.setFld Reg.RAS_STATE_CHIP_FAILS 0 0

/-! ### Power (R461, R466 to R468) -/

/-- 32 bytes that nothing fixes. -/
def freeEntry (i : Nat) : Bytes := (List.range 4).flatMap (fun k => leBytes 8 (Config.freeWord (i + k)).toNat)

/-- The log and persistent areas when power is lost: a write begun at this value of the time base has not ended (DESIGN CHOICE, log entry
132), and what it was writing is not good (R419, R439). -/
def State.cutFlash (s : State) : State :=
  let f := s.flash
  let s := { s with power := { s.power with
    saved := if s.power.saving = some s.tb then s.power.saved.cut else s.power.saved, saving := none } }
  let s := match f.writing with
    | none => s
    | some (part, t) =>
      if t ≠ s.tb then s
      else match part with
        | .log n => { s with flash := { f with log := (List.range n).map (fun k => freeEntry (s.free + 4 * k)) ++ f.log.drop n },
                             free := s.free + 4 * n }
        | .retirement => { s with flash := { f with retired := f.retired.cut } }
        | .certificate => { s with flash := { f with certificate := f.certificate.cut } }
        | .counts => { s with flash := { f with counts := f.counts.cut } }
  { s with flash := { s.flash with writing := none } }

/-- The writes to flash have ended. -/
def State.flashDone (s : State) : State :=
  { s with flash := { s.flash with writing := none }, power := { s.power with saving := none } }

/-- Every rail is off: what lies in flash and fuses remains, and the time base (log entry 48). -/
def State.powerOff (s : State) (p : Pins) : State :=
  let s := s.cutFlash
  let ledger := s.power.savedLedger
  let fresh := State.reset
  { fresh with
    tb := s.tb, free := s.free, fuses := s.fuses, coreOn := false,
    power := { fresh.power with usedMs := ledger.usedMs, saved := s.power.saved, savedAt := s.tb,
                                poweredMs := ledger.poweredMs, highest := ledger.highest },
    pins := { p with pwrGood := false }, flash := s.flash,
    mgmt := { fresh.mgmt with boot := none }, out := s.out, inputs := s.inputs, pending := s.pending }

/-- PWR_EN rises (R466): with VIN in range the rails start; `inRegulation` says that they come into regulation. -/
def State.pwrEnRise (s : State) (inRegulation : Bool) : State :=
  if s.pins.pwrEn then s
  else
    let up := s.pins.vinOk && !s.pins.trip && inRegulation
    let s := { s with pins := { s.pins with pwrEn := true, failed := false, riseAt := s.tb, pwrGood := up } }
    if up then { s with mgmt := { s.mgmt with boot := some true } } else s

/-- PWR_GOOD has not risen 50 ms after PWR_EN: every rail is off until the next edges (R466). -/
def State.pwrGoodTimeout (s : State) : State :=
  if s.pins.pwrEn ∧ !s.pins.pwrGood ∧ s.pins.riseAt + 50000000 ≤ s.tb then { s with pins := { s.pins with failed := true } }
  else s

/-- PWR_EN falls (R467): ledger and log go to flash, then the rails go off. -/
def State.pwrEnFall (s : State) : State :=
  let p := { s.pins with pwrEn := false, failed := false }
  if s.pins.pwrGood then s.saveLedger.flashAll.flashDone.powerOff p else { s with pins := p }

/-- VIN is outside 10.4 to 13.8 V: the rails go off with nothing saved (R467); with VIN removed THERM_TRIP_N is released (R468). -/
def State.vinLoss (s : State) (mv : Nat) : State :=
  if 10400 ≤ mv ∧ mv ≤ 13800 then s
  else
    let p := { s.pins with vinOk := false, trip := s.pins.trip && decide (mv ≠ 0) }
    if s.pins.pwrGood then s.powerOff p else { s with pins := p }

/-- VIN is measured (R458): out of 10.8 to 13.2 V for some time; within 10.4 to 13.8 V it is present. -/
def State.pwrVin (s : State) (mv ns : Nat) : State :=
  let s := if 10400 ≤ mv ∧ mv ≤ 13800 then { s with pins := { s.pins with vinOk := true } } else s
  if s.pins.pwrGood then s.vinOutside mv ns else s

/-- A die sensor reaches 115 °C: THERM_TRIP_N falls and every rail goes off, with nothing logged (R468). -/
def State.thermalTrip (s : State) : State :=
  if s.pins.pwrGood then s.powerOff { s.pins with trip := true } else s

/-- The escalation by which fallow mode is entered from running. -/
def State.fallowEsc (s : State) : Option Esc :=
  if s.fld Reg.RAS_STATE_FALLOW = 1 then none else s.ras.escs.find? (fun e => decide (e.level = 5))

/-- The dump of fallow mode, without the sections that need the core die, then the core die's power (R486). -/
def State.fallowCut (s : State) (code : Nat) : State := if s.coreOn then (s.writeDump code 3 false).coreOff else s

/-- An unrecoverable core-die fault (R461, R486): `rail` says that a core-die rail fails its regulation; otherwise one core-die
sensor has been at its maximum for 100 ms at full stretch. The trigger is captured before the core die's power goes, and the dump of
fallow mode is written between. -/
def State.coreFault (s : State) (rail : Bool) : State :=
  let hot := s.power.hotSince.any (fun x => decide (x.2 + 100000000 ≤ s.tb))
  if s.coreOn && (rail || hot) then
    let s := (s.raise (site 17 0) 0x440B).escalateFallow 0x440B ⟨17, 0, 0⟩
    match s.fallowEsc with
    | some e => s.fallowCut e.code
    | none => s.coreOff
  else s

/-! ### Fallow mode and power-cycle level (R484 to R486) -/

/-- What entering fallow mode leaves (R486). -/
def State.fallowOn (s : State) (code : Nat) : State :=
  (((s.setFld Reg.MGT_BOOT_STATE 0 9).setFld Reg.RAS_STATE_FALLOW 0 1).measEvent 4 code).raise rasSite 0x5403

/-- Fallow mode is entered from running (R486). -/
def State.fallowEntry (s : State) : State :=
  match s.fallowEsc with
  | none => s
  | some e => ((s.fallowCut e.code).fallowOn e.code).endLevel 5

/-- The MC writes the dump and drives PWR_CYCLE_REQ_N low (R484). -/
def State.pwrCycleReq (s : State) : State :=
  match s.ras.escs.find? (fun e => decide (e.level = 6)) with
  | none => s
  | some e =>
    if s.fld Reg.RAS_STATE_CYCLE_REQ = 1 then s
    else ((s.writeDump e.code 4).setFld Reg.RAS_STATE_CYCLE_REQ 0 1).raise rasSite 0x540D

/-- The watchdog of the MC expires (R485). -/
def State.mcWatchdog (s : State) : State :=
  ((s.capture 0x540E 6 9 0).setFld Reg.RAS_STATE_CYCLE_REQ 0 1).noteAlert 0x540E

/-! ### RESET_N (R520) -/

/-- RESET_N falls and stays low for some time. -/
def State.resetFall (s : State) (lowNs : Nat) : State :=
  if lowNs < 1000 ∨ s.pins.resetLow then s
  else
    let s := { s with pins := { s.pins with resetLow := true } }
    if s.pins.pwrGood then (s.escalateChip 0x540F rasSite 1).rasLogs 0x540F else s

/-- RESET_N rises: the TAP goes to Test-Logic-Reset, and the boot continues (R520, R523). -/
def State.resetRise (s : State) : State :=
  if s.pins.resetLow then { s with pins := { s.pins with resetLow := false }, tap := { s.tap with ir := 1, driving := false } }
  else s

end Sys2Proof.Machine
end

