-- ==== Sys2Proof/Machine/Boot.lean ====
section
/-! DEFINITION. The boot (R422 to R431, R434): the record stream, the stages of a cold and of a warm boot, HELD and
RECOVERY. A boot is one step: its facts are the command's operands. -/

namespace Sys2Proof.Machine

/-! ### Records (R422, R423) -/

/-- The records of a section: index, the offset at which each ends, and the record, none where it is malformed, out of
place, or the section ends without END; such a one counts up to its first byte, which lies in the chunk that must be good (R424). -/
def sectionRecords (config : Bool) : Nat → Nat → Nat → Bytes → List (Nat × Nat × Option BootRecord)
  | 0, _, _, _ => []
  | fuel + 1, i, off, bs =>
    match recordAt bs with
    | none => [(i, off + min 1 bs.length, none)]
    | some (r, n) =>
      if !r.good config (i = 0) || (decide (r.typ = 8) && decide (n < bs.length)) then [(i, off + min 1 bs.length, none)]
      else if r.typ = 8 then [(i, off + n, some r)]
      else (i, off + n, some r) :: sectionRecords config fuel (i + 1) (off + n) (bs.drop n)

/-- Why a boot stops: the code, the record's index, what DETAIL holds, and the block at fault. -/
structure BootStop where
  code : Nat
  record : Nat
  detail : Nat
  blk : Site
deriving DecidableEq, Repr

/-- The stream's state while records are applied: stopped or not, and the device. -/
abbrev Stream := Option BootStop × State

/-- A record is refused by its target (R423). -/
def targetRefused (i a : Nat) : BootStop := ⟨0x4C09, i, i, siteOf a⟩
def malformed (i : Nat) : BootStop := ⟨0x4C08, i, i, mgtSite⟩

/-- A record's target is absent because the core die is off (R429). -/
def State.absentTarget (s : State) (a : Nat) : Bool := !s.coreOn && onCoreDie a

/-- The commits that wait and whose safe point has come are applied; the first refusing code (R382). -/
def State.applyAllDue (s : State) : Nat × State :=
  (s.pends.filter (fun x => x.due)).foldl (fun acc x =>
    let r := acc.2.applyPendCode x
    (firstNonzero acc.1 r.1, r.2)) (0, s)

/-- A COMMIT record (R422): through SCHED instance 0, at once. -/
def State.bootCommit (s : State) (a : Nat) : Nat × State :=
  let r := s.commitWrite .mc 0 (a % 2 ^ 32)
  if r.1 ≠ 0 then r else r.2.applyAllDue

/-- A SEQ_LOAD record: instruction words for the cores of a mask (R422). -/
def State.loadStore (s : State) (mask : Nat) (data : Bytes) : State :=
  let start := leNat (data.take 4)
  let ws := chunksOf4 (data.drop 4)
  let cores := (List.range 64).filter (fun n => bit mask n)
  cores.foldl (fun s n => ((List.range ws.length).zip ws).foldl (fun s e => s.setImem n (start + e.1) (leNat e.2)) s) s
where
  /-- The 4-byte words of a payload. -/
  chunksOf4 (bs : Bytes) : List Bytes := (List.range (bs.length / 4)).map (fun k => (bs.drop (4 * k)).take 4)

/-- One record of the configuration section in stage 4, or in stage 7 where `late` (R422, R423, R429). -/
def applyConfig (late : Bool) (acc : Stream) (x : Nat × Nat × Option BootRecord) : Stream :=
  match acc.1 with
  | some _ => acc
  | none =>
    let s := acc.2
    match x.2.2 with
    | none => if late then acc else (some (malformed x.1), s)
    | some r =>
      let seqTarget := decide (csrClass r.addr = 4)
      if r.typ = 1 then
        if decide (seqTarget ≠ late) || s.absentTarget r.addr then acc
        else if csrClass r.addr = 2 ∧ csrOff r.addr / 8 * 8 = csrOff Reg.MAT_REPAIR then (some (malformed x.1), s)
        else
          let w := s.csrWrite .mc r.addr (8 * r.data.length) (leNat r.data)
          (if w.1 = 0 then none else some (targetRefused x.1 r.addr), w.2)
      else if r.typ = 2 then
        if late || s.absentTarget r.addr then acc
        else
          let w := s.bootCommit r.addr
          (if w.1 = 0 then none else some (targetRefused x.1 r.addr), w.2)
      else if r.typ = 5 then
        if !late then acc
        else if 65536 < leNat (r.data.take 4) + (r.data.length - 4) / 4 then (some (malformed x.1), s)
        else if r.addr &&& s.fuses.corePresent.toNat ≠ r.addr then (some (targetRefused x.1 (4 * 2 ^ 26)), s.raise glbSite 0x0003)
        else (none, s.loadStore r.addr r.data)
      else acc

/-- A memory record's range is where it may be: the general area or enabled core store (R423). -/
def State.recordRange (s : State) (a n : Nat) : Bool := s.inEnabledSpace a n

/-- What a memory record writes (R422). -/
def memRecordBytes (r : BootRecord) : Bytes :=
  if r.typ = 3 then r.data else (List.replicate (leNat (r.data.take 8) / 8) (r.data.drop 8)).flatten

/-- One record of the memory section (R422 to R424): the chunks it lies in are checked first. -/
def applyMemory (cfg mem : Bytes) (acc : Stream) (x : Nat × Nat × Option BootRecord) : Stream :=
  match acc.1 with
  | some _ => acc
  | none =>
    let s := acc.2
    if !(List.range (ceilDiv x.2.1 1048576)).all (chunkGood cfg mem) then (some ⟨0x4C07, x.1, x.1, mgtSite⟩, s)
    else match x.2.2 with
      | none => (some (malformed x.1), s)
      | some r =>
        if r.typ = 8 then acc
        else
          let bs := memRecordBytes r
          if !s.recordRange r.addr bs.length then (some (malformed x.1), s)
          else (none, (s.physStore r.addr bs false true).2)

/-! ### Where a boot ends (R425, R426, R431) -/

/-- A chip-level reset is running. -/
def State.inChipReset (s : State) : Bool := s.chipEsc.isSome

/-- The chip-level reset is over. -/
def State.endChip (s : State) : State := (s.endLevel 4).endLevel 5

/-- The boot is HELD (R426); where it was the warm boot of a chip-level reset, that reset has failed (R483). -/
def State.bootHeld (s : State) (x : BootStop) : State :=
  let sev := if x.code = 0x4C0C then 2 else severityOf x.code
  let s := ((s.setFld Reg.MGT_BOOT_STATE 0 7).setFld Reg.MGT_BOOT_CODE 0 x.code).setFld Reg.MGT_BOOT_RECORD 0 (x.record % 2 ^ 32)
  let s := (((s.noteErr mgtSite x.code).siteLater mgtSite).occur mgtSite x.code sev x.detail).measEvent 5 x.code
  if !s.inChipReset then s
  else
    let s := s.endChip
    if s.fld Reg.RAS_STATE_FALLOW = 1 then s.escalatePower x.code x.blk else s.chipFailed x.code x.blk

/-- The boot has no valid image (R431): every Salax port trains as one ×8 KR port (R432). -/
def State.bootRecovery (s : State) (code : Nat) : State :=
  let s := (((s.setFld Reg.MGT_BOOT_STATE 0 8).setFld Reg.MGT_BOOT_CODE 0 code).siteLater mgtSite).raise mgtSite code
  let s := (List.range 16).foldl (fun s n => (s.setReg (Reg.LNK_CFG + instDelta n) 1).setLportState (2 * n) 2) s
  { s with mgmt := { s.mgmt with load := [], asking := none } }.endChip

/-- A stage of the boot: where it is the one that exceeds its bound, the boot stops with 0x4C16 (R425). The stage that exceeds it has
none of its effects (DESIGN CHOICE, log entry 159). -/
def State.stageInTime (s : State) (late : Option Nat) (stage : Nat) (f : State → State) : State :=
  if late = some stage then s.bootHeld ⟨0x4C16, 0, 0, mgtSite⟩ else f s

/-! ### The stages (R425) -/

/-- The number after that of a flash log entry, 0 for one that fails its CRC (R439). -/
def flashSeqNext (b : Bytes) : Nat := if entryGood b then entrySeq b + 1 else 0

/-- Stages 1 and 2: measurements, the monitor and MGT_BOOT start afresh. -/
def State.bootStart (s : State) (cold : Bool) : State :=
  let m := s.mgmt.monitor
  let nonce := if m.xfer.any (fun x => decide (x.kind = .token)) then none else m.nonce
  let kept := { m with unlockedTo := none, baud := 115200, newBaud := none, revert := none, xfer := none, nonce := nonce }
  let s := s.coreOff
  let s := { s with mgmt := { s.mgmt with
    boot := none, meas := List.replicate 4 (List.replicate 48 0), monitor := if cold then State.reset.mgmt.monitor else kept } }
  let s := (s.setReg Reg.MGT_BOOT (if cold then 0 else 16)).setReg Reg.SEC_MON 0
  let s := s.setFld Reg.PWR_LEDGER_USED_S 0 (s.power.usedMs / 1000)
  let s := s.setFld Reg.PWR_STATE_EXHAUSTED 0 (b2n (decide (5400000000 ≤ s.power.usedMs)))
  if cold then
    let next := (s.flash.log.map flashSeqNext).foldl max 0
    let s := { s with log := ⟨[], next, [], next, next⟩,
                      flash := { s.flash with counts := s.flash.counts.write (s.flash.coldBoots + 1), writing := some (.counts, s.tb) } }
    let s := { s with channels := s.flash.retiredList.map (fun (e : Nat × List (Nat × Nat)) => (e.1, (⟨e.2⟩ : Channel))) }
    let s := (s.setFld Reg.CLK_STATE_REFCLK_OK 0 1).setFld Reg.CLK_STATE_PLL_LOCK 0 0x7FE
    (s.setFld Reg.MGT_BOOT_COUNT_WARM 0 0).writeBytes (dumpBase + 0x11) [0]
  else
    let s := s.setFld Reg.MGT_BOOT_COUNT_WARM 0 (s.fld Reg.MGT_BOOT_COUNT_WARM + 1)
    if s.dumpState = 1 then (s.writeBytes (dumpBase + 0x11) [2]).writeBytes (dumpBase + 0x12) [1] else s

/-- Stage 4: the core die powered and held, then the configuration records but for the SEQ class (R425, R429). -/
def State.bootApply (s : State) (fallow : Bool) : Stream :=
  let h := s.mgmt.header
  let cfg := s.mgmt.config
  let s := s.setFld Reg.MGT_BOOT_STATE 0 2
  let s := if fallow then s else
    let s := ({ s with coreOn := true }.setPll 0 true)
    (s.setFld Reg.CLK_STATE_CCLK_MHZ 0 s.cclkMhz).setReg Reg.DET_IMAGE_ID (BitVec.ofNat 64 (hdrNat h 8 8))
  if !chunkTableGood h cfg then (some (malformed 0), s)
  else (sectionRecords true (cfg.length / 16 + 1) 0 0 cfg).foldl (applyConfig false) (none, s)

/-- Stage 5: the channels, and on a cold boot the memory section (R218, R219, R424, R425). -/
def State.bootTrain (s : State) (cold : Bool) (dead : List (Fin 384)) : Stream :=
  let s := (List.range 384).foldl (fun s c =>
    let δ := instDelta c
    let s := s.setFld Reg.MCH_STATE_SELF_REFRESH δ 0
    let s := s.setFld Reg.MCH_STATE_SPARES_USED δ (s.channels.get (fun _ => channelInit) c).retired.length
    if dead.any (fun d => decide (d.val = c)) then ((s.channelDead c).siteLater mgtSite).raise mgtSite 0x4C0A c
    else s.setFld Reg.MCH_STATE_TRAINED δ 1) (s.setFld Reg.MGT_BOOT_STATE 0 3)
  let n := imgMemLen s.mgmt.header
  if !cold ∨ n = 0 then (none, s)
  else
    let mem := s.flash.read (0x200 + imgCfgLen s.mgmt.header) n
    (sectionRecords false (n / 16 + 1) 0 0 mem).foldl (applyMemory s.mgmt.config mem) (none, s)

/-- Stage 6 (R434). -/
def State.bootMeasure (s : State) : State :=
  let h := s.mgmt.header
  let s := s.setFld Reg.MGT_BOOT_STATE 0 4
  let s := (s.extend 0 Config.romRevision).extend 0 (Config.fuseConfiguration s.fuses.keysRevoked s.fuses.minSvn s.fuses.corePresent)
  let s := s.extend 1 (sha384 (h.take 0x160))
  (s.extend 2 ((h.drop 0x60).take 48)).extend 2 (sha384 ((chunkTable s.mgmt.config).getD []))

/-- An array meets its ARRAY_REQ (R427); the arrays of a disabled core are out of service. -/
def State.arrayMeets (s : State) (h : Bytes) (m : Nat) : Bool :=
  let q := imgArrayReq h m
  if !s.coreEnabled (m / 2) || decide (s.fld Reg.MAT_STATE_OFF (instDelta m) = 1) then decide (q = 2)
  else if s.checksumMode m then decide (q ≠ 0) else true

/-- Stage 7: self-test and repair, the array check, the DET check, then the SEQ class (R425, R427, R428). -/
def State.bootRelease (s : State) (faulty : List (Fin 128 × List Nat)) : Stream :=
  let h := s.mgmt.header
  let s := s.setFld Reg.MGT_BOOT_STATE 0 5
  let s := ((List.range 128).filter (fun m => s.coreEnabled (m / 2))).foldl (fun s m =>
    s.selfTest m (((faulty.find? (fun e => decide (e.1.val = m))).map (·.2)).getD [])) s
  match (List.range 128).find? (fun m => !s.arrayMeets h m) with
  | some m => (some ⟨0x4C0B, 0, m, matSite m⟩, s)
  | none =>
    let named := hdrNat h 0x28 8
    let differs := decide (named ≠ 0) && decide (named ≠ s.detClass)
    let s := s.setFld Reg.MGT_BOOT_DET_MISMATCH 0 (b2n differs)
    if differs && bit (hdrNat h 0x14 4) 0 then (some ⟨0x4C0C, 0, 0, detSite⟩, s)
    else
      let s := if differs then ((s.noteErr mgtSite 0x4C0C).siteLater mgtSite).occur mgtSite 0x4C0C 0 0 else s
      (sectionRecords true (s.mgmt.config.length / 16 + 1) 0 0 s.mgmt.config).foldl (applyConfig true) (none, s)

/-- Stage 8 (R425, R430): RUNNING, and the partitions with START_MODE 0 start; `svnFails` says that the SVN fuse does not
program. -/
def State.bootRun (s : State) (cold svnFails : Bool) : State :=
  let h := s.mgmt.header
  let s := (s.setFld Reg.MGT_BOOT_STATE 0 6).endChip
  let s := (List.range 16).foldl State.startNow s
  if !cold then { s with ras := { s.ras with runningAt := some s.tb } }
  else if bit (hdrNat h 0x14 4) 1 ∧ s.fuses.minSvn < imgSvn h then
    if svnFails then s.raise (site 20 0) 0x5007 else { s with fuses := { s.fuses with minSvn := imgSvn h } }
  else s

/-- The end of a stage that may stop the boot. -/
def afterStage (r : Stream) (next : State → State) : State :=
  match r.1 with
  | some x => r.2.bootHeld x
  | none => next r.2

/-- Stages 4 to 8 with a verified image in MC SRAM; `late` names a stage that exceeds its bound. -/
def State.bootImage (s : State) (cold : Bool) (dead : List (Fin 384)) (faulty : List (Fin 128 × List Nat)) (svnFails : Bool)
    (late : Option Nat := none) : State :=
  let fallow := !cold && decide (s.fld Reg.RAS_STATE_FALLOW = 1)
  let s := s.setFld Reg.SEC_SVN_IMAGE 0 (imgSvn s.mgmt.header)
  s.stageInTime late 4 fun s => afterStage (s.bootApply fallow) fun s =>
  s.stageInTime late 5 fun s => afterStage (s.bootTrain cold dead) fun s =>
  s.stageInTime late 6 fun s =>
  let s := s.bootMeasure
  if fallow then (s.fallowOn (s.fld Reg.RAS_CAPTURE_CODE)).endChip
  else s.stageInTime late 7 fun s => afterStage (s.bootRelease faulty) fun s => s.bootRun cold svnFails

/-- A boot is due and RESET_N does not hold it (R425, R520). -/
def State.bootDue (s : State) (cold : Bool) : Bool :=
  decide (s.mgmt.boot = some cold) && !s.pins.resetLow

/-- A cold boot (R425). -/
def State.coldBoot (s : State) (dead : List (Fin 384)) (faulty : List (Fin 128 × List Nat)) (svnFails : Bool)
    (late : Option Nat := none) : State :=
  if !s.bootDue true then s
  else
    (s.bootStart true).stageInTime late 2 fun s =>
    if !s.flash.usable then s.bootRecovery 0x4C01
    else
      let h := s.flash.read 0 0x200
      (s.setFld Reg.MGT_BOOT_STATE 0 1).stageInTime late 3 fun s =>
      match s.headerCode h with
      | some k => s.bootRecovery k
      | none =>
        let cfg := s.flash.read 0x200 (imgCfgLen h)
        if !cfgHashGood h cfg then s.bootRecovery 0x4C07
        else { s with mgmt := { s.mgmt with header := h, config := cfg } }.bootImage true dead faulty svnFails late

/-- A warm boot (R425): the retained configuration section is hashed again. -/
def State.warmBoot (s : State) (dead : List (Fin 384)) (faulty : List (Fin 128 × List Nat)) (late : Option Nat := none) : State :=
  if !s.bootDue false then s
  else
    (s.bootStart false).stageInTime late 2 fun s =>
    s.stageInTime late 3 fun s =>
    if !cfgHashGood s.mgmt.header s.mgmt.config then s.bootRecovery 0x4C07
    else s.bootImage false dead faulty false late

/-- A free finding of a boot that exceeds a bound (log entry 166). -/
def freeStall (n : Nat) : StageStall :=
  { stage := ⟨(Config.freeByte n 0).toNat % 6, Nat.mod_lt _ (by decide)⟩,
    dead := (List.finRange 384).filter (fun l => (Config.freeByte n (1 + l)).getLsbD 0),
    faulty := (List.finRange 128).map (fun m => (m, (List.range 192).filter (fun c => (Config.freeByte n (385 + 192 * m + c)).getLsbD 0))) }

/-- What the boot that exceeds a bound meets: the first finding that waits, a free one where none does (log entry 166). -/
def State.takeStall (s : State) : StageStall × State :=
  match s.inputs.stalls with
  | [] => (freeStall s.free, { s with free := s.free + 1 })
  | x :: rest => (x, { s with inputs := { s.inputs with stalls := rest } })

/-- The boot that is due runs, and one of its stages 2 to 7 exceeds its bound (R425). -/
def State.stageTimeout (s : State) : State :=
  let x := s.takeStall.1
  if s.bootDue true then s.takeStall.2.coldBoot x.dead x.faulty false (some (x.stage + 2))
  else if s.bootDue false then s.takeStall.2.warmBoot x.dead x.faulty (some (x.stage + 2))
  else s

end Sys2Proof.Machine
end

