-- ==== Sys2Proof/Machine/Mc.lean ====
section
/-! DEFINITION. The I3C sideband and the request queue of the MC (R443, R444). -/

namespace Sys2Proof.Machine

/-! ### I3C (R443) -/

/-- An answer that is taken: status 0 done, 2 refused. -/
def State.i3cAnswer (s : State) (code : Nat) (data : Bytes) : State :=
  s.emit (.i3c true (if code = 0 then 0 else 2) code (if code = 0 then data else []))

/-- A NACK. -/
def State.i3cNack (s : State) : State := s.emit (.i3c false 0 0 [])

/-- A CCC to the dynamic address, which the target NACKs while it has none. -/
def State.i3cCcc (s : State) (f : State → State) : State := if s.mgmt.i3cAddr.isNone then s.i3cNack else f s

/-- An UPDATE that I3C asked for is running. -/
def State.i3cBusy (s : State) : Bool :=
  match s.mgmt.update with
  | some (_, _, .i3c) => true
  | _ => false

/-- A private write and the read that follows; a write while a command runs is NACKed. -/
def State.i3cPrivate (s : State) (f : State → State) : State := s.i3cCcc fun s => if s.i3cBusy then s.i3cNack else f s

/-- Take a dynamic address; a target that has one takes no other until RSTDAA. -/
def State.i3cTake (s : State) (a : Nat) (data : Bytes) : State :=
  if s.mgmt.i3cAddr.isSome then s.i3cNack
  else { s with mgmt := { s.mgmt with i3cAddr := some a } }.i3cAnswer 0 data

def State.i3cEntdaa (s : State) (a : Nat) : State := s.i3cTake a (Config.i3cPid ++ Config.i3cBcr ++ Config.i3cDcr)
def State.i3cSetdasa (s : State) (static a : Nat) : State := if static = 0x4A then s.i3cTake a [] else s.i3cNack
def State.i3cRstdaa (s : State) : State := { s with mgmt := { s.mgmt with i3cAddr := none } }.i3cAnswer 0 []

/-- GETSTATUS; what it returns is a free value (log entry 3). -/
def State.i3cGetstatus (s : State) : State := s.i3cCcc fun s => let v := s.fresh; v.2.i3cAnswer 0 (leBytes 2 v.1.toNat)

/-- DEVICE_ID, grade, DET_CLASS, IMAGE_ID and MGT_BOOT. -/
def State.identity (s : State) : Bytes :=
  s.deviceId ++ leBytes 1 (b2n s.fuses.gradeB) ++ leBytes 8 s.detClass ++ leBytes 8 s.headerImageId ++ leBytes 8 (s.reg Reg.MGT_BOOT).toNat

/-- MGT_SENSOR_DATA of a sensor. -/
def State.sensorData (s : State) (id : Nat) : Bytes := leBytes 8 ((s.sensor id).value % 65536 + s.sensorStatus id * 65536)

def State.i3cId (s : State) : State := s.i3cPrivate fun s => s.i3cAnswer 0 s.identity
def State.i3cSensor (s : State) (id : Nat) : State := s.i3cPrivate fun s => s.i3cAnswer 0 (s.sensorData id)

/-- MGT_ALERT is read and cleared (R440). -/
def State.i3cAlert (s : State) : State := s.i3cPrivate fun s =>
  (s.setReg Reg.MGT_ALERT 0).i3cAnswer 0 (leBytes 8 (s.reg Reg.MGT_ALERT).toNat)

def State.i3cLog (s : State) (seq : Nat) : State := s.i3cPrivate fun s => s.i3cAnswer 0 (s.logEntry seq)

/-- The report for a nonce of 48 bytes. -/
def State.i3cAttest (s : State) (nonce : Bytes) : State := s.i3cPrivate fun s =>
  if nonce.length ≠ 48 then (s.raise mgtSite 0x4C13).i3cAnswer 0x4C13 []
  else let r := s.attest nonce; r.2.i3cAnswer 0 r.1

/-- UPDATE: refused at once, or running until UPDATE_END. -/
def State.i3cUpdate (s : State) (a n : Nat) : State := s.i3cPrivate fun s =>
  let r := s.updateStart a n .i3c
  if r.1 ≠ 0 then r.2.i3cAnswer r.1 [] else r.2.emit (.i3c true 1 0 [])

def State.i3cDumpExport (s : State) (a n : Nat) : State := s.i3cPrivate fun s =>
  let r := s.dumpExport a n
  r.2.i3cAnswer r.1 []

/-! ### The request queue (R444) -/

/-- A reply in its slot: OP, code and reply number, then the result (log entry 49). -/
def State.reply (s : State) (op slot code : Nat) (data : Bytes) : State :=
  let bs := leBytes 4 op ++ leBytes 4 code ++ leBytes 8 s.mgmt.replies ++ data.take 496
  let s := { s with mgmt := { s.mgmt with replies := s.mgmt.replies + 1 } }
  (s.lpStore (s.fld Reg.MGT_REPLY_BASE_BASE + slot * 512) bs false true).2

/-- The MC takes the head of REQ_QUEUE when it asks for `op`, and drops it where it is no request. -/
def State.mcRequest (s : State) (op : Nat) (act : Nat → Bytes → State → State) : State :=
  let q := s.fld Reg.MGT_CTRL_REQ_QUEUE
  if s.fld Reg.MGT_CTRL_REQ_EN = 0 then s
  else match s.takeHead q with
    | (none, s') => s'
    | (some p, s') =>
      let o := leNat (p.payload.take 4)
      let slot := leNat ((p.payload.drop 4).take 4)
      if p.payload.length < 64 ∨ o = 0 ∨ 3 < o ∨ 127 < slot ∨ s.fld Reg.MGT_REPLY_BASE_BASE = 0 then s'.raise mgtSite 0x4C13
      else if o ≠ op then s
      else act slot p.payload s'

def State.requestAttest (s : State) : State := s.mcRequest 1 fun slot b s =>
  let r := s.attest ((b.drop 8).take 48)
  r.2.reply 1 slot 0 r.1

def State.requestUpdate (s : State) : State := s.mcRequest 2 fun slot b s =>
  let r := s.updateStart (leNat ((b.drop 8).take 8)) (leNat ((b.drop 16).take 8)) (.queue slot)
  if r.1 ≠ 0 then r.2.reply 2 slot r.1 (leBytes 8 (r.2.reg Reg.MGT_UPDATE).toNat) else r.2

def State.requestStatus (s : State) : State := s.mcRequest 3 fun slot _ s => s.reply 3 slot 0 (leBytes 8 (s.reg Reg.MGT_BOOT).toNat)

/-- A running update goes on, and who asked for it hears of its end (R443 to R445). -/
def State.updateFinish (s : State) (mark : UpdateMark) (fails : Bool) : State :=
  let r := s.updateEnd mark fails
  match r.1 with
  | none => r.2
  | some (.i3c, code) => r.2.emit (.i3c true (if code = 0 then 0 else 2) code (leBytes 8 (r.2.reg Reg.MGT_UPDATE).toNat))
  | some (.queue slot, code) => r.2.reply 2 slot code (leBytes 8 (r.2.reg Reg.MGT_UPDATE).toNat)
  | some (.monitor, code) => r.2.emit (.monitor code [])

end Sys2Proof.Machine
end

