-- ==== Sys2Proof/Machine/BootExec.lean ====
section
/-! DEFINITION. The meanings of the commands of boot, image, update, log and request queue (R417 to R445). -/

namespace Sys2Proof.Machine

/-- COLD_BOOT (R425). A cold boot runs stages 2 to 8 from ROM through image verification, apply, training, measurement and release. -/
def execColdBoot (dead : List (Fin 384)) (faulty : List (Fin 128 × List Nat)) (svnFails : Bool) (s : State) : Result :=
  s.run fun s => s.coldBoot dead faulty svnFails

/-- WARM_BOOT (R425). A warm boot after a chip reset reruns the stages with the retained configuration section. -/
def execWarmBoot (dead : List (Fin 384)) (faulty : List (Fin 128 × List Nat)) (s : State) : Result :=
  s.run fun s => s.warmBoot dead faulty

/-- MGT_STAGE_TIMEOUT (R425). A boot stage exceeding its bound stops with 0x4C16 and enters HELD. -/
def execMgtStageTimeout (s : State) : Result :=
  s.run fun s => s.stageTimeout

/-- IMAGE_REQ (R432). A received IMAGE_REQ is served with IMAGE_DATA when SERVE_EN = 1 and the image is valid. -/
def execImageReq (l : Fin 32) (p : Pkt) (s : State) : Result :=
  s.run fun s => s.imageReq l p.body

/-- IMAGE_DATA (R433). A received IMAGE_DATA is programmed into flash as a recovery load. -/
def execImageData (l : Fin 32) (p : Pkt) (s : State) : Result :=
  s.run fun s => s.imageData l p.body

/-- IMAGE_REQ_TIMEOUT (R432). An IMAGE_REQ unanswered for 10 ms is repeated, then the port abandoned, then retried after 10 s. -/
def execImageReqTimeout (s : State) : Result :=
  s.run fun s => s.imageReqTimeout

/-- REQUEST_ATTEST (R444). A request-queue ATTEST writes a report reply into its slot. -/
def execRequestAttest (s : State) : Result :=
  s.run fun s => s.requestAttest

/-- REQUEST_UPDATE (R444). A request-queue UPDATE starts an update and replies when it ends. -/
def execRequestUpdate (s : State) : Result :=
  s.run fun s => s.requestUpdate

/-- REQUEST_STATUS (R444). A request-queue STATUS replies with MGT_BOOT. -/
def execRequestStatus (s : State) : Result :=
  s.run fun s => s.requestStatus

/-- UPDATE_END (R445). An update finishes verifying, programming and reading back, and extends MEAS3 or fails. -/
def execUpdateEnd (found : UpdateFound) (s : State) : Result :=
  s.run fun s => s.updateFinish found.mark found.fails

/-- MGT_ALERT_READ (R440). A read of MGT_ALERT clears it and lets ALERT_N rise. -/
def execMgtAlertRead (req : Requester) (s : State) : Result :=
  s.run fun s => s.accessRead req Reg.MGT_ALERT 64

/-- MGT_LOG_DATA3_READ (R437). A read of MGT_LOG_DATA3 returns the last word of the entry and advances SEQ. -/
def execMgtLogData3Read (req : Requester) (s : State) : Result :=
  s.run fun s => s.accessRead req (Reg.MGT_LOG_DATA + 24) 64

/-- FLASH_LOG_BATCH (R439). Batched log entries are written to the flash log after 4 KiB or 60 s. -/
def execFlashLogBatch (fails : Bool) (s : State) : Result :=
  s.run fun s => s.flashBatch fails

end Sys2Proof.Machine
end

