-- ==== Sys2Proof/Machine/SeqMem.lean ====
section
/-! DEFINITION. What a sequencer reaches: physical loads and stores (R188 to R191), the delivery of a descriptor to its
target (R192 to R195), and commands that carry a torn-down context (R176). -/

namespace Sys2Proof.Machine

/-! ### Physical loads and stores -/

/-- The code with which a router store refuses an access through the physical window, 0 for none (R47, R48). -/
def State.routerWindowCode (s : State) (j off n : Nat) (write : Bool) : Nat :=
  if inStaging off n then 0x1416 else if write && s.routerLocked j off n then 0x1414 else 0

/-- A store through the physical window, by a sequencer or by the MC: the refusing code, 0 for none (R31, R48, R188). -/
def State.windowStore (s : State) (who : Requester) (a : Nat) (bs : Bytes) : Nat × State :=
  match physArea a with
  | .csrWindow off =>
    (match who with
     | .mc => s.csrWrite .mc off (8 * bs.length) (leNat bs)
     | .seq n => s.windowWrite n off (8 * bs.length) (leNat bs))
  | .routerStore j off =>
    let c := if s.coreOn then s.routerWindowCode j off bs.length true else 0
    if c = 0 then s.physStore a bs else (c, s.raise (routerSite j) c)
  | _ => s.physStore a bs false (decide (who = .mc))

/-- A load through the physical window: the code that refuses it or 0x1008 where it returns poisoned, 0x140F for a bad
router-store word (R49, R189); the value. -/
def State.windowLoad (s : State) (who : Requester) (a n : Nat) : Nat × Nat × State :=
  match physArea a with
  | .csrWindow off =>
    let r := match who with
      | .mc => s.csrRead .mc off (8 * n)
      | .seq c => s.windowRead c off (8 * n)
    (r.1, r.2.1.toNat, r.2.2)
  | area =>
    if s.physCode a ≠ 0 then (s.physCode a, 0, s.decodeRefused (s.physCode a) a)
    else
      let c := match area with
        | .routerStore j off => s.routerWindowCode j off n false
        | _ => 0
      if c ≠ 0 then (match area with | .routerStore j _ => (c, 0, s.raise (routerSite j) c) | _ => (c, 0, s))
      else if reservedRefused a n (decide (who = .mc)) then
        (0x1C01, 0, s.raise (bridgeSite (bridgeOf (channelOf a))) 0x1C01 a)
      else
        let ue := match area with | .routerStore _ _ => s.hasUe a n | _ => false
        if ue then (0x140F, 0, s.noteFetch a n)
        else
          let bad := match area with | .lpddr => s.fetchPoisoned a n | _ => s.poisoned a n
          if s.fetchDead a n then (0x1806, 0, s) else if bad then (0x1008, 0, s.noteFetch a n) else (0, leNat (s.fetch a n), s.noteFetch a n)

/-! ### Targets of ISSUE (R192) -/

/-- The targets. -/
inductive IssueTarget where
  | array (k : Nat)
  | chain
  | router
  | pumps (die : Nat)
  | coll
deriving DecidableEq, Repr

/-- The target that sub[3:0] names, none for an undefined value. -/
def issueTarget (t : Nat) : Option IssueTarget :=
  match t with
  | 0 => some (.array 0)
  | 1 => some (.array 1)
  | 2 => some .chain
  | 4 => some .router
  | 8 => some (.pumps 0)
  | 9 => some (.pumps 1)
  | 12 => some .coll
  | _ => none

/-- The code of a target. -/
def IssueTarget.code : IssueTarget → Nat
  | .array k => k
  | .chain => 2
  | .router => 4
  | .pumps d => 8 + d
  | .coll => 12

/-- The descriptor bytes of a target. -/
def IssueTarget.bytes : IssueTarget → Nat
  | .pumps _ => 64
  | _ => 128

/-- The target has room for a command of core `n` (R194). -/
def State.issueRoom (s : State) (n : Nat) : IssueTarget → Bool
  | .array k => s.matRoom (2 * n + k)
  | .chain => s.chainRoom n
  | .router => true
  | .pumps d => s.pumpRoom d n
  | .coll => s.collRoom n

/-- The context of a core is torn down: TEARDOWN or QUARANTINE (R176, R384). -/
def State.coreTorn (s : State) (n : Nat) : Bool := decide (2 ≤ s.ctxState (s.coreContext n))

/-- The arrival counter of a command of a torn-down context, the block that completes it and its code (R195 and the
teardown codes of R46, R109, R147, R169, R283, R354). -/
def tornEnd (n : Nat) (d : Desc) : IssueTarget → Site × Nat × Nat
  | .array k => (matSite (2 * n + k), descFld d 0x48 0 14, 0x080D)
  | .chain => if descFld d 0 0 8 = 0x40 then (chainSite n, descFld d 0x68 0 14, 0x0E09) else (chainSite n, descFld d 0x30 0 14, 0x0C0B)
  | .router => (routerSite (routerOf d), descFld d 0x58 0 14, 0x1410)
  | .pumps die => (fabSite die, pumpCompletion d, pumpCancelCode d)
  | .coll => (colSite, collCompletion d, 0x340B)

/-- A target with room takes a command of core `n`: checked and accepted or refused there, or, from a torn-down context,
completed at once with the teardown's code and not run (R176, R195). -/
def State.deliver (s : State) (n : Nat) (d : Desc) (t : IssueTarget) : State :=
  if s.coreTorn n then
    let e := tornEnd n d t
    (s.raise e.1 e.2.2).complete e.2.1 e.2.2
  else match t with
    | .array k => s.matAccept (2 * n + k) n d
    | .chain => s.chainAccept n d
    | .router => s.routerAccept (routerOf d) n d
    | .pumps die => s.pumpAccept die (some n) d
    | .coll => s.collAccept n d

/-- A command that has reached its target, as a step of its own: it is taken where its core is enabled and the target has
room. -/
def State.arrive (s : State) (n : Nat) (d : Desc) (t : IssueTarget) : State :=
  if s.coreRuns && s.coreEnabled n && s.issueRoom n t then s.deliver n d t else s

end Sys2Proof.Machine
end

