-- ==== Sys2Proof/Machine/ChainExec.lean ====
section
/-! DEFINITION. The meanings of the commands of the chain engine and the combine (R96 to R110, R150 to R170). -/

namespace Sys2Proof.Machine

/-- The running COMBINE is done (R107). -/
def State.combineDone (s : State) (n : Nat) : State :=
  match (s.chain n).running with
  | some r => if r.isCombine then s.combineRun n r else s
  | none => s

/-- The running CHAIN has taken all its input (R163, R167). -/
def State.chainDone (s : State) (n : Nat) : State :=
  match (s.chain n).running with
  | some r => if !r.isCombine && r.ready then s.chainRun n r else s
  | none => s

/-- COMBINE (R108). A COMBINE descriptor is checked and queued on the chain engine, or refused on its counter. -/
def execCombine (cmd : Issue) (s : State) : Result :=
  s.runCore fun s => if descFld cmd.desc 0 0 8 = 0x40 then s.arrive cmd.core cmd.desc .chain else s

/-- COMBINE_DONE (R107). After its fixed duration the combine writes the per-token status bytes and increments COMPLETION. -/
def execCombineDone (core : Fin 64) (s : State) : Result :=
  s.runCore fun s => s.combineDone core

/-- CHAIN (R164). A CHAIN descriptor is checked and queued on the chain engine, or refused on its counter. -/
def execChain (cmd : Issue) (s : State) : Result :=
  s.runCore fun s => if descFld cmd.desc 0 0 8 = 0x40 then s else s.arrive cmd.core cmd.desc .chain

/-- CHAIN_START (R167). The head command of the chain queue starts once the previous command has completed. -/
def execChainStart (core : Fin 64) (s : State) : Result :=
  s.runCore fun s => s.chainStart core

/-- STREAM_BEGIN (R166). When a pass stream reaches a running chain command its shape is compared and the stream is consumed or discarded. -/
def execStreamBegin (core : Fin 64) (array : Fin 2) (stall : Nat) (s : State) : Result :=
  s.runCore fun s => s.streamBegin core array stall

/-- CHAIN_COMPLETION (R163). A chain command finishes, writes its summary slot if any and increments COMPLETION. -/
def execChainCompletion (core : Fin 64) (s : State) : Result :=
  s.runCore fun s => s.chainDone core

end Sys2Proof.Machine
end

