-- ==== Sys2Proof/Machine/ClockExec.lean ====
section
/-! DEFINITION. The meanings of the commands of clocks and the time base (R469 to R471). -/

namespace Sys2Proof.Machine

/-- PTP_MESSAGE (R326). A PTP Sync or Follow_Up is timestamped and steers the time base. -/
def execPtpMessage (port : Fin 4) (m : PtpMsg) (s : State) : Result :=
  s.runOn (ethSite port).die fun s => s.ptpMessage port m

/-- DELAY_REQ_SEND (R326). The port sends a one-step Delay_Req to the time source. -/
def execDelayReqSend (port : Fin 4) (s : State) : Result :=
  s.runOn (ethSite port).die fun s => s.delayReqSend port

/-- REFCLK_LOSS (R469). REFCLK without an edge for 1 µs holds the PLLs, loses time-base lock and logs 0x4801. -/
def execRefclkLoss (s : State) : Result :=
  s.run fun s => s.refclkLoss

/-- PLL_UNLOCK (R469). A PLL losing lock stops its blocks and logs 0x4802. -/
def execPllUnlock (k : Fin 11) (s : State) : Result :=
  s.run fun s => s.pllUnlock k

/-- PPS_EDGE (R470). A PPS_IN rising edge steers the time base to the second boundary. -/
def execPpsEdge (s : State) : Result :=
  s.run fun s => s.ppsEdge

/-- SALTERN_TIME_EXCHANGE (R470). Every 10 µs LINK flits exchange time with TB_MASTER to steer the time base. -/
def execSalternTimeExchange (x : TimeExchange) (s : State) : Result :=
  s.runOn (9 + lportDie x.link) fun s => s.salternExchange x

/-- CLK_TB_UNLOCK (R470). The time base losing lock logs 0x4803. -/
def execClkTbUnlock (s : State) : Result :=
  s.run fun s => s.sourceLost

/-- REFCLK_RETURN (R469). REFCLK edges reappear, REFCLK_OK sets, the PLLs and MGCLK take REFCLK again and the time base can regain lock. -/
def execRefclkReturn (s : State) : Result :=
  s.run fun s => s.refclkReturn

/-- PLL_RELOCK (R469). A PLL that lost lock relocks, its PLL_LOCK bit sets and its stopped blocks run again. -/
def execPllRelock (k : Fin 11) (s : State) : Result :=
  s.run fun s => s.pllRelock k

/-- PLL_RELOCK_TIMEOUT (R477). A PLL not relocked within 10 ms of 0x4802 triggers a chip-level reset with 0x4802 captured. -/
def execPllRelockTimeout (k : Fin 11) (s : State) : Result :=
  s.run fun s => s.pllTimeout k

end Sys2Proof.Machine
end

