-- ==== Sys2Proof/Machine/Deliver.lean ====
section
/-! DEFINITION. What this device does with a packet that has reached it (R263, R264, R297, R299, R307, R315): requests are
performed and answered, acknowledgements resolve what waits, messages and control packets go to their takers. -/

namespace Sys2Proof.Machine

/-! ### Requests -/

/-- The answer of a request: its bytes where it read any, an acknowledgement otherwise (R263). -/
def State.answer (s : State) (p : Pkt) (code : Nat) (data : Bytes) : State :=
  let a := s.ackOf p code
  s.originate (if code = 0 ∧ (p.typ = tyRead ∨ p.typ = tyAtomic) then { a with typ := 0x10, len := data.length, body := data } else a)

/-- The parts of a demoted frame in the order of its stream, with the place of each in it. -/
def partsAt : Nat → List Pkt → List (Nat × Nat)
  | _, [] => []
  | off, p :: t => (off, p.addr) :: partsAt (off + p.body.length) t

/-- The frame that the parts of a demoted one carry (R302): header, slot headers, rows. -/
def gatherFrame (ps : List Pkt) (last : Pkt) : Frame :=
  let bs := ps.flatMap (fun p => p.body)
  let quota := hfld bs 4 4 16 12
  let at_ := fun (off : Nat) => (((partsAt 0 ps).find? (fun e => decide (e.1 = off))).map (·.2)).getD 0
  { header := bs.take 64, slots := (bs.drop 64).take (8 * quota), rows := bs.drop (64 + 8 * quota),
    hdrDest := at_ 0, slotDest := at_ 64, rowDest := at_ (64 + 8 * quota), cntEn := last.cntEn, counter := last.counter,
    source := last.src % 256, key := last.key, epoch := last.epoch, injected := last.inject }

/-- Parts make up a whole demoted frame: the first is its header, and they are as long as it says (R79, R302). -/
def frameWhole (ps : List Pkt) : Bool :=
  match ps with
  | [] => false
  | p :: _ =>
    let quota := hfld p.body 4 4 16 12
    let stride := rowStride (hfld p.body 8 4 12 4) (hfld p.body 0x14 4 0 15)
    decide (p.body.length = 64) && decide ((ps.map (fun q => q.body.length)).sum = 64 + quota * (8 + stride))

/-- The parts of the frame whose LAST part has request number `id`, found by walking the numbers back to its header; a frame's requests
are numbered one after another (R263, R297; log entry 146). -/
def frameRun (parts : List Pkt) : Nat → Nat → List Pkt → Option (List Pkt)
  | 0, _, _ => none
  | n + 1, id, tail =>
    match parts.find? (fun p => decide (p.reqId = id)) with
    | none => none
    | some p =>
      if frameWhole (p :: tail) then some (p :: tail)
      else if p.last && !tail.isEmpty then none
      else frameRun parts n ((id + 2 ^ 24 - 1) % 2 ^ 24) (p :: tail)

/-- The first frame of which every part is there, with its LAST part. -/
def wholeFrame (parts : List Pkt) : Option (List Pkt × Pkt) :=
  (parts.filter (fun p => p.last)).findSome? (fun q => (frameRun parts (parts.length + 1) q.reqId []).map (fun ps => (ps, q)))

/-- A part of a demoted frame arrives (R302). It is counted and acknowledged as a request; the frame lands when all its parts have
arrived, in whatever order (R94), and the acknowledgement of its LAST part carries what the landing found. -/
def State.takeFramePart (s : State) (die : Nat) (src : Source) (p : Pkt) : State :=
  let k := sourceKey src
  let run := s.sources.get (fun _ => sourceInit) k
  let parts := run.parts.filter (fun q => decide (q.reqId ≠ p.reqId)) ++ [p]
  let s := s.stat Reg.FAB_STAT_REQ_RECV 1
  let keep : State → List Pkt → State := fun s l => { s with sources := s.sources.set (fun _ => sourceInit) k { run with parts := l } }
  let s := if p.last then s else s.answer p 0 []
  match wholeFrame parts with
  | none => keep s parts
  | some (ps, q) =>
    let r : Nat × State := (keep s (parts.filter (fun x => !ps.any (fun y => decide (y.reqId = x.reqId))))).landFrame die src (gatherFrame ps q) true
    let s : State := if r.1 ≠ 0 then r.2 else
      (ps.filter (fun x => x.poison)).foldl (fun s x => s.setBadRange (s.regionAddr x.addr) x.body.length .poison) r.2
    s.answer q r.1 []

/-- A request of a source is checked, performed and answered (R263, R264). -/
def State.landRequest (s : State) (die : Nat) (src : Source) (p : Pkt) : State :=
  if p.frame ∧ p.typ = tyWrite then s.takeFramePart die src p
  else
    let r := s.perform die src p
    let s := if r.1 = 0 ∧ s.coreOn then r.2.2.noteHeader p else r.2.2
    s.answer p r.1 r.2.1

/-! ### Acknowledgements -/

/-- What a code or bytes resolve: a request of a pump, or of the collective engine, whose SEND completes with it (R353). -/
def State.resolve (s : State) (r : Sent) (code : Nat) (data : Bytes) (timeout : Bool) : State :=
  match r.owner with
  | .coll q _ =>
    let t := s.resolveColl r code
    match t.coll? q with
    | some c => if c.op = opSend ∧ t.collDone c then t.finishColl c else t
    | none => t
  | _ => s.resolvePump r code data timeout

/-- An acknowledgement or READ_DATA arrives; one that nothing waits for is late (R263). -/
def State.takeAck (s : State) (p : Pkt) : State :=
  match s.outstanding.find? (fun r => decide (r.id = p.reqId)) with
  | none => s.stat Reg.FAB_STAT_LATE_ACKS 1
  | some r => s.resolve r p.code p.body false

/-- The die of the pump command that sent a request. -/
def State.ownerDie (s : State) (o : Owner) : Nat :=
  match o with
  | .pump q _ => ((s.pump? q).map (fun c => c.die)).getD 0
  | .job q _ => ((s.pump? q).map (fun c => c.die)).getD 0
  | .coll _ _ => 0

/-- A request without an acknowledgement after REQ_TIMEOUT is counted as refused with 0x3012 (R263). -/
def State.fabTimeout (s : State) (id : Nat) : State :=
  match s.outstanding.find? (fun r => decide (r.id = id)) with
  | none => s
  | some r =>
    if s.tb < r.time + s.fld Reg.FAB_CTRL_REQ_TIMEOUT * 1000 then s
    else ((s.stat Reg.FAB_STAT_TIMEOUTS 1).raise (fabSite (s.ownerDie r.owner)) 0x3012 id).resolve r 0x3012 [] true

/-! ### Messages and control packets -/

/-- A message enters its queue, and its sender hears of it (R241, R315, R353). While the core die is off one that begins with a chunk
header is a chunk for the collective engine and is dropped (R355, R487; DEDUCED, log entry 155). -/
def State.takeMessage (s : State) (p : Pkt) : State :=
  if !s.coreOn && decide (64 ≤ p.body.length) && chunkLike p.body then s
  else
  let r := s.enqueue (p.addr % 4096) ⟨1, p.tag % 2 ^ 40, p.body, []⟩
  r.2.answer p r.1 []

/-- The control type of a packet (R297). -/
def pktControl (p : Pkt) : Nat := bits p.tag 24 16

/-- A launch packet reaches its block, which refuses it with 0x0006 while the core die is off (R26, R389). -/
def State.launchControl (s : State) (c : Nat) (p : Pkt) : State :=
  if s.coreOn then s.launchPacket c p else s.answer p 0x0006 []

/-- A control packet goes to the block that takes its type; any other enters its queue, and a refusal is answered (R240,
R297, R347, R389, R432, R491). While the core die is off launch packets are refused with 0x0006 (R26) and the collective engine's
packets are dropped (R355). -/
def State.takeControl (s : State) (port : Option Nat) (p : Pkt) : State :=
  let c := pktControl p
  if c = 1 then (if s.coreOn then s.stepVoidArrive p else s)
  else if c = 2 then (if s.coreOn then s.creditArrive p else s)
  else if 3 ≤ c ∧ c ≤ 7 then s.launchControl c p
  else if c = 0x10 then (match port with | some l => s.imageReq l p.body | none => s)
  else if c = 0x11 then (match port with | some l => s.imageData l p.body | none => s)
  else if 0x20 ≤ c ∧ c ≤ 0x23 then s.memberPacket c p
  else
    let r := s.enqueue (p.addr % 4096) ⟨2, p.tag % 2 ^ 40, p.body, []⟩
    if r.1 = 0 then r.2 else r.2.answer p r.1 []

/-- A packet has reached this device over a port, or starts and ends here. -/
def State.takePacket (s : State) (r : Routed) : State :=
  let p := r.pkt
  let port := r.buffer.map (fun b => b.1)
  if p.typ = 0x10 ∨ p.typ = 0x11 then s.takeAck p
  else if p.typ = 0x20 then s.takeMessage p
  else if p.typ = 0x30 then s.takeControl port p
  else s.landRequest (lportDie (port.getD 0)) (if port.isSome then portSource p.src else s.sourceOf p.src) p

/-- The oldest packet at an input is routed (R307, R308, R311, R315): onto a port, to this device, or dropped with an
answer to its source. -/
def State.packetRoute (s : State) (input : Option Nat) : State :=
  match s.takeHop input with
  | none => s
  | some (r, s) =>
    match s.routeOne r with
    | .moved s => s
    | .here r s => s.takePacket r
    | .noRoute r s =>
      if r.buffer.isSome then s.ackDrop r 0x3102
      else if r.pkt.typ = 0x10 ∨ r.pkt.typ = 0x11 ∨ r.pkt.typ = 0x30 then s
      else s.takeAck (s.ackOf r.pkt 0x3102)

/-- A TC0 transfer lands and is acknowledged once (R298, R299). -/
def State.takeTransfer (s : State) (l : Nat) (t : Transfer) : State :=
  let r := s.landTransfer (lportDie l) t
  r.2.ackTransfer t r.1

/-- A flit arrives; a transfer that it completes lands (R294, R298). -/
def State.takeFlit (s : State) (l : Nat) (f : Flit) : State :=
  let r := s.flitReceived l f
  match r.1 with
  | none => r.2
  | some t => r.2.takeTransfer l t

/-- A frame lands and is acknowledged to another member; what names it in the acknowledgement is a free value (R94, R299). -/
def State.takeFrame (s : State) (die : Nat) (f : Frame) : State :=
  let r := s.landFrame die (portSource f.source) f
  if f.source = s.selfMember then r.2
  else
    let v := r.2.fresh
    v.2.originate { typ := 0x11, dest := s.fld Reg.FAB_SELF_SALTERN * 256 + f.source, src := s.selfDev, code := r.1,
                    reqId := v.1.toNat % 2 ^ 24, budget := s.fld Reg.FAB_MSG_CFG_DEFAULT_BUDGET }

/-- A command reaches the pumps of a link die from a sequencer or from the MC (R195, R268). -/
def State.pumpArrive (s : State) (die : Nat) (req : Requester) (d : Desc) : State :=
  match req with
  | .mc => s.pumpAccept die none d
  | .seq n => if s.coreOn && s.coreEnabled n && s.pumpRoom die n then
      (if 2 ≤ s.ctxState (s.coreContext n) then (s.raise (fabSite die) (pumpCancelCode d)).complete (pumpCompletion d) (pumpCancelCode d)
       else s.pumpAccept die (some n) d)
      else s

end Sys2Proof.Machine
end

