-- ==== Sys2Proof/Machine/CollExec.lean ====
section
/-! DEFINITION. The meanings of the commands of the collective engine (R327 to R356). -/

namespace Sys2Proof.Machine

/-- ALL_TO_ALL (R333). An ALL_TO_ALL collective command is checked and queued. -/
def execAllToAll (cmd : Issue) (s : State) : Result :=
  s.runCore fun s => if descFld cmd.desc 0 0 8 = opA2a then s.arrive cmd.core cmd.desc .coll else s

/-- ALL_TO_ALLV (R332). An ALL_TO_ALLV collective with a size table is checked and queued. -/
def execAllToAllv (cmd : Issue) (s : State) : Result :=
  s.runCore fun s => if descFld cmd.desc 0 0 8 = opA2av then s.arrive cmd.core cmd.desc .coll else s

/-- REDUCE_SCATTER (R334). A REDUCE_SCATTER collective is checked and queued. -/
def execReduceScatter (cmd : Issue) (s : State) : Result :=
  s.runCore fun s => if descFld cmd.desc 0 0 8 = opRs then s.arrive cmd.core cmd.desc .coll else s

/-- ALL_GATHER (R334). An ALL_GATHER collective is checked and queued. -/
def execAllGather (cmd : Issue) (s : State) : Result :=
  s.runCore fun s => if descFld cmd.desc 0 0 8 = opAg then s.arrive cmd.core cmd.desc .coll else s

/-- ALL_REDUCE (R342). An ALL_REDUCE collective is checked and queued. -/
def execAllReduce (cmd : Issue) (s : State) : Result :=
  s.runCore fun s => if descFld cmd.desc 0 0 8 = opAr then s.arrive cmd.core cmd.desc .coll else s

/-- BROADCAST (R334). A BROADCAST collective is checked and queued. -/
def execBroadcast (cmd : Issue) (s : State) : Result :=
  s.runCore fun s => if descFld cmd.desc 0 0 8 = opBc then s.arrive cmd.core cmd.desc .coll else s

/-- BARRIER (R350). A BARRIER collective, the step-end barrier when STEP_END = 1, is checked and queued. -/
def execBarrier (cmd : Issue) (s : State) : Result :=
  s.runCore fun s => if descFld cmd.desc 0 0 8 = opBar then s.arrive cmd.core cmd.desc .coll else s

/-- FUSED_ALL_REDUCE (R352). A FUSED_ALL_REDUCE packs a fusion table into one stream and reduces it. -/
def execFusedAllReduce (cmd : Issue) (s : State) : Result :=
  s.runCore fun s => if descFld cmd.desc 0 0 8 = opFused then s.arrive cmd.core cmd.desc .coll else s

/-- SEND (R353). A collective-engine SEND sends one TC2 message to a job rank. -/
def execSend (cmd : Issue) (s : State) : Result :=
  s.runCore fun s => if descFld cmd.desc 0 0 8 = opSend then s.arrive cmd.core cmd.desc .coll else s

/-- COLLECTIVE_START (R328). A queued collective command starts when an active entry is free. -/
def execCollectiveStart (s : State) : Result :=
  s.runCore fun s => s.startColl

/-- CHUNK_HEADER_ARRIVE (R339). A completed level-1 chunk header is reported to the engine and the chunk checked and consumed. -/
def execChunkHeaderArrive (s : State) : Result :=
  s.runCore fun s => s.chunkArrive

/-- PIECE_ARRIVE (R339). The engine pops a level-2 piece and assembles it, checking the chunk when the last piece is in. -/
def execPieceArrive (queue : Fin 4096) (s : State) : Result :=
  s.runCore fun s => s.pieceArrive queue

/-- CREDIT (R341). A TC3 credit packet frees a slot at the sender, which may send its next chunk. -/
def execCredit (p : Pkt) (s : State) : Result :=
  s.runCore fun s => s.creditArrive p

/-- STEP_VOID (R347). A received STEP_VOID packet sets VOID_CUR or VOID_NEXT of the matching partition or is counted stale. -/
def execStepVoid (p : Pkt) (s : State) : Result :=
  s.runCore fun s => s.stepVoidArrive p

/-- COL_TIMEOUT (R348). A wait for a chunk, credit or piece beyond CHUNK_TIMEOUT ends the collective with 0x340A. -/
def execColTimeout (s : State) : Result :=
  s.runCore fun s => s.collTimeout

/-- COLLECTIVE_COMPLETE (R346). A collective finishes its last move and increments COMPLETION. -/
def execCollectiveComplete (s : State) : Result :=
  s.runCore fun s => s.collComplete

/-- BARRIER_OUTCOME (R351). A step-end barrier's harvested outcome advances the step, rolls back, or faults the contexts. -/
def execBarrierOutcome (part : Fin 16) (s : State) : Result :=
  s.runCore fun s => s.barrierOutcome part

/-- SEND_ACK (R353). The acknowledgement of a SEND returns and completes it. -/
def execSendAck (p : Pkt) (s : State) : Result :=
  s.runOn 9 fun s => if p.typ = 0x11 then s.takeAck p else s

end Sys2Proof.Machine
end

