-- ==== Sys2Proof/Machine/CsrExec.lean ====
section
/-! DEFINITION. The meanings of the commands of plain CSR accesses and rakes (R505 to R516, R525, R526). -/

namespace Sys2Proof.Machine

/-- CSR_WRITE (R9). A write to a CSR register that has no row of its own sets its field values by access type, after the checks of R526. -/
def execCsrWrite (a : CsrAccess) (v : Word) (s : State) : Result :=
  s.run fun s => s.accessWrite a.req a.addr.toNat a.width v.toNat

/-- RAKE_WRITE (R512). A rake write is delivered to every member of a class or group, each member performs or refuses it, and the issuer's GLB_RAKE_STATUS records the outcome. -/
def execRakeWrite (a : CsrAccess) (v : Word) (s : State) : Result :=
  s.run fun s => if isRake a.addr.toNat then s.accessWrite a.req a.addr.toNat a.width v.toNat else s

/-- RAKE_READ (R513). A rake read reads every member, returns the OR of the values, sets or clears DIFF, and applies the read side effects in every member. -/
def execRakeRead (a : CsrAccess) (s : State) : Result :=
  s.run fun s => if isRake a.addr.toNat then s.accessRead a.req a.addr.toNat a.width else s

/-- GLB_RAKE_DATA_ACCESS (R516). An access to GLB_RAKE_DATA reads or writes a group mask word of the issuer's selection and advances the issuer's WORD. -/
def execGlbRakeDataAccess (req : Requester) (write : Option Word) (s : State) : Result :=
  s.run fun s => match write with
    | some v => s.accessWrite req Reg.GLB_RAKE_DATA 64 v.toNat
    | none => s.accessRead req Reg.GLB_RAKE_DATA 64

end Sys2Proof.Machine
end

