-- ==== Sys2Proof/Machine/DetExec.lean ====
section
/-! DEFINITION. The meanings of the commands of seeds, the record log and replay (R394 to R416). -/

namespace Sys2Proof.Machine

/-- DET_RNG_FILL (R403). A write of DET_RNG_FILL queues a keystream fill after its descriptor checks. -/
def execDetRngFill (req : Requester) (v : Word) (s : State) : Result :=
  s.run fun s => s.accessWrite req Reg.DET_RNG_FILL 64 v.toNat

/-- FILL_COMPLETE (R404). A fill writes its last block and increments COMPLETION. -/
def execFillComplete (s : State) : Result :=
  s.runCore fun s => s.fillComplete

/-- LOG_COMMIT (R406). A commit of the record log group sets both counts to 0. -/
def execLogCommit (s : State) : Result :=
  s.runCore fun s => s.applyDue (fun g => decide (g = .detLog))

/-- REPLAY_COMMIT (R411). A commit of the replay group scans the image and is accepted or refused. -/
def execReplayCommit (s : State) : Result :=
  s.runCore fun s => s.applyDue (fun g => decide (g = .detReplay))

end Sys2Proof.Machine
end

