-- ==== Sys2Proof/Machine/EthExec.lean ====
section
/-! DEFINITION. The meanings of the commands of the Ethernet ports (R322 to R326). -/

namespace Sys2Proof.Machine

/-- RDMA_WRITE (R323). A RoCEv2 RDMA WRITE is checked against its region and stored. -/
def execRdmaWrite (r : RoceReq) (data : Bytes) (poison : Bool) (s : State) : Result :=
  s.runOn (ethSite r.port).die fun s => s.roceWrite r data poison

/-- RDMA_READ (R323). A RoCEv2 RDMA READ is checked and answered. -/
def execRdmaRead (r : RoceReq) (len : BitVec 32) (s : State) : Result :=
  s.runOn (ethSite r.port).die fun s => s.roceRead r len.toNat

/-- FETCH_ADD (R323). A RoCEv2 FETCH_ADD performs ADD_I64 and returns the old value. -/
def execFetchAdd (r : RoceReq) (x : Word) (s : State) : Result :=
  s.runOn (ethSite r.port).die fun s => s.roceAtomic r 0 x.toNat 0

/-- CMP_SWAP (R323). A RoCEv2 CMP_SWAP performs CAS and returns the old value. -/
def execCmpSwap (r : RoceReq) (x : Word) (cmp : Word) (s : State) : Result :=
  s.runOn (ethSite r.port).die fun s => s.roceAtomic r 12 x.toNat cmp.toNat

/-- ROCE_SEND (R323). A RoCEv2 SEND lands as one packet in the QP's receive queue or receives RNR NAK. -/
def execRoceSend (r : RoceReq) (imm : Option (BitVec 32)) (data : Bytes) (s : State) : Result :=
  s.runOn (ethSite r.port).die fun s => s.roceSend r imm data

/-- ETH_BAD_PKT (R322, R323). A malformed or unsupported RoCEv2 packet receives NAK invalid request; a packet of another transport
is dropped. -/
def execEthBadPkt (r : RoceReq) (dropped : Bool) (s : State) : Result :=
  s.runOn (ethSite r.port).die fun s => if dropped then s.ethDropped r.port.val 1 else s.roceUnsupported r

/-- PFC_RECEIVED (R324). A received PFC frame stops transmission of the named priority for its quanta. -/
def execPfcReceived (port : Fin 4) (enable : BitVec 8) (quanta : List (BitVec 16)) (s : State) : Result :=
  s.runOn (ethSite port).die fun s => s.pfcReceived port enable quanta

/-- PFC_XOFF_REPEAT (R324). While a queue is in hold its port repeats PFC XOFF every 40 µs. -/
def execPfcXoffRepeat (port : Fin 4) (prio : Fin 2) (s : State) : Result :=
  s.runOn (ethSite port).die fun s => s.xoffRepeat port prio

/-- PAUSE_RECEIVED (R322). A received 802.3 PAUSE frame is counted and ignored. -/
def execPauseReceived (port : Fin 4) (s : State) : Result :=
  s.runOn (ethSite port).die fun s => s.pauseFrame port

/-- CE_MARKED_PACKET (R325). A received CE-marked RoCEv2 packet causes at most one CNP per 50 µs per QP. -/
def execCeMarkedPacket (packet : QpFrame) (s : State) : Result :=
  s.runOn (ethSite (s.qp packet.qp).port).die fun s => s.ceMarked packet.qp packet.frame

/-- CNP_RECEIVED (R325). A received CNP halves the QP's READ-response rate. -/
def execCnpReceived (packet : QpFrame) (s : State) : Result :=
  s.runOn (ethSite (s.qp packet.qp).port).die fun s => s.cnpReceived packet.qp packet.frame

/-- CNP_RATE_RISE (R325). Each 55 µs without a CNP raises the QP's response rate by 5 Gb/s. -/
def execCnpRateRise (qp : Fin 4096) (s : State) : Result :=
  s.runOn (ethSite (s.qp qp).port).die fun s => s.cnpRise qp

/-- ARP_REQUEST (R322). An ARP or neighbour-discovery request for a configured address is answered. -/
def execArpRequest (port : Fin 4) (ask : ArpAsk) (s : State) : Result :=
  s.runOn (ethSite port).die fun s => s.arp port ask.ip ask.frame

/-- ETH_CFG_COMMIT (R322). A commit of ETH_CFG configures the Ethernet port. -/
def execEthCfgCommit (port : Fin 4) (s : State) : Result :=
  s.runOn (ethSite port).die fun s => s.applyDue (fun g => decide (g = .ethCfg port))

/-- QP_COMMIT (R323). A commit of a QP context sets it RESET or RTS, or is refused with 0x2C03. -/
def execQpCommit (qp : Fin 4096) (s : State) : Result :=
  s.runOn (ethSite 0).die fun s => s.applyDue (fun g => decide (g = .qp qp))

/-- ETH_LINK_DOWN (R322). An Ethernet port loses its link and logs 0x2C02. -/
def execEthLinkDown (port : Fin 4) (s : State) : Result :=
  s.runOn (ethSite port).die fun s => s.ethDown port

/-- ETH_LINK_UP (R322). An Ethernet port completes auto-negotiation and link training and ETH_STATE.LINK becomes 2 at the negotiated RATE. -/
def execEthLinkUp (port : Fin 4) (rate : Nat) (s : State) : Result :=
  s.runOn (ethSite port).die fun s => s.ethLinkUp port rate

/-- PFC_PAUSE_EXPIRY (R324). The quanta of a received PFC pause run out, transmission of that priority resumes and PAUSEDn clears. -/
def execPfcPauseExpiry (port : Fin 4) (prio : Fin 2) (s : State) : Result :=
  s.runOn (ethSite port).die fun s => s.pauseExpiry port prio

end Sys2Proof.Machine
end

