-- ==== Sys2Proof/Machine/FabricExec.lean ====
section
/-! DEFINITION. The meanings of the commands of fabric requests, regions and arrival counters (R253 to R287). -/

namespace Sys2Proof.Machine

/-- WRITE_REQUEST (R264). An arriving WRITE request is checked and its bytes stored. -/
def execWriteRequest (die : Fin 2) (p : Pkt) (s : State) : Result :=
  s.runOn (9 + die) fun s => if p.typ = tyWrite then s.landRequest die (portSource p.src) p else s

/-- READ_REQUEST (R264). An arriving READ request is checked and its bytes returned to the source. -/
def execReadRequest (die : Fin 2) (p : Pkt) (s : State) : Result :=
  s.runOn (9 + die) fun s => if p.typ = tyRead then s.landRequest die (portSource p.src) p else s

/-- ATOMIC_REQUEST (R264). An arriving ATOMIC request is checked, performed and its old value returned. -/
def execAtomicRequest (die : Fin 2) (p : Pkt) (s : State) : Result :=
  s.runOn (9 + die) fun s => if p.typ = tyAtomic then s.landRequest die (portSource p.src) p else s

/-- REDUCE_REQUEST (R264). An arriving REDUCE request is checked and applied line by line. -/
def execReduceRequest (die : Fin 2) (p : Pkt) (s : State) : Result :=
  s.runOn (9 + die) fun s => if p.typ = tyReduce then s.landRequest die (portSource p.src) p else s

/-- MARK (R273). An arriving MARK is checked and increments its destination counter. -/
def execMark (die : Fin 2) (p : Pkt) (s : State) : Result :=
  s.runOn (9 + die) fun s => if p.typ = tyMark then s.landRequest die (portSource p.src) p else s

/-- REQUEST_ACK (R263). An acknowledgement or READ_DATA reaches the source, completing the request performed or refused. -/
def execRequestAck (p : Pkt) (s : State) : Result :=
  s.runOn 9 fun s => if p.typ = 0x10 ∨ p.typ = 0x11 then s.takeAck p else s

/-- FAB_TIMEOUT (R263). A request without acknowledgement after REQ_TIMEOUT is counted as refused with 0x3012. -/
def execFabTimeout (reqId : BitVec 24) (s : State) : Result :=
  s.runOn 9 fun s => s.fabTimeout reqId.toNat

/-- REGION_COMMIT (R255). A commit of the region group is checked and applied at the region's safe point. -/
def execRegionCommit (region : BitVec 16) (s : State) : Result :=
  s.runOn 9 fun s => s.applyDue (fun g => decide (g = .region region.toNat))

/-- REGION_ADVANCE (R258). A FAB_RGN_ADVANCE write with MODE 0 advances one region's epoch. -/
def execRegionAdvance (req : Requester) (region : BitVec 16) (s : State) : Result :=
  s.run fun s => s.accessWrite req Reg.FAB_RGN_ADVANCE 64 region.toNat

/-- REGION_ADVANCE_ALL (R258). A FAB_RGN_ADVANCE write with MODE 1 advances every region with SIZE not zero. -/
def execRegionAdvanceAll (req : Requester) (s : State) : Result :=
  s.run fun s => s.accessWrite req Reg.FAB_RGN_ADVANCE 64 0x10000

/-- REGION_ADVANCE_OWNER (R258). A FAB_RGN_ADVANCE write with MODE 2 advances every region owned by CTX. -/
def execRegionAdvanceOwner (req : Requester) (ctx : Fin 16384) (s : State) : Result :=
  s.run fun s => s.accessWrite req Reg.FAB_RGN_ADVANCE 64 (0x20000 + ctx.val * 0x40000)

/-- REVOKING_ADVANCE (R259). A REVOKING region's pending advance takes effect 32,768 ns after the previous one. -/
def execRevokingAdvance (region : BitVec 16) (s : State) : Result :=
  s.runOn 9 fun s => s.revokingStep region.toNat

/-- SYN_CNT_CLEAR (R272). A write of SYN_CNT_CLEAR clears ERR of a counter. -/
def execSynCntClear (req : Requester) (v : Word) (s : State) : Result :=
  s.run fun s => s.accessWrite req Reg.SYN_CNT_CLEAR 64 v.toNat

/-- FAB_SELF_WRITE (R529). A write of FAB_SELF sets member and saltern, refused with 0x3017 while a pump command is in flight. -/
def execFabSelfWrite (req : Requester) (v : Word) (s : State) : Result :=
  s.run fun s => s.accessWrite req Reg.FAB_SELF 64 v.toNat

end Sys2Proof.Machine
end

