-- ==== Sys2Proof/Machine/I3cExec.lean ====
section
/-! DEFINITION. The meanings of the commands of the I3C sideband (R443), which in a gang the leader alone answers (R321). -/

namespace Sys2Proof.Machine

/-- I3C_ENTDAA (R443). The ENTDAA CCC assigns the MC its dynamic address. -/
def execI3cEntdaa (addr : BitVec 7) (s : State) : Result :=
  s.run fun s => s.asLeader fun s => s.i3cEntdaa addr.toNat

/-- I3C_SETDASA (R443). The SETDASA CCC assigns the dynamic address from static 0x4A. -/
def execI3cSetdasa (static : BitVec 7) (addr : BitVec 7) (s : State) : Result :=
  s.run fun s => s.asLeader fun s => s.i3cSetdasa static.toNat addr.toNat

/-- I3C_RSTDAA (R443). The RSTDAA CCC resets the dynamic address. -/
def execI3cRstdaa (s : State) : Result :=
  s.run fun s => s.asLeader fun s => s.i3cRstdaa

/-- I3C_GETPID (R443). The GETPID CCC returns the provisioned ID. -/
def execI3cGetpid (s : State) : Result :=
  s.run fun s => s.asLeader fun s => s.i3cCcc fun s => s.i3cAnswer 0 Config.i3cPid

/-- I3C_GETBCR (R443). The GETBCR CCC returns the bus characteristics register. -/
def execI3cGetbcr (s : State) : Result :=
  s.run fun s => s.asLeader fun s => s.i3cCcc fun s => s.i3cAnswer 0 Config.i3cBcr

/-- I3C_GETDCR (R443). The GETDCR CCC returns the device characteristics register. -/
def execI3cGetdcr (s : State) : Result :=
  s.run fun s => s.asLeader fun s => s.i3cCcc fun s => s.i3cAnswer 0 Config.i3cDcr

/-- I3C_GETSTATUS (R443). The GETSTATUS CCC returns the status. -/
def execI3cGetstatus (s : State) : Result :=
  s.run fun s => s.asLeader fun s => s.i3cGetstatus

/-- I3C_ENEC_DISEC (R443). ENEC and DISEC are accepted without effect, and other CCCs are NACKed. -/
def execI3cEnecDisec (known : Bool) (s : State) : Result :=
  s.run fun s => s.asLeader fun s => if known then s.i3cCcc (fun s => s.i3cAnswer 0 []) else s.i3cNack

/-- I3C_ID (R443). The I3C ID command returns DEVICE_ID, grade, DET_CLASS, IMAGE_ID and MGT_BOOT. -/
def execI3cId (s : State) : Result :=
  s.run fun s => s.asLeader fun s => s.i3cId

/-- I3C_SENSOR (R443). The I3C SENSOR command returns one sensor's data. -/
def execI3cSensor (id : Byte) (s : State) : Result :=
  s.run fun s => s.asLeader fun s => s.i3cSensor id.toNat

/-- I3C_ALERT (R440). The I3C ALERT command reads and clears MGT_ALERT, letting ALERT_N rise. -/
def execI3cAlert (s : State) : Result :=
  s.run fun s => s.asLeader fun s => s.i3cAlert

/-- I3C_LOG (R443). The I3C LOG command returns the log entry with a given SEQ. -/
def execI3cLog (seq : BitVec 32) (s : State) : Result :=
  s.run fun s => s.asLeader fun s => s.i3cLog seq.toNat

/-- I3C_ATTEST (R436). The I3C ATTEST command returns a signed attestation report for a nonce. -/
def execI3cAttest (nonce : Bytes) (s : State) : Result :=
  s.run fun s => s.asLeader fun s => s.i3cAttest nonce

/-- I3C_UPDATE (R445). The I3C UPDATE command starts an update from an image in memory. -/
def execI3cUpdate (addr : Word) (len : Word) (s : State) : Result :=
  s.run fun s => s.asLeader fun s => s.i3cUpdate addr.toNat len.toNat

/-- I3C_DUMP_EXPORT (R442). The I3C DUMP_EXPORT command copies the crash dump to memory. -/
def execI3cDumpExport (addr : Word) (len : Word) (s : State) : Result :=
  s.run fun s => s.asLeader fun s => s.i3cDumpExport addr.toNat len.toNat

end Sys2Proof.Machine
end

