-- ==== Sys2Proof/Machine/LaunchExec.lean ====
section
/-! DEFINITION. The meanings of the commands of launches (R388 to R392). -/

namespace Sys2Proof.Machine

/-- LAUNCH_START (R26, R390). A write of SCH_LAUNCH_CTRL.START, or a matching message in the launch queue, starts a launch at the root. -/
def execLaunchStart (part : Fin 16) (writer : Option Requester) (s : State) : Result :=
  s.run fun s => match writer with
    | some req => s.accessWrite req (Reg.SCH_LAUNCH_CTRL + instDelta part) 64 1
    | none => if s.coreRuns then s.launchMessage part else s

/-- LAUNCH (R390). A received LAUNCH packet is checked, acknowledged and forwarded, and a MEMBER arms and sends READY. -/
def execLaunch (p : Pkt) (s : State) : Result :=
  s.runOn 0 fun s => s.launchControl 3 p

/-- LAUNCH_ACK (R391). A received ACK packet confirms a child's LAUNCH or GO. -/
def execLaunchAck (p : Pkt) (s : State) : Result :=
  s.runOn 0 fun s => s.launchControl 4 p

/-- READY (R390). A READY packet reaches the root, which sends GO once every MEMBER is ready. -/
def execReady (p : Pkt) (s : State) : Result :=
  s.runOn 0 fun s => s.launchControl 5 p

/-- GO (R390). A received GO packet sets T0 and the step counter and is forwarded down the tree. -/
def execGo (p : Pkt) (s : State) : Result :=
  s.runOn 0 fun s => s.launchControl 6 p

/-- ABORT (R392). A received ABORT returns an ARMED partition to READY or stops a RUNNING one. -/
def execAbort (p : Pkt) (s : State) : Result :=
  s.runOn 0 fun s => s.launchControl 7 p

/-- CHILD_TIMEOUT (R391). A child without ACK after CHILD_TIMEOUT_US is bypassed if a FORWARDER or aborts the launch if a MEMBER. -/
def execChildTimeout (part : Fin 16) (s : State) : Result :=
  s.runCore fun s => s.childTimeout part

/-- READY_TIMEOUT (R391). The root aborts the launch when READY_TIMEOUT_US passes without every READY. -/
def execReadyTimeout (part : Fin 16) (s : State) : Result :=
  s.runCore fun s => s.readyTimeout part

/-- SCH_NO_GO (R391). An ARMED member with no GO within twice READY_TIMEOUT_US returns to READY and logs 0x380F. -/
def execSchNoGo (part : Fin 16) (s : State) : Result :=
  s.runCore fun s => s.noGo part

/-- T_START_REACHED (R414). An ARMED member's time base reaches T_START and the partition runs frame 0. -/
def execTStartReached (part : Fin 16) (s : State) : Result :=
  s.runCore fun s => s.tStartReached part

end Sys2Proof.Machine
end

