-- ==== Sys2Proof/Machine/LinkExec.lean ====
section
/-! DEFINITION. The meanings of the commands of the Salax links (R288 to R307). -/

namespace Sys2Proof.Machine

/-- FLIT_RECEIVED (R294). A flit arrives on a logical port and is CRC-checked, sequenced, credited and delivered or NAKed. -/
def execFlitReceived (l : Fin 32) (f : Flit) (s : State) : Result :=
  s.runOn (9 + lportDie l) fun s => s.takeFlit l f

/-- LINK_TRAINED (R290). Training of a logical port completes at full width, the delay is recorded and the port goes UP. -/
def execLinkTrained (l : Fin 32) (delay : Nat) (s : State) : Result :=
  s.runOn (9 + lportDie l) fun s => s.linkTrained l delay

/-- LNK_TRAIN_FAIL (R289). A lane failing training or dropping takes its logical port down and logs 0x2805. -/
def execLnkTrainFail (l : Fin 32) (s : State) : Result :=
  s.runOn (9 + lportDie l) fun s => s.linkFailed l

/-- LINK_SLOT_START (R300). At each link slot start the port sends the entry's TC0 transfer, SHARED traffic or idle. -/
def execLinkSlotStart (l : Fin 32) (cycle : Nat) (slot : SlotStart) (s : State) : Result :=
  s.runOn (9 + lportDie l) fun s => s.linkSlotStart l cycle slot.index slot.stalled

/-- TC0_TRANSFER_LAND (R299). A received TC0 transfer is split into requests, checked and acknowledged once on TC3. -/
def execTc0TransferLand (l : Fin 32) (t : Transfer) (s : State) : Result :=
  s.runOn (9 + lportDie l) fun s => s.takeTransfer l t

/-- PACKET_ROUTE (R307). A TC1–TC3 packet at a hop is routed by its epoch bank, delivered locally or dropped with 0x3102. -/
def execPacketRoute (input : Option (Fin 32)) (s : State) : Result :=
  s.runOn (9 + (input.map (fun l => lportDie l.val)).getD 0) fun s => s.packetRoute (input.map (·.val))

/-- SLUICE_MOVE (R312). A packet whose head waited longer than THRESH_NS moves to the sluice channel. -/
def execSluiceMove (l : Fin 32) (ch : Fin 3) (s : State) : Result :=
  s.runOn (9 + lportDie l) fun s => s.sluiceMove l ch

/-- LNK_CFG_COMMIT (R289). A commit of LNK_CFG enables, splits or idles a port. -/
def execLnkCfgCommit (port : Fin 16) (s : State) : Result :=
  s.runOn (9 + lportDie (2 * port)) fun s => s.applyDue (fun g => decide (g = .lnkCfg port))

/-- LNK_ST_DATA_ACCESS (R300). An access to LNK_ST_DATA reads or writes a staged slot-table entry and advances INDEX. -/
def execLnkStDataAccess (req : Requester) (port : Fin 16) (write : Option Word) (s : State) : Result :=
  s.run fun s => match write with
    | some v => s.accessWrite req (Reg.LNK_ST_DATA + instDelta port) 64 v.toNat
    | none => s.accessRead req (Reg.LNK_ST_DATA + instDelta port) 64

/-- LINK_TABLE_COMMIT (R306). A commit of a port's slot-table group is checked and scheduled for its safe point. -/
def execLinkTableCommit (l : Fin 32) (s : State) : Result :=
  s.runOn (9 + lportDie l) fun s => s.applyDue (fun g => decide (g = .linkTable l))

/-- LINK_TABLE_SWAP (R306). At the first cycle start of the new table the staged and active banks swap. -/
def execLinkTableSwap (l : Fin 32) (s : State) : Result :=
  s.runOn (9 + lportDie l) fun s => s.linkTableSwap l

end Sys2Proof.Machine
end

