-- ==== Sys2Proof/Machine/MatrixExec.lean ====
section
/-! DEFINITION. The meanings of the commands of the cube matrix arrays (R111 to R149). -/

namespace Sys2Proof.Machine

/-- PASS (R123). A PASS descriptor is checked and queued on its array, or refused on its completion counter. -/
def execPass (array : Fin 2) (cmd : Issue) (s : State) : Result :=
  s.runCore fun s => if descFld cmd.desc 0 0 8 = 0x11 then s else s.arrive cmd.core cmd.desc (.array array)

/-- LANE (R144). A LANE descriptor is checked and queued to run 128 independent scalar-multiply lanes. -/
def execLane (array : Fin 2) (cmd : Issue) (s : State) : Result :=
  s.runCore fun s => if descFld cmd.desc 0 0 8 = 0x11 then s.arrive cmd.core cmd.desc (.array array) else s

/-- PASS_START (R128). The head pass of an array's queue starts when the array can admit it, by front carry, after ramp-up or after the previous pass. -/
def execPassStart (array : Fin 128) (s : State) : Result :=
  s.runCore fun s => s.passStart array

/-- PASS_COMPLETION (R124). When the last output of its last N tile is written or accepted the pass increments COMPLETION. -/
def execPassCompletion (array : Fin 128) (facts : PassFacts) (s : State) : Result :=
  s.runCore fun s => if s.passMayComplete array then s.passComplete array facts else s

/-- RAMP_STEP (R131). Every 6 cycles of a ramp the array moves its activity one step towards full or idle. -/
def execRampStep (array : Fin 128) (up : Bool) (s : State) : Result :=
  s.runCore fun s => s.rampStep array up

/-- MAT_REPAIR_WRITE (R136). A write of MAT_REPAIR sets the soft-skipped row or column, or is refused when illegal or the array is busy. -/
def execMatRepairWrite (req : Requester) (array : Fin 128) (v : Word) (s : State) : Result :=
  s.run fun s => s.accessWrite req (Reg.MAT_REPAIR + instDelta array) 64 v.toNat

/-- CHECKSUM_REQ_WRITE (R143). A write of MAT_CTRL.CHECKSUM_REQ changes the requested checksum mode, refused unless the array is idle. -/
def execChecksumReqWrite (req : Requester) (array : Fin 128) (v : Word) (s : State) : Result :=
  s.run fun s => s.accessWrite req (Reg.MAT_CTRL + instDelta array) 64 v.toNat

end Sys2Proof.Machine
end

