-- ==== Sys2Proof/Machine/MemExec.lean ====
section
/-! DEFINITION. The meanings of the commands of memory channels, near-memory units and the brine decoder (R206 to R233). -/

namespace Sys2Proof.Machine

/-- A requester reads a line: through the brine decoder where a view covers it, refused outside LPDDR6 (R31, R214, R224). -/
def State.lineReadArrive (s : State) (pa nBad : Nat) (mc : Bool) : State :=
  if lpddrSize ≤ pa then (s.decodeRefused 0x0005 pa).emit (.lineData (pa / 64 * 64) [] 0x0005)
  else if (s.viewAt (pa / 64 * 64)).isSome then s.brineRead pa
  else s.lineRead pa nBad mc

/-- A requester writes bytes of a line (R213, R215). -/
def State.lineWriteArrive (s : State) (pa : Nat) (data : Bytes) (poison : Bool) (nBad : Nat) (mc : Bool) : State :=
  if lpddrSize ≤ pa then (s.decodeRefused 0x0005 pa).emit (.done pa 0x0005)
  else
    let r := s.lineWrite pa (data.take (64 - pa % 64)) poison nBad mc
    r.2.emit (.done pa r.1)

/-- A channel stops answering while the device runs: a chip-level trigger (R219, R477). -/
def State.channelFails (s : State) (ch : Nat) : State := (s.channelDead ch).escalateChip 0x1806 (chanSite ch)

def State.nmAtomicArrive (s : State) (op pa width x cmp : Nat) (strict : Bool) (nBad : Nat) : State :=
  if lpddrSize ≤ pa then (s.decodeRefused 0x0005 pa).emit (.atomicResult pa 0 0x0005)
  else let r := s.nmAtomic op pa width x cmp strict nBad; r.2.2.emit (.atomicResult pa r.2.1 r.1)

def State.nmReduceArrive (s : State) (op pa : Nat) (data : Bytes) (strict : Bool) (nBad : Nat) : State :=
  if lpddrSize ≤ pa then (s.decodeRefused 0x0005 pa).emit (.done pa 0x0005)
  else let r := s.nmReduce op pa data strict nBad; r.2.emit (.done pa r.1)

/-- An atomic or a reduce on core store (R285); outside the enabled windows it is refused as an access is (R31). -/
def State.coreAtomicArrive (s : State) (op pa : Nat) (form : AtomForm) (strict : Bool) : State :=
  match physArea pa with
  | .coreStore _ _ =>
    if s.physCode pa ≠ 0 then (s.decodeRefused (s.physCode pa) pa).emit (.done pa (s.physCode pa))
    else match form with
      | .atomic width x cmp => let r := s.coreAtomic op pa width x.toNat cmp.toNat strict; r.2.2.emit (.atomicResult pa r.2.1 r.1)
      | .reduce data => let r := s.coreReduce op pa data strict; r.2.emit (.done pa r.1)
  | _ => s

/-- LINE_READ (R214). A line read at a bridge channel is decoded under ECC and returns data corrected, as stored or poisoned. -/
def execLineRead (pa : BitVec 42) (nBad : Nat) (mc : Bool) (s : State) : Result :=
  s.runOn (1 + bridgeOf (channelOf pa.toNat)) fun s => s.lineReadArrive pa.toNat nBad mc

/-- LINE_WRITE (R206). A line write is stored, merging partial writes by read-correct-write. -/
def execLineWrite (pa : BitVec 42) (data : Bytes) (poison : Bool) (nBad : Nat) (mc : Bool) (s : State) : Result :=
  s.runOn (1 + bridgeOf (channelOf pa.toNat)) fun s => s.lineWriteArrive pa.toNat data poison nBad mc

/-- PATROL_SCRUB (R216). Patrol scrub reads each line once per SCRUB_HOURS at lowest priority. -/
def execPatrolScrub (pa : BitVec 42) (nBad : Nat) (s : State) : Result :=
  s.runOn (1 + bridgeOf (channelOf pa.toNat)) fun s => if pa.toNat < lpddrSize then s.patrolScrub pa.toNat nBad else s

/-- CHANNEL_DEAD (R219). A channel failing training or ceasing to answer is marked DEAD and logs 0x1806. -/
def execChannelDead (channel : Fin 384) (s : State) : Result :=
  s.runOn (1 + bridgeOf channel) fun s => s.channelFails channel

/-- NM_ATOMIC (R220). A near-memory atomic on one element is checked and performed, returning the old value. -/
def execNmAtomic (pa : BitVec 42) (opc : BitVec 4) (width : Nat) (x : Word) (cmp : Word) (strict : Bool) (nBad : Nat) (s : State) : Result :=
  s.runOn (1 + bridgeOf (channelOf pa.toNat)) fun s => s.nmAtomicArrive opc.toNat pa.toNat width x.toNat cmp.toNat strict nBad

/-- NM_REDUCE (R220). A near-memory reduce applies an operation to a whole line element by element. -/
def execNmReduce (pa : BitVec 42) (opc : BitVec 4) (data : Bytes) (strict : Bool) (nBad : Nat) (s : State) : Result :=
  s.runOn (1 + bridgeOf (channelOf pa.toNat)) fun s => s.nmReduceArrive opc.toNat pa.toNat data strict nBad

/-- CORE_STORE_ATOMIC (R528). An ATOMIC or REDUCE targeting core store is performed by the target core's store under the rules of R220. -/
def execCoreStoreAtomic (pa : BitVec 48) (opc : BitVec 4) (form : AtomForm) (strict : Bool) (s : State) : Result :=
  s.runOn 0 fun s => s.coreAtomicArrive opc.toNat pa.toNat form strict

/-- BRINE_VIEW_COMMIT (R232). A rake commit of a brine view's registers turns a view off or starts the enable scan in every bridge. -/
def execBrineViewCommit (view : Fin 64) (s : State) : Result :=
  s.run fun s => (List.range 8).foldl (fun s b => if s.clockStops (1 + b) then s else s.applyDue (fun g => decide (g = .brine b view))) s

/-- BRINE_SCAN_DONE (R227). A bridge's index scan ends, turning the view on or refusing the commit with 0x1C05. -/
def execBrineScanDone (bridge : Fin 8) (view : Fin 64) (s : State) : Result :=
  s.runOn (1 + bridge) fun s => s.scanDone bridge view

/-- BRINE_READ (R224). A read of a view address is sent to its bridge and answered from the decoded block, or poisoned if corrupt. -/
def execBrineRead (pa : BitVec 42) (s : State) : Result :=
  s.runOn (1 + bridgeOf (channelOf pa.toNat)) fun s => s.brineRead pa.toNat

end Sys2Proof.Machine
end

