-- ==== Sys2Proof/Machine/MemberExec.lean ====
section
/-! DEFINITION. The meanings of the commands of membership and live insertion (R489 to R503). -/

namespace Sys2Proof.Machine

/-- MEMBERSHIP_COMMIT (R489). A commit of the membership group is checked and moves OFF to JOINING. -/
def execMembershipCommit (s : State) : Result :=
  s.run fun s => s.applyDue (fun g => decide (g = .membership))

/-- HEARTBEAT_SEND (R491). Every HB_INTERVAL_US the device sends HEARTBEAT to each configured member. -/
def execHeartbeatSend (s : State) : Result :=
  s.run fun s => s.heartbeatSend

/-- HEARTBEAT (R492). A received HEARTBEAT refreshes the sender's reachability. -/
def execHeartbeat (p : Pkt) (s : State) : Result :=
  s.run fun s => s.memberPacket 0x20 p

/-- HEARTBEAT_TIMEOUT (R492). A member unheard for HB_TIMEOUT_US leaves the reachable set. -/
def execHeartbeatTimeout (m : Fin 256) (s : State) : Result :=
  s.run fun s => s.heartbeatTimeout m

/-- MEMBERSHIP_DECISION (R493). After R is stable for SETTLE_US the device joins, removes members with a sweep, or fences. -/
def execMembershipDecision (s : State) : Result :=
  s.run fun s => s.mbrDecision

/-- JOIN_REQ (R498). A received JOIN_REQ is answered with JOIN_ACK, admitting the joiner when allowed. -/
def execJoinReq (p : Pkt) (s : State) : Result :=
  s.run fun s => s.memberPacket 0x21 p

/-- JOIN_ACK (R499). A received JOIN_ACK gives the joiner its view, catches up missed sweeps and may make it NORMAL. -/
def execJoinAck (p : Pkt) (s : State) : Result :=
  s.run fun s => s.memberPacket 0x22 p

/-- RAS_JOIN_TIMEOUT (R498). A joiner lacking JOIN_ACK from every member within 10 ms logs 0x540A and retries 100 ms later. -/
def execRasJoinTimeout (s : State) : Result :=
  s.run fun s => s.joinTimeout

/-- LEAVE (R501). A received LEAVE removes the sender from the view and sweeps. -/
def execLeave (p : Pkt) (s : State) : Result :=
  s.run fun s => s.memberPacket 0x23 p

/-- LEAVE_WRITE (R501). A write of RAS_MBR_CTRL.LEAVE sends LEAVE to the view and sets LEFT. -/
def execLeaveWrite (req : Requester) (s : State) : Result :=
  s.run fun s => s.accessWrite req Reg.RAS_MBR_CTRL 64 2

/-- LEAVE_IDLE (R501). 1 ms after LEAVE the device clears FAB_ADMIT and idles its ports. -/
def execLeaveIdle (s : State) : Result :=
  s.run fun s => s.leaveIdle

/-- REJOIN (R496). A write of RAS_MBR_CTRL.REJOIN moves a FENCED device to JOINING. -/
def execRejoin (req : Requester) (s : State) : Result :=
  s.run fun s => s.accessWrite req Reg.RAS_MBR_CTRL 64 1

end Sys2Proof.Machine
end

