-- ==== Sys2Proof/Machine/Uart.lean ====
section
/-! DEFINITION. The serial monitor (R446 to R450). -/

namespace Sys2Proof.Machine

/-- The log site of the SEC class. -/
def secSite : Site := site 20 0

/-- The final line of a command: OK for code 0, ERR and the code otherwise. -/
def State.monAnswer (s : State) (code : Nat) (data : Bytes) : State := s.emit (.monitor code (if code = 0 then data else []))

/-- A refused command logs its code. -/
def State.monRefuse (s : State) (code : Nat) : State := (s.raise mgtSite code).monAnswer code []

/-- Change the monitor. -/
def State.updMonitor (s : State) (f : Monitor → Monitor) : State := { s with mgmt := { s.mgmt with monitor := f s.mgmt.monitor } }

/-- A valid line: bytes inside a transfer are frames, and the revert watch of `baud` ends (R446). -/
def State.monLine (s : State) (f : State → State) : State :=
  if s.mgmt.monitor.xfer.isSome then s else f (s.updMonitor fun m => { m with revert := none })

/-- RECOVERY after 0x4C01: the monitor offers only the locked commands, and no load (R431). -/
def State.flashless (s : State) : Bool := s.recovering && decide (s.fld Reg.MGT_BOOT_CODE = 0x4C01)

/-- The monitor is unlocked with a permission: 0 CSR, 1 MEM, 2 DUMP, 3 RESET, 4 LOAD (R449, R450). -/
def State.monMay (s : State) (perm : Nat) : Bool :=
  !s.flashless && (match s.mgmt.monitor.unlockedTo with | some t => decide (s.tb < t) | none => false) && bit (s.fld Reg.SEC_MON_PERMS) perm

/-- A command that needs a permission (R447). -/
def State.monNeeds (s : State) (perm : Nat) (f : State → State) : State :=
  s.monLine fun s => if s.monMay perm then f s else s.monRefuse 0x4C14

/-- A transfer of binary frames begins (R448). -/
def State.startXfer (s : State) (k : XferKind) : State := s.updMonitor fun m => { m with xfer := some ⟨k, 0, [], 0, s.tb⟩ }

/-! ### Commands (R447) -/

def State.monId (s : State) : State := s.monLine fun s => s.monAnswer 0 s.identity
def State.monSensors (s : State) : State := s.monLine fun s => s.monAnswer 0 (sensorIds.flatMap s.sensorData)

/-- `log s n`. -/
def State.monLog (s : State) (from_ n : Nat) : State := s.monLine fun s =>
  if 256 < n then s.monRefuse 0x4C15 else s.monAnswer 0 ((List.range n).flatMap (fun i => s.logEntry (from_ + i)))

def State.monAttest (s : State) (nonce : Bytes) : State := s.monLine fun s =>
  if nonce.length ≠ 48 then s.monRefuse 0x4C15 else let r := s.attest nonce; r.2.monAnswer 0 r.1

/-- `challenge`: a fresh 32-byte nonce, or ERR 5006 during the back-off (R450). -/
def State.monChallenge (s : State) : State := s.monLine fun s =>
  if s.tb < s.mgmt.monitor.backoffTo then (s.raise secSite 0x5006).monAnswer 0x5006 []
  else
    let nonce := (List.range 4).flatMap (fun i => leBytes 8 (Config.freeWord (s.free + i)).toNat)
    ({ s with free := s.free + 4 }.updMonitor fun m => { m with nonce := some (nonce, s.tb) }).monAnswer 0 nonce

def State.monUnlock (s : State) : State := s.monLine fun s => s.startXfer .token

/-- `baud r`: the rate changes 10 ms later (R446). -/
def State.monBaud (s : State) (r : Nat) : State := s.monLine fun s =>
  if r < 9600 ∨ 3000000 < r then s.monRefuse 0x4C15
  else (s.updMonitor fun m => { m with newBaud := some (r, s.tb) }).monAnswer 0 []

/-- 10 ms after `baud` the rate changes, and the 5 s watch begins (R446). -/
def State.baudChange (s : State) : State :=
  match s.mgmt.monitor.newBaud with
  | none => s
  | some (r, t) =>
    if s.tb < t + 10000000 then s
    else s.updMonitor fun m => { m with baud := r, newBaud := none, revert := some (m.baud, s.tb + 5000000000) }

/-- No valid line has arrived at the new rate within 5 s (R446). -/
def State.baudRevert (s : State) : State :=
  match s.mgmt.monitor.revert with
  | none => s
  | some (r, t) => if s.tb < t then s else s.updMonitor fun m => { m with baud := r, revert := none }

/-- `load n`: locked in RECOVERY and HELD, else with LOAD (R431, R447). -/
def State.monLoad (s : State) (n : Nat) : State := s.monLine fun s =>
  let st := s.fld Reg.MGT_BOOT_STATE
  if st ≠ 7 ∧ st ≠ 8 ∧ !s.monMay 4 then s.monRefuse 0x4C14
  else if s.flashless ∨ !s.flash.usable then s.monRefuse 0x4C01
  else if n = 0 ∨ s.flash.capacity - 0x1000000 < n then s.monRefuse 0x4C15
  else { s with mgmt := { s.mgmt with load := [], asking := none } }.startXfer (.load n)

/-- The unlock ends (R450); its end extends MEAS3. -/
def State.monRelock (s : State) : State :=
  if s.mgmt.monitor.unlockedTo.isNone then s
  else (((s.updMonitor fun m => { m with unlockedTo := none }).setFld Reg.SEC_MON_UNLOCKED 0 0).setFld Reg.SEC_MON_PERMS 0 0).measEvent 2 0

def State.monLock (s : State) : State := s.monLine fun s => s.monRelock.monAnswer 0 []

/-- The end of LIFETIME_S (R450). -/
def State.unlockExpiry (s : State) : State :=
  match s.mgmt.monitor.unlockedTo with
  | none => s
  | some t => if s.tb < t then s else s.monRelock

def State.monUpdate (s : State) (a n : Nat) : State := s.monNeeds 4 fun s =>
  let r := s.updateStart a n .monitor
  if r.1 ≠ 0 then r.2.monAnswer r.1 [] else r.2

def State.monCsrRead (s : State) (a : Nat) : State := s.monNeeds 0 fun s =>
  if s.csrStops a then s else
  let r := s.csrRead .mc a 64
  r.2.2.monAnswer r.1 (leBytes 8 r.2.1.toNat)

def State.monCsrWrite (s : State) (a v : Nat) : State := s.monNeeds 0 fun s =>
  if s.csrStops a then s else
  s.writeAnswer .monitor a v (s.csrWrite .mc a 64 v) (.monitor · [])

/-- The code with which the monitor refuses a memory range, 0 for none: it lies in the general area or in core store. -/
def State.monRange (s : State) (a n : Nat) : Nat :=
  if s.physCode a ≠ 0 then s.physCode a else if s.inEnabledSpace a n then 0 else 0x4C13

def State.monMemRead (s : State) (a n : Nat) : State := s.monNeeds 1 fun s =>
  if n = 0 ∨ 4096 < n then s.monRefuse 0x4C15
  else if s.monRange a n ≠ 0 then s.monRefuse (s.monRange a n)
  else (s.noteFetch a n).monAnswer (s.readCode a n) (s.fetch a n)

/-- The 8 bytes of `mem w` are stored. -/
def State.monStore (s : State) (a : Nat) (bs : Bytes) : State :=
  if s.monRange a 8 ≠ 0 then s.monRefuse (s.monRange a 8)
  else let r := s.physStore a bs false true; r.2.monAnswer r.1 []

/-- `mem w a v`: the value of the line, or with none the data of a frame (R447, R448; log entry 50). -/
def State.monMemWrite (s : State) (a : Nat) (v : Option Word) : State := s.monNeeds 1 fun s =>
  match v with
  | some w => s.monStore a (leBytes 8 w.toNat)
  | none => if s.monRange a 8 ≠ 0 then s.monRefuse (s.monRange a 8) else s.startXfer (.memWrite a)

def State.monDumpRead (s : State) (o n : Nat) : State := s.monNeeds 2 fun s =>
  if n = 0 ∨ 4096 < n ∨ 0x40000000 < o + n then s.monRefuse 0x4C15
  else (s.noteFetch (dumpBase + o) n).monAnswer (s.readCode (dumpBase + o) n) (s.fetch (dumpBase + o) n)

def State.monDumpExport (s : State) (a n : Nat) : State := s.monNeeds 2 fun s =>
  let r := s.dumpExport a n
  r.2.monAnswer r.1 []

/-- `reset chip` (R447, R477). -/
def State.monResetChip (s : State) : State := s.monNeeds 3 fun s => ((s.escalateChip 0x540F rasSite).rasLogs 0x540F).monAnswer 0 []

/-- A line that is too long or names no command (R446). -/
def State.monBadLine (s : State) : State := if s.mgmt.monitor.xfer.isSome then s else s.monRefuse 0x4C15

/-! ### Tokens (R449, R450) -/

/-- The first check of a token that fails. -/
def State.tokenCode (s : State) (t : Bytes) : Option Nat :=
  let life := hdrNat t 0x38 4
  let key := (t.drop 0x40).take 96
  let known := match s.mgmt.monitor.nonce with
    | some (n, at_) => decide ((t.drop 0x18).take 32 = n) && decide (s.tb ≤ at_ + 60000000000)
    | none => false
  firstCode [
    (decide (t.length ≠ 256) || decide (hdrNat t 0 4 ≠ 0x444B5401) || decide (hdrNat t 4 2 ≠ 1) || decide (3 < hdrNat t 6 1) ||
      decide (31 < hdrNat t 7 1) || !zeroBytes t 0x3C 4 || decide (life = 0) || decide (86400 < life), 0x5001),
    (decide ((t.drop 8).take 16 ≠ s.deviceId), 0x5002),
    (!known, 0x5003),
    (!s.keyGood (hdrNat t 6 1) key, 0x5004),
    (!ecdsaVerify key (t.take 0xA0) ((t.drop 0xA0).take 96), 0x5005)]

/-- A token has arrived: the nonce is used up, and the monitor unlocks or counts a failure (R450). -/
def State.takeToken (s : State) (t : Bytes) : State :=
  match s.tokenCode t with
  | some k =>
    let fails := s.mgmt.monitor.fails + 1
    let s := s.updMonitor fun m => { m with
      nonce := none, fails := if fails = 4 then 0 else fails, backoffTo := if fails = 4 then s.tb + 600000000000 else m.backoffTo }
    ((s.stat Reg.MGT_STAT_UNLOCK_FAILS 1).raise secSite k).monAnswer k []
  | none =>
    let s := s.updMonitor fun m => { m with nonce := none, fails := 0, unlockedTo := some (s.tb + hdrNat t 0x38 4 * 1000000000) }
    let s := ((s.setFld Reg.SEC_MON_UNLOCKED 0 1).setFld Reg.SEC_MON_PERMS 0 (hdrNat t 7 1)).setFld Reg.MGT_BOOT_UNLOCKED 0 1
    ((s.measEvent 1 0).stat Reg.MGT_STAT_UNLOCKS 1).monAnswer 0 []

/-! ### Frames (R448) -/

/-- A transfer ends; that of an `unlock` has used up the nonce, whatever the result (R450). -/
def State.endXfer (s : State) : State :=
  s.updMonitor fun m => { m with xfer := none, nonce := if m.xfer.any (fun x => decide (x.kind = .token)) then none else m.nonce }

/-- The data of an accepted frame go to what the transfer is for. -/
def State.takeFrameData (s : State) (x : Xfer) (data : Bytes) : State :=
  let all := x.data ++ data
  let goOn := fun (s : State) (kept : Bytes) =>
    s.updMonitor fun m => { m with xfer := some { x with seq := x.seq + 1, data := kept, refusals := 0, since := s.tb } }
  match x.kind with
  | .token => if all.length < 256 then goOn s all else (s.takeToken all).endXfer
  | .memWrite a => if all.length < 8 then goOn s all else s.endXfer.monStore a (all.take 8)
  | .load n =>
    let had := x.data.length
    let more := data.take (n - had)
    let r := s.loadTake more
    if r.1 ≠ 0 then r.2.endXfer.monAnswer r.1 []
    else if had + more.length < n then goOn r.2 (x.data ++ more)
    else if r.2.mgmt.load.isEmpty then r.2.endXfer.monAnswer 0 []
    else (r.2.loadFail 0x4C02).endXfer.monAnswer 0x4C02 []

/-- A binary frame arrives (R448): taken, or refused; the eighth refusal of one SEQ ends the transfer. -/
def State.monFrame (s : State) (seq : Nat) (data : Bytes) (crc : Nat) : State :=
  match s.mgmt.monitor.xfer with
  | none => s
  | some x =>
    let good := decide (crc = crc32 (leBytes 2 seq ++ leBytes 2 data.length ++ data)) && decide (seq = x.seq % 65536) &&
      decide (1 ≤ data.length) && decide (data.length ≤ 4096)
    if good then (s.emit (.frame seq 0)).takeFrameData x data
    else
      let s := ((s.stat Reg.MGT_STAT_MON_BAD_FRAMES 1).raise mgtSite 0x4C15).emit (.frame seq 0x4C15)
      if 8 ≤ x.refusals + 1 then s.endXfer.monAnswer 0x4C15 []
      else s.updMonitor fun m => { m with xfer := some { x with refusals := x.refusals + 1, since := s.tb } }

/-- A gap of 2 s ends a transfer (R448). -/
def State.frameGap (s : State) : State :=
  match s.mgmt.monitor.xfer with
  | none => s
  | some x => if s.tb < x.since + 2000000000 then s else (s.endXfer).monRefuse 0x4C15

end Sys2Proof.Machine
end

