-- ==== Sys2Proof/Machine/MonExec.lean ====
section
/-! DEFINITION. The meanings of the commands of the serial monitor (R446 to R450), which in a gang the leader alone answers (R321). -/

namespace Sys2Proof.Machine

/-- MON_ID (R447). The monitor id command prints the device identity. -/
def execMonId (s : State) : Result :=
  s.run fun s => s.asLeader fun s => s.monId

/-- MON_SENSORS (R447). The monitor sensors command prints every sensor. -/
def execMonSensors (s : State) : Result :=
  s.run fun s => s.asLeader fun s => s.monSensors

/-- MON_LOG (R447). The monitor log command prints n entries from SEQ s. -/
def execMonLog (seq : BitVec 32) (n : Nat) (s : State) : Result :=
  s.run fun s => s.asLeader fun s => s.monLog seq.toNat n

/-- MON_ATTEST (R447). The monitor attest command prints a report for a nonce. -/
def execMonAttest (nonce : Bytes) (s : State) : Result :=
  s.run fun s => s.asLeader fun s => s.monAttest nonce

/-- MON_CHALLENGE (R450). The monitor challenge command returns a fresh nonce, or ERR 5006 during back-off. -/
def execMonChallenge (s : State) : Result :=
  s.run fun s => s.asLeader fun s => s.monChallenge

/-- MON_UNLOCK (R450). The monitor unlock command receives and checks a debug token and grants its permissions. -/
def execMonUnlock (s : State) : Result :=
  s.run fun s => s.asLeader fun s => s.monUnlock

/-- MON_BAUD (R446). The monitor baud command changes the UART rate 10 ms later. -/
def execMonBaud (rate : Nat) (s : State) : Result :=
  s.run fun s => s.asLeader fun s => s.monBaud rate

/-- BAUD_REVERT (R446). With no valid line at the new rate within 5 s the rate reverts. -/
def execBaudRevert (s : State) : Result :=
  s.run fun s => s.baudRevert

/-- MON_LOAD (R433). The monitor load command receives image bytes in frames and programs them. -/
def execMonLoad (n : Nat) (s : State) : Result :=
  s.run fun s => s.asLeader fun s => s.monLoad n

/-- MON_LOCK (R447). The monitor lock command locks at once. -/
def execMonLock (s : State) : Result :=
  s.run fun s => s.asLeader fun s => s.monLock

/-- MON_UPDATE (R445). The monitor update command starts an update from memory. -/
def execMonUpdate (addr : Word) (len : Word) (s : State) : Result :=
  s.run fun s => s.asLeader fun s => s.monUpdate addr.toNat len.toNat

/-- MON_CSR_READ (R447). The monitor csr r command reads a CSR through the MC path. -/
def execMonCsrRead (addr : BitVec 32) (s : State) : Result :=
  s.run fun s => s.asLeader fun s => s.monCsrRead addr.toNat

/-- MON_CSR_WRITE (R447). The monitor csr w command writes a CSR through the MC path. -/
def execMonCsrWrite (addr : BitVec 32) (v : Word) (s : State) : Result :=
  s.run fun s => s.asLeader fun s => s.monCsrWrite addr.toNat v.toNat

/-- MON_MEM_READ (R447). The monitor mem r command reads up to 4,096 bytes. -/
def execMonMemRead (addr : BitVec 48) (n : Nat) (s : State) : Result :=
  s.run fun s => s.asLeader fun s => s.monMemRead addr.toNat n

/-- MON_MEM_WRITE (R447). The monitor mem w command writes 8 bytes. -/
def execMonMemWrite (addr : BitVec 48) (value : Option Word) (s : State) : Result :=
  s.run fun s => s.asLeader fun s => s.monMemWrite addr.toNat value

/-- MON_DUMP_READ (R447). The monitor dump r command reads the dump area. -/
def execMonDumpRead (off : BitVec 30) (n : Nat) (s : State) : Result :=
  s.run fun s => s.asLeader fun s => s.monDumpRead off.toNat n

/-- MON_DUMP_EXPORT (R442). The monitor dump export command copies the dump to memory. -/
def execMonDumpExport (addr : Word) (len : Word) (s : State) : Result :=
  s.run fun s => s.asLeader fun s => s.monDumpExport addr.toNat len.toNat

/-- MON_RESET_CHIP (R477). The monitor reset chip command triggers a chip-level reset. -/
def execMonResetChip (s : State) : Result :=
  s.run fun s => s.asLeader fun s => s.monResetChip

/-- MGT_FRAME (R448). A bad monitor line or command answers ERR 4C15. -/
def execMgtFrame (s : State) : Result :=
  s.run fun s => s.asLeader fun s => s.monBadLine

/-- MONITOR_FRAME (R448). A binary frame arrives and is acknowledged A or refused N. -/
def execMonitorFrame (seq : BitVec 16) (data : Bytes) (crc : BitVec 32) (s : State) : Result :=
  s.run fun s => s.asLeader fun s => s.monFrame seq.toNat data crc.toNat

/-- FRAME_GAP_TIMEOUT (R448). A 2 s gap between frames ends the transfer with ERR 4C15. -/
def execFrameGapTimeout (s : State) : Result :=
  s.run fun s => s.frameGap

/-- UNLOCK_EXPIRY (R450). The unlock ends at the end of LIFETIME_S. -/
def execUnlockExpiry (s : State) : Result :=
  s.run fun s => s.unlockExpiry

/-- BAUD_RATE_CHANGE (R446). 10 ms after a baud command answers OK, the UART switches to the new rate and the 5 s revert watch begins. -/
def execBaudRateChange (s : State) : Result :=
  s.run fun s => s.baudChange

end Sys2Proof.Machine
end

