-- ==== Sys2Proof/Machine/PinExec.lean ====
section
/-! DEFINITION. The meanings of the commands of RESET_N and the TAP (R520 to R524). -/

namespace Sys2Proof.Machine

/-- A TAP instruction is loaded: the instruction register, whether the boundary cells drive the lands (R522). -/
def State.tapLoad (s : State) (ir : Nat) (driving : Bool) : State := { s with tap := { s.tap with ir := ir, driving := driving } }

/-- IDCODE: the register reads 0x1B00_95CD (R522, R524). -/
def State.tapIdcode (s : State) : State := (s.tapLoad 1 false).emit (.tdo 0x1B0095CD)

/-! ### The boundary register (R524) -/

/-- A cell of the boundary register: the input, output or enable of a single-ended land, the data or enable of a transmitter, or a test
receiver. -/
inductive BoundaryCell where
  | input (land : Nat)
  | output (land : Nat)
  | enable (land : Nat)
  | txData (lane : Nat)
  | txEnable (lane : Nat)
  | rx (lane : Nat)
deriving DecidableEq, Repr

/-- The cell at a bit, bit 0 nearest TDO (R524): three cells for each of the 27 single-ended lands in the order of the land table (0 to
11 xSPI, 12 and 13 UART, 14 and 15 I3C, 16 PWR_EN, 17 PWR_GOOD, 18 RESET_N, 19 ALERT_N, 20 PWR_CYCLE_REQ_N, 21 THERM_TRIP_N, 22 to 25
HOLD_N[3] to HOLD_N[0], 26 PPS_IN), then for each of the 8 Ethernet and then the 128 Salax lanes the transmitter's two cells and the
receiver's. That a lane's cells lie together, and the order within a group of lands, are read from the list (DEDUCED, log entry
164). -/
def boundaryCell (i : Nat) : BoundaryCell :=
  if i < 81 then (match i % 3 with | 0 => .input (i / 3) | 1 => .output (i / 3) | _ => .enable (i / 3))
  else (match i % 3 with | 0 => .txData ((i - 81) / 3) | 1 => .txEnable ((i - 81) / 3) | _ => .rx ((i - 81) / 3))

/-- The level of a single-ended land whose signal is the block's own state: of an input the level that it shows, of an open-drain
output false where the device sinks it (R440, R466 to R468, R249, R484, R520). -/
def State.landLevel (s : State) (land : Nat) : Option Bool :=
  match land with
  | 16 => some s.pins.pwrEn
  | 17 => some s.pins.pwrGood
  | 18 => some (!s.pins.resetLow)
  | 19 => some (decide (s.fld Reg.MGT_ALERT_VALID ≠ 1))
  | 20 => some (decide (s.fld Reg.RAS_STATE_CYCLE_REQ ≠ 1))
  | 21 => some (!s.pins.trip)
  | 22 => some (!s.portHold 3 2)
  | 23 => some (!s.portHold 2 2)
  | 24 => some (!s.portHold 1 2)
  | 25 => some (!s.portHold 0 2)
  | _ => none

/-- The open-drain output lands. -/
def openDrain (land : Nat) : Bool := decide (land = 17) || (decide (19 ≤ land) && decide (land ≤ 25))

/-- The level seen at a land, where what is outside would give `outside`: an open-drain land is low where the device, or the boundary cell
that drives it, sinks it. -/
def State.landSeen (s : State) (land : Nat) (outside : Bool) : Bool :=
  if openDrain land then
    if s.tap.ir = 7 then outside
    else if s.tap.driving then outside && !(s.tap.boundary.getLsbD (3 * land + 2) && !s.tap.boundary.getLsbD (3 * land + 1))
    else outside && (s.landLevel land).getD true
  else (s.landLevel land).getD outside

/-- What the boundary register captures: what is seen at the lands, and what the device drives on its open-drain outputs; `lands` gives
what the block's state does not hold. In which way an open-drain output's cells show it the spec does not say: the output cell gives
its level, the enable cell that it is sunk (DESIGN CHOICE, log entry 165). -/
def State.boundaryCapture (s : State) (lands : BitVec 489) : Nat :=
  ((List.range 489).map (fun i =>
    2 ^ i * b2n (match boundaryCell i with
      | .input k => s.landSeen k (lands.getLsbD i)
      | .output k => if openDrain k then (s.landLevel k).getD false else lands.getLsbD i
      | .enable k => if openDrain k then !(s.landLevel k).getD true else lands.getLsbD i
      | _ => lands.getLsbD i))).sum

/-- A scan of the boundary register: what it captures is shifted out, and what is shifted in takes its place (R522). -/
def State.boundaryScan (s : State) (lands load : BitVec 489) : State :=
  { s with tap := { s.tap with boundary := load } }.emit (.tdo (s.boundaryCapture lands))

/-- SAMPLE/PRELOAD: the boundary register is scanned, and the lands keep what they carry (R522). -/
def State.tapSample (s : State) (lands load : BitVec 489) : State := (s.tapLoad 2 false).boundaryScan lands load

/-- The one-bit bypass register, which captures 0 (R522). -/
def State.tapBypass (s : State) : State := (s.tapLoad 0xFF false).emit (.tdo 0)

/-- The five test instructions are accepted only while RESET_N is low; at any other time BYPASS stays in force and 0x000A is logged
(R523). -/
def State.tapTest (s : State) (f : State → State) : State := if s.pins.resetLow then f s else s.tapBypass.raise (site 0 0) 0x000A

/-- A free scan of the boundary register (log entry 166). -/
def freeScan (n : Nat) : BoundaryScan :=
  let bits := fun (from' : Nat) => BitVec.ofNat 489 (leNat ((List.range 62).map (fun i => Config.freeByte n (from' + i))))
  ⟨bits 0, bits 62⟩

/-- What the scan meets: the first scan that waits, a free one where none does (log entry 166). -/
def State.takeScan (s : State) : BoundaryScan × State :=
  match s.inputs.scans with
  | [] => (freeScan s.free, { s with free := s.free + 1 })
  | x :: rest => (x, { s with inputs := { s.inputs with scans := rest } })

/-- EXTEST, EXTEST_PULSE or EXTEST_TRAIN: the boundary cells drive the lands, and the boundary register is scanned (R522, R523). -/
def State.tapExtest (s : State) (ir : Nat) : State :=
  s.tapTest fun s => (s.takeScan.2.tapLoad ir true).boundaryScan s.takeScan.1.lands s.takeScan.1.load

/-- CLAMP or HIGHZ: the lands carry what the boundary cells hold, or nothing, and the bypass register is selected (R522, R523). -/
def State.tapHold (s : State) (ir : Nat) : State := s.tapTest fun s => (s.tapLoad ir (decide (ir ≠ 7))).emit (.tdo 0)

/-- An opcode of the rows above is not this command's; every other one acts as BYPASS (R522). -/
def State.tapOther (s : State) (opcode : Nat) : State := if 1 ≤ opcode ∧ opcode ≤ 7 then s else s.tapBypass

/-- RESET_N_FALL (R520). A falling RESET_N while PWR_GOOD is high is handled as a monitor chip reset, and RESET_N held low holds the boot before stage 2. -/
def execResetNFall (lowNs : Nat) (s : State) : Result := .next (s.resetFall lowNs)

/-- RESET_N_RISE (R523). A rising RESET_N forces the TAP to Test-Logic-Reset and lets the boot continue from stage 2. -/
def execResetNRise (s : State) : Result := .next (s.resetRise)

/-- JTAG_IDCODE (R524). The IDCODE instruction selects the IDCODE register 0x1B00_95CD. -/
def execJtagIdcode (s : State) : Result :=
  s.run fun s => s.tapIdcode

/-- JTAG_SAMPLE_PRELOAD (R522). The SAMPLE/PRELOAD instruction captures and loads the boundary register. -/
def execJtagSamplePreload (lands : BitVec 489) (load : BitVec 489) (s : State) : Result :=
  s.run fun s => s.tapSample lands load

/-- JTAG_EXTEST (R523). EXTEST drives the boundary cells, and is accepted only while RESET_N is low; otherwise BYPASS stays in force and 0x000A is logged. -/
def execJtagExtest (s : State) : Result :=
  s.run fun s => s.tapExtest 3

/-- JTAG_EXTEST_PULSE (R523). The 1149.6 EXTEST_PULSE instruction, accepted only while RESET_N is low. -/
def execJtagExtestPulse (s : State) : Result :=
  s.run fun s => s.tapExtest 4

/-- JTAG_EXTEST_TRAIN (R523). The 1149.6 EXTEST_TRAIN instruction, accepted only while RESET_N is low. -/
def execJtagExtestTrain (s : State) : Result :=
  s.run fun s => s.tapExtest 5

/-- JTAG_CLAMP (R523). The CLAMP instruction, accepted only while RESET_N is low. -/
def execJtagClamp (s : State) : Result :=
  s.run fun s => s.tapHold 6

/-- JTAG_HIGHZ (R523). The HIGHZ instruction, accepted only while RESET_N is low. -/
def execJtagHighz (s : State) : Result :=
  s.run fun s => s.tapHold 7

/-- JTAG_BYPASS (R522). BYPASS, or any unsupported opcode, selects the one-bit bypass register. -/
def execJtagBypass (opcode : Byte) (s : State) : Result :=
  s.run fun s => s.tapOther opcode.toNat

end Sys2Proof.Machine
end

