-- ==== Sys2Proof/Machine/PoolExec.lean ====
section
/-! DEFINITION. The meanings of the commands of pans (R234 to R238). -/

namespace Sys2Proof.Machine

/-- POOL_COMMIT (R235). A commit of a pool's descriptor registers is checked and starts the pool with every buffer free. -/
def execPoolCommit (pool : Fin 64) (s : State) : Result :=
  s.runOn (poolSite pool).die fun s => s.applyDue (fun g => decide (g = .pool pool))

/-- PAN_ALLOC (R237). A write of PAN_ALLOC allocates one buffer, writes the handle and increments COMPLETION. -/
def execPanAlloc (req : Requester) (pool : Fin 64) (v : Word) (s : State) : Result :=
  s.run fun s => s.accessWrite req (Reg.PAN_ALLOC + instDelta pool) 64 v.toNat

/-- PAN_RETAIN (R238). A write of PAN_RETAIN adds N to a buffer's reference byte. -/
def execPanRetain (req : Requester) (pool : Fin 64) (v : Word) (s : State) : Result :=
  s.run fun s => s.accessWrite req (Reg.PAN_RETAIN + instDelta pool) 64 v.toNat

/-- PAN_RELEASE (R238). A write of PAN_RELEASE subtracts one reference and frees the buffer at zero. -/
def execPanRelease (req : Requester) (pool : Fin 64) (v : Word) (s : State) : Result :=
  s.run fun s => s.accessWrite req (Reg.PAN_RELEASE + instDelta pool) 64 v.toNat

end Sys2Proof.Machine
end

