-- ==== Sys2Proof/Machine/PowerExec.lean ====
section
/-! DEFINITION. The meanings of the commands of power and thermal control (R452 to R468). -/

namespace Sys2Proof.Machine

/-- SENSOR_SAMPLE (R459). Every ms the sensor hub samples the sensors and measured power is compared. -/
def execSensorSample (vals : List (Nat × BitVec 16)) (s : State) : Result :=
  s.run fun s => (s.sensorSample vals).mirrorLog

/-- PROFILE_COMMIT (R454). A profile commit is checked and tested against the instant and 1 s limits. -/
def execProfileCommit (part : Fin 16) (sprint : Bool) (s : State) : Result :=
  s.run fun s => s.applyDue (fun g => decide (g = .profile part (b2n sprint)))

/-- BASE_W_COMMIT (R455). A commit of PWR_CTRL is tested under R454. -/
def execBaseWCommit (s : State) : Result :=
  s.run fun s => s.applyDue (fun g => decide (g = .pwrCtrl))

/-- SPRINT_COMMIT (R456). A commit of PWR_PART_CFG sets SPRINT, opening a sprint window or refused with 0x4404. -/
def execSprintCommit (part : Fin 16) (s : State) : Result :=
  s.run fun s => s.applyDue (fun g => decide (g = .pwrPart part))

/-- PWR_SPRINT_END (R456). A sprint window closes at SPRINT_MAX_MS or ledger exhaustion and logs 0x440D. -/
def execPwrSprintEnd (s : State) : Result :=
  s.run fun s => s.sprintEnd

/-- STRETCH_UPDATE (R462). Each ms the controller updates the three demands and sets the stretch factor and CCLK. -/
def execStretchUpdate (s : State) : Result :=
  s.run fun s => s.stretchUpdate

/-- FEED_FORWARD (R457). LEAD_NS before each predicted load change the sequencer sends the new value to the regulators. -/
def execFeedForward (s : State) : Result :=
  s.run fun s => s.feedForward

/-- PWR_VIN (R458). VIN out of range for 100 µs logs 0x440A. -/
def execPwrVin (mv : Nat) (ns : Nat) (s : State) : Result := .next (s.pwrVin mv ns)

/-- PWR_CORE_FAULT (R461). An unrecoverable core-die thermal or rail fault powers the core die off with 0x440B. -/
def execPwrCoreFault (rail : Bool) (s : State) : Result :=
  s.run fun s => s.coreFault rail

/-- LEDGER_WRITE (R465). The MC writes the wear-ledger count to flash each hour. -/
def execLedgerWrite (s : State) : Result :=
  s.run fun s => s.ledgerHour

/-- PWR_EN_RISE (R466). A rising PWR_EN soft-starts the regulators and raises PWR_GOOD. -/
def execPwrEnRise (inRegulation : Bool) (s : State) : Result := .next (s.pwrEnRise inRegulation)

/-- PWR_GOOD_TIMEOUT (R466). PWR_GOOD not risen by 50 ms turns every rail off. -/
def execPwrGoodTimeout (s : State) : Result := .next (s.pwrGoodTimeout)

/-- PWR_EN_FALL (R467). A falling PWR_EN commits the ledger and log and turns the rails off in order. -/
def execPwrEnFall (s : State) : Result := .next (s.pwrEnFall)

/-- VIN_LOSS (R467). VIN outside 10.4–13.8 V is handled as a falling PWR_EN without the flash commit. -/
def execVinLoss (mv : Nat) (s : State) : Result := .next (s.vinLoss mv)

/-- THERMAL_TRIP (R468). A die sensor reaching 115 °C drives THERM_TRIP_N low and turns every rail off. -/
def execThermalTrip (s : State) : Result := .next (s.thermalTrip)

end Sys2Proof.Machine
end

