-- ==== Sys2Proof/Machine/PumpExec.lean ====
section
/-! DEFINITION. The meanings of the commands of the copy pumps, their frames and requests (R79 to R110, R262 to R287). -/

namespace Sys2Proof.Machine

/-- DISPATCH (R91). A DISPATCH pump command is checked and accepted to send one frame per expert with QUOTA above zero. -/
def execDispatch (die : Fin 2) (req : Requester) (desc : Desc) (s : State) : Result :=
  s.runOn (9 + die) fun s => if pumpOp desc = 0x20 then s.pumpArrive die req desc else s

/-- RETURN (R91). A RETURN pump command is checked and accepted to send one return frame per transfer-table entry, or completes at once when COUNT is 0. -/
def execReturn (die : Fin 2) (req : Requester) (desc : Desc) (s : State) : Result :=
  s.runOn (9 + die) fun s => if pumpOp desc = 0x21 then s.pumpArrive die req desc else s

/-- LOCAL_FRAME_MOVE (R89). A LOCAL frame moves over the mesh once the previous LOCAL frame of its command has landed. -/
def execLocalFrameMove (die : Fin 2) (s : State) : Result :=
  s.runOn (9 + die) fun s => s.localFrameMove die

/-- FRAME_LANDING (R94). An arriving frame is checked, written to its destinations good or void, and increments its destination counter. -/
def execFrameLanding (die : Fin 2) (frame : Frame) (s : State) : Result :=
  s.runOn (9 + die) fun s => s.takeFrame die frame

/-- PUMP_COMPLETION (R93). A dispatch or return command completes once every frame's landing is acknowledged or refused. -/
def execPumpCompletion (die : Fin 2) (s : State) : Result :=
  s.runOn (9 + die) fun s => s.pumpCompletionStep die

/-- COPY (R268). A COPY pump command is checked and split into requests that move LENGTH bytes. -/
def execCopy (die : Fin 2) (req : Requester) (desc : Desc) (s : State) : Result :=
  s.runOn (9 + die) fun s => if pumpOp desc = 0x22 then s.pumpArrive die req desc else s

/-- PUT_REDUCE (R268). A PUT_REDUCE command applies local lines to DST as REDUCE requests. -/
def execPutReduce (die : Fin 2) (req : Requester) (desc : Desc) (s : State) : Result :=
  s.runOn (9 + die) fun s => if pumpOp desc = 0x23 then s.pumpArrive die req desc else s

/-- ATOMIC (R270). An ATOMIC pump command performs one atomic and writes the old value to RESULT. -/
def execAtomic (die : Fin 2) (req : Requester) (desc : Desc) (s : State) : Result :=
  s.runOn (9 + die) fun s => if pumpOp desc = 0x24 then s.pumpArrive die req desc else s

/-- FENCE (R276). A FENCE holds the sequencer's later commands until its earlier requests are acknowledged. -/
def execFence (die : Fin 2) (req : Requester) (desc : Desc) (s : State) : Result :=
  s.runOn (9 + die) fun s => if pumpOp desc = 0x25 then s.pumpArrive die req desc else s

/-- CNT_CLEAR (R274). A CNT_CLEAR command clears ERR of a local counter and increments COMPLETION. -/
def execCntClear (die : Fin 2) (req : Requester) (desc : Desc) (s : State) : Result :=
  s.runOn (9 + die) fun s => if pumpOp desc = 0x26 then s.pumpArrive die req desc else s

/-- MEM_RAKE (R282). A MEM_RAKE command writes one source range into the store of every selected core. -/
def execMemRake (die : Fin 2) (req : Requester) (desc : Desc) (s : State) : Result :=
  s.runOn (9 + die) fun s => if pumpOp desc = 0x27 then s.pumpArrive die req desc else s

end Sys2Proof.Machine
end

