-- ==== Sys2Proof/Machine/QueueExec.lean ====
section
/-! DEFINITION. The meanings of the commands of queues (R239 to R251). -/

namespace Sys2Proof.Machine

/-- A queue becomes stale: it fires, and its owner's context is torn down (R247, R477). -/
def State.queueStale (s : State) (q : Nat) : State :=
  if !s.queStaleDue q then s
  else
    let s := s.queStaleFire q
    if s.fld Reg.QUE_NOTIFY_OWNER_EN (queueDelta q) = 1 then
      s.escalateContext (s.fld Reg.QUE_NOTIFY_OWNER (queueDelta q)) 0x2404 (queueSite q)
    else s

/-- The commit group of a queue (R250). -/
def queueGroup : QueueGroup → Nat → Group
  | .cfg, q => .queCfg q
  | .wm, q => .queWm q
  | .notify, q => .queNotify q

/-- PACKET_ENQUEUE (R241). A packet arriving at a queue enters whole or is refused, and may move the queue into hold. -/
def execPacketEnqueue (queue : Fin 4096) (source : BitVec 3) (tag : BitVec 40) (payload : StoredPayload) (s : State) : Result :=
  s.runOn (queueSite queue).die fun s => (s.enqueue queue ⟨source.toNat, tag.toNat, payload.bytes, payload.bad⟩).2

/-- QUE_POP (R242). A write of QUE_POP copies the next part of the head packet and writes the pop record. -/
def execQuePop (req : Requester) (queue : Fin 4096) (v : Word) (parity : QueueParity) (s : State) : Result :=
  s.run fun s => s.accessWrite req (Reg.QUE_POP + queueDelta queue) 64 v.toNat parity

/-- QUE_DROP (R244). A write of QUE_DROP removes the current or head packet. -/
def execQueDrop (req : Requester) (queue : Fin 4096) (v : Word) (s : State) : Result :=
  s.run fun s => s.accessWrite req (Reg.QUE_DROP + queueDelta queue) 64 v.toNat

/-- QUE_STALE (R247). A TC2 queue non-empty and unread for STALE_US fires, may fault its owner context. -/
def execQueStale (queue : Fin 4096) (s : State) : Result :=
  s.runOn (queueSite queue).die fun s => s.queueStale queue

/-- QUEUE_COMMIT (R250). A commit of QUE_CFG, QUE_WM or QUE_NOTIFY is checked and applied. -/
def execQueueCommit (queue : Fin 4096) (group : QueueGroup) (s : State) : Result :=
  s.runOn (queueSite queue).die fun s => s.applyDue (fun g => decide (g = queueGroup group queue))

end Sys2Proof.Machine
end

