-- ==== Sys2Proof/Machine/RasExec.lean ====
section
/-! DEFINITION. The meanings of the commands of the escalation ladder (R473 to R488). -/

namespace Sys2Proof.Machine

/-- ENGINE_WATCHDOG (R474). An engine command without progress for ENGINE_WD_MS triggers engine level with 0x540B. -/
def execEngineWatchdog (cls : BitVec 6) (inst : BitVec 10) (s : State) : Result :=
  s.run fun s => s.engineWatchdog cls.toNat inst.toNat

/-- ENGINE_RESET (R479). An engine-level reset ends every command of one engine instance with 0x5402. -/
def execEngineReset (cls : BitVec 6) (inst : BitVec 10) (s : State) : Result :=
  s.run fun s => s.engineReset cls.toNat inst.toNat

/-- PARTITION_RESET (R480). A partition-level reset tears down its contexts, resets its core engines and moves it OFF. -/
def execPartitionReset (part : Fin 16) (s : State) : Result :=
  s.run fun s => s.partitionReset part

/-- CHIP_RESET (R481). A chip-level reset puts channels in self-refresh, resets every die and runs a warm boot. -/
def execChipReset (s : State) : Result :=
  s.run fun s => s.chipReset

/-- ESCALATION_TIMEOUT (R478). A level exceeding its bound escalates to the next level with 0x5410. -/
def execEscalationTimeout (s : State) : Result :=
  s.run fun s => s.escalationTimeout

/-- CHIP_WINDOW_EXPIRY (R483). CHIP_WINDOW_S in RUNNING without a trigger returns CHIP_FAILS to 0. -/
def execChipWindowExpiry (s : State) : Result :=
  s.run fun s => s.chipWindowExpiry

/-- PWR_CYCLE_REQ (R484). At power-cycle level the MC writes the dump and drives PWR_CYCLE_REQ_N low. -/
def execPwrCycleReq (s : State) : Result :=
  s.run fun s => s.pwrCycleReq

/-- MC_WATCHDOG (R485). The LD0 watchdog expires after 1 s and drives PWR_CYCLE_REQ_N low. -/
def execMcWatchdog (s : State) : Result :=
  s.run fun s => s.mcWatchdog

/-- FALLOW_ENTRY (R486). Entering fallow mode captures, dumps and powers the core die off. -/
def execFallowEntry (s : State) : Result :=
  s.run fun s => s.fallowEntry

/-- ESCALATE_CONTEXT (R477). A RAS_ESCALATE write with LEVEL 1 tears down a context. -/
def execEscalateContext (req : Requester) (ctx : BitVec 16) (s : State) : Result :=
  s.run fun s => s.accessWrite req Reg.RAS_ESCALATE 64 (1 + ctx.toNat * 1024)

/-- ESCALATE_ENGINE (R477). A RAS_ESCALATE write with LEVEL 2 resets an engine instance. -/
def execEscalateEngine (req : Requester) (cls : BitVec 6) (inst : BitVec 16) (s : State) : Result :=
  s.run fun s => s.accessWrite req Reg.RAS_ESCALATE 64 (2 + cls.toNat * 16 + inst.toNat * 1024)

/-- ESCALATE_PARTITION (R477). A RAS_ESCALATE write with LEVEL 3 resets a partition. -/
def execEscalatePartition (req : Requester) (part : BitVec 16) (s : State) : Result :=
  s.run fun s => s.accessWrite req Reg.RAS_ESCALATE 64 (3 + part.toNat * 1024)

/-- ESCALATE_CHIP (R477). A RAS_ESCALATE write with LEVEL 4 triggers a chip-level reset. -/
def execEscalateChip (req : Requester) (s : State) : Result :=
  s.run fun s => s.accessWrite req Reg.RAS_ESCALATE 64 4

/-- ESCALATE_POWER_CYCLE (R477). A RAS_ESCALATE write with LEVEL 6 requests a power cycle. -/
def execEscalatePowerCycle (req : Requester) (s : State) : Result :=
  s.run fun s => s.accessWrite req Reg.RAS_ESCALATE 64 6

end Sys2Proof.Machine
end

