-- ==== Sys2Proof/Machine/RouteExec.lean ====
section
/-! DEFINITION. The meanings of the commands of routes, the sluice, ranks and the gang (R308 to R321). -/

namespace Sys2Proof.Machine

/-- SWITCH_OVER (R308). A write of a new INJECT_EPOCH switches the routing bank of newly injected packets. -/
def execSwitchOver (req : Requester) (v : Word) (s : State) : Result :=
  s.run fun s => s.accessWrite req Reg.FAB_RT_CTRL 64 v.toNat

/-- FAB_RT_DATA_WRITE (R309). A write of FAB_RT_DATA sets a route entry, refused with 0x3103 in a bank in use. -/
def execFabRtDataWrite (req : Requester) (v : Word) (s : State) : Result :=
  s.run fun s => s.accessWrite req Reg.FAB_RT_DATA 64 v.toNat

/-- FAB_SLUICE_WRITE (R313). A write of a sluice register, refused with 0x3104 after the lock. -/
def execFabSluiceWrite (req : Requester) (which : Fin 3) (v : Word) (s : State) : Result :=
  s.run fun s => s.accessWrite req (Reg.FAB_SLUICE_CFG + 8 * which.val) 64 v.toNat

/-- RANK_WINDOW_COMMIT (R317). A commit of a partition's rank window is checked and applied. -/
def execRankWindowCommit (part : Fin 16) (s : State) : Result :=
  s.runOn 9 fun s => s.applyDue (fun g => decide (g = .rank part))

/-- FAB_GANG_WRITE (R321). A write of FAB_GANG configures gang mode, refused with 0x310A when illegal. -/
def execFabGangWrite (req : Requester) (v : Word) (s : State) : Result :=
  s.run fun s => s.accessWrite req Reg.FAB_GANG 64 v.toNat

end Sys2Proof.Machine
end

