-- ==== Sys2Proof/Machine/RouterExec.lean ====
section
/-! DEFINITION. The meanings of the commands of the Octine routers (R40 to R78). -/

namespace Sys2Proof.Machine

/-- The commands that reach the routers in one cycle (R44, R46): those of torn-down contexts complete at once, the others
are arbitrated. -/
def State.routersArrive (s : State) (cmds : List Issue) : State :=
  let mine := cmds.filter (fun x => s.coreEnabled x.core)
  let gone := mine.filter (fun x => s.coreTorn x.core)
  let s := gone.foldl (fun s x => s.deliver x.core x.desc .router) s
  s.routerArbitrate ((mine.filter (fun x => !s.coreTorn x.core)).map (fun x => (x.core.val, x.desc)))

/-- ROUTE (R76). The commands that reach one router in one cycle are arbitrated and checked, and each is either refused on its completion counter or accepted to start its window. -/
def execRoute (router : Fin 4) (cmds : List Issue) (s : State) : Result :=
  s.runCore fun s => s.routersArrive (cmds.filter (fun x => (routersOf x.desc).contains router.val))

/-- RECALL (R70). A RECALL descriptor is arbitrated with the other commands that the routers of its group get in the same cycle, checked, and either refused or accepted to start one recall window on its group. -/
def execRecall (cmds : List Issue) (s : State) : Result :=
  s.runCore fun s => if cmds.any (fun x => decide (descFld x.desc 0 0 8 = 2)) then s.routersArrive cmds else s

/-- PUSHED_TILE (R54). A pushed score tile arriving at a router is checked in order and taken into selection or discarded. -/
def execPushedTile (router : Fin 4) (tile : Bytes) (s : State) : Result :=
  s.runCore fun s => s.pushTile router tile

/-- LOGIT_PULL_RETURN (R55). A pulled 64-byte line of scores or bias returns to the router and its scores are taken, or made absent when poisoned. -/
def execLogitPullReturn (router : Fin 4) (line : BitVec 48) (s : State) : Result :=
  s.runCore fun s => s.pullReturn router line.toNat

/-- SELECT_END (R58). At the fixed end of the select phase the router forms each token's candidate list and counts NaN and absent scores. -/
def execSelectEnd (router : Fin 4) (reads : StoreReads) (s : State) : Result :=
  s.runCore fun s => s.selectEnd router reads

/-- MATCHING_ROUND (R61). At the fixed start of round r every token with free seats proposes and every expert keeps its best proposals. -/
def execMatchingRound (router : Fin 4) (reads : StoreReads) (s : State) : Result :=
  s.runCore fun s => s.matchingRound router reads

/-- PUBLISH_START (R68). At WINDOW_CYCLES minus T_publish the router starts writing the seat table, held-slot table and summaries. -/
def execPublishStart (router : Fin 4) (reads : StoreReads) (refused : Bool) (s : State) : Result :=
  s.runCore fun s => s.publishStart router reads refused

/-- WINDOW_END (R41). In the last cycle of a window the router increments the completion counter and becomes idle. -/
def execWindowEnd (router : Fin 4) (reads : StoreReads) (acked : Bool) (s : State) : Result :=
  s.runCore fun s => s.windowEnd router reads acked

/-- PUBLISH_LATE (R43). A published write acknowledged after the window end increments the counter then and logs 0x1415. -/
def execPublishLate (router : Fin 4) (s : State) : Result :=
  s.runCore fun s => s.publishLate router

end Sys2Proof.Machine
end

