-- ==== Sys2Proof/Machine/SchedExec.lean ====
section
/-! DEFINITION. The meanings of the commands of partitions, contexts, schedules and commits (R357 to R387). -/

namespace Sys2Proof.Machine

/-- PARTITION_COMMIT (R358). A commit of a partition group is checked and enables, disables or changes the partition. -/
def execPartitionCommit (part : Fin 16) (s : State) : Result :=
  s.runCore fun s => s.applyDue (fun g => decide (g = .partition part))

/-- SCH_PART_STOP (R359). A write of SCH_PART_STOP stops the partition at the next frame boundary. -/
def execSchPartStop (req : Requester) (part : Fin 16) (v : Word) (s : State) : Result :=
  s.run fun s => s.accessWrite req (Reg.SCH_PART_STOP + instDelta part) 64 v.toNat

/-- SCH_PART_STEP_WRITE (R359). A write of the step counter, refused with 0x3810 while ARMED or RUNNING. -/
def execSchPartStepWrite (req : Requester) (part : Fin 16) (v : Word) (s : State) : Result :=
  s.run fun s => s.accessWrite req (Reg.SCH_PART_STEP + instDelta part) 64 v.toNat

/-- FRAME_START (R370). At each frame start a running partition starts its entries, or skips the frame while a barrier is pending. -/
def execFrameStart (part : Fin 16) (s : State) : Result :=
  s.runCore fun s => s.frameStart part

/-- SLOT_RUN (R368). A RUN entry's slot start sets the context pointer and starts the program on every core of its mask. -/
def execSlotRun (part : Fin 16) (s : State) : Result :=
  s.runCore fun s => s.slotRun part

/-- SLOT_TAKE (R377). A TAKE entry copies ready ring entries to LAND, advances T and increments COUNTER. -/
def execSlotTake (part : Fin 16) (s : State) : Result :=
  s.runCore fun s => s.slotTake part

/-- TABLE_COMMIT (R365). A commit of the schedule table group is checked and swapped in at the safe point. -/
def execTableCommit (part : Fin 16) (s : State) : Result :=
  s.runCore fun s => s.applyDue (fun g => decide (g = .table part))

/-- CONTEXT_COMMIT (R362). A commit of a context descriptor makes a FREE context ACTIVE or changes mutable fields. -/
def execContextCommit (ctx : Fin 16384) (s : State) : Result :=
  s.runCore fun s => s.applyDue (fun g => decide (g = .context ctx))

/-- CTX_TEARDOWN (R385). A teardown puts a context in TEARDOWN, advances its regions, closes its queues and stops its engines. -/
def execCtxTeardown (req : Requester) (ctx : Fin 16384) (v : Word) (s : State) : Result :=
  s.run fun s => s.accessWrite req (Reg.CTX_TEARDOWN + ctxDelta ctx) 64 v.toNat

/-- CONTEXT_QUARANTINE (R386). When every engine has completed the context's commands it enters QUARANTINE. -/
def execContextQuarantine (ctx : Fin 16384) (s : State) : Result :=
  s.runCore fun s => s.quarantine ctx

/-- CTX_TEARDOWN_SLOW (R386). A teardown not in QUARANTINE within 20 µs logs 0x3C06 and escalates to engine level. -/
def execCtxTeardownSlow (ctx : Fin 16384) (s : State) : Result :=
  s.runCore fun s => s.teardownSlow ctx

/-- CONTEXT_FREE (R387). A quarantined context becomes FREE 8,388,480 ns after teardown. -/
def execContextFree (ctx : Fin 16384) (s : State) : Result :=
  s.runCore fun s => s.ctxFree ctx

/-- RING_COMMIT (R375). A commit of an input ring group is checked and resets its heads. -/
def execRingCommit (part : Fin 16) (ring : Fin 16) (s : State) : Result :=
  s.runCore fun s => s.applyDue (fun g => decide (g = .ring part ring))

/-- COMMIT (R380). A SCH_COMMIT with AT_STEP = 0 schedules a group to apply at its block's next safe point. -/
def execCommit (req : Requester) (part : Fin 16) (addr : BitVec 32) (s : State) : Result :=
  s.run fun s => s.accessWrite req (Reg.SCH_COMMIT + instDelta part) 64 addr.toNat

/-- COMMIT_AT_STEP (R380). A SCH_COMMIT with AT_STEP = 1 holds a group pending until the partition reaches the named step. -/
def execCommitAtStep (req : Requester) (part : Fin 16) (addr : BitVec 32) (s : State) : Result :=
  s.run fun s => s.accessWrite req (Reg.SCH_COMMIT + instDelta part) 64 (addr.toNat + 0x100000000)

/-- COMMIT_CANCEL (R381). A SCH_COMMIT with CANCEL = 1 removes a pending commit. -/
def execCommitCancel (req : Requester) (part : Fin 16) (addr : BitVec 32) (s : State) : Result :=
  s.run fun s => s.accessWrite req (Reg.SCH_COMMIT + instDelta part) 64 (addr.toNat + 0x200000000)

/-- COMMIT_APPLY (R382). At the safe point the staged values are checked and applied, or refused with the block's code. -/
def execCommitApply (s : State) : Result :=
  s.run fun s => s.commitApply

end Sys2Proof.Machine
end

