-- ==== Sys2Proof/Machine/Insn.lean ====
section
/-! DEFINITION. The core sequencer's instruction set: the instructions, the 32-bit words that stand for them, and their
decoding with the checks of R182 to R187, R192 to R201. -/

namespace Sys2Proof.Machine

/-- The operations on two registers (opcodes 0x01 to 0x06). -/
inductive Alu where
  | add | sub | mul | and | or | xor
deriving DecidableEq, Repr

/-- The shifts (opcodes 0x07 to 0x09). -/
inductive Shift where
  | shl | shr | sar
deriving DecidableEq, Repr

/-- The shift count: rb[5:0], or sub[5:0] (R185). -/
inductive Count where
  | reg (rb : BitVec 5)
  | imm (n : BitVec 6)
deriving DecidableEq, Repr

/-- The operations on a register and imm12 (opcodes 0x0A to 0x0C). -/
inductive AluI where
  | addi | andi | ori
deriving DecidableEq, Repr

/-- The conditions of CMP, CMPI (0 to 5: EQ, NE, LT, GE, LTU, GEU) and FCMP (LT, LE, EQ, NE, GE, GT) (R186). -/
inductive Cond where
  | c0 | c1 | c2 | c3 | c4 | c5
deriving DecidableEq, Repr

/-- The functions of PLOG (R186). -/
inductive PFunc where
  | and | or | xor | andn
deriving DecidableEq, Repr

/-- The fields of a summary slot that RSUM reads (R200). -/
inductive SumField where
  | max | sum | nan | over | status
deriving DecidableEq, Repr

/-- The special values that RDS reads (R201). -/
inductive Special where
  | core | partition | context | step | time | slotStart | nextSlot | arg | entry
deriving DecidableEq, Repr

/-- What an instruction does, without its guard. Register fields are the numbers of s0 to s31, predicate fields those of
p0 to p7. -/
inductive Act where
  | alu (k : Alu) (rd ra rb : BitVec 5)
  | shift (k : Shift) (rd ra : BitVec 5) (n : Count)
  | aluI (k : AluI) (rd ra : BitVec 5) (imm : BitVec 12)
  | li (rd : BitVec 5) (imm : BitVec 17)
  | lsh (rd : BitVec 5) (imm : BitVec 16)
  | cmp (pd : BitVec 3) (c : Cond) (ra rb : BitVec 5)
  | cmpi (pd : BitVec 3) (c : Cond) (ra : BitVec 5) (imm : BitVec 11)
  | fcmp (pd : BitVec 3) (c : Cond) (ra rb : BitVec 5)
  | plog (pd : BitVec 3) (f : PFunc) (pa pb : BitVec 3)
  | rdp (rd : BitVec 5)
  | wrp (ra : BitVec 5)
  | b (off : BitVec 22)
  | call (off : BitVec 22)
  | jr (ra : BitVec 5)
  | endProgram
  | fault (code : BitVec 8)
  | ld (rd ra : BitVec 5) (imm : BitVec 12)
  | ldw (rd ra : BitVec 5) (imm : BitVec 12)
  | st (rd ra : BitVec 5) (imm : BitVec 12)
  | stw (rd ra : BitVec 5) (imm : BitVec 12)
  | rsum (rd : BitVec 5) (slot : BitVec 3) (f : SumField)
  | rds (rd : BitVec 5) (v : Special)
  | issue (target : BitVec 4) (ra : BitVec 5)
  | issueNowait (target : BitVec 4) (ra : BitVec 5) (pd : BitVec 3)
  | wait (rd ra rb : BitVec 5)
  | waitt (ra : BitVec 5)
  | sig (ra : BitVec 5)
  | rdc (rd ra : BitVec 5)
deriving DecidableEq, Repr

/-- An instruction: its guard bits and what it does (R182). -/
structure Insn where
  gn : Bool
  pg : BitVec 3
  act : Act
deriving DecidableEq, Repr

/-- A guard of GN = 1 with PG = 0 is illegal (R182). -/
def Insn.wf (i : Insn) : Bool := !(i.gn && decide (i.pg = 0))

/-! ### The field codes -/

def Alu.code : Alu → BitVec 6 | .add => 0x01 | .sub => 0x02 | .mul => 0x03 | .and => 0x04 | .or => 0x05 | .xor => 0x06
def Shift.code : Shift → BitVec 6 | .shl => 0x07 | .shr => 0x08 | .sar => 0x09
def AluI.code : AluI → BitVec 6 | .addi => 0x0A | .andi => 0x0B | .ori => 0x0C
def Cond.code : Cond → BitVec 3 | .c0 => 0 | .c1 => 1 | .c2 => 2 | .c3 => 3 | .c4 => 4 | .c5 => 5
def PFunc.code : PFunc → BitVec 2 | .and => 0 | .or => 1 | .xor => 2 | .andn => 3
def SumField.code : SumField → BitVec 3 | .max => 0 | .sum => 1 | .nan => 2 | .over => 3 | .status => 4
def Special.code : Special → BitVec 7
  | .core => 0 | .partition => 1 | .context => 2 | .step => 3 | .time => 4 | .slotStart => 5 | .nextSlot => 6 | .arg => 7
  | .entry => 8

def condOf (c : BitVec 3) : Option Cond :=
  match c.toNat with
  | 0 => some .c0 | 1 => some .c1 | 2 => some .c2 | 3 => some .c3 | 4 => some .c4 | 5 => some .c5 | _ => none

def pfuncOf (c : BitVec 2) : PFunc :=
  match c.toNat with
  | 0 => .and | 1 => .or | 2 => .xor | _ => .andn

def sumFieldOf (c : BitVec 3) : Option SumField :=
  match c.toNat with
  | 0 => some .max | 1 => some .sum | 2 => some .nan | 3 => some .over | 4 => some .status | _ => none

def specialOf (c : BitVec 7) : Option Special :=
  match c.toNat with
  | 0 => some .core | 1 => some .partition | 2 => some .context | 3 => some .step | 4 => some .time | 5 => some .slotStart
  | 6 => some .nextSlot | 7 => some .arg | 8 => some .entry | _ => none

/-! ### Encoding, from the format table -/

/-- Bits [31:4] in format R. -/
def fmtR (op : BitVec 6) (rd ra rb : BitVec 5) (sub : BitVec 7) : BitVec 28 := op ++ rd ++ ra ++ rb ++ sub

/-- Bits [31:4] in format I. -/
def fmtI (op : BitVec 6) (rd ra : BitVec 5) (imm : BitVec 12) : BitVec 28 := op ++ rd ++ ra ++ imm

/-- Bits [31:4] in format W. -/
def fmtW (op : BitVec 6) (rd : BitVec 5) (imm : BitVec 17) : BitVec 28 := op ++ rd ++ imm

/-- Bits [31:4] in format J. -/
def fmtJ (op : BitVec 6) (off : BitVec 22) : BitVec 28 := op ++ off

/-- Bits [31:4] in format C. -/
def fmtC (op : BitVec 6) (pd cond : BitVec 3) (ra : BitVec 5) (imm : BitVec 11) : BitVec 28 := op ++ pd ++ cond ++ ra ++ imm

/-- A predicate number in a 5-bit field, bits [4:3] zero (R186). -/
def pField (p : BitVec 3) : BitVec 5 := (0 : BitVec 2) ++ p

/-- Bits [31:4] of an instruction. -/
def Act.encode : Act → BitVec 28
  | .alu k rd ra rb => fmtR k.code rd ra rb 0
  | .shift k rd ra (.reg rb) => fmtR k.code rd ra rb 0
  | .shift k rd ra (.imm n) => fmtR k.code rd ra 0 ((1 : BitVec 1) ++ n)
  | .aluI k rd ra imm => fmtI k.code rd ra imm
  | .li rd imm => fmtW 0x0D rd imm
  | .lsh rd imm => fmtW 0x0E rd ((0 : BitVec 1) ++ imm)
  | .cmp pd c ra rb => fmtR 0x10 (pField pd) ra rb ((0 : BitVec 4) ++ c.code)
  | .cmpi pd c ra imm => fmtC 0x11 pd c.code ra imm
  | .fcmp pd c ra rb => fmtR 0x12 (pField pd) ra rb ((0 : BitVec 4) ++ c.code)
  | .plog pd f pa pb => fmtR 0x13 (pField pd) (pField pa) (pField pb) ((0 : BitVec 5) ++ f.code)
  | .rdp rd => fmtR 0x14 rd 0 0 0
  | .wrp ra => fmtR 0x15 0 ra 0 0
  | .b off => fmtJ 0x18 off
  | .call off => fmtJ 0x19 off
  | .jr ra => fmtR 0x1A 0 ra 0 0
  | .endProgram => fmtJ 0x1B 0
  | .fault code => fmtI 0x1C 0 0 ((0 : BitVec 4) ++ code)
  | .ld rd ra imm => fmtI 0x20 rd ra imm
  | .ldw rd ra imm => fmtI 0x21 rd ra imm
  | .st rd ra imm => fmtI 0x22 rd ra imm
  | .stw rd ra imm => fmtI 0x23 rd ra imm
  | .rsum rd slot f => fmtR 0x28 rd 0 0 ((0 : BitVec 1) ++ f.code ++ slot)
  | .rds rd v => fmtR 0x29 rd 0 0 v.code
  | .issue target ra => fmtR 0x30 0 ra 0 ((0 : BitVec 3) ++ target)
  | .issueNowait target ra pd => fmtR 0x30 (pField pd) ra 0 ((1 : BitVec 3) ++ target)
  | .wait rd ra rb => fmtR 0x31 rd ra rb 0
  | .waitt ra => fmtR 0x32 0 ra 0 0
  | .sig ra => fmtR 0x33 0 ra 0 0
  | .rdc rd ra => fmtR 0x34 rd ra 0 0

/-- The word of an instruction. -/
def Insn.encode (i : Insn) : BitVec 32 := i.act.encode ++ BitVec.ofBool i.gn ++ i.pg

/-! ### Decoding -/

/-- The opcodes of the instruction table. -/
def opcodes : List Nat :=
  [0x01, 0x02, 0x03, 0x04, 0x05, 0x06, 0x07, 0x08, 0x09, 0x0A, 0x0B, 0x0C, 0x0D, 0x0E, 0x10, 0x11, 0x12, 0x13, 0x14, 0x15,
   0x18, 0x19, 0x1A, 0x1B, 0x1C, 0x20, 0x21, 0x22, 0x23, 0x28, 0x29, 0x30, 0x31, 0x32, 0x33, 0x34]

/-- The fields of a word by the format table. -/
def wOp (w : BitVec 32) : BitVec 6 := w.extractLsb' 26 6
def wRd (w : BitVec 32) : BitVec 5 := w.extractLsb' 21 5
def wRa (w : BitVec 32) : BitVec 5 := w.extractLsb' 16 5
def wRb (w : BitVec 32) : BitVec 5 := w.extractLsb' 11 5
def wSub (w : BitVec 32) : BitVec 7 := w.extractLsb' 4 7
def wImm12 (w : BitVec 32) : BitVec 12 := w.extractLsb' 4 12
def wImm17 (w : BitVec 32) : BitVec 17 := w.extractLsb' 4 17
def wOff22 (w : BitVec 32) : BitVec 22 := w.extractLsb' 4 22
def wImm11 (w : BitVec 32) : BitVec 11 := w.extractLsb' 4 11

/-- Something only if a check holds. -/
def guardOpt {α : Type} (b : Bool) (x : Option α) : Option α := if b then x else none

/-- Whether a 5-bit predicate field has bits [4:3] clear; its predicate. -/
def pOk (r : BitVec 5) : Bool := decide (r.extractLsb' 3 2 = 0)
def pOf (r : BitVec 5) : BitVec 3 := r.extractLsb' 0 3

/-- A two-register operation: sub must be zero. -/
def decAlu (k : Alu) (w : BitVec 32) : Option Act := guardOpt (decide (wSub w = 0)) (some (.alu k (wRd w) (wRa w) (wRb w)))

/-- A shift by rb[5:0] or by sub[5:0] (R185). -/
def decShift (k : Shift) (w : BitVec 32) : Option Act :=
  if (wSub w).getLsbD 6 then guardOpt (decide (wRb w = 0)) (some (.shift k (wRd w) (wRa w) (.imm ((wSub w).extractLsb' 0 6))))
  else guardOpt (decide (wSub w = 0)) (some (.shift k (wRd w) (wRa w) (.reg (wRb w))))

/-- A comparison into a predicate (R186). -/
def decCmp (mk : BitVec 3 → Cond → BitVec 5 → BitVec 5 → Act) (w : BitVec 32) : Option Act :=
  guardOpt (pOk (wRd w) && decide ((wSub w).extractLsb' 3 4 = 0))
    ((condOf ((wSub w).extractLsb' 0 3)).map (fun c => mk (pOf (wRd w)) c (wRa w) (wRb w)))

/-- What a word's bits [31:4] mean; none if a field check fails or the opcode is not listed (R184). -/
def decodeAct (w : BitVec 32) : Option Act :=
  let rd0 := decide (wRd w = 0)
  let ra0 := decide (wRa w = 0)
  let rb0 := decide (wRb w = 0)
  let sub0 := decide (wSub w = 0)
  match (wOp w).toNat with
  | 0x01 => decAlu .add w
  | 0x02 => decAlu .sub w
  | 0x03 => decAlu .mul w
  | 0x04 => decAlu .and w
  | 0x05 => decAlu .or w
  | 0x06 => decAlu .xor w
  | 0x07 => decShift .shl w
  | 0x08 => decShift .shr w
  | 0x09 => decShift .sar w
  | 0x0A => some (.aluI .addi (wRd w) (wRa w) (wImm12 w))
  | 0x0B => some (.aluI .andi (wRd w) (wRa w) (wImm12 w))
  | 0x0C => some (.aluI .ori (wRd w) (wRa w) (wImm12 w))
  | 0x0D => some (.li (wRd w) (wImm17 w))
  | 0x0E => guardOpt (!(wImm17 w).getLsbD 16) (some (.lsh (wRd w) ((wImm17 w).extractLsb' 0 16)))
  | 0x10 => decCmp .cmp w
  | 0x11 => (condOf (w.extractLsb' 20 3)).map (fun c => .cmpi (w.extractLsb' 23 3) c (w.extractLsb' 15 5) (wImm11 w))
  | 0x12 => decCmp .fcmp w
  | 0x13 => guardOpt (pOk (wRd w) && pOk (wRa w) && pOk (wRb w) && decide ((wSub w).extractLsb' 2 5 = 0))
      (some (.plog (pOf (wRd w)) (pfuncOf ((wSub w).extractLsb' 0 2)) (pOf (wRa w)) (pOf (wRb w))))
  | 0x14 => guardOpt (ra0 && rb0 && sub0) (some (.rdp (wRd w)))
  | 0x15 => guardOpt (rd0 && rb0 && sub0) (some (.wrp (wRa w)))
  | 0x18 => some (.b (wOff22 w))
  | 0x19 => some (.call (wOff22 w))
  | 0x1A => guardOpt (rd0 && rb0 && sub0) (some (.jr (wRa w)))
  | 0x1B => guardOpt (decide (wOff22 w = 0)) (some .endProgram)
  | 0x1C => guardOpt (rd0 && ra0 && decide ((wImm12 w).extractLsb' 8 4 = 0)) (some (.fault ((wImm12 w).extractLsb' 0 8)))
  | 0x20 => some (.ld (wRd w) (wRa w) (wImm12 w))
  | 0x21 => some (.ldw (wRd w) (wRa w) (wImm12 w))
  | 0x22 => some (.st (wRd w) (wRa w) (wImm12 w))
  | 0x23 => some (.stw (wRd w) (wRa w) (wImm12 w))
  | 0x28 => guardOpt (ra0 && rb0 && !(wSub w).getLsbD 6)
      ((sumFieldOf ((wSub w).extractLsb' 3 3)).map (fun f => .rsum (wRd w) ((wSub w).extractLsb' 0 3) f))
  | 0x29 => guardOpt (ra0 && rb0) ((specialOf (wSub w)).map (fun v => .rds (wRd w) v))
  | 0x30 => guardOpt (rb0 && decide ((wSub w).extractLsb' 5 2 = 0))
      (if (wSub w).getLsbD 4 then guardOpt (pOk (wRd w)) (some (.issueNowait ((wSub w).extractLsb' 0 4) (wRa w) (pOf (wRd w))))
       else guardOpt rd0 (some (.issue ((wSub w).extractLsb' 0 4) (wRa w))))
  | 0x31 => guardOpt sub0 (some (.wait (wRd w) (wRa w) (wRb w)))
  | 0x32 => guardOpt (rd0 && rb0 && sub0) (some (.waitt (wRa w)))
  | 0x33 => guardOpt (rd0 && rb0 && sub0) (some (.sig (wRa w)))
  | 0x34 => guardOpt (rb0 && sub0) (some (.rdc (wRd w) (wRa w)))
  | _ => none

/-- The instruction of a word, none where it is illegal (R182, R184). -/
def decodeInsn (w : BitVec 32) : Option Insn :=
  let gn := w.getLsbD 3
  let pg := w.extractLsb' 0 3
  guardOpt (!(gn && decide (pg = 0))) ((decodeAct w).map (fun a => ⟨gn, pg, a⟩))

/-- The fault code of an illegal word (R184). -/
def insnCode (w : BitVec 32) : Nat := if opcodes.contains (wOp w).toNat then 0x1002 else 0x1001

end Sys2Proof.Machine
end

