-- ==== Sys2Proof/Machine/SeqStep.lean ====
section
/-! DEFINITION. One step of a core sequencer: fetch under SECDED, guard, the meaning of each instruction, retirement, faults
(R177 to R204). -/

namespace Sys2Proof.Machine

/-! ### Faults and retirement -/

/-- A sequencer fault at an index with the word recorded (R202, R204): the program stops, the step is void, the context is
escalated. -/
def State.seqFault (s : State) (n pc code word : Nat) : State :=
  let δ := instDelta n
  let ctx := s.seqCtx n
  let s := ((s.setSeqPhase n seqFaulted).setSeqPc n pc).setSeq n { s.seq n with hold := .none, refused := none }
  let s :=
    if s.fld Reg.SEQ_FAULT_VALID δ = 1 then s
    else (s.setReg (Reg.SEQ_FAULT + δ) (BitVec.ofNat 64 (code + pc * 2 ^ 16 + ctx * 2 ^ 32 + 2 ^ 63))).setReg
      (Reg.SEQ_FAULT_INSN + δ) (BitVec.ofNat 64 (if code = 0x100B then 0 else word))
  let s := (s.stat (Reg.SEQ_STAT_FAULTS + δ) 1).raise (seqSite n) code
  (s.voidStep (s.seq n).part code).escalateContext ctx code (seqSite n)

/-- The instruction at the program counter retires and the program goes on at `pc` (R181); past index 65,535 it faults
(R187). -/
def State.retireTo (s : State) (n pc : Nat) : State :=
  let s := (s.stat (Reg.SEQ_STAT_INSNS + instDelta n) 1).setSeqPhase n seqRunning
  let s := s.setSeq n { s.seq n with hold := .none }
  if 65536 ≤ pc then s.seqFault n 0xFFFF 0x1004 0 else s.setSeqPc n pc

/-- The instruction retires and the next one follows. -/
def State.retireNext (s : State) (n : Nat) : State := s.retireTo n (s.seqPc n + 1)

/-- The instruction at the program counter faults. -/
def State.faultHere (s : State) (n code : Nat) : State := s.seqFault n (s.seqPc n) code (s.imemWord n (s.seqPc n))

/-- Write a scalar register and retire. -/
def State.writeScalar (s : State) (n : Nat) (rd : BitVec 5) (v : Word) : State :=
  (s.setSeq n ((s.seq n).setReg rd.toNat v)).retireNext n

/-- Write a predicate and retire. -/
def State.writePred (s : State) (n : Nat) (pd : BitVec 3) (v : Bool) : State :=
  (s.setSeq n ((s.seq n).setPred pd.toNat v)).retireNext n

/-- A scalar register of sequencer `n`. -/
def State.sreg (s : State) (n : Nat) (r : BitVec 5) : Word := (s.seq n).reg r.toNat

/-- The guard of an instruction holds (R182). -/
def State.guardHolds (s : State) (n : Nat) (i : Insn) : Bool := (s.seq n).pred i.pg.toNat != i.gn

/-- Sequencer `n` as it was when a teardown stopped its program in this very cycle, none where no teardown did. Commands that
follow one another at one value of the time base without a tick between them are in one cycle (log entry 138). -/
def State.stoppedNow (s : State) (n : Nat) : Option State :=
  match (s.seq n).torn with
  | none => none
  | some x =>
    if s.coreRuns ∧ s.seqPhase n = seqIdle ∧ x.at_ = s.tb then
      some ((s.setSeq n { s.seq n with hold := x.hold, refused := x.refused, torn := none }).setSeqPhase n x.phase)
    else none

/-- What a sequencer does in a cycle. Of a program that a teardown stops in the same cycle a fault is recorded in SEQ_FAULT, and
nothing else of it happens: only the teardown handling applies (R176). -/
def State.seqCycle (s : State) (n : Nat) (f : State → State) : State :=
  match s.stoppedNow n with
  | none => f s
  | some t =>
    let δ := instDelta n
    let u := f t
    if u.seqPhase n = seqFaulted then
      ((s.setReg (Reg.SEQ_FAULT + δ) (u.reg (Reg.SEQ_FAULT + δ))).setReg (Reg.SEQ_FAULT_INSN + δ) (u.reg (Reg.SEQ_FAULT_INSN + δ))).setSeq n
        { s.seq n with torn := none }
    else s

/-- Fetch the word at the program counter of a running program and run it where it is of the command's kind: a word with an
uncorrectable error faults, a false guard retires (R180, R182). -/
def State.runInsn (s : State) (n : Fin 64) (ecc : Ecc) (f : Act → Option (State → State)) : State :=
  s.seqCycle n fun s => if !(s.coreRuns && s.coreEnabled n && decide (s.seqPhase n = seqRunning)) then s
  else
    match decodeInsn (BitVec.ofNat 32 (s.imemWord n (s.seqPc n))) with
    | none => s
    | some i =>
      match f i.act with
      | none => s
      | some act =>
        match ecc with
        | .uncorrected => (s.bump Reg.SEQ_IMEM_ECC_UNCORRECTED (instDelta n) 1).faultHere n 0x100B
        | _ =>
          let s := if ecc = .corrected then s.bump Reg.SEQ_IMEM_ECC_CORRECTED (instDelta n) 1 else s
          if s.guardHolds n i then act s else s.retireNext n

/-- A word that no instruction has, or that cannot be corrected, faults whatever its guard (R180, R184). -/
def State.runIllegal (s : State) (n : Fin 64) (ecc : Ecc) : State :=
  s.seqCycle n fun s => if !(s.coreRuns && s.coreEnabled n && decide (s.seqPhase n = seqRunning)) then s
  else
    let w := BitVec.ofNat 32 (s.imemWord n (s.seqPc n))
    match decodeInsn w with
    | some _ => s
    | none =>
      match ecc with
      | .uncorrected => (s.bump Reg.SEQ_IMEM_ECC_UNCORRECTED (instDelta n) 1).faultHere n 0x100B
      | _ =>
        let s := if ecc = .corrected then s.bump Reg.SEQ_IMEM_ECC_CORRECTED (instDelta n) 1 else s
        s.faultHere n (insnCode w)

/-! ### Values -/

/-- The arithmetic of ADD, SUB, MUL, AND, OR, XOR. -/
def aluValue (k : Alu) (x y : Word) : Word :=
  match k with
  | .add => x + y
  | .sub => x - y
  | .mul => x * y
  | .and => x &&& y
  | .or => x ||| y
  | .xor => x ^^^ y

/-- A shift by 0 to 63. -/
def shiftValue (k : Shift) (x : Word) (n : Nat) : Word :=
  match k with
  | .shl => x <<< n
  | .shr => x >>> n
  | .sar => x.sshiftRight n

/-- The count of a shift (R185). -/
def State.shiftCount (s : State) (n : Nat) : Count → Nat
  | .reg rb => (s.sreg n rb).toNat % 64
  | .imm k => k.toNat

/-- ADDI sign-extends its immediate, ANDI and ORI zero-extend theirs (R183). -/
def aluIValue (k : AluI) (x : Word) (imm : BitVec 12) : Word :=
  match k with
  | .addi => x + imm.signExtend 64
  | .andi => x &&& imm.setWidth 64
  | .ori => x ||| imm.setWidth 64

/-- The conditions of CMP and CMPI (R186). -/
def condHolds (c : Cond) (x y : Word) : Bool :=
  match c with
  | .c0 => decide (x = y)
  | .c1 => decide (x ≠ y)
  | .c2 => x.slt y
  | .c3 => !x.slt y
  | .c4 => x.ult y
  | .c5 => !x.ult y

/-- The place of an FP32 condition in R157's list. -/
def Cond.fp : Cond → Nat
  | .c0 => 0 | .c1 => 1 | .c2 => 2 | .c3 => 3 | .c4 => 4 | .c5 => 5

/-- PLOG's functions (R186). -/
def plogValue (f : PFunc) (a b : Bool) : Bool :=
  match f with
  | .and => a && b
  | .or => a || b
  | .xor => a != b
  | .andn => a && !b

/-- The predicates as RDP gives them, p0 in bit 0 (R178). -/
def Seq.predBits (q : Seq) : Nat := setBits (q.preds % 256) 0 1 1

/-- A summary field (R200). -/
def State.summaryField (s : State) (n : Nat) (slot : BitVec 3) (f : SumField) : Word :=
  let a := Reg.CHN_SUM + instDelta n + 32 * slot.toNat
  match f with
  | .max => (s.reg a).extractLsb' 0 32 |>.setWidth 64
  | .sum => (s.reg a).extractLsb' 32 32 |>.setWidth 64
  | .nan => s.reg (a + 8)
  | .over => s.reg (a + 16)
  | .status => s.reg (a + 24)

/-- A special value (R201). -/
def State.specialValue (s : State) (n : Nat) (v : Special) : Word :=
  let q := s.seq n
  let ctx := s.seqCtx n
  let p := s.ctxPartition ctx
  match v with
  | .core => BitVec.ofNat 64 n
  | .partition => BitVec.ofNat 64 p
  | .context => BitVec.ofNat 64 ctx
  | .step => s.reg (Reg.SCH_PART_STEP + instDelta p)
  | .time => BitVec.ofNat 64 s.tb
  | .slotStart => BitVec.ofNat 64 q.slotStart
  | .nextSlot => BitVec.ofNat 64 (s.nextSlotOf p n)
  | .arg => BitVec.ofNat 64 q.arg
  | .entry => BitVec.ofNat 64 q.entry

/-! ### Control flow (R174, R187) -/

/-- The target of a relative branch, none outside the store. -/
def branchTarget (pc : Nat) (off : BitVec 22) : Option Nat :=
  let t := (pc : Int) + off.toInt
  if 0 ≤ t ∧ t < 65536 then some t.toNat else none

/-- B. -/
def State.branch (s : State) (n : Nat) (off : BitVec 22) : State :=
  match branchTarget (s.seqPc n) off with
  | none => s.faultHere n 0x1004
  | some t => s.retireTo n t

/-- CALL. -/
def State.call (s : State) (n : Nat) (off : BitVec 22) : State :=
  match branchTarget (s.seqPc n) off with
  | none => s.faultHere n 0x1004
  | some t => (s.setSeq n ((s.seq n).setReg 31 (BitVec.ofNat 64 (s.seqPc n + 1)))).retireTo n t

/-- JR. -/
def State.jumpReg (s : State) (n : Nat) (ra : BitVec 5) : State :=
  let t := (s.sreg n ra).toNat
  if 65536 ≤ t then s.faultHere n 0x1004 else s.retireTo n t

/-- A refused store not yet taken as a fault is taken before the instruction goes ahead (R191). -/
def State.afterStores (s : State) (n : Nat) (f : State → State) : State :=
  match (s.seq n).refused with
  | none => f s
  | some (code, pc, word) => s.seqFault n pc code word

/-- END: the program has ended (R174). -/
def State.endSeq (s : State) (n : Nat) : State :=
  let s := s.stat (Reg.SEQ_STAT_INSNS + instDelta n) 1
  (s.setSeqPhase n seqIdle).setSeqPc n (min 0xFFFF (s.seqPc n + 1))

/-! ### Loads and stores (R188 to R191) -/

/-- The address of a load or store. -/
def State.memAddr (s : State) (n : Nat) (ra : BitVec 5) (imm : BitVec 12) : Nat := (s.sreg n ra + imm.signExtend 64).toNat

/-- The first two checks of an address: bits [63:48], then alignment (R188). -/
def memAddrCode (a size : Nat) : Nat := if 2 ^ 48 ≤ a then 0x0005 else if a % size ≠ 0 then 0x1003 else 0

/-- The instruction at the program counter faults on an address; a code that reaches no instance is recorded in GLB_ERR as well
(R16, R188, R193). -/
def State.faultAddress (s : State) (n code a : Nat) : State :=
  (if code = 0x0005 ∨ code = 0x0003 ∨ code = 0x0006 then s.decodeRefused code a else s).faultHere n code

/-- A load begins: it blocks until its data returns (R189). -/
def State.loadStart (s : State) (n size : Nat) (rd ra : BitVec 5) (imm : BitVec 12) : State :=
  let a := s.memAddr n ra imm
  let c := memAddrCode a size
  if c ≠ 0 then s.faultAddress n c a
  else (s.setSeq n { s.seq n with hold := .load a size rd.toNat s.tb }).setSeqPhase n seqLoad

/-- A store is posted; a refusal is kept until it is taken as a fault (R191). -/
def State.storePost (s : State) (n : Fin 64) (size : Nat) (rd ra : BitVec 5) (imm : BitVec 12) : State :=
  let a := s.memAddr n ra imm
  let c := memAddrCode a size
  if c ≠ 0 then s.faultAddress n c a
  else
    let pc := s.seqPc n
    let r := s.windowStore (.seq n) a (leBytes size (s.sreg n rd).toNat)
    let s := r.2
    let s := if r.1 = 0 ∨ (s.seq n).refused.isSome then s
      else s.setSeq n { s.seq n with refused := some (r.1, pc, s.imemWord n pc) }
    if s.seqPhase n = seqRunning then s.retireNext n else s

/-- The block that holds what a load asks for stands still with its clock, so no data return (R469). -/
def State.loadWaits (s : State) (a : Nat) : Bool :=
  match physArea a with
  | .lpddr => s.clockStops (1 + bridgeOf (channelOf a))
  | .csrWindow off => s.csrStops off
  | _ => false

/-- The data of a load returns; a load that returns later than 10 µs after its issue faults, and nothing is written (R189). -/
def State.loadReturn (s : State) (n : Fin 64) : State :=
  s.seqCycle n fun s => if !(s.coreRuns && decide (s.seqPhase n = seqLoad)) then s
  else match (s.seq n).hold with
    | .load a size rd since =>
      if s.loadWaits a then s
      else if since + 10000 < s.tb then s.faultHere n 0x1009
      else
      let r := s.windowLoad (.seq n) a size
      let s := r.2.2
      if r.1 ≠ 0 then s.faultHere n r.1
      else s.writeScalar n (BitVec.ofNat 5 rd) (BitVec.ofNat 64 r.2.1)
    | _ => s

/-- A load has not returned 10 µs after its issue (R189). -/
def State.loadTimeout (s : State) (n : Fin 64) : State :=
  s.seqCycle n fun s => if !(s.coreRuns && decide (s.seqPhase n = seqLoad)) then s
  else match (s.seq n).hold with
    | .load _ _ _ since => if since + 10000 ≤ s.tb then s.faultHere n 0x1009 else s
    | _ => s

/-- A refused store is taken as a fault (R191). -/
def State.storeRefused (s : State) (n : Fin 64) : State :=
  s.seqCycle n fun s => if s.coreRuns && s.seqActive n then s.afterStores n id else s

/-! ### ISSUE (R192 to R195) -/

/-- The code with which ISSUE faults on its descriptor's address, 0 for none (R193); a line of a DEAD channel gives 0x1806
(R219). -/
def State.descCode (s : State) (a size : Nat) : Nat :=
  if a % 64 ≠ 0 then 0x1003
  else if 2 ^ 48 ≤ a then 0x0005
  else if s.inDisabledCore a 1 || s.inDisabledCore (a + size - 1) 1 then 0x0003
  else if !s.inLpOrCore a size then 0x0005
  else if s.fetchDead a size then 0x1806
  else if s.fetchPoisoned a size then 0x1008
  else 0

/-- A target takes the command of an ISSUE. -/
def State.issueTaken (s : State) (n : Nat) (d : Desc) (t : IssueTarget) : State :=
  (s.stat (Reg.SEQ_STAT_ISSUES + instDelta n) 1).deliver n d t

/-- ISSUE with its form: none blocking, a predicate for NOWAIT (R194). -/
def State.issue (s : State) (n : Nat) (target : BitVec 4) (ra : BitVec 5) (nowait : Option (BitVec 3)) : State :=
  s.afterStores n fun s =>
    match issueTarget target.toNat with
    | none => s.faultHere n 0x1006
    | some t =>
      let a := (s.sreg n ra).toNat
      let c := s.descCode a t.bytes
      if c ≠ 0 ∧ c ≠ 0x1008 then s.faultAddress n c a
      else
        let d := bytesToDesc (t.bytes / 8) (s.fetch a t.bytes)
        let s := s.noteFetch a t.bytes
        if c ≠ 0 then s.faultHere n c
        else if s.issueRoom n t then
          match nowait with
          | some pd => (s.writePred n pd true).issueTaken n d t
          | none => (s.retireNext n).issueTaken n d t
        else match nowait with
          | some pd => s.writePred n pd false
          | none =>
            if s.waitLimit n = 0 then s.faultHere n 0x100A
            else (s.setSeq n { s.seq n with hold := .issue target.toNat d s.tb }).setSeqPhase n seqStalled

/-- A stalled ISSUE finds room; after a stall longer than WAIT_LIMIT it faults and delivers nothing (R194). -/
def State.issueFindsRoom (s : State) (n : Fin 64) : State :=
  s.seqCycle n fun s => if !(s.coreRuns && decide (s.seqPhase n = seqStalled)) then s
  else match (s.seq n).hold with
    | .issue t d since =>
      (match issueTarget t with
       | none => s
       | some t =>
         if since + s.waitLimit n < s.tb then (s.countHold n).faultHere n 0x100A
         else if s.issueRoom n t then ((s.countHold n).retireNext n).issueTaken n d t else s)
    | _ => s

/-- A stall longer than WAIT_LIMIT faults; the command is not delivered (R194). -/
def State.issueStall (s : State) (n : Fin 64) : State :=
  s.seqCycle n fun s => if !(s.coreRuns && decide (s.seqPhase n = seqStalled)) then s
  else match (s.seq n).hold with
    | .issue _ _ since =>
      if since + s.waitLimit n < s.tb then (s.countHold n).faultHere n 0x100A else s
    | _ => s

/-! ### Waiting and signalling (R196 to R199) -/

/-- A counter index above 16,383 faults (R197). -/
def State.withCounter (s : State) (n : Nat) (ra : BitVec 5) (f : Nat → State) : State :=
  let i := (s.sreg n ra).toNat
  if 16383 < i then s.faultHere n 0x1005 else f i

/-- A WAIT ends by WAIT_LIMIT: 0x1007 in rd, logged and counted, a hazard of the step (R196, R410). -/
def State.waitExpired (s : State) (n rd : Nat) : State :=
  let s := (s.raise (seqSite n) 0x1007).stat (Reg.SEQ_STAT_WAIT_LIMIT + instDelta n) 1
  (s.hazard (s.seqCtx n) 1).writeScalar n (BitVec.ofNat 5 rd) 0x1007

/-- WAIT: it ends at once where the count is reached or the limit is 0 (R196). The cycles it spent are counted (R205). -/
def State.waitStart (s : State) (n : Nat) (rd ra rb : BitVec 5) : State :=
  s.afterStores n fun s => s.withCounter n ra fun i =>
    let ended := s.freeStat (Reg.SEQ_STAT_WAIT_CYCLES + instDelta n)
    let target := (s.sreg n rb).toNat
    if target ≤ (s.counter i).count.toNat then ended.writeScalar n rd (BitVec.ofNat 64 (s.counter i).err)
    else if s.waitLimit n = 0 then ended.waitExpired n rd.toNat
    else (s.setSeq n { s.seq n with hold := .wait i target rd.toNat s.tb }).setSeqPhase n seqWait

/-- A WAIT ends with its counter's error code, 0x0000 when none (R196). -/
def State.waitMet (s : State) (n i rd : Nat) : State :=
  (s.countHold n).writeScalar n (BitVec.ofNat 5 rd) (BitVec.ofNat 64 (s.counter i).err)

/-- The count is reached; a count first reached after the wait has lasted WAIT_LIMIT comes too late (R196, log entry 105). -/
def State.waitReached (s : State) (n : Fin 64) : State :=
  if !(s.coreRuns && decide (s.seqPhase n = seqWait)) then s
  else match (s.seq n).hold with
    | .wait i target rd since =>
      if since + s.waitLimit n < s.tb then (s.countHold n).waitExpired n rd
      else if target ≤ (s.counter i).count.toNat then s.waitMet n i rd
      else s
    | _ => s

/-- The wait has lasted WAIT_LIMIT; a count reached in that cycle ends it under the first case (R196, log entry 105). -/
def State.waitLimitReached (s : State) (n : Fin 64) : State :=
  if !(s.coreRuns && decide (s.seqPhase n = seqWait)) then s
  else match (s.seq n).hold with
    | .wait i target rd since =>
      if s.tb < since + s.waitLimit n then s
      else if s.tb = since + s.waitLimit n ∧ target ≤ (s.counter i).count.toNat then s.waitMet n i rd
      else (s.countHold n).waitExpired n rd
    | _ => s

/-- WAITT (R198). -/
def State.waittStart (s : State) (n : Nat) (ra : BitVec 5) : State :=
  s.afterStores n fun s =>
    let t := (s.sreg n ra).toNat
    if t ≤ s.tb then (s.freeStat (Reg.SEQ_STAT_WAIT_CYCLES + instDelta n)).retireNext n
    else (s.setSeq n { s.seq n with hold := .waitt t }).setSeqPhase n seqWaitt

/-- The time base reaches the value of WAITT (R198). -/
def State.waittReached (s : State) (n : Fin 64) : State :=
  if !(s.coreRuns && decide (s.seqPhase n = seqWaitt)) then s
  else match (s.seq n).hold with
    | .waitt t => if t ≤ s.tb then (s.countHold n).retireNext n else s
    | _ => s

/-- SIG adds 1 and carries no error (R199). -/
def State.sigCounter (s : State) (n : Nat) (ra : BitVec 5) : State :=
  s.afterStores n fun s => s.withCounter n ra fun i => (s.setCounter i ((s.counter i).inc 0)).retireNext n

/-- RDC (R199). -/
def State.readCounter (s : State) (n : Nat) (rd ra : BitVec 5) : State :=
  s.withCounter n ra fun i => s.writeScalar n rd (s.counter i).count

end Sys2Proof.Machine
end

