-- ==== Sys2Proof/Machine/SeqExec.lean ====
section
/-! DEFINITION. The meanings of the sequencer's instructions and events (R172 to R205). Each instruction runs at the program
counter of sequencer `n` when the word there is of its kind; `ecc` is what the fetch finds. -/

namespace Sys2Proof.Machine

/-- ADD: rd := ra + rb modulo 2^64 (R184). -/
def execAdd (n : Fin 64) (ecc : Ecc) (s : State) : Result :=
  .next <| s.runInsn n ecc fun a => match a with
    | .alu .add rd ra rb => some fun s => s.writeScalar n rd (aluValue .add (s.sreg n ra) (s.sreg n rb))
    | _ => none

/-- SUB: rd := ra − rb modulo 2^64 (R184). -/
def execSub (n : Fin 64) (ecc : Ecc) (s : State) : Result :=
  .next <| s.runInsn n ecc fun a => match a with
    | .alu .sub rd ra rb => some fun s => s.writeScalar n rd (aluValue .sub (s.sreg n ra) (s.sreg n rb))
    | _ => none

/-- MUL: rd := the low 64 bits of ra × rb (R184). -/
def execMul (n : Fin 64) (ecc : Ecc) (s : State) : Result :=
  .next <| s.runInsn n ecc fun a => match a with
    | .alu .mul rd ra rb => some fun s => s.writeScalar n rd (aluValue .mul (s.sreg n ra) (s.sreg n rb))
    | _ => none

/-- AND (R184). -/
def execAndOp (n : Fin 64) (ecc : Ecc) (s : State) : Result :=
  .next <| s.runInsn n ecc fun a => match a with
    | .alu .and rd ra rb => some fun s => s.writeScalar n rd (aluValue .and (s.sreg n ra) (s.sreg n rb))
    | _ => none

/-- OR (R184). -/
def execOrOp (n : Fin 64) (ecc : Ecc) (s : State) : Result :=
  .next <| s.runInsn n ecc fun a => match a with
    | .alu .or rd ra rb => some fun s => s.writeScalar n rd (aluValue .or (s.sreg n ra) (s.sreg n rb))
    | _ => none

/-- XOR (R184). -/
def execXor (n : Fin 64) (ecc : Ecc) (s : State) : Result :=
  .next <| s.runInsn n ecc fun a => match a with
    | .alu .xor rd ra rb => some fun s => s.writeScalar n rd (aluValue .xor (s.sreg n ra) (s.sreg n rb))
    | _ => none

/-- SHL (R185). -/
def execShl (n : Fin 64) (ecc : Ecc) (s : State) : Result :=
  .next <| s.runInsn n ecc fun a => match a with
    | .shift .shl rd ra c => some fun s => s.writeScalar n rd (shiftValue .shl (s.sreg n ra) (s.shiftCount n c))
    | _ => none

/-- SHR, zero fill (R185). -/
def execShr (n : Fin 64) (ecc : Ecc) (s : State) : Result :=
  .next <| s.runInsn n ecc fun a => match a with
    | .shift .shr rd ra c => some fun s => s.writeScalar n rd (shiftValue .shr (s.sreg n ra) (s.shiftCount n c))
    | _ => none

/-- SAR, sign fill (R185). -/
def execSar (n : Fin 64) (ecc : Ecc) (s : State) : Result :=
  .next <| s.runInsn n ecc fun a => match a with
    | .shift .sar rd ra c => some fun s => s.writeScalar n rd (shiftValue .sar (s.sreg n ra) (s.shiftCount n c))
    | _ => none

/-- ADDI sign-extends imm12 (R183). -/
def execAddi (n : Fin 64) (ecc : Ecc) (s : State) : Result :=
  .next <| s.runInsn n ecc fun a => match a with
    | .aluI .addi rd ra imm => some fun s => s.writeScalar n rd (aluIValue .addi (s.sreg n ra) imm)
    | _ => none

/-- ANDI zero-extends imm12 (R183). -/
def execAndi (n : Fin 64) (ecc : Ecc) (s : State) : Result :=
  .next <| s.runInsn n ecc fun a => match a with
    | .aluI .andi rd ra imm => some fun s => s.writeScalar n rd (aluIValue .andi (s.sreg n ra) imm)
    | _ => none

/-- ORI zero-extends imm12 (R183). -/
def execOri (n : Fin 64) (ecc : Ecc) (s : State) : Result :=
  .next <| s.runInsn n ecc fun a => match a with
    | .aluI .ori rd ra imm => some fun s => s.writeScalar n rd (aluIValue .ori (s.sreg n ra) imm)
    | _ => none

/-- LI: rd := sext(imm17) (R183). -/
def execLi (n : Fin 64) (ecc : Ecc) (s : State) : Result :=
  .next <| s.runInsn n ecc fun a => match a with
    | .li rd imm => some fun s => s.writeScalar n rd (imm.signExtend 64)
    | _ => none

/-- LSH: rd := (rd << 16) or imm17[15:0] (R183, R184). -/
def execLsh (n : Fin 64) (ecc : Ecc) (s : State) : Result :=
  .next <| s.runInsn n ecc fun a => match a with
    | .lsh rd imm => some fun s => s.writeScalar n rd ((s.sreg n rd <<< 16) ||| imm.setWidth 64)
    | _ => none

/-- CMP (R186). -/
def execCmp (n : Fin 64) (ecc : Ecc) (s : State) : Result :=
  .next <| s.runInsn n ecc fun a => match a with
    | .cmp pd c ra rb => some fun s => s.writePred n pd (condHolds c (s.sreg n ra) (s.sreg n rb))
    | _ => none

/-- CMPI (R186). -/
def execCmpi (n : Fin 64) (ecc : Ecc) (s : State) : Result :=
  .next <| s.runInsn n ecc fun a => match a with
    | .cmpi pd c ra imm => some fun s => s.writePred n pd (condHolds c (s.sreg n ra) (imm.signExtend 64))
    | _ => none

/-- FCMP compares ra[31:0] with rb[31:0] as FP32 (R186). -/
def execFcmp (n : Fin 64) (ecc : Ecc) (s : State) : Result :=
  .next <| s.runInsn n ecc fun a => match a with
    | .fcmp pd c ra rb => some fun s => s.writePred n pd (f32Cmp c.fp ((s.sreg n ra).setWidth 32) ((s.sreg n rb).setWidth 32))
    | _ => none

/-- PLOG (R186). -/
def execPlog (n : Fin 64) (ecc : Ecc) (s : State) : Result :=
  .next <| s.runInsn n ecc fun a => match a with
    | .plog pd f pa pb => some fun s => s.writePred n pd (plogValue f ((s.seq n).pred pa.toNat) ((s.seq n).pred pb.toNat))
    | _ => none

/-- RDP: rd := p7 … p0 (R178). -/
def execRdp (n : Fin 64) (ecc : Ecc) (s : State) : Result :=
  .next <| s.runInsn n ecc fun a => match a with
    | .rdp rd => some fun s => s.writeScalar n rd (BitVec.ofNat 64 (s.seq n).predBits)
    | _ => none

/-- WRP: p1 … p7 := ra[1] … ra[7] (R178). -/
def execWrp (n : Fin 64) (ecc : Ecc) (s : State) : Result :=
  .next <| s.runInsn n ecc fun a => match a with
    | .wrp ra => some fun s => (s.setSeq n { s.seq n with preds := (s.sreg n ra).toNat % 256 / 2 * 2 }).retireNext n
    | _ => none

/-- B (R187). -/
def execB (n : Fin 64) (ecc : Ecc) (s : State) : Result :=
  .next <| s.runInsn n ecc fun a => match a with
    | .b off => some fun s => s.branch n off
    | _ => none

/-- CALL (R177, R187). -/
def execCall (n : Fin 64) (ecc : Ecc) (s : State) : Result :=
  .next <| s.runInsn n ecc fun a => match a with
    | .call off => some fun s => s.call n off
    | _ => none

/-- JR (R187). -/
def execJr (n : Fin 64) (ecc : Ecc) (s : State) : Result :=
  .next <| s.runInsn n ecc fun a => match a with
    | .jr ra => some fun s => s.jumpReg n ra
    | _ => none

/-- END (R174, R191). -/
def execEndProgram (n : Fin 64) (ecc : Ecc) (s : State) : Result :=
  .next <| s.runInsn n ecc fun a => match a with
    | .endProgram => some fun s => s.afterStores n fun s => s.endSeq n
    | _ => none

/-- FAULT (R203). -/
def execFault (n : Fin 64) (ecc : Ecc) (s : State) : Result :=
  .next <| s.runInsn n ecc fun a => match a with
    | .fault code => some fun s => s.faultHere n (0x1100 + code.toNat)
    | _ => none

/-- A word that is no instruction (R184). -/
def execIllegalInstruction (n : Fin 64) (ecc : Ecc) (s : State) : Result := .next <| s.runIllegal n ecc

/-- LD (R188, R189). -/
def execLd (n : Fin 64) (ecc : Ecc) (s : State) : Result :=
  .next <| s.runInsn n ecc fun a => match a with
    | .ld rd ra imm => some fun s => s.loadStart n 8 rd ra imm
    | _ => none

/-- LDW (R188, R189). -/
def execLdw (n : Fin 64) (ecc : Ecc) (s : State) : Result :=
  .next <| s.runInsn n ecc fun a => match a with
    | .ldw rd ra imm => some fun s => s.loadStart n 4 rd ra imm
    | _ => none

/-- A load returns (R189). -/
def execLoadReturn (n : Fin 64) (s : State) : Result := .next <| s.loadReturn n

/-- A load has not returned after 10 µs (R189). -/
def execSeqLoadTimeout (n : Fin 64) (s : State) : Result := .next <| s.loadTimeout n

/-- ST (R188, R191). -/
def execSt (n : Fin 64) (ecc : Ecc) (s : State) : Result :=
  .next <| s.runInsn n ecc fun a => match a with
    | .st rd ra imm => some fun s => s.storePost n 8 rd ra imm
    | _ => none

/-- STW (R188, R191). -/
def execStw (n : Fin 64) (ecc : Ecc) (s : State) : Result :=
  .next <| s.runInsn n ecc fun a => match a with
    | .stw rd ra imm => some fun s => s.storePost n 4 rd ra imm
    | _ => none

/-- A refused store faults (R191). -/
def execStoreRefused (n : Fin 64) (s : State) : Result := .next <| s.storeRefused n

/-- RSUM (R200). -/
def execRsum (n : Fin 64) (ecc : Ecc) (s : State) : Result :=
  .next <| s.runInsn n ecc fun a => match a with
    | .rsum rd slot f => some fun s => s.writeScalar n rd (s.summaryField n slot f)
    | _ => none

/-- RDS (R201). -/
def execRds (n : Fin 64) (ecc : Ecc) (s : State) : Result :=
  .next <| s.runInsn n ecc fun a => match a with
    | .rds rd v => some fun s => s.writeScalar n rd (s.specialValue n v)
    | _ => none

/-- ISSUE, blocking (R192 to R194). -/
def execIssue (n : Fin 64) (ecc : Ecc) (s : State) : Result :=
  .next <| s.runInsn n ecc fun a => match a with
    | .issue target ra => some fun s => s.issue n target ra none
    | _ => none

/-- ISSUE, NOWAIT (R192 to R194). -/
def execIssueNowait (n : Fin 64) (ecc : Ecc) (s : State) : Result :=
  .next <| s.runInsn n ecc fun a => match a with
    | .issueNowait target ra pd => some fun s => s.issue n target ra (some pd)
    | _ => none

/-- A stalled ISSUE finds room (R194). -/
def execIssueTaken (n : Fin 64) (s : State) : Result := .next <| s.issueFindsRoom n

/-- A stall has passed WAIT_LIMIT (R194). -/
def execSeqIssueStall (n : Fin 64) (s : State) : Result := .next <| s.issueStall n

/-- WAIT (R196). -/
def execWait (n : Fin 64) (ecc : Ecc) (s : State) : Result :=
  .next <| s.runInsn n ecc fun a => match a with
    | .wait rd ra rb => some fun s => s.waitStart n rd ra rb
    | _ => none

/-- The count of a WAIT is reached (R196). -/
def execWaitReached (n : Fin 64) (s : State) : Result := .next <| s.waitReached n

/-- A WAIT has lasted WAIT_LIMIT (R196). -/
def execSeqWaitLimit (n : Fin 64) (s : State) : Result := .next <| s.waitLimitReached n

/-- WAITT (R198). -/
def execWaitt (n : Fin 64) (ecc : Ecc) (s : State) : Result :=
  .next <| s.runInsn n ecc fun a => match a with
    | .waitt ra => some fun s => s.waittStart n ra
    | _ => none

/-- The time of a WAITT is reached (R198). -/
def execWaittReached (n : Fin 64) (s : State) : Result := .next <| s.waittReached n

/-- SIG (R199). -/
def execSig (n : Fin 64) (ecc : Ecc) (s : State) : Result :=
  .next <| s.runInsn n ecc fun a => match a with
    | .sig ra => some fun s => s.sigCounter n ra
    | _ => none

/-- RDC (R199). -/
def execRdc (n : Fin 64) (ecc : Ecc) (s : State) : Result :=
  .next <| s.runInsn n ecc fun a => match a with
    | .rdc rd ra => some fun s => s.readCounter n rd ra
    | _ => none

end Sys2Proof.Machine
end

