-- ==== Sys2Proof/Machine/SeqStore.lean ====
section
/-! DEFINITION. The meanings of the commands of the instruction store (R179). -/

namespace Sys2Proof.Machine

/-- SEQ_IMEM_DATA_WRITE (R179). A write of SEQ_IMEM_DATA stores an instruction word at INDEX and advances INDEX, refused with 0x100C while RUN = 1. -/
def execSeqImemDataWrite (req : Requester) (core : Fin 64) (v : BitVec 32) (s : State) : Result :=
  s.run fun s => s.accessWrite req (Reg.SEQ_IMEM_DATA + instDelta core) 64 v.toNat

/-- SEQ_IMEM_DATA_READ (R179). A read of SEQ_IMEM_DATA returns the word at INDEX and advances INDEX. -/
def execSeqImemDataRead (req : Requester) (core : Fin 64) (s : State) : Result :=
  s.run fun s => s.accessRead req (Reg.SEQ_IMEM_DATA + instDelta core) 64

end Sys2Proof.Machine
end

