-- ==== Sys2Proof/Machine/Dispatch.lean ====
section
/-! DEFINITION. The effect of each command on everything but the queue, one arm per row of the opcode table. -/

namespace Sys2Proof.Machine

def exec (i : Instr) (s : State) : Host.Outcome State Fault Refusal :=
  match i with
  | .csrWrite a v => Sys2Proof.Machine.execCsrWrite a v s
  | .rakeWrite a v => Sys2Proof.Machine.execRakeWrite a v s
  | .rakeRead a => Sys2Proof.Machine.execRakeRead a s
  | .glbRakeDataAccess req write => Sys2Proof.Machine.execGlbRakeDataAccess req write s
  | .resetNFall lowNs => Sys2Proof.Machine.execResetNFall lowNs s
  | .resetNRise => Sys2Proof.Machine.execResetNRise s
  | .jtagIdcode => Sys2Proof.Machine.execJtagIdcode s
  | .jtagSamplePreload lands load => Sys2Proof.Machine.execJtagSamplePreload lands load s
  | .jtagExtest => Sys2Proof.Machine.execJtagExtest s
  | .jtagExtestPulse => Sys2Proof.Machine.execJtagExtestPulse s
  | .jtagExtestTrain => Sys2Proof.Machine.execJtagExtestTrain s
  | .jtagClamp => Sys2Proof.Machine.execJtagClamp s
  | .jtagHighz => Sys2Proof.Machine.execJtagHighz s
  | .jtagBypass opcode => Sys2Proof.Machine.execJtagBypass opcode s
  | .route router cmds => Sys2Proof.Machine.execRoute router cmds s
  | .recall cmds => Sys2Proof.Machine.execRecall cmds s
  | .pushedTile router tile => Sys2Proof.Machine.execPushedTile router tile s
  | .logitPullReturn router line => Sys2Proof.Machine.execLogitPullReturn router line s
  | .selectEnd router reads => Sys2Proof.Machine.execSelectEnd router reads s
  | .matchingRound router reads => Sys2Proof.Machine.execMatchingRound router reads s
  | .publishStart router reads refused => Sys2Proof.Machine.execPublishStart router reads refused s
  | .windowEnd router reads acked => Sys2Proof.Machine.execWindowEnd router reads acked s
  | .publishLate router => Sys2Proof.Machine.execPublishLate router s
  | .dispatch die req desc => Sys2Proof.Machine.execDispatch die req desc s
  | .return die req desc => Sys2Proof.Machine.execReturn die req desc s
  | .localFrameMove die => Sys2Proof.Machine.execLocalFrameMove die s
  | .frameLanding die frame => Sys2Proof.Machine.execFrameLanding die frame s
  | .pumpCompletion die => Sys2Proof.Machine.execPumpCompletion die s
  | .combine cmd => Sys2Proof.Machine.execCombine cmd s
  | .combineDone core => Sys2Proof.Machine.execCombineDone core s
  | .pass array cmd => Sys2Proof.Machine.execPass array cmd s
  | .lane array cmd => Sys2Proof.Machine.execLane array cmd s
  | .passStart array => Sys2Proof.Machine.execPassStart array s
  | .passCompletion array facts => Sys2Proof.Machine.execPassCompletion array facts s
  | .rampStep array up => Sys2Proof.Machine.execRampStep array up s
  | .matRepairWrite req array v => Sys2Proof.Machine.execMatRepairWrite req array v s
  | .checksumReqWrite req array v => Sys2Proof.Machine.execChecksumReqWrite req array v s
  | .chain cmd => Sys2Proof.Machine.execChain cmd s
  | .chainStart core => Sys2Proof.Machine.execChainStart core s
  | .streamBegin core array stall => Sys2Proof.Machine.execStreamBegin core array stall s
  | .chainCompletion core => Sys2Proof.Machine.execChainCompletion core s
  | .add n ecc => Sys2Proof.Machine.execAdd n ecc s
  | .sub n ecc => Sys2Proof.Machine.execSub n ecc s
  | .mul n ecc => Sys2Proof.Machine.execMul n ecc s
  | .andOp n ecc => Sys2Proof.Machine.execAndOp n ecc s
  | .orOp n ecc => Sys2Proof.Machine.execOrOp n ecc s
  | .xor n ecc => Sys2Proof.Machine.execXor n ecc s
  | .shl n ecc => Sys2Proof.Machine.execShl n ecc s
  | .shr n ecc => Sys2Proof.Machine.execShr n ecc s
  | .sar n ecc => Sys2Proof.Machine.execSar n ecc s
  | .addi n ecc => Sys2Proof.Machine.execAddi n ecc s
  | .andi n ecc => Sys2Proof.Machine.execAndi n ecc s
  | .ori n ecc => Sys2Proof.Machine.execOri n ecc s
  | .li n ecc => Sys2Proof.Machine.execLi n ecc s
  | .lsh n ecc => Sys2Proof.Machine.execLsh n ecc s
  | .cmp n ecc => Sys2Proof.Machine.execCmp n ecc s
  | .cmpi n ecc => Sys2Proof.Machine.execCmpi n ecc s
  | .fcmp n ecc => Sys2Proof.Machine.execFcmp n ecc s
  | .plog n ecc => Sys2Proof.Machine.execPlog n ecc s
  | .rdp n ecc => Sys2Proof.Machine.execRdp n ecc s
  | .wrp n ecc => Sys2Proof.Machine.execWrp n ecc s
  | .b n ecc => Sys2Proof.Machine.execB n ecc s
  | .call n ecc => Sys2Proof.Machine.execCall n ecc s
  | .jr n ecc => Sys2Proof.Machine.execJr n ecc s
  | .endProgram n ecc => Sys2Proof.Machine.execEndProgram n ecc s
  | .fault n ecc => Sys2Proof.Machine.execFault n ecc s
  | .illegalInstruction n ecc => Sys2Proof.Machine.execIllegalInstruction n ecc s
  | .ld n ecc => Sys2Proof.Machine.execLd n ecc s
  | .ldw n ecc => Sys2Proof.Machine.execLdw n ecc s
  | .loadReturn n => Sys2Proof.Machine.execLoadReturn n s
  | .seqLoadTimeout n => Sys2Proof.Machine.execSeqLoadTimeout n s
  | .st n ecc => Sys2Proof.Machine.execSt n ecc s
  | .stw n ecc => Sys2Proof.Machine.execStw n ecc s
  | .storeRefused n => Sys2Proof.Machine.execStoreRefused n s
  | .rsum n ecc => Sys2Proof.Machine.execRsum n ecc s
  | .rds n ecc => Sys2Proof.Machine.execRds n ecc s
  | .issue n ecc => Sys2Proof.Machine.execIssue n ecc s
  | .issueNowait n ecc => Sys2Proof.Machine.execIssueNowait n ecc s
  | .issueTaken n => Sys2Proof.Machine.execIssueTaken n s
  | .seqIssueStall n => Sys2Proof.Machine.execSeqIssueStall n s
  | .wait n ecc => Sys2Proof.Machine.execWait n ecc s
  | .waitReached n => Sys2Proof.Machine.execWaitReached n s
  | .seqWaitLimit n => Sys2Proof.Machine.execSeqWaitLimit n s
  | .waitt n ecc => Sys2Proof.Machine.execWaitt n ecc s
  | .waittReached n => Sys2Proof.Machine.execWaittReached n s
  | .sig n ecc => Sys2Proof.Machine.execSig n ecc s
  | .rdc n ecc => Sys2Proof.Machine.execRdc n ecc s
  | .seqImemDataWrite req core v => Sys2Proof.Machine.execSeqImemDataWrite req core v s
  | .seqImemDataRead req core => Sys2Proof.Machine.execSeqImemDataRead req core s
  | .lineRead pa nBad mc => Sys2Proof.Machine.execLineRead pa nBad mc s
  | .lineWrite pa data poison nBad mc => Sys2Proof.Machine.execLineWrite pa data poison nBad mc s
  | .patrolScrub pa nBad => Sys2Proof.Machine.execPatrolScrub pa nBad s
  | .channelDead channel => Sys2Proof.Machine.execChannelDead channel s
  | .nmAtomic pa opc width x cmp strict nBad => Sys2Proof.Machine.execNmAtomic pa opc width x cmp strict nBad s
  | .nmReduce pa opc data strict nBad => Sys2Proof.Machine.execNmReduce pa opc data strict nBad s
  | .coreStoreAtomic pa opc form strict => Sys2Proof.Machine.execCoreStoreAtomic pa opc form strict s
  | .brineViewCommit view => Sys2Proof.Machine.execBrineViewCommit view s
  | .brineScanDone bridge view => Sys2Proof.Machine.execBrineScanDone bridge view s
  | .brineRead pa => Sys2Proof.Machine.execBrineRead pa s
  | .poolCommit pool => Sys2Proof.Machine.execPoolCommit pool s
  | .panAlloc req pool v => Sys2Proof.Machine.execPanAlloc req pool v s
  | .panRetain req pool v => Sys2Proof.Machine.execPanRetain req pool v s
  | .panRelease req pool v => Sys2Proof.Machine.execPanRelease req pool v s
  | .packetEnqueue queue source tag payload => Sys2Proof.Machine.execPacketEnqueue queue source tag payload s
  | .quePop req queue v parity => Sys2Proof.Machine.execQuePop req queue v parity s
  | .queDrop req queue v => Sys2Proof.Machine.execQueDrop req queue v s
  | .queStale queue => Sys2Proof.Machine.execQueStale queue s
  | .queueCommit queue group => Sys2Proof.Machine.execQueueCommit queue group s
  | .writeRequest die p => Sys2Proof.Machine.execWriteRequest die p s
  | .readRequest die p => Sys2Proof.Machine.execReadRequest die p s
  | .atomicRequest die p => Sys2Proof.Machine.execAtomicRequest die p s
  | .reduceRequest die p => Sys2Proof.Machine.execReduceRequest die p s
  | .mark die p => Sys2Proof.Machine.execMark die p s
  | .requestAck p => Sys2Proof.Machine.execRequestAck p s
  | .fabTimeout reqId => Sys2Proof.Machine.execFabTimeout reqId s
  | .copy die req desc => Sys2Proof.Machine.execCopy die req desc s
  | .putReduce die req desc => Sys2Proof.Machine.execPutReduce die req desc s
  | .atomic die req desc => Sys2Proof.Machine.execAtomic die req desc s
  | .fence die req desc => Sys2Proof.Machine.execFence die req desc s
  | .cntClear die req desc => Sys2Proof.Machine.execCntClear die req desc s
  | .memRake die req desc => Sys2Proof.Machine.execMemRake die req desc s
  | .regionCommit region => Sys2Proof.Machine.execRegionCommit region s
  | .regionAdvance req region => Sys2Proof.Machine.execRegionAdvance req region s
  | .regionAdvanceAll req => Sys2Proof.Machine.execRegionAdvanceAll req s
  | .regionAdvanceOwner req ctx => Sys2Proof.Machine.execRegionAdvanceOwner req ctx s
  | .revokingAdvance region => Sys2Proof.Machine.execRevokingAdvance region s
  | .synCntClear req v => Sys2Proof.Machine.execSynCntClear req v s
  | .fabSelfWrite req v => Sys2Proof.Machine.execFabSelfWrite req v s
  | .flitReceived l f => Sys2Proof.Machine.execFlitReceived l f s
  | .linkTrained l delay => Sys2Proof.Machine.execLinkTrained l delay s
  | .lnkTrainFail l => Sys2Proof.Machine.execLnkTrainFail l s
  | .linkSlotStart l cycle slot => Sys2Proof.Machine.execLinkSlotStart l cycle slot s
  | .tc0TransferLand l t => Sys2Proof.Machine.execTc0TransferLand l t s
  | .packetRoute input => Sys2Proof.Machine.execPacketRoute input s
  | .sluiceMove l ch => Sys2Proof.Machine.execSluiceMove l ch s
  | .lnkCfgCommit port => Sys2Proof.Machine.execLnkCfgCommit port s
  | .lnkStDataAccess req port write => Sys2Proof.Machine.execLnkStDataAccess req port write s
  | .linkTableCommit l => Sys2Proof.Machine.execLinkTableCommit l s
  | .linkTableSwap l => Sys2Proof.Machine.execLinkTableSwap l s
  | .switchOver req v => Sys2Proof.Machine.execSwitchOver req v s
  | .fabRtDataWrite req v => Sys2Proof.Machine.execFabRtDataWrite req v s
  | .fabSluiceWrite req which v => Sys2Proof.Machine.execFabSluiceWrite req which v s
  | .rankWindowCommit part => Sys2Proof.Machine.execRankWindowCommit part s
  | .fabGangWrite req v => Sys2Proof.Machine.execFabGangWrite req v s
  | .rdmaWrite r data poison => Sys2Proof.Machine.execRdmaWrite r data poison s
  | .rdmaRead r len => Sys2Proof.Machine.execRdmaRead r len s
  | .fetchAdd r x => Sys2Proof.Machine.execFetchAdd r x s
  | .cmpSwap r x cmp => Sys2Proof.Machine.execCmpSwap r x cmp s
  | .roceSend r imm data => Sys2Proof.Machine.execRoceSend r imm data s
  | .ethBadPkt r dropped => Sys2Proof.Machine.execEthBadPkt r dropped s
  | .pfcReceived port enable quanta => Sys2Proof.Machine.execPfcReceived port enable quanta s
  | .pfcXoffRepeat port prio => Sys2Proof.Machine.execPfcXoffRepeat port prio s
  | .pauseReceived port => Sys2Proof.Machine.execPauseReceived port s
  | .ceMarkedPacket packet => Sys2Proof.Machine.execCeMarkedPacket packet s
  | .cnpReceived packet => Sys2Proof.Machine.execCnpReceived packet s
  | .cnpRateRise qp => Sys2Proof.Machine.execCnpRateRise qp s
  | .arpRequest port ask => Sys2Proof.Machine.execArpRequest port ask s
  | .ptpMessage port m => Sys2Proof.Machine.execPtpMessage port m s
  | .delayReqSend port => Sys2Proof.Machine.execDelayReqSend port s
  | .ethCfgCommit port => Sys2Proof.Machine.execEthCfgCommit port s
  | .qpCommit qp => Sys2Proof.Machine.execQpCommit qp s
  | .ethLinkDown port => Sys2Proof.Machine.execEthLinkDown port s
  | .allToAll cmd => Sys2Proof.Machine.execAllToAll cmd s
  | .allToAllv cmd => Sys2Proof.Machine.execAllToAllv cmd s
  | .reduceScatter cmd => Sys2Proof.Machine.execReduceScatter cmd s
  | .allGather cmd => Sys2Proof.Machine.execAllGather cmd s
  | .allReduce cmd => Sys2Proof.Machine.execAllReduce cmd s
  | .broadcast cmd => Sys2Proof.Machine.execBroadcast cmd s
  | .barrier cmd => Sys2Proof.Machine.execBarrier cmd s
  | .fusedAllReduce cmd => Sys2Proof.Machine.execFusedAllReduce cmd s
  | .send cmd => Sys2Proof.Machine.execSend cmd s
  | .collectiveStart => Sys2Proof.Machine.execCollectiveStart s
  | .chunkHeaderArrive => Sys2Proof.Machine.execChunkHeaderArrive s
  | .pieceArrive queue => Sys2Proof.Machine.execPieceArrive queue s
  | .credit p => Sys2Proof.Machine.execCredit p s
  | .stepVoid p => Sys2Proof.Machine.execStepVoid p s
  | .colTimeout => Sys2Proof.Machine.execColTimeout s
  | .collectiveComplete => Sys2Proof.Machine.execCollectiveComplete s
  | .barrierOutcome part => Sys2Proof.Machine.execBarrierOutcome part s
  | .sendAck p => Sys2Proof.Machine.execSendAck p s
  | .partitionCommit part => Sys2Proof.Machine.execPartitionCommit part s
  | .schPartStop req part v => Sys2Proof.Machine.execSchPartStop req part v s
  | .schPartStepWrite req part v => Sys2Proof.Machine.execSchPartStepWrite req part v s
  | .frameStart part => Sys2Proof.Machine.execFrameStart part s
  | .slotRun part => Sys2Proof.Machine.execSlotRun part s
  | .slotTake part => Sys2Proof.Machine.execSlotTake part s
  | .tableCommit part => Sys2Proof.Machine.execTableCommit part s
  | .contextCommit ctx => Sys2Proof.Machine.execContextCommit ctx s
  | .ctxTeardown req ctx v => Sys2Proof.Machine.execCtxTeardown req ctx v s
  | .contextQuarantine ctx => Sys2Proof.Machine.execContextQuarantine ctx s
  | .ctxTeardownSlow ctx => Sys2Proof.Machine.execCtxTeardownSlow ctx s
  | .contextFree ctx => Sys2Proof.Machine.execContextFree ctx s
  | .ringCommit part ring => Sys2Proof.Machine.execRingCommit part ring s
  | .commit req part addr => Sys2Proof.Machine.execCommit req part addr s
  | .commitAtStep req part addr => Sys2Proof.Machine.execCommitAtStep req part addr s
  | .commitCancel req part addr => Sys2Proof.Machine.execCommitCancel req part addr s
  | .commitApply => Sys2Proof.Machine.execCommitApply s
  | .launchStart part writer => Sys2Proof.Machine.execLaunchStart part writer s
  | .launch p => Sys2Proof.Machine.execLaunch p s
  | .launchAck p => Sys2Proof.Machine.execLaunchAck p s
  | .ready p => Sys2Proof.Machine.execReady p s
  | .go p => Sys2Proof.Machine.execGo p s
  | .abort p => Sys2Proof.Machine.execAbort p s
  | .childTimeout part => Sys2Proof.Machine.execChildTimeout part s
  | .readyTimeout part => Sys2Proof.Machine.execReadyTimeout part s
  | .schNoGo part => Sys2Proof.Machine.execSchNoGo part s
  | .tStartReached part => Sys2Proof.Machine.execTStartReached part s
  | .detRngFill req v => Sys2Proof.Machine.execDetRngFill req v s
  | .fillComplete => Sys2Proof.Machine.execFillComplete s
  | .logCommit => Sys2Proof.Machine.execLogCommit s
  | .replayCommit => Sys2Proof.Machine.execReplayCommit s
  | .coldBoot dead faulty svnFails => Sys2Proof.Machine.execColdBoot dead faulty svnFails s
  | .warmBoot dead faulty => Sys2Proof.Machine.execWarmBoot dead faulty s
  | .mgtStageTimeout => Sys2Proof.Machine.execMgtStageTimeout s
  | .imageReq l p => Sys2Proof.Machine.execImageReq l p s
  | .imageData l p => Sys2Proof.Machine.execImageData l p s
  | .imageReqTimeout => Sys2Proof.Machine.execImageReqTimeout s
  | .i3cEntdaa addr => Sys2Proof.Machine.execI3cEntdaa addr s
  | .i3cSetdasa static addr => Sys2Proof.Machine.execI3cSetdasa static addr s
  | .i3cRstdaa => Sys2Proof.Machine.execI3cRstdaa s
  | .i3cGetpid => Sys2Proof.Machine.execI3cGetpid s
  | .i3cGetbcr => Sys2Proof.Machine.execI3cGetbcr s
  | .i3cGetdcr => Sys2Proof.Machine.execI3cGetdcr s
  | .i3cGetstatus => Sys2Proof.Machine.execI3cGetstatus s
  | .i3cEnecDisec known => Sys2Proof.Machine.execI3cEnecDisec known s
  | .i3cId => Sys2Proof.Machine.execI3cId s
  | .i3cSensor id => Sys2Proof.Machine.execI3cSensor id s
  | .i3cAlert => Sys2Proof.Machine.execI3cAlert s
  | .i3cLog seq => Sys2Proof.Machine.execI3cLog seq s
  | .i3cAttest nonce => Sys2Proof.Machine.execI3cAttest nonce s
  | .i3cUpdate addr len => Sys2Proof.Machine.execI3cUpdate addr len s
  | .i3cDumpExport addr len => Sys2Proof.Machine.execI3cDumpExport addr len s
  | .requestAttest => Sys2Proof.Machine.execRequestAttest s
  | .requestUpdate => Sys2Proof.Machine.execRequestUpdate s
  | .requestStatus => Sys2Proof.Machine.execRequestStatus s
  | .updateEnd found => Sys2Proof.Machine.execUpdateEnd found s
  | .monId => Sys2Proof.Machine.execMonId s
  | .monSensors => Sys2Proof.Machine.execMonSensors s
  | .monLog seq n => Sys2Proof.Machine.execMonLog seq n s
  | .monAttest nonce => Sys2Proof.Machine.execMonAttest nonce s
  | .monChallenge => Sys2Proof.Machine.execMonChallenge s
  | .monUnlock => Sys2Proof.Machine.execMonUnlock s
  | .monBaud rate => Sys2Proof.Machine.execMonBaud rate s
  | .baudRevert => Sys2Proof.Machine.execBaudRevert s
  | .monLoad n => Sys2Proof.Machine.execMonLoad n s
  | .monLock => Sys2Proof.Machine.execMonLock s
  | .monUpdate addr len => Sys2Proof.Machine.execMonUpdate addr len s
  | .monCsrRead addr => Sys2Proof.Machine.execMonCsrRead addr s
  | .monCsrWrite addr v => Sys2Proof.Machine.execMonCsrWrite addr v s
  | .monMemRead addr n => Sys2Proof.Machine.execMonMemRead addr n s
  | .monMemWrite addr value => Sys2Proof.Machine.execMonMemWrite addr value s
  | .monDumpRead off n => Sys2Proof.Machine.execMonDumpRead off n s
  | .monDumpExport addr len => Sys2Proof.Machine.execMonDumpExport addr len s
  | .monResetChip => Sys2Proof.Machine.execMonResetChip s
  | .mgtFrame => Sys2Proof.Machine.execMgtFrame s
  | .monitorFrame seq data crc => Sys2Proof.Machine.execMonitorFrame seq data crc s
  | .frameGapTimeout => Sys2Proof.Machine.execFrameGapTimeout s
  | .unlockExpiry => Sys2Proof.Machine.execUnlockExpiry s
  | .mgtAlertRead req => Sys2Proof.Machine.execMgtAlertRead req s
  | .mgtLogData3Read req => Sys2Proof.Machine.execMgtLogData3Read req s
  | .flashLogBatch fails => Sys2Proof.Machine.execFlashLogBatch fails s
  | .sensorSample vals => Sys2Proof.Machine.execSensorSample vals s
  | .profileCommit part sprint => Sys2Proof.Machine.execProfileCommit part sprint s
  | .baseWCommit => Sys2Proof.Machine.execBaseWCommit s
  | .sprintCommit part => Sys2Proof.Machine.execSprintCommit part s
  | .pwrSprintEnd => Sys2Proof.Machine.execPwrSprintEnd s
  | .stretchUpdate => Sys2Proof.Machine.execStretchUpdate s
  | .feedForward => Sys2Proof.Machine.execFeedForward s
  | .pwrVin mv ns => Sys2Proof.Machine.execPwrVin mv ns s
  | .pwrCoreFault rail => Sys2Proof.Machine.execPwrCoreFault rail s
  | .ledgerWrite => Sys2Proof.Machine.execLedgerWrite s
  | .pwrEnRise inRegulation => Sys2Proof.Machine.execPwrEnRise inRegulation s
  | .pwrGoodTimeout => Sys2Proof.Machine.execPwrGoodTimeout s
  | .pwrEnFall => Sys2Proof.Machine.execPwrEnFall s
  | .vinLoss mv => Sys2Proof.Machine.execVinLoss mv s
  | .thermalTrip => Sys2Proof.Machine.execThermalTrip s
  | .refclkLoss => Sys2Proof.Machine.execRefclkLoss s
  | .pllUnlock k => Sys2Proof.Machine.execPllUnlock k s
  | .ppsEdge => Sys2Proof.Machine.execPpsEdge s
  | .salternTimeExchange e => Sys2Proof.Machine.execSalternTimeExchange e s
  | .clkTbUnlock => Sys2Proof.Machine.execClkTbUnlock s
  | .engineWatchdog cls inst => Sys2Proof.Machine.execEngineWatchdog cls inst s
  | .engineReset cls inst => Sys2Proof.Machine.execEngineReset cls inst s
  | .partitionReset part => Sys2Proof.Machine.execPartitionReset part s
  | .chipReset => Sys2Proof.Machine.execChipReset s
  | .escalationTimeout => Sys2Proof.Machine.execEscalationTimeout s
  | .chipWindowExpiry => Sys2Proof.Machine.execChipWindowExpiry s
  | .pwrCycleReq => Sys2Proof.Machine.execPwrCycleReq s
  | .mcWatchdog => Sys2Proof.Machine.execMcWatchdog s
  | .fallowEntry => Sys2Proof.Machine.execFallowEntry s
  | .escalateContext req ctx => Sys2Proof.Machine.execEscalateContext req ctx s
  | .escalateEngine req cls inst => Sys2Proof.Machine.execEscalateEngine req cls inst s
  | .escalatePartition req part => Sys2Proof.Machine.execEscalatePartition req part s
  | .escalateChip req => Sys2Proof.Machine.execEscalateChip req s
  | .escalatePowerCycle req => Sys2Proof.Machine.execEscalatePowerCycle req s
  | .membershipCommit => Sys2Proof.Machine.execMembershipCommit s
  | .heartbeatSend => Sys2Proof.Machine.execHeartbeatSend s
  | .heartbeat p => Sys2Proof.Machine.execHeartbeat p s
  | .heartbeatTimeout m => Sys2Proof.Machine.execHeartbeatTimeout m s
  | .membershipDecision => Sys2Proof.Machine.execMembershipDecision s
  | .joinReq p => Sys2Proof.Machine.execJoinReq p s
  | .joinAck p => Sys2Proof.Machine.execJoinAck p s
  | .rasJoinTimeout => Sys2Proof.Machine.execRasJoinTimeout s
  | .leave p => Sys2Proof.Machine.execLeave p s
  | .leaveWrite req => Sys2Proof.Machine.execLeaveWrite req s
  | .leaveIdle => Sys2Proof.Machine.execLeaveIdle s
  | .rejoin req => Sys2Proof.Machine.execRejoin req s
  | .ethLinkUp port rate => Sys2Proof.Machine.execEthLinkUp port rate s
  | .pfcPauseExpiry port prio => Sys2Proof.Machine.execPfcPauseExpiry port prio s
  | .refclkReturn => Sys2Proof.Machine.execRefclkReturn s
  | .pllRelock k => Sys2Proof.Machine.execPllRelock k s
  | .pllRelockTimeout k => Sys2Proof.Machine.execPllRelockTimeout k s
  | .baudRateChange => Sys2Proof.Machine.execBaudRateChange s

end Sys2Proof.Machine
end

