-- ==== Sys2Proof/Machine/Step.lean ====
section
/-! DEFINITION. One step: the command at the front of the queue, or with none waiting one nanosecond of the time base. -/

namespace Sys2Proof.Machine

/-- With no command waiting one count of the 1 GHz clock passes (R29; log entry 6): the time base advances by 1 ns, or is held
while an offset is taken up (R471). -/
def State.tick (s : State) : State := if s.clock.holdNs = 0 then s.count else s.heldCount

/-- Take the command at the front of the queue and run it on the state with the queue's rest. -/
def step (s : State) : Host.Outcome State Fault Refusal :=
  match s.pending with
  | [] => .next s.tick
  | c :: rest => exec c { s with pending := rest }

/-- The command that a table word spells, put at the front of the queue; the state unchanged where it spells none. -/
def State.withFetchWord (s : State) (nbits w : Nat) : State :=
  match decodeTableWord nbits w with
  | none => s
  | some c => { s with pending := c :: s.pending }

end Sys2Proof.Machine
end

