-- ==== Sys2Proof/WellFormed.lean ====
section
/-! DEFINITION. What a well-formed command is: the lengths and ranges that its operands' types leave open (R7, R8, R54, R214, R220, R292,
R297, R298, R324, R437, R443, R448). A meaning is total on every command; this says which ones the hardware can be given. -/

namespace Sys2Proof

/-- A descriptor of `n` 64-bit words (R8). -/
def Issue.wf (x : Issue) (n : Nat) : Bool := decide (x.desc.length = n)

/-- A near-memory request: an element of 4 or 8 bytes, or a line (R220). -/
def AtomForm.wf : AtomForm → Bool
  | .atomic w _ _ => decide (w = 4) || decide (w = 8)
  | .reduce d => decide (d.length = 64)

/-- A packet: a body of at most 16,384 bytes, and device numbers of 24 bits (R297). -/
def Pkt.wf (p : Pkt) : Bool := decide (p.body.length ≤ 16384) && decide (p.dest < 2 ^ 24) && decide (p.src < 2 ^ 24)

/-- A command the hardware can be given. -/
def Instr.wf : Instr → Bool
  | .csrWrite _ _ => true
  | .rakeWrite _ _ => true
  | .rakeRead _ => true
  | .glbRakeDataAccess _ _ => true
  | .resetNFall _ => true
  | .resetNRise => true
  | .jtagIdcode => true
  | .jtagSamplePreload _ _ => true
  | .jtagExtest => true
  | .jtagExtestPulse => true
  | .jtagExtestTrain => true
  | .jtagClamp => true
  | .jtagHighz => true
  | .jtagBypass _ => true
  | .route _ cmds => cmds.all (fun x => x.wf 16)
  | .recall cmds => cmds.all (fun x => x.wf 16)
  | .pushedTile _ _ => true
  | .logitPullReturn _ line => decide (line.toNat % 64 = 0)
  | .selectEnd _ _ => true
  | .matchingRound _ _ => true
  | .publishStart _ _ _ => true
  | .windowEnd _ _ _ => true
  | .publishLate _ => true
  | .dispatch _ _ desc => decide (desc.length = 8)
  | .return _ _ desc => decide (desc.length = 8)
  | .localFrameMove _ => true
  | .frameLanding _ frame => decide (frame.header.length = 64) && decide (frame.slots.length % 8 = 0)
  | .pumpCompletion _ => true
  | .combine cmd => cmd.wf 16
  | .combineDone _ => true
  | .pass _ cmd => cmd.wf 16
  | .lane _ cmd => cmd.wf 16
  | .passStart _ => true
  | .passCompletion _ _ => true
  | .rampStep _ _ => true
  | .matRepairWrite _ _ _ => true
  | .checksumReqWrite _ _ _ => true
  | .chain cmd => cmd.wf 16
  | .chainStart _ => true
  | .streamBegin _ _ _ => true
  | .chainCompletion _ => true
  | .add _ _ => true
  | .sub _ _ => true
  | .mul _ _ => true
  | .andOp _ _ => true
  | .orOp _ _ => true
  | .xor _ _ => true
  | .shl _ _ => true
  | .shr _ _ => true
  | .sar _ _ => true
  | .addi _ _ => true
  | .andi _ _ => true
  | .ori _ _ => true
  | .li _ _ => true
  | .lsh _ _ => true
  | .cmp _ _ => true
  | .cmpi _ _ => true
  | .fcmp _ _ => true
  | .plog _ _ => true
  | .rdp _ _ => true
  | .wrp _ _ => true
  | .b _ _ => true
  | .call _ _ => true
  | .jr _ _ => true
  | .endProgram _ _ => true
  | .fault _ _ => true
  | .illegalInstruction _ _ => true
  | .ld _ _ => true
  | .ldw _ _ => true
  | .loadReturn _ => true
  | .seqLoadTimeout _ => true
  | .st _ _ => true
  | .stw _ _ => true
  | .storeRefused _ => true
  | .rsum _ _ => true
  | .rds _ _ => true
  | .issue _ _ => true
  | .issueNowait _ _ => true
  | .issueTaken _ => true
  | .seqIssueStall _ => true
  | .wait _ _ => true
  | .waitReached _ => true
  | .seqWaitLimit _ => true
  | .waitt _ _ => true
  | .waittReached _ => true
  | .sig _ _ => true
  | .rdc _ _ => true
  | .seqImemDataWrite _ _ _ => true
  | .seqImemDataRead _ _ => true
  | .lineRead _ nBad _ => decide (nBad ≤ 64)
  | .lineWrite pa data _ nBad _ => decide (nBad ≤ 64) && decide (1 ≤ data.length) && decide (pa.toNat % 64 + data.length ≤ 64)
  | .patrolScrub _ nBad => decide (nBad ≤ 64)
  | .channelDead _ => true
  | .nmAtomic _ _ width _ _ _ nBad => (decide (width = 4) || decide (width = 8)) && decide (nBad ≤ 64)
  | .nmReduce _ _ data _ nBad => decide (data.length = 64) && decide (nBad ≤ 64)
  | .coreStoreAtomic _ _ form _ => form.wf
  | .brineViewCommit _ => true
  | .brineScanDone _ _ => true
  | .brineRead _ => true
  | .poolCommit _ => true
  | .panAlloc _ _ _ => true
  | .panRetain _ _ _ => true
  | .panRelease _ _ _ => true
  | .packetEnqueue _ _ _ payload => decide (payload.bytes.length ≤ 16384)
  | .quePop _ _ _ _ => true
  | .queDrop _ _ _ => true
  | .queStale _ => true
  | .queueCommit _ _ => true
  | .writeRequest _ p => p.wf
  | .readRequest _ p => p.wf
  | .atomicRequest _ p => p.wf
  | .reduceRequest _ p => p.wf
  | .mark _ p => p.wf
  | .requestAck p => p.wf
  | .fabTimeout _ => true
  | .copy _ _ desc => decide (desc.length = 8)
  | .putReduce _ _ desc => decide (desc.length = 8)
  | .atomic _ _ desc => decide (desc.length = 8)
  | .fence _ _ desc => decide (desc.length = 8)
  | .cntClear _ _ desc => decide (desc.length = 8)
  | .memRake _ _ desc => decide (desc.length = 8)
  | .regionCommit _ => true
  | .regionAdvance _ _ => true
  | .regionAdvanceAll _ => true
  | .regionAdvanceOwner _ _ => true
  | .revokingAdvance _ => true
  | .synCntClear _ _ => true
  | .fabSelfWrite _ _ => true
  | .flitReceived _ f => decide (f.body.length = 256) || f.body.isEmpty
  | .linkTrained _ _ => true
  | .lnkTrainFail _ => true
  | .linkSlotStart _ _ _ => true
  | .tc0TransferLand _ t => decide (t.header.length = 48)
  | .packetRoute _ => true
  | .sluiceMove _ _ => true
  | .lnkCfgCommit _ => true
  | .lnkStDataAccess _ _ _ => true
  | .linkTableCommit _ => true
  | .linkTableSwap _ => true
  | .switchOver _ _ => true
  | .fabRtDataWrite _ _ => true
  | .fabSluiceWrite _ _ _ => true
  | .rankWindowCommit _ => true
  | .fabGangWrite _ _ => true
  | .rdmaWrite _ _ _ => true
  | .rdmaRead _ _ => true
  | .fetchAdd _ _ => true
  | .cmpSwap _ _ _ => true
  | .roceSend _ _ _ => true
  | .ethBadPkt _ _ => true
  | .pfcReceived _ _ quanta => decide (quanta.length = 8)
  | .pfcXoffRepeat _ _ => true
  | .pauseReceived _ => true
  | .ceMarkedPacket _ => true
  | .cnpReceived _ => true
  | .cnpRateRise _ => true
  | .arpRequest _ _ => true
  | .ptpMessage _ _ => true
  | .delayReqSend _ => true
  | .ethCfgCommit _ => true
  | .qpCommit _ => true
  | .ethLinkDown _ => true
  | .allToAll cmd => cmd.wf 16
  | .allToAllv cmd => cmd.wf 16
  | .reduceScatter cmd => cmd.wf 16
  | .allGather cmd => cmd.wf 16
  | .allReduce cmd => cmd.wf 16
  | .broadcast cmd => cmd.wf 16
  | .barrier cmd => cmd.wf 16
  | .fusedAllReduce cmd => cmd.wf 16
  | .send cmd => cmd.wf 16
  | .collectiveStart => true
  | .chunkHeaderArrive => true
  | .pieceArrive _ => true
  | .credit p => p.wf
  | .stepVoid p => p.wf
  | .colTimeout => true
  | .collectiveComplete => true
  | .barrierOutcome _ => true
  | .sendAck p => p.wf
  | .partitionCommit _ => true
  | .schPartStop _ _ _ => true
  | .schPartStepWrite _ _ _ => true
  | .frameStart _ => true
  | .slotRun _ => true
  | .slotTake _ => true
  | .tableCommit _ => true
  | .contextCommit _ => true
  | .ctxTeardown _ _ _ => true
  | .contextQuarantine _ => true
  | .ctxTeardownSlow _ => true
  | .contextFree _ => true
  | .ringCommit _ _ => true
  | .commit _ _ _ => true
  | .commitAtStep _ _ _ => true
  | .commitCancel _ _ _ => true
  | .commitApply => true
  | .launchStart _ _ => true
  | .launch p => p.wf
  | .launchAck p => p.wf
  | .ready p => p.wf
  | .go p => p.wf
  | .abort p => p.wf
  | .childTimeout _ => true
  | .readyTimeout _ => true
  | .schNoGo _ => true
  | .tStartReached _ => true
  | .detRngFill _ _ => true
  | .fillComplete => true
  | .logCommit => true
  | .replayCommit => true
  | .coldBoot _ _ _ => true
  | .warmBoot _ _ => true
  | .mgtStageTimeout => true
  | .imageReq _ p => p.wf
  | .imageData _ p => p.wf
  | .imageReqTimeout => true
  | .i3cEntdaa _ => true
  | .i3cSetdasa _ _ => true
  | .i3cRstdaa => true
  | .i3cGetpid => true
  | .i3cGetbcr => true
  | .i3cGetdcr => true
  | .i3cGetstatus => true
  | .i3cEnecDisec _ => true
  | .i3cId => true
  | .i3cSensor _ => true
  | .i3cAlert => true
  | .i3cLog _ => true
  | .i3cAttest nonce => decide (nonce.length = 48)
  | .i3cUpdate _ _ => true
  | .i3cDumpExport _ _ => true
  | .requestAttest => true
  | .requestUpdate => true
  | .requestStatus => true
  | .updateEnd _ => true
  | .monId => true
  | .monSensors => true
  | .monLog _ n => decide (n ≤ 256)
  | .monAttest nonce => decide (nonce.length = 48)
  | .monChallenge => true
  | .monUnlock => true
  | .monBaud _ => true
  | .baudRevert => true
  | .monLoad _ => true
  | .monLock => true
  | .monUpdate _ _ => true
  | .monCsrRead _ => true
  | .monCsrWrite _ _ => true
  | .monMemRead _ _ => true
  | .monMemWrite _ _ => true
  | .monDumpRead _ _ => true
  | .monDumpExport _ _ => true
  | .monResetChip => true
  | .mgtFrame => true
  | .monitorFrame _ data _ => decide (1 ≤ data.length) && decide (data.length ≤ 4096)
  | .frameGapTimeout => true
  | .unlockExpiry => true
  | .mgtAlertRead _ => true
  | .mgtLogData3Read _ => true
  | .flashLogBatch _ => true
  | .sensorSample vals => vals.all (fun x => decide (x.1 < 0x24) || (decide (0x28 ≤ x.1) && decide (x.1 ≤ 0x2A)) || (decide (0x40 ≤ x.1) && decide (x.1 < 0x60)))
  | .profileCommit _ _ => true
  | .baseWCommit => true
  | .sprintCommit _ => true
  | .pwrSprintEnd => true
  | .stretchUpdate => true
  | .feedForward => true
  | .pwrVin _ _ => true
  | .pwrCoreFault _ => true
  | .ledgerWrite => true
  | .pwrEnRise _ => true
  | .pwrGoodTimeout => true
  | .pwrEnFall => true
  | .vinLoss _ => true
  | .thermalTrip => true
  | .refclkLoss => true
  | .pllUnlock _ => true
  | .ppsEdge => true
  | .salternTimeExchange _ => true
  | .clkTbUnlock => true
  | .engineWatchdog _ _ => true
  | .engineReset _ _ => true
  | .partitionReset _ => true
  | .chipReset => true
  | .escalationTimeout => true
  | .chipWindowExpiry => true
  | .pwrCycleReq => true
  | .mcWatchdog => true
  | .fallowEntry => true
  | .escalateContext _ _ => true
  | .escalateEngine _ _ _ => true
  | .escalatePartition _ _ => true
  | .escalateChip _ => true
  | .escalatePowerCycle _ => true
  | .membershipCommit => true
  | .heartbeatSend => true
  | .heartbeat p => p.wf
  | .heartbeatTimeout _ => true
  | .membershipDecision => true
  | .joinReq p => p.wf
  | .joinAck p => p.wf
  | .rasJoinTimeout => true
  | .leave p => p.wf
  | .leaveWrite _ => true
  | .leaveIdle => true
  | .rejoin _ => true
  | .ethLinkUp _ rate => decide (rate ≤ 2)
  | .pfcPauseExpiry _ _ => true
  | .refclkReturn => true
  | .pllRelock _ => true
  | .pllRelockTimeout _ => true
  | .baudRateChange => true

end Sys2Proof
end

