-- ==== Sys2Proof/Safety.lean ====
section
/-! DEFINITION. What a safe state and a safe step are, in the terms the statements use. -/

namespace Sys2Proof

open Sys2Proof.Machine

/-- A state is sound: memory and the states of its words hold their canonical forms (R30, R214). -/
def Safety.sound (s : State) : Bool := Memory.wf s.mem && SMap.wf s.bad (fun _ => Bad.ok)

/-- A step is safe: it answers a next state, so no command is refused and none stops the machine. -/
def Safety.goesOn (s : State) : Prop := ∃ t, step s = .next t

end Sys2Proof
end

