-- ==== Sys2Proof/Certificates/Slice0/Obligations.lean ====
section
/-! DEFINITION. The statements for the provers. -/

namespace Sys2Proof

open Sys2Proof.Machine

/-- Every byte of memory reads as before. -/
def Claims.memSame (s t : State) : Prop := ∀ a, t.readByte a = s.readByte a

/-- Every register outside a list reads as before. -/
def Claims.regsOutside (l : List Nat) (s t : State) : Prop := ∀ a, a ∉ l → t.reg a = s.reg a

/-- The power is good, and no block stands still for an unlocked PLL (R469). -/
abbrev Claims.powered (s : State) : Prop := s.pins.pwrGood = true ∧ s.clock.unlocked = []

/-- A block of the core die runs: the block is powered and the core die is on. -/
abbrev Claims.coreRuns (s : State) : Prop := Claims.powered s ∧ s.coreOn = true

/-- The commands that are events of the power, reset and supply pins, which act whatever PWR_GOOD shows (R466 to R468, R520). -/
def Claims.isPinEvent : Instr → Bool
  | .resetNFall _ | .resetNRise | .pwrEnRise _ | .pwrGoodTimeout | .pwrEnFall | .vinLoss _ | .thermalTrip | .pwrVin _ _ => true
  | _ => false

/-- The commands of a core's sequencer: they act while the core die is on. -/
def Claims.isSeqCommand : Instr → Bool
  | .add _ _ | .sub _ _ | .mul _ _ | .andOp _ _ | .orOp _ _ | .xor _ _ | .shl _ _ | .shr _ _ | .sar _ _ | .addi _ _
  | .andi _ _ | .ori _ _ | .li _ _ | .lsh _ _ | .cmp _ _ | .cmpi _ _ | .fcmp _ _ | .plog _ _ | .rdp _ _ | .wrp _ _
  | .b _ _ | .call _ _ | .jr _ _ | .endProgram _ _ | .fault _ _ | .illegalInstruction _ _ | .ld _ _ | .ldw _ _
  | .loadReturn _ | .seqLoadTimeout _ | .st _ _ | .stw _ _ | .storeRefused _ | .rsum _ _ | .rds _ _ | .issue _ _
  | .issueNowait _ _ | .issueTaken _ | .seqIssueStall _ | .wait _ _ | .waitReached _ | .seqWaitLimit _ | .waitt _ _
  | .waittReached _ | .sig _ _ | .rdc _ _ => true
  | _ => false

/-- The commands that engines of the core die take from a core. -/
def Claims.isCoreEngineCommand : Instr → Bool
  | .route _ _ | .recall _ | .pushedTile _ _ | .logitPullReturn _ _ | .selectEnd _ _ | .matchingRound _ _ | .publishStart _ _ _
  | .windowEnd _ _ _ | .publishLate _ | .combine _ | .combineDone _ | .pass _ _ | .lane _ _ | .passStart _
  | .passCompletion _ _ | .rampStep _ _ | .chain _ | .chainStart _ | .streamBegin _ _ _ | .chainCompletion _
  | .allToAll _ | .allToAllv _ | .reduceScatter _ | .allGather _ | .allReduce _ | .broadcast _ | .barrier _
  | .fusedAllReduce _ | .send _ | .collectiveStart | .chunkHeaderArrive | .pieceArrive _ | .credit _ | .stepVoid _
  | .colTimeout | .collectiveComplete | .barrierOutcome _ | .partitionCommit _ | .frameStart _ | .slotRun _ | .slotTake _
  | .tableCommit _ | .contextCommit _ | .contextQuarantine _ | .ctxTeardownSlow _ | .contextFree _ | .ringCommit _ _
  | .childTimeout _ | .readyTimeout _ | .schNoGo _
  | .tStartReached _ | .fillComplete | .logCommit | .replayCommit => true
  | _ => false

end Sys2Proof

section

open Sys2Proof Sys2Proof.Machine

/-- A step takes the command at the front of the queue and runs it on the state with the queue's rest. (opcode_table.json, 00_scope.md) -/
def Obligations.StepRunsFrontCommand : Prop :=
  ∀ (c : Instr) (s : State), step { s with pending := c :: s.pending } = exec c s

/-- With no command waiting the block idles: the time base alone advances or is held (model's choice, log entries 6 and 128). (01_organisation.md (Clock domains), 14_power_thermal_clocks.md (The time base)) -/
def Obligations.IdleStepIsOneTick : Prop :=
  ∀ s : State, s.pending = [] → ∃ t, step s = .next t ∧ t = { s with tb := t.tb, clock := t.clock } ∧
    (s.clock.holdNs ≠ 0 → (∀ p < 16, s.partState p < 2) → t = { s with clock := { s.clock with holdNs := s.clock.holdNs - 1 } }) ∧
    (s.clock.holdNs ≠ 0 → (∃ p < 16, 2 ≤ s.partState p) →
      step s = step { s with clock := { s.clock with holdNs := 0, slew := s.clock.slew - s.clock.holdNs } }) ∧
    (s.clock.holdNs = 0 → s.clock.slew = 0 →
      t = { s with tb := (s.tb + 1) % 2 ^ 64, clock := { s.clock with counts := 0 } }) ∧
    (s.clock.holdNs = 0 → s.clock.slew ≠ 0 → s.clock.counts + 1 < 20000 →
      t = { s with tb := (s.tb + 1) % 2 ^ 64, clock := { s.clock with counts := s.clock.counts + 1 } }) ∧
    (s.clock.holdNs = 0 → 0 < s.clock.slew → 20000 ≤ s.clock.counts + 1 →
      t = { s with tb := (s.tb + 2) % 2 ^ 64, clock := { s.clock with counts := 0, slew := s.clock.slew - 1 } }) ∧
    (s.clock.holdNs = 0 → s.clock.slew < 0 → 20000 ≤ s.clock.counts + 1 →
      t = { s with tb := s.tb % 2 ^ 64, clock := { s.clock with counts := 0, slew := s.clock.slew + 1 } })

/-- Every step of every state answers a next state: no command faults the block and none is refused by name. (00_scope.md (Notation and units), 00_scope.md (Zero is never "maximum")) -/
def Obligations.EveryStepGoesOn : Prop :=
  ∀ s : State, Safety.goesOn s

/-- After reset every register holds its reset value, every counter is zero, nothing runs and a cold boot is due. (00_scope.md (Register access types), 06_sequencer.md (Registers, predicates and the instruction store), 08_salax_memory.md (Arrival counters), 11_partitions_contexts_schedule.md (Partitions), 11_partitions_contexts_schedule.md (Contexts), 13_boot_management_monitor.md (Boot), 16_registers_pins.md (Global registers)) -/
def Obligations.ResetStateValues : Prop :=
  (∀ a, State.reset.reg a = regReset a) ∧
  (∀ n : Fin 64, State.reset.seqPhase n = seqIdle ∧ State.reset.seqRun n = false ∧
    (∀ r : BitVec 5, State.reset.sreg n r = 0) ∧ (∀ p : BitVec 3, (State.reset.seq n).pred p.toNat = decide (p = 0)) ∧
    State.reset.chainRoom n = true ∧ (State.reset.chain n).running = none) ∧
  (∀ p : Fin 16, State.reset.partState p = 0) ∧ (∀ c : Fin 16384, State.reset.ctxState c = 0) ∧
  (∀ i, (State.reset.counter i).count = 0 ∧ (State.reset.counter i).err = 0) ∧
  (∀ m : Fin 128, State.reset.mat m = matInit) ∧ (∀ j : Fin 4, (State.reset.router j).win = none) ∧
  (∀ r, (State.reset.region r).size = 0) ∧ (∀ a, State.reset.readByte a = 0) ∧
  State.reset.pumps = [] ∧ State.reset.colls = [] ∧ State.reset.out = [] ∧ State.reset.pending = [] ∧
  State.reset.mgmt.boot = some true

/-- The state after reset is sound: memory and the words' states hold their canonical forms. (01_organisation.md (Address spaces), 07_memory_pans_queues.md (ECC)) -/
def Obligations.ResetStateIsSound : Prop :=
  Safety.sound State.reset = true

/-- Every step keeps memory and the words' states in their canonical forms. (01_organisation.md (Address spaces), 07_memory_pans_queues.md (ECC)) -/
def Obligations.EveryStepKeepsSound : Prop :=
  ∀ s t : State, Safety.sound s = true → step s = .next t → Safety.sound t = true

/-- While PWR_GOOD is low no command but an event of the power and reset pins changes anything, and none of a sequencer runs with the core die off. (14_power_thermal_clocks.md (Power sequencing), 14_power_thermal_clocks.md (Clocks)) -/
def Obligations.WithoutPowerNothingRuns : Prop :=
  (∀ (c : Instr) (s : State), s.pins.pwrGood = false → Claims.isPinEvent c = false → Claims.isSeqCommand c = false →
    exec c s = .next s) ∧
  (∀ (c : Instr) (s : State), s.coreOn = false ∨ s.clockStops 0 = true → Claims.isSeqCommand c = true → exec c s = .next s)

/-- While the core die is off or its clock stands no engine, router, schedule or collective command of the core die changes anything. (01_organisation.md (The keep ring), 14_power_thermal_clocks.md (Clocks), 11_partitions_contexts_schedule.md (Partitions), 02_octine_routers.md (Commands and windows)) -/
def Obligations.CoreDieOffStopsItsEngines : Prop :=
  (∀ (p : Pkt) (s : State), Claims.powered s → s.coreOn = false → ∀ c ∈ [Instr.launch p, .launchAck p, .ready p, .go p, .abort p],
    exec c s = .next (s.answer p 0x0006 [])) ∧
  ∀ (c : Instr) (s : State), s.coreOn = false ∨ s.clockStops 0 = true → Claims.isCoreEngineCommand c = true → exec c s = .next s

end

namespace Sys2Proof

open Sys2Proof.Machine

/-- A program of an enabled core runs, and its program counter is at instruction `i` (R179 to R182). -/
abbrev Claims.atInsn (s : State) (n : Fin 64) (i : Insn) : Prop :=
  s.coreRuns = true ∧ s.coreEnabled n = true ∧ s.seqPhase n = seqRunning ∧
  decodeInsn (BitVec.ofNat 32 (s.imemWord n (s.seqPc n))) = some i

/-- The instruction runs: it is fetched without an uncorrectable error, its guard holds, and it is not the last of the store,
past which a program faults (R180, R182, R187). -/
abbrev Claims.goes (s : State) (n : Fin 64) (ecc : Ecc) (i : Insn) : Prop :=
  Claims.atInsn s n i ∧ ecc ≠ .uncorrected ∧ (s.seq n).pred i.pg.toNat ≠ i.gn ∧ s.seqPc n < 65535

/-- After the fetch: a corrected word is counted (R180). -/
def Claims.fetched (s : State) (n : Fin 64) (ecc : Ecc) : State :=
  if ecc = .corrected then s.bump Reg.SEQ_IMEM_ECC_CORRECTED (instDelta n) 1 else s

/-- The program of core `n` runs on at index `pc` with one more instruction retired; outside sequencer `n`, SEQ_STATE and
SEQ_STAT_INSNS nothing has changed, and of the sequencer at most its scalar registers and predicates (R181). -/
def Claims.retired (s t : State) (n : Fin 64) (pc : Nat) : Prop :=
  t = { s with regs := t.regs, seqs := t.seqs } ∧
  t.seqPhase n = seqRunning ∧ t.seqPc n = pc ∧ t.seqCtx n = s.seqCtx n ∧
  Claims.regsOutside [Reg.SEQ_STATE + instDelta n, Reg.SEQ_STAT_INSNS + instDelta n] s t ∧
  (t.reg (Reg.SEQ_STAT_INSNS + instDelta n)).toNat = min ((s.reg (Reg.SEQ_STAT_INSNS + instDelta n)).toNat + 1) (2 ^ 64 - 1) ∧
  (∀ m, m ≠ n.val → t.seq m = s.seq m) ∧
  t.seq n = { s.seq n with regs := (t.seq n).regs, preds := (t.seq n).preds, hold := .none }

/-- Scalar register `rd` holds `v`, a write of s0 is discarded, and every other register and every predicate is as before
(R177). -/
def Claims.scalarIs (s t : State) (n : Fin 64) (rd : BitVec 5) (v : Word) : Prop :=
  (rd ≠ 0 → t.sreg n rd = v) ∧ t.sreg n 0 = 0 ∧ (∀ r, r ≠ rd → t.sreg n r = s.sreg n r) ∧ (t.seq n).preds = (s.seq n).preds

/-- The instruction writes `v` to `rd`, retires, and changes nothing else. -/
def Claims.wroteScalar (s t : State) (n : Fin 64) (rd : BitVec 5) (v : Word) : Prop :=
  Claims.retired s t n (s.seqPc n + 1) ∧ Claims.scalarIs s t n rd v

/-- The instruction writes `v` to predicate `pd` (a write of p0 is discarded), retires, and changes nothing else (R178). -/
def Claims.wrotePred (s t : State) (n : Fin 64) (pd : BitVec 3) (v : Bool) : Prop :=
  Claims.retired s t n (s.seqPc n + 1) ∧ (t.seq n).regs = (s.seq n).regs ∧ (t.seq n).pred 0 = true ∧
  (pd ≠ 0 → (t.seq n).pred pd.toNat = v) ∧ (∀ p : BitVec 3, p ≠ pd → (t.seq n).pred p.toNat = (s.seq n).pred p.toNat)

/-- The command of the table that runs an instruction. -/
def Claims.rowOf (n : Fin 64) (ecc : Ecc) : Act → Instr
  | .alu .add _ _ _ => .add n ecc | .alu .sub _ _ _ => .sub n ecc | .alu .mul _ _ _ => .mul n ecc
  | .alu .and _ _ _ => .andOp n ecc | .alu .or _ _ _ => .orOp n ecc | .alu .xor _ _ _ => .xor n ecc
  | .shift .shl _ _ _ => .shl n ecc | .shift .shr _ _ _ => .shr n ecc | .shift .sar _ _ _ => .sar n ecc
  | .aluI .addi _ _ _ => .addi n ecc | .aluI .andi _ _ _ => .andi n ecc | .aluI .ori _ _ _ => .ori n ecc
  | .li _ _ => .li n ecc | .lsh _ _ => .lsh n ecc | .cmp _ _ _ _ => .cmp n ecc | .cmpi _ _ _ _ => .cmpi n ecc
  | .fcmp _ _ _ _ => .fcmp n ecc | .plog _ _ _ _ => .plog n ecc | .rdp _ => .rdp n ecc | .wrp _ => .wrp n ecc
  | .b _ => .b n ecc | .call _ => .call n ecc | .jr _ => .jr n ecc | .endProgram => .endProgram n ecc
  | .fault _ => .fault n ecc | .ld _ _ _ => .ld n ecc | .ldw _ _ _ => .ldw n ecc | .st _ _ _ => .st n ecc
  | .stw _ _ _ => .stw n ecc | .rsum _ _ _ => .rsum n ecc | .rds _ _ => .rds n ecc | .issue _ _ => .issue n ecc
  | .issueNowait _ _ _ => .issueNowait n ecc | .wait _ _ _ => .wait n ecc | .waitt _ => .waitt n ecc | .sig _ => .sig n ecc
  | .rdc _ _ => .rdc n ecc

/-- The program of core `n` has faulted at index `pc` with `code`: SEQ_STATE is FAULTED there, the first unread fault is
recorded with its word, the fault is counted and logged, the partition's step is void, no scalar register, predicate, byte of
memory, counter or other register has changed, and then the context-level fault is reported for the program's context (R202, R204). -/
def Claims.faulted (s t : State) (n : Fin 64) (pc code word : Nat) : Prop :=
  ∃ u : State, t = u.escalateContext (s.seqCtx n) code (seqSite n) ∧
  u = { s with regs := u.regs, seqs := u.seqs, log := u.log, power := u.power } ∧
  Claims.regsOutside [Reg.SEQ_STATE + instDelta n, Reg.SEQ_FAULT + instDelta n, Reg.SEQ_FAULT_INSN + instDelta n,
    Reg.SEQ_STAT_FAULTS + instDelta n, Reg.SEQ_ERR + instDelta n, Reg.COL_PART_STATEp_VOID_CUR.base + 8 * (s.seq n).part,
    Reg.MGT_ALERT, Reg.MGT_STAT_LOG_ENTRIES, Reg.MGT_STAT_LOG_DROPPED] s u ∧
  u.seqPhase n = seqFaulted ∧ u.seqPc n = pc ∧ u.seqCtx n = s.seqCtx n ∧
  (∀ m, m ≠ n.val → u.seq m = s.seq m) ∧ u.seq n = { s.seq n with hold := .none, refused := none } ∧
  (s.fld Reg.SEQ_FAULT_VALID (instDelta n) = 0 →
    u.fld Reg.SEQ_FAULT_CODE (instDelta n) = code ∧ u.fld Reg.SEQ_FAULT_PC (instDelta n) = pc ∧
    u.fld Reg.SEQ_FAULT_CONTEXT (instDelta n) = s.seqCtx n ∧ u.fld Reg.SEQ_FAULT_VALID (instDelta n) = 1 ∧
    (u.reg (Reg.SEQ_FAULT_INSN + instDelta n)).toNat = word) ∧
  (s.fld Reg.SEQ_FAULT_VALID (instDelta n) = 1 →
    u.reg (Reg.SEQ_FAULT + instDelta n) = s.reg (Reg.SEQ_FAULT + instDelta n) ∧
    u.reg (Reg.SEQ_FAULT_INSN + instDelta n) = s.reg (Reg.SEQ_FAULT_INSN + instDelta n)) ∧
  (u.reg (Reg.SEQ_STAT_FAULTS + instDelta n)).toNat = min ((s.reg (Reg.SEQ_STAT_FAULTS + instDelta n)).toNat + 1) (2 ^ 64 - 1) ∧
  u.fld Reg.SEQ_ERR_CODE (instDelta n) = code ∧
  u.fld Reg.SEQ_ERR_COUNT (instDelta n) = min (s.fld Reg.SEQ_ERR_COUNT (instDelta n) + 1) 0xFFFF ∧
  u.fld Reg.COL_PART_STATEp_VOID_CUR (8 * (s.seq n).part) = 1

/-- A range of LPDDR6 that a write or a read of one line meets with nothing in the way: it lies in the general area and in one
line, whose channel answers and whose words are clean, and no brine view or index touches it (R210, R214, R219, R231). -/
def Claims.plainLp (s : State) (a n : Nat) : Prop :=
  0 < n ∧ a + n ≤ generalSize ∧ a / 64 = (a + n - 1) / 64 ∧ s.chanDead (channelOf (a / 64 * 64)) = false ∧
  s.poisoned (a / 64 * 64) 64 = false ∧ s.touchesView a n = false

/-- The bytes of a range are those given and every other byte reads as before. -/
def Claims.stored (s t : State) (a : Nat) (bs : Bytes) : Prop :=
  ∀ x, t.readByte x = if a ≤ x ∧ x < a + bs.length then bs.getD (x - a) 0 else s.readByte x

end Sys2Proof

section

open Sys2Proof Sys2Proof.Machine

/-- Decoding the encoded word of any legal sequencer instruction gives that instruction back, with every operand and guard. (06_sequencer.md (Instruction formats), 06_sequencer.md (Instruction table)) -/
def Obligations.SequencerInstructionRoundTrip : Prop :=
  ∀ i : Insn, i.wf = true → decodeInsn i.encode = some i

/-- A word that decodes is the encoding of what it decodes to, so every field outside an instruction's operands is checked. (06_sequencer.md (Instruction formats), 06_sequencer.md (Instruction table)) -/
def Obligations.SequencerWordMeansOneInstruction : Prop :=
  ∀ (w : BitVec 32) (i : Insn), decodeInsn w = some i → i.wf = true ∧ i.encode = w

/-- Words written out from the format table decode to the instructions they stand for, and the all-zero word to none. (06_sequencer.md (Instruction formats), 06_sequencer.md (Instruction table)) -/
def Obligations.DecodesWordsOfTheTable : Prop :=
  decodeInsn 0b00000100011001000010100000000000#32 = some ⟨false, 0, .alu .add 3 4 5⟩ ∧
  decodeInsn 0b00011100001000100000010001010010#32 = some ⟨false, 2, .shift .shl 1 2 (.imm 5)⟩ ∧
  decodeInsn 0b00101000001000101111111111110000#32 = some ⟨false, 0, .aluI .addi 1 2 0xFFF⟩ ∧
  decodeInsn 0b00110111111000000000000000010000#32 = some ⟨false, 0, .li 31 1⟩ ∧
  decodeInsn 0b01000000010000010001000000101011#32 = some ⟨true, 3, .cmp 2 .c2 1 2⟩ ∧
  decodeInsn 0b01000101010100001111111111110000#32 = some ⟨false, 0, .cmpi 2 .c5 1 0x7FF⟩ ∧
  decodeInsn 0b01100011111111111111111111110000#32 = some ⟨false, 0, .b 0x3FFFFF⟩ ∧
  decodeInsn 0b10000000001000100000000010000000#32 = some ⟨false, 0, .ld 1 2 8⟩ ∧
  decodeInsn 0b10100000011000000000000010100000#32 = some ⟨false, 0, .rsum 3 2 .sum⟩ ∧
  decodeInsn 0b11000000000001000000000011000000#32 = some ⟨false, 0, .issue 12 4⟩ ∧
  decodeInsn 0b11000000001001000000000110000000#32 = some ⟨false, 0, .issueNowait 8 4 1⟩ ∧
  decodeInsn 0b11000100001000100001100000000000#32 = some ⟨false, 0, .wait 1 2 3⟩ ∧
  decodeInsn 0 = none ∧ insnCode 0 = 0x1001 ∧
  decodeInsn 0b01101100000000000000000000010000#32 = none ∧ insnCode 0b01101100000000000000000000010000#32 = 0x1002

/-- An instruction whose guard is false retires and changes nothing. (06_sequencer.md (Instruction formats), 06_sequencer.md (Registers, predicates and the instruction store)) -/
def Obligations.FalseGuardRetires : Prop :=
  ∀ (n : Fin 64) (ecc : Ecc) (i : Insn) (s : State), Claims.atInsn s n i → ecc ≠ .uncorrected →
    (s.seq n).pred i.pg.toNat = i.gn → s.seqPc n < 65535 →
    ∃ t, exec (Claims.rowOf n ecc i.act) s = .next t ∧
      Claims.retired (Claims.fetched s n ecc) t n (s.seqPc n + 1) ∧
      (∀ r, t.sreg n r = s.sreg n r) ∧ (t.seq n).preds = (s.seq n).preds

/-- ADD, SUB, MUL, AND, OR and XOR write the 64-bit result to rd, retire, and change nothing else. (06_sequencer.md (Instruction table), 06_sequencer.md (Registers, predicates and the instruction store)) -/
def Obligations.TwoRegisterArithmetic : Prop :=
  ∀ (n : Fin 64) (ecc : Ecc) (gn : Bool) (pg : BitVec 3) (k : Alu) (rd ra rb : BitVec 5) (s : State),
    Claims.goes s n ecc ⟨gn, pg, .alu k rd ra rb⟩ →
    ∃ t, exec (Claims.rowOf n ecc (.alu k rd ra rb)) s = .next t ∧
      Claims.wroteScalar (Claims.fetched s n ecc) t n rd
        (match k with
         | .add => BitVec.ofNat 64 ((s.sreg n ra).toNat + (s.sreg n rb).toNat)
         | .sub => BitVec.ofInt 64 ((s.sreg n ra).toNat - (s.sreg n rb).toNat)
         | .mul => BitVec.ofNat 64 ((s.sreg n ra).toNat * (s.sreg n rb).toNat)
         | .and => s.sreg n ra &&& s.sreg n rb
         | .or => s.sreg n ra ||| s.sreg n rb
         | .xor => s.sreg n ra ^^^ s.sreg n rb)

/-- SHL, SHR and SAR shift by rb[5:0] or by sub[5:0], filling with zeros or the sign, and change nothing else. (06_sequencer.md (Instruction table), 06_sequencer.md (Registers, predicates and the instruction store)) -/
def Obligations.ShiftsMoveBits : Prop :=
  ∀ (n : Fin 64) (ecc : Ecc) (gn : Bool) (pg : BitVec 3) (k : Shift) (rd ra : BitVec 5) (c : Count) (s : State),
    Claims.goes s n ecc ⟨gn, pg, .shift k rd ra c⟩ →
    ∃ t v, exec (Claims.rowOf n ecc (.shift k rd ra c)) s = .next t ∧ Claims.wroteScalar (Claims.fetched s n ecc) t n rd v ∧
      ∀ i, i < 64 → v.getLsbD i =
        (let m := match c with | .reg rb => (s.sreg n rb).toNat % 64 | .imm x => x.toNat
         match k with
         | .shl => decide (m ≤ i) && (s.sreg n ra).getLsbD (i - m)
         | .shr => decide (i + m < 64) && (s.sreg n ra).getLsbD (i + m)
         | .sar => if i + m < 64 then (s.sreg n ra).getLsbD (i + m) else (s.sreg n ra).getLsbD 63)

/-- ADDI, ANDI, ORI, LI, LSH, RDP, RSUM, RDS and RDC write their value to rd and change nothing else. (06_sequencer.md (Instruction formats), 06_sequencer.md (Instruction table), 06_sequencer.md (Summaries and special values), 06_sequencer.md (Waiting and signalling)) -/
def Obligations.ImmediatesAndSpecialValues : Prop :=
  ∀ (n : Fin 64) (ecc : Ecc) (gn : Bool) (pg : BitVec 3) (rd : BitVec 5) (s : State),
    (∀ ra imm, Claims.goes s n ecc ⟨gn, pg, .aluI .addi rd ra imm⟩ → ∃ t, exec (.addi n ecc) s = .next t ∧
      Claims.wroteScalar (Claims.fetched s n ecc) t n rd (BitVec.ofInt 64 ((s.sreg n ra).toInt + imm.toInt))) ∧
    (∀ ra imm, Claims.goes s n ecc ⟨gn, pg, .aluI .andi rd ra imm⟩ → ∃ t, exec (.andi n ecc) s = .next t ∧
      Claims.wroteScalar (Claims.fetched s n ecc) t n rd (s.sreg n ra &&& BitVec.ofNat 64 imm.toNat)) ∧
    (∀ ra imm, Claims.goes s n ecc ⟨gn, pg, .aluI .ori rd ra imm⟩ → ∃ t, exec (.ori n ecc) s = .next t ∧
      Claims.wroteScalar (Claims.fetched s n ecc) t n rd (s.sreg n ra ||| BitVec.ofNat 64 imm.toNat)) ∧
    (∀ imm, Claims.goes s n ecc ⟨gn, pg, .li rd imm⟩ → ∃ t, exec (.li n ecc) s = .next t ∧
      Claims.wroteScalar (Claims.fetched s n ecc) t n rd (BitVec.ofInt 64 imm.toInt)) ∧
    (∀ imm, Claims.goes s n ecc ⟨gn, pg, .lsh rd imm⟩ → ∃ t, exec (.lsh n ecc) s = .next t ∧
      Claims.wroteScalar (Claims.fetched s n ecc) t n rd (BitVec.ofNat 64 ((s.sreg n rd).toNat * 65536 + imm.toNat))) ∧
    (Claims.goes s n ecc ⟨gn, pg, .rdp rd⟩ → ∃ t v, exec (.rdp n ecc) s = .next t ∧
      Claims.wroteScalar (Claims.fetched s n ecc) t n rd v ∧ v.toNat < 256 ∧ (∀ p : BitVec 3, v.getLsbD p.toNat = (s.seq n).pred p.toNat)) ∧
    (∀ (slot : BitVec 3) f, Claims.goes s n ecc ⟨gn, pg, .rsum rd slot f⟩ → ∃ t, exec (.rsum n ecc) s = .next t ∧
      Claims.wroteScalar (Claims.fetched s n ecc) t n rd
        (let a := Reg.CHN_SUM + instDelta n + 32 * slot.toNat
         match f with
         | .max => BitVec.ofNat 64 ((s.reg a).toNat % 2 ^ 32) | .sum => BitVec.ofNat 64 ((s.reg a).toNat / 2 ^ 32)
         | .nan => s.reg (a + 8) | .over => s.reg (a + 16) | .status => s.reg (a + 24))) ∧
    (∀ x, Claims.goes s n ecc ⟨gn, pg, .rds rd x⟩ → ∃ t, exec (.rds n ecc) s = .next t ∧
      Claims.wroteScalar (Claims.fetched s n ecc) t n rd
        (let p := s.ctxPartition (s.seqCtx n)
         match x with
         | .core => BitVec.ofNat 64 n | .partition => BitVec.ofNat 64 p | .context => BitVec.ofNat 64 (s.seqCtx n)
         | .step => s.reg (Reg.SCH_PART_STEP + instDelta p) | .time => BitVec.ofNat 64 s.tb
         | .slotStart => BitVec.ofNat 64 (s.seq n).slotStart | .nextSlot => BitVec.ofNat 64 (s.nextSlotOf p n)
         | .arg => BitVec.ofNat 64 (s.seq n).arg | .entry => BitVec.ofNat 64 (s.seq n).entry)) ∧
    (∀ ra, Claims.goes s n ecc ⟨gn, pg, .rdc rd ra⟩ → (s.sreg n ra).toNat ≤ 16383 → ∃ t, exec (.rdc n ecc) s = .next t ∧
      Claims.wroteScalar (Claims.fetched s n ecc) t n rd (s.counter (s.sreg n ra).toNat).count)

/-- CMP, CMPI, FCMP and PLOG write their result to a predicate and WRP writes p1 to p7; they change nothing else. (06_sequencer.md (Instruction table), 06_sequencer.md (Registers, predicates and the instruction store), 05_chain_engine.md (Stage catalogue)) -/
def Obligations.ComparesAndPredicates : Prop :=
  ∀ (n : Fin 64) (ecc : Ecc) (gn : Bool) (pg pd : BitVec 3) (ra : BitVec 5) (s : State),
    let holds := fun (c : Cond) (x y : Word) => match c with
      | .c0 => decide (x = y) | .c1 => decide (x ≠ y) | .c2 => decide (x.toInt < y.toInt) | .c3 => decide (y.toInt ≤ x.toInt)
      | .c4 => decide (x.toNat < y.toNat) | .c5 => decide (y.toNat ≤ x.toNat)
    (∀ c rb, Claims.goes s n ecc ⟨gn, pg, .cmp pd c ra rb⟩ → ∃ t, exec (.cmp n ecc) s = .next t ∧
      Claims.wrotePred (Claims.fetched s n ecc) t n pd (holds c (s.sreg n ra) (s.sreg n rb))) ∧
    (∀ c imm, Claims.goes s n ecc ⟨gn, pg, .cmpi pd c ra imm⟩ → ∃ t, exec (.cmpi n ecc) s = .next t ∧
      Claims.wrotePred (Claims.fetched s n ecc) t n pd (holds c (s.sreg n ra) (BitVec.ofInt 64 imm.toInt))) ∧
    (∀ c rb, Claims.goes s n ecc ⟨gn, pg, .fcmp pd c ra rb⟩ → ∃ t v, exec (.fcmp n ecc) s = .next t ∧
      Claims.wrotePred (Claims.fetched s n ecc) t n pd v ∧
      ((f32IsNan (BitVec.ofNat 32 (s.sreg n ra).toNat) || f32IsNan (BitVec.ofNat 32 (s.sreg n rb).toNat)) = true →
        v = decide (c = .c3)) ∧
      ((f32IsNan (BitVec.ofNat 32 (s.sreg n ra).toNat) || f32IsNan (BitVec.ofNat 32 (s.sreg n rb).toNat)) = false →
        v = (let key := fun (x : Word) => if x.getLsbD 31 then -((x.toNat % 2 ^ 31 : Nat) : Int) else ((x.toNat % 2 ^ 31 : Nat) : Int)
             let x := key (s.sreg n ra)
             let y := key (s.sreg n rb)
             match c with
             | .c0 => decide (x < y) | .c1 => decide (x ≤ y) | .c2 => decide (x = y) | .c3 => decide (x ≠ y)
             | .c4 => decide (y ≤ x) | .c5 => decide (y < x)))) ∧
    (∀ f pa pb, Claims.goes s n ecc ⟨gn, pg, .plog pd f pa pb⟩ → ∃ t, exec (.plog n ecc) s = .next t ∧
      Claims.wrotePred (Claims.fetched s n ecc) t n pd
        (let a := (s.seq n).pred pa.toNat
         let b := (s.seq n).pred pb.toNat
         match f with | .and => a && b | .or => a || b | .xor => a != b | .andn => a && !b)) ∧
    (Claims.goes s n ecc ⟨gn, pg, .wrp ra⟩ → ∃ t, exec (.wrp n ecc) s = .next t ∧
      Claims.retired (Claims.fetched s n ecc) t n (s.seqPc n + 1) ∧ (t.seq n).regs = (s.seq n).regs ∧
      ∀ p : BitVec 3, (t.seq n).pred p.toNat = (decide (p = 0) || (s.sreg n ra).getLsbD p.toNat))

/-- B, CALL and JR go on at their targets, CALL leaving pc + 1 in s31, and END makes the sequencer idle. (06_sequencer.md (Instruction table), 06_sequencer.md (Programs and slots)) -/
def Obligations.BranchesAndEnd : Prop :=
  ∀ (n : Fin 64) (ecc : Ecc) (gn : Bool) (pg : BitVec 3) (s : State),
    (∀ (off : BitVec 22) (k : Nat), Claims.goes s n ecc ⟨gn, pg, .b off⟩ → (s.seqPc n : Int) + off.toInt = k → k < 65536 →
      ∃ t, exec (.b n ecc) s = .next t ∧ Claims.retired (Claims.fetched s n ecc) t n k ∧
        (t.seq n).regs = (s.seq n).regs ∧ (t.seq n).preds = (s.seq n).preds) ∧
    (∀ (off : BitVec 22) (k : Nat), Claims.goes s n ecc ⟨gn, pg, .call off⟩ → (s.seqPc n : Int) + off.toInt = k → k < 65536 →
      ∃ t, exec (.call n ecc) s = .next t ∧ Claims.retired (Claims.fetched s n ecc) t n k ∧
        Claims.scalarIs s t n 31 (BitVec.ofNat 64 (s.seqPc n + 1))) ∧
    (∀ ra, Claims.goes s n ecc ⟨gn, pg, .jr ra⟩ → (s.sreg n ra).toNat < 65536 →
      ∃ t, exec (.jr n ecc) s = .next t ∧ Claims.retired (Claims.fetched s n ecc) t n (s.sreg n ra).toNat ∧
        (t.seq n).regs = (s.seq n).regs ∧ (t.seq n).preds = (s.seq n).preds) ∧
    (Claims.goes s n ecc ⟨gn, pg, .endProgram⟩ → (s.seq n).refused = none →
      ∃ t, exec (.endProgram n ecc) s = .next t ∧ t = { s with regs := t.regs } ∧ t.seqPhase n = seqIdle ∧
        t.seqPc n = s.seqPc n + 1 ∧ t.seqCtx n = s.seqCtx n ∧
        (t.reg (Reg.SEQ_STAT_INSNS + instDelta n)).toNat = min ((s.reg (Reg.SEQ_STAT_INSNS + instDelta n)).toNat + 1) (2 ^ 64 - 1) ∧
        Claims.regsOutside [Reg.SEQ_STATE + instDelta n, Reg.SEQ_STAT_INSNS + instDelta n] (Claims.fetched s n ecc) t)

/-- FAULT and an illegal word complete by taking their fault, which is their effect; fetch errors and bad targets fault too. (06_sequencer.md (Faults), 06_sequencer.md (Instruction table), 06_sequencer.md (Registers, predicates and the instruction store)) -/
def Obligations.FaultingInstructions : Prop :=
  ∀ (n : Fin 64) (ecc : Ecc) (gn : Bool) (pg : BitVec 3) (s : State),
    (∀ code, Claims.atInsn s n ⟨gn, pg, .fault code⟩ → ecc ≠ .uncorrected → (s.seq n).pred pg.toNat ≠ gn →
      ∃ t, exec (.fault n ecc) s = .next t ∧
        Claims.faulted (Claims.fetched s n ecc) t n (s.seqPc n) (0x1100 + code.toNat) (s.imemWord n (s.seqPc n))) ∧
    (s.coreRuns = true → s.coreEnabled n = true → s.seqPhase n = seqRunning → ecc ≠ .uncorrected →
      decodeInsn (BitVec.ofNat 32 (s.imemWord n (s.seqPc n))) = none →
      ∃ t, exec (.illegalInstruction n ecc) s = .next t ∧
        Claims.faulted (Claims.fetched s n ecc) t n (s.seqPc n) (insnCode (BitVec.ofNat 32 (s.imemWord n (s.seqPc n))))
          (s.imemWord n (s.seqPc n))) ∧
    (∀ i, Claims.atInsn s n i → ∃ t, exec (Claims.rowOf n .uncorrected i.act) s = .next t ∧
      Claims.faulted (s.bump Reg.SEQ_IMEM_ECC_UNCORRECTED (instDelta n) 1) t n (s.seqPc n) 0x100B 0) ∧
    (∀ a, (∃ off : BitVec 22, (a = .b off ∨ a = .call off) ∧
        ((s.seqPc n : Int) + off.toInt < 0 ∨ 65536 ≤ (s.seqPc n : Int) + off.toInt)) ∨
        (∃ ra, a = .jr ra ∧ 65536 ≤ (s.sreg n ra).toNat) →
      Claims.atInsn s n ⟨gn, pg, a⟩ → ecc ≠ .uncorrected → (s.seq n).pred pg.toNat ≠ gn →
      ∃ t, exec (Claims.rowOf n ecc a) s = .next t ∧
        Claims.faulted (Claims.fetched s n ecc) t n (s.seqPc n) 0x1004 (s.imemWord n (s.seqPc n))) ∧
    (∀ i, Claims.atInsn s n i → ecc ≠ .uncorrected → (s.seq n).pred i.pg.toNat = i.gn → s.seqPc n = 65535 →
      ∃ t, exec (Claims.rowOf n ecc i.act) s = .next t ∧
        Claims.faulted ((Claims.fetched s n ecc).stat (Reg.SEQ_STAT_INSNS + instDelta n) 1) t n 0xFFFF 0x1004 0)

/-- LD and LDW complete: they wait for their data, which its return writes to rd; bad addresses and a late return fault. (06_sequencer.md (Scalar memory access), 01_organisation.md (Address spaces)) -/
def Obligations.LoadsBlockAndReturn : Prop :=
  ∀ (n : Fin 64) (ecc : Ecc) (gn : Bool) (pg : BitVec 3) (s : State),
    (∀ (wide : Bool) (rd ra : BitVec 5) (imm : BitVec 12),
      let act := if wide then Act.ld rd ra imm else Act.ldw rd ra imm
      let size := if wide then 8 else 4
      let a := (s.sreg n ra + imm.signExtend 64).toNat
      (Claims.goes s n ecc ⟨gn, pg, act⟩ → s.clock.unlocked = [] → a % size = 0 → s.fetchPoisoned a size = false →
        ((a + size ≤ generalSize ∧ s.viewAt (a / 64 * 64) = none ∧ ∀ i, i < size → s.viewAt (a + i) = none) ∨
          (∃ c, inOneCore a size = some c ∧ s.coreEnabled c = true)) →
        ∃ t u, exec (Claims.rowOf n ecc act) s = .next t ∧ exec (.loadReturn n) t = .next u ∧
          Claims.scalarIs s u n rd (BitVec.ofNat 64 (s.readNat a size)) ∧ u.seqPhase n = seqRunning ∧
          u.seqPc n = s.seqPc n + 1 ∧ u.mem = s.mem) ∧
      (Claims.atInsn s n ⟨gn, pg, act⟩ → ecc ≠ .uncorrected → (s.seq n).pred pg.toNat ≠ gn →
      ∃ t, exec (Claims.rowOf n ecc act) s = .next t ∧
        (a < 2 ^ 48 → a % size = 0 →
          t = { Claims.fetched s n ecc with regs := t.regs, seqs := t.seqs } ∧ t.seqPhase n = seqLoad ∧ t.seqPc n = s.seqPc n ∧
          t.seq n = { s.seq n with hold := .load a size rd.toNat s.tb } ∧ (∀ m, m ≠ n.val → t.seq m = s.seq m) ∧
          Claims.regsOutside [Reg.SEQ_STATE + instDelta n] (Claims.fetched s n ecc) t) ∧
        (2 ^ 48 ≤ a → Claims.faulted ((Claims.fetched s n ecc).raise glbSite 0x0005 a) t n (s.seqPc n) 0x0005 (s.imemWord n (s.seqPc n))) ∧
        (a < 2 ^ 48 → a % size ≠ 0 → Claims.faulted (Claims.fetched s n ecc) t n (s.seqPc n) 0x1003 (s.imemWord n (s.seqPc n))))) ∧
    (∀ (a size rd since : Nat), s.coreRuns = true → s.clock.unlocked = [] → s.seqPhase n = seqLoad → (s.seq n).hold = .load a size rd since → rd < 32 →
      s.seqPc n < 65535 → a + size ≤ 2 ^ 48 → size = 4 ∨ size = 8 → a % size = 0 → s.tb ≤ since + 10000 →
      ((a + size ≤ generalSize ∧ s.viewAt (a / 64 * 64) = none ∧ ∀ i, i < size → s.viewAt (a + i) = none) ∨
        (∃ c, inOneCore a size = some c ∧ s.coreEnabled c = true)) →
      ∃ t, exec (.loadReturn n) s = .next t ∧
        (s.fetchPoisoned a size = false → Claims.wroteScalar (s.noteFetch a size) t n (BitVec.ofNat 5 rd) (BitVec.ofNat 64 (s.readNat a size))) ∧
        (a + size ≤ generalSize → s.fetchDead a size = true → Claims.faulted s t n (s.seqPc n) 0x1806 (s.imemWord n (s.seqPc n))) ∧
        (a + size ≤ generalSize → s.fetchDead a size = false → s.fetchPoisoned a size = true →
          Claims.faulted (s.noteFetch a size) t n (s.seqPc n) 0x1008 (s.imemWord n (s.seqPc n)))) ∧
    (∀ (a size rd since : Nat), s.coreRuns = true → s.clock.unlocked = [] → s.seqPhase n = seqLoad → (s.seq n).hold = .load a size rd since →
      since + 10000 < s.tb →
      ∃ t, exec (.loadReturn n) s = .next t ∧ Claims.faulted s t n (s.seqPc n) 0x1009 (s.imemWord n (s.seqPc n))) ∧
    (∀ (a size rd since : Nat), s.coreRuns = true → s.seqPhase n = seqLoad → (s.seq n).hold = .load a size rd since →
      (since + 10000 ≤ s.tb → ∃ t, exec (.seqLoadTimeout n) s = .next t ∧
        Claims.faulted s t n (s.seqPc n) 0x1009 (s.imemWord n (s.seqPc n))) ∧
      (s.tb < since + 10000 → exec (.seqLoadTimeout n) s = .next s))

/-- ST and STW complete: they store rd's low bytes little-endian and go on; a refusal is kept and taken as a fault later. (06_sequencer.md (Scalar memory access), 01_organisation.md (Address spaces), 07_memory_pans_queues.md (ECC)) -/
def Obligations.StoresArePosted : Prop :=
  ∀ (n : Fin 64) (ecc : Ecc) (gn : Bool) (pg : BitVec 3) (s : State),
    (∀ (wide : Bool) (rd ra : BitVec 5) (imm : BitVec 12),
      let act := if wide then Act.st rd ra imm else Act.stw rd ra imm
      let size := if wide then 8 else 4
      let a := (s.sreg n ra + imm.signExtend 64).toNat
      (Claims.goes s n ecc ⟨gn, pg, act⟩ → a % size = 0 →
        (Claims.plainLp s a size ∨ ∃ c, inOneCore a size = some c ∧ s.coreEnabled c = true ∧ s.marked a size = false) →
        ∃ t, exec (Claims.rowOf n ecc act) s = .next t ∧ Claims.stored s t a (leBytes size (s.sreg n rd).toNat) ∧
          ∃ u : State, u = { Claims.fetched s n ecc with mem := u.mem, scratch := u.scratch, bad := u.bad } ∧
            Claims.stored s u a (leBytes size (s.sreg n rd).toNat) ∧ (∀ x, u.badAt x = s.badAt x) ∧
            Claims.retired u t n (s.seqPc n + 1) ∧ (∀ r, t.sreg n r = s.sreg n r) ∧ (t.seq n).preds = (s.seq n).preds) ∧
      (Claims.goes s n ecc ⟨gn, pg, act⟩ →
      ∃ t, exec (Claims.rowOf n ecc act) s = .next t ∧
        (a < 2 ^ 48 → a % size = 0 → (s.physCode a = 0x0003 ∨ s.physCode a = 0x0005) →
          ∃ u : State, u = { (Claims.fetched s n ecc).raise glbSite (s.physCode a) a with seqs := u.seqs } ∧ (∀ m, m ≠ n.val → u.seq m = s.seq m) ∧
            u.seq n = (if (s.seq n).refused.isSome then s.seq n else
              { s.seq n with refused := some (s.physCode a, s.seqPc n, s.imemWord n (s.seqPc n)) }) ∧
            Claims.retired u t n (s.seqPc n + 1)) ∧
        (2 ^ 48 ≤ a → Claims.faulted ((Claims.fetched s n ecc).raise glbSite 0x0005 a) t n (s.seqPc n) 0x0005 (s.imemWord n (s.seqPc n))) ∧
        (a < 2 ^ 48 → a % size ≠ 0 → Claims.faulted (Claims.fetched s n ecc) t n (s.seqPc n) 0x1003 (s.imemWord n (s.seqPc n))))) ∧
    (s.coreRuns = true → s.seqActive n = true →
      ((s.seq n).refused = none → exec (.storeRefused n) s = .next s) ∧
      (∀ code pc word, (s.seq n).refused = some (code, pc, word) → pc < 65536 → code < 65536 → code ≠ 0x100B → word < 2 ^ 32 →
        ∃ t, exec (.storeRefused n) s = .next t ∧ Claims.faulted s t n pc code word))

/-- WAIT, WAITT and SIG begin, end and signal as the counter, the time base and WAIT_LIMIT decide. (06_sequencer.md (Waiting and signalling), 08_salax_memory.md (Arrival counters)) -/
def Obligations.WaitsAndSignals : Prop :=
  ∀ (n : Fin 64) (ecc : Ecc) (gn : Bool) (pg : BitVec 3) (s : State),
    (∀ rd ra rb, Claims.goes s n ecc ⟨gn, pg, .wait rd ra rb⟩ → (s.seq n).refused = none →
        ((s.sreg n ra).toNat ≤ 16383 → (s.sreg n rb).toNat ≤ (s.counter (s.sreg n ra).toNat).count.toNat →
          ∃ t, exec (.wait n ecc) s = .next t ∧ Claims.wroteScalar ((Claims.fetched s n ecc).freeStat (Reg.SEQ_STAT_WAIT_CYCLES + instDelta n)) t n rd
            (BitVec.ofNat 64 (s.counter (s.sreg n ra).toNat).err)) ∧
        ((s.sreg n ra).toNat ≤ 16383 → (s.counter (s.sreg n ra).toNat).count.toNat < (s.sreg n rb).toNat → s.waitLimit n = 0 →
          ∃ t, exec (.wait n ecc) s = .next t ∧ t.seqPhase n = seqRunning ∧ t.seqPc n = s.seqPc n + 1 ∧ Claims.scalarIs s t n rd 0x1007 ∧
          t.mem = s.mem ∧ t.counters = s.counters) ∧
        ((s.sreg n ra).toNat ≤ 16383 → (s.counter (s.sreg n ra).toNat).count.toNat < (s.sreg n rb).toNat → 0 < s.waitLimit n →
          ∃ t, exec (.wait n ecc) s = .next t ∧ t = { Claims.fetched s n ecc with regs := t.regs, seqs := t.seqs } ∧ t.seqPhase n = seqWait ∧ t.seqPc n = s.seqPc n ∧
          t.seq n = { s.seq n with hold := .wait (s.sreg n ra).toNat (s.sreg n rb).toNat rd.toNat s.tb } ∧
          Claims.regsOutside [Reg.SEQ_STATE + instDelta n] (Claims.fetched s n ecc) t) ∧
        (16383 < (s.sreg n ra).toNat → ∃ t, exec (.wait n ecc) s = .next t ∧
          Claims.faulted (Claims.fetched s n ecc) t n (s.seqPc n) 0x1005 (s.imemWord n (s.seqPc n)))) ∧
    (∀ i target rd since, s.coreRuns = true → s.seqPhase n = seqWait → (s.seq n).hold = .wait i target rd since → rd < 32 →
      s.seqPc n < 65535 →
      (target ≤ (s.counter i).count.toNat → s.tb ≤ since + s.waitLimit n → ∃ t, exec (.waitReached n) s = .next t ∧
        Claims.wroteScalar (s.freeStat (Reg.SEQ_STAT_WAIT_CYCLES + instDelta n)) t n (BitVec.ofNat 5 rd) (BitVec.ofNat 64 (s.counter i).err)) ∧
      ((s.counter i).count.toNat < target → s.tb ≤ since + s.waitLimit n → exec (.waitReached n) s = .next s) ∧
      (s.tb < since + s.waitLimit n → exec (.seqWaitLimit n) s = .next s) ∧
      (∀ c ∈ [Instr.waitReached n, .seqWaitLimit n], since + s.waitLimit n < s.tb ∨ (c = .seqWaitLimit n ∧
          since + s.waitLimit n = s.tb ∧ (s.counter i).count.toNat < target) → ∃ t, exec c s = .next t ∧
        t.seqPhase n = seqRunning ∧ t.seqPc n = s.seqPc n + 1 ∧ Claims.scalarIs s t n (BitVec.ofNat 5 rd) 0x1007 ∧
        t.fld Reg.SEQ_ERR_CODE (instDelta n) = 0x1007 ∧ t.mem = s.mem ∧ t.counters = s.counters ∧
        (t.reg (Reg.SEQ_STAT_WAIT_LIMIT + instDelta n)).toNat = min ((s.reg (Reg.SEQ_STAT_WAIT_LIMIT + instDelta n)).toNat + 1) (2 ^ 64 - 1))) ∧
    (∀ ra, Claims.goes s n ecc ⟨gn, pg, .waitt ra⟩ → (s.seq n).refused = none →
        ((s.sreg n ra).toNat ≤ s.tb → ∃ t, exec (.waitt n ecc) s = .next t ∧
          Claims.retired ((Claims.fetched s n ecc).freeStat (Reg.SEQ_STAT_WAIT_CYCLES + instDelta n)) t n (s.seqPc n + 1) ∧
          (t.seq n).regs = (s.seq n).regs) ∧
        (s.tb < (s.sreg n ra).toNat → ∃ t, exec (.waitt n ecc) s = .next t ∧
          t = { Claims.fetched s n ecc with regs := t.regs, seqs := t.seqs } ∧ t.seqPhase n = seqWaitt ∧ t.seqPc n = s.seqPc n ∧
          t.seq n = { s.seq n with hold := .waitt (s.sreg n ra).toNat } ∧
          Claims.regsOutside [Reg.SEQ_STATE + instDelta n] (Claims.fetched s n ecc) t)) ∧
    (∀ time, s.coreRuns = true → s.seqPhase n = seqWaitt → (s.seq n).hold = .waitt time → s.seqPc n < 65535 →
      (s.tb < time → exec (.waittReached n) s = .next s) ∧
        (time ≤ s.tb → ∃ t, exec (.waittReached n) s = .next t ∧ Claims.retired (s.freeStat (Reg.SEQ_STAT_WAIT_CYCLES + instDelta n)) t n (s.seqPc n + 1) ∧
          (t.seq n).regs = (s.seq n).regs)) ∧
    (∀ ra, Claims.goes s n ecc ⟨gn, pg, .sig ra⟩ → (s.seq n).refused = none → (s.sreg n ra).toNat ≤ 16383 →
      ∃ t u, exec (.sig n ecc) s = .next t ∧ u = { Claims.fetched s n ecc with counters := u.counters } ∧
        Claims.retired u t n (s.seqPc n + 1) ∧ (t.seq n).regs = (s.seq n).regs ∧
        t.counter (s.sreg n ra).toNat = { s.counter (s.sreg n ra).toNat with count := (s.counter (s.sreg n ra).toNat).count + 1 } ∧
        ∀ j, j ≠ (s.sreg n ra).toNat → t.counter j = s.counter j)

/-- ISSUE copies its descriptor and hands it to a target with room, stalls or answers false without, and faults on bad addresses. (06_sequencer.md (Issuing engine commands), 02_octine_routers.md (Command descriptor)) -/
def Obligations.IssueReachesItsTarget : Prop :=
  ∀ (n : Fin 64) (ecc : Ecc) (gn : Bool) (pg pd : BitVec 3) (wait : Bool) (target : BitVec 4) (ra : BitVec 5) (s : State),
    let act := if wait then Act.issue target ra else Act.issueNowait target ra pd
    let a := (s.sreg n ra).toNat
    let b := Claims.fetched s n ecc
    let run := exec (Claims.rowOf n ecc act) s
    let stalled := s.freeStat (Reg.SEQ_STAT_ISSUE_STALL + instDelta n)
    (Claims.goes s n ecc ⟨gn, pg, act⟩ → (s.seq n).refused = none →
        (target.toNat ∉ [0, 1, 2, 4, 8, 9, 12] → ∃ t, run = .next t ∧ Claims.faulted b t n (s.seqPc n) 0x1006 (s.imemWord n (s.seqPc n))) ∧
        (∀ tg, issueTarget target.toNat = some tg →
          (a % 64 ≠ 0 → ∃ t, run = .next t ∧ Claims.faulted b t n (s.seqPc n) 0x1003 (s.imemWord n (s.seqPc n))) ∧
          let nf := b.noteFetch a tg.bytes
          let d := bytesToDesc (tg.bytes / 8) (s.fetch a tg.bytes)
          (a % 64 = 0 → a < 2 ^ 48 → s.inLpOrCore a tg.bytes = true → s.inDisabledCore a 1 = false →
            s.inDisabledCore (a + tg.bytes - 1) 1 = false → s.fetchPoisoned a tg.bytes = false →
            (s.issueRoom n tg = true →
              ∃ t u, run = .next t ∧ t = (u.stat (Reg.SEQ_STAT_ISSUES + instDelta n) 1).deliver n d tg ∧
                (if wait then Claims.retired nf u n (s.seqPc n + 1) ∧ (∀ r, u.sreg n r = s.sreg n r) ∧ (u.seq n).preds = (s.seq n).preds
                 else Claims.wrotePred nf u n pd true)) ∧
            (s.issueRoom n tg = false → wait = false → ∃ t, run = .next t ∧ Claims.wrotePred nf t n pd false) ∧
            (s.issueRoom n tg = false → wait = true → 0 < s.waitLimit n → ∃ t, run = .next t ∧
              t = { nf with regs := t.regs, seqs := t.seqs } ∧ t.seqPhase n = seqStalled ∧
              t.seqPc n = s.seqPc n ∧ Claims.regsOutside [Reg.SEQ_STATE + instDelta n] nf t ∧
              t.seq n = { s.seq n with hold := .issue target.toNat d s.tb }) ∧
            (s.issueRoom n tg = false → wait = true → s.waitLimit n = 0 → ∃ t, run = .next t ∧
              Claims.faulted nf t n (s.seqPc n) 0x100A (s.imemWord n (s.seqPc n)))) ∧
          (a % 64 = 0 → a < 2 ^ 48 → s.inLpOrCore a tg.bytes = true → s.inDisabledCore a 1 = false →
            s.inDisabledCore (a + tg.bytes - 1) 1 = false → s.fetchDead a tg.bytes = true →
            ∃ t, run = .next t ∧ Claims.faulted b t n (s.seqPc n) 0x1806 (s.imemWord n (s.seqPc n))) ∧
          (a % 64 = 0 → a < 2 ^ 48 → s.inLpOrCore a tg.bytes = true → s.inDisabledCore a 1 = false →
            s.inDisabledCore (a + tg.bytes - 1) 1 = false → s.fetchDead a tg.bytes = false → s.fetchPoisoned a tg.bytes = true →
            ∃ t, run = .next t ∧ Claims.faulted nf t n (s.seqPc n) 0x1008 (s.imemWord n (s.seqPc n))))) ∧
    (∀ tg d since, s.coreRuns = true → s.seqPhase n = seqStalled → (s.seq n).hold = .issue target.toNat d since →
      issueTarget target.toNat = some tg → s.seqPc n < 65535 →
      (s.issueRoom n tg = true → s.tb ≤ since + s.waitLimit n →
        ∃ t u, exec (.issueTaken n) s = .next t ∧ t = (u.stat (Reg.SEQ_STAT_ISSUES + instDelta n) 1).deliver n d tg ∧
          Claims.retired stalled u n (s.seqPc n + 1) ∧ ∀ r, u.sreg n r = s.sreg n r) ∧
      (s.issueRoom n tg = false → s.tb ≤ since + s.waitLimit n → exec (.issueTaken n) s = .next s) ∧
      (s.tb ≤ since + s.waitLimit n → exec (.seqIssueStall n) s = .next s) ∧
      (∀ c ∈ [Instr.issueTaken n, .seqIssueStall n], since + s.waitLimit n < s.tb → ∃ t, exec c s = .next t ∧
        Claims.faulted stalled t n (s.seqPc n) 0x100A (s.imemWord n (s.seqPc n))))

end

namespace Sys2Proof

open Sys2Proof.Machine

/-- A 64-bit statistics counter is `n` higher, or at its end (R78). -/
def Claims.rose (s t : State) (a n : Nat) : Prop := (t.reg a).toNat = min ((s.reg a).toNat + n) (2 ^ 64 - 1)

/-- Arrival counter `i` has one more increment, which carried `code`: the first code carried is kept, and no other counter has
changed (R272). -/
def Claims.counted (s t : State) (i code : Nat) : Prop :=
  (t.counter i).count = (s.counter i).count + 1 ∧ (t.counter i).err = (if (s.counter i).err = 0 then code else (s.counter i).err) ∧
  (t.counter i).remote = (s.counter i).remote ∧ ∀ j, j ≠ i → t.counter j = s.counter j

/-- A command of an enabled core whose context is not torn down. -/
def Claims.live (s : State) (n : Fin 64) : Prop := s.coreEnabled n = true ∧ s.coreTorn n = false

/-- A code was raised at a class instance: it stands in the CODE of its error register, whose COUNT is one higher (R16). -/
def Claims.raised (s t : State) (x : Site) (code : Nat) : Prop :=
  bits (t.reg (errReg x code)).toNat 0 16 = code ∧
  bits (t.reg (errReg x code)).toNat 16 16 = min (bits (s.reg (errReg x code)).toNat 16 16 + 1) 0xFFFF

/-- A command was refused: nothing but its completion counter, the error and statistics registers, the log and the alert has
changed; the counter carries the code, which the block has raised (R16, R45). -/
def Claims.refused (s t : State) (x : Site) (counter code : Nat) : Prop :=
  t = { s with regs := t.regs, log := t.log, power := t.power, counters := t.counters } ∧ Claims.counted s t counter code ∧
  Claims.raised s t x code

end Sys2Proof

section

open Sys2Proof Sys2Proof.Machine

/-- ROUTE and RECALL start their windows when every check passes and else complete with the first failing code. (02_octine_routers.md (Commands and windows), 02_octine_routers.md (Command descriptor), 02_octine_routers.md (Registers)) -/
def Obligations.RouterCommandsAcceptedOrRefused : Prop :=
  (∀ (j : Fin 4) (c : Issue) (s : State), Claims.coreRuns s → Claims.live s c.core → routerOf c.desc = j → descFld c.desc 0 0 8 = 1 →
    ∃ t, exec (.route j [c]) s = .next t ∧
      (s.routerCode j c.desc false = none →
        t = { s with regs := t.regs, routers := t.routers, mem := t.mem, scratch := t.scratch, bad := t.bad, free := t.free } ∧
        (∃ w, (t.router j).win = some w ∧ w.cmd = routerCmdOf c.desc ∧ w.start = s.tb ∧ w.context = s.coreContext c.core ∧
          w.nanLimit = s.fld Reg.ORT_CTRL_NAN_LOG_LIMIT (instDelta j) ∧ w.scores = [] ∧ w.held = [] ∧
          ∀ a, ¬ (routerAddr j w.cmd.workOffset ≤ a ∧ a < routerAddr j w.cmd.workOffset + w.workBytes) → t.readByte a = s.readByte a) ∧
        (∀ i, i ≠ j.val → t.router i = s.router i) ∧
        t.fld Reg.ORT_STATUS_BUSY (instDelta j) = 1 ∧ t.fld Reg.ORT_STATUS_PHASE (instDelta j) = 1 ∧
        t.fld Reg.ORT_STATUS_TAG (instDelta j) = descFld c.desc 0 16 16 ∧
        t.fld Reg.ORT_WINDOW_START_TIME (instDelta j) = s.tb % 2 ^ 64 ∧
        Claims.regsOutside [Reg.ORT_STATUS + instDelta j, Reg.ORT_WINDOW_START + instDelta j, Reg.ORT_STORE_ECC + instDelta j] s t) ∧
      (∀ code, s.routerCode j c.desc false = some code →
        t = { s with regs := t.regs, log := t.log, power := t.power, counters := t.counters, bad := t.bad } ∧
        (∀ a, t.badAt a ≠ s.badAt a → s.badAt a = .ce ∧ t.badAt a = .ok) ∧
        Claims.counted s t (descFld c.desc 0x58 0 14) code ∧ Claims.raised s t (routerSite j) code)) ∧
  (∀ (c : Issue) (s : State), Claims.coreRuns s → Claims.live s c.core → descFld c.desc 0 0 8 = 2 →
    ∃ t, exec (.recall [c]) s = .next t ∧
      (s.routerCode (routerOf c.desc) c.desc false = none →
        t = { s with regs := t.regs, routers := t.routers, mem := t.mem, scratch := t.scratch, free := t.free } ∧
        ∀ i, i < 4 → if bit (descFld c.desc 0 8 4) i then
            (∃ w, (t.router i).win = some w ∧ w.cmd = routerCmdOf c.desc ∧ w.start = s.tb) ∧ t.fld Reg.ORT_STATUS_BUSY (instDelta i) = 1
          else t.router i = s.router i) ∧
      (∀ code, s.routerCode (routerOf c.desc) c.desc false = some code →
        Claims.refused s t (routerSite (routerOf c.desc)) (descFld c.desc 0x58 0 14) code)) ∧
  (∀ (x y : Issue) (s : State), Claims.coreRuns s → Claims.live s x.core → Claims.live s y.core → x.core.val < y.core.val →
    s.routerCode (routerOf y.desc) y.desc false = none → ∀ r : Fin 4, r.val ∈ routersOf x.desc → r.val ∈ routersOf y.desc →
    ∃ t, exec (.route r [x, y]) s = .next t ∧ exec (.route r [y, x]) s = .next t ∧
      (descFld x.desc 0 0 8 = 2 ∨ descFld y.desc 0 0 8 = 2 → exec (.recall [x, y]) s = .next t) ∧
      (s.routerCode (routerOf x.desc) x.desc false = none →
        (∀ r ∈ routersOf x.desc, ∃ w, (t.router r).win = some w ∧ w.cmd = routerCmdOf x.desc ∧ w.context = s.coreContext x.core) ∧
        Claims.counted s t (descFld y.desc 0x58 0 14) 0x1409) ∧
      (s.routerCode (routerOf x.desc) x.desc false ≠ none → t.routers = s.routers))

/-- A pushed tile or a pulled line adds its scores to the window in row order, and a late, lost, unfit or poisoned one adds none. (02_octine_routers.md (Score intake), 02_octine_routers.md (Commands and windows)) -/
def Obligations.WindowTakesScores : Prop :=
  (∀ (j : Fin 4) (tile : Bytes) (s : State), Claims.coreRuns s →
    let hd := fun off n => leNat ((tile.drop off).take n)
    let w0 := hd 0 4
    ∃ t, exec (.pushedTile j tile) s = .next t ∧
      t = { s with regs := t.regs, log := t.log, power := t.power, routers := t.routers, parts := t.parts } ∧
      (∀ i, i ≠ j.val → t.router i = s.router i) ∧
      ((s.router j).win = none → Claims.raised s t (routerSite j) 0x1411 ∧ t.router j = s.router j) ∧
      (∀ w, (s.router j).win = some w →
        (w0 % 65536 ≠ w.cmd.tag → Claims.raised s t (routerSite j) 0x1411 ∧ t.router j = s.router j) ∧
        (w0 % 65536 = w.cmd.tag → w.cmd.push = false → Claims.raised s t (routerSite j) 0x1417 ∧ t.router j = s.router j) ∧
        (w0 % 65536 = w.cmd.tag → w.cmd.push = true → s.takesScores j = false →
          (t.reg (Reg.ORT_STAT_LATE_TILES + instDelta j)).toNat = min ((s.reg (Reg.ORT_STAT_LATE_TILES + instDelta j)).toNat + 1) (2 ^ 64 - 1) ∧
          ∃ w', (t.router j).win = some w' ∧ w'.scores = w.scores) ∧
        (w0 % 65536 = w.cmd.tag → w.cmd.push = true → s.takesScores j = true →
          bits w0 16 1 ≠ b2n w.cmd.bf16 ∨ bits w0 17 5 = 0 ∨ 16 < bits w0 17 5 ∨ bits w0 22 8 = 0 ∨ 128 < bits w0 22 8 ∨ bits w0 30 2 ≠ 0 ∨
            hd 12 52 ≠ 0 ∨ hd 4 4 < w.rowLo ∨ w.rowLo + w.cmd.tokens < hd 4 4 + bits w0 17 5 ∨ w.cmd.experts ≤ hd 8 4 →
          Claims.raised s t (routerSite j) 0x1417 ∧ t.router j = s.router j) ∧
        (w0 % 65536 = w.cmd.tag → w.cmd.push = true → s.takesScores j = true →
          bits w0 16 1 = b2n w.cmd.bf16 → 1 ≤ bits w0 17 5 → bits w0 17 5 ≤ 16 → 1 ≤ bits w0 22 8 → bits w0 22 8 ≤ 128 → bits w0 30 2 = 0 →
          hd 12 52 = 0 → w.rowLo ≤ hd 4 4 → hd 4 4 + bits w0 17 5 ≤ w.rowLo + w.cmd.tokens → hd 8 4 < w.cmd.experts →
          (t.router j).phase = (s.router j).phase ∧ t.statusShown j = s.statusShown j ∧
          ∃ w', (t.router j).win = some w' ∧ w'.scores = w.scores ++
            (List.range (bits w0 17 5)).flatMap (fun r => (List.range (min (bits w0 22 8) (w.cmd.experts - hd 8 4))).map (fun c =>
              let v := widenScore w.cmd.bf16 (hd (64 + (r * 128 + c) * scoreSize w.cmd) (scoreSize w.cmd))
              ⟨hd 4 4 + r, hd 8 4 + c, v, v⟩))))) ∧
  (∀ (j : Fin 4) (line : BitVec 48) (s : State) (w : Window), Claims.coreRuns s → (s.router j).win = some w →
    ∃ t, exec (.logitPullReturn j line) s = .next t ∧ (∀ i, i ≠ j.val → t.router i = s.router i) ∧
      t = { s with regs := t.regs, log := t.log, power := t.power, routers := t.routers, bad := t.bad,
                   channels := t.channels, flash := t.flash, brineKept := t.brineKept } ∧
      (s.takesScores j = false → t = s) ∧
      (s.takesScores j = true → w.cmd.biasEn = false → w.cmd.push = false →
        w.cmd.logitBase ≤ line.toNat → (line.toNat - w.cmd.logitBase) / w.cmd.logitStride < w.cmd.tokens →
        (line.toNat - w.cmd.logitBase) % w.cmd.logitStride < w.cmd.experts * scoreSize w.cmd →
        (s.fetchPoisoned line.toNat 64 = true → Claims.raised s t (routerSite j) 0x1418 ∧ t.router j = s.router j) ∧
        (s.fetchPoisoned line.toNat 64 = false → ∃ w', (t.router j).win = some w' ∧ w'.scores = w.scores ++
          (((List.range (64 / scoreSize w.cmd)).filter (fun i =>
              (line.toNat - w.cmd.logitBase) % w.cmd.logitStride / scoreSize w.cmd + i < w.cmd.experts)).map (fun i =>
            let v := widenScore w.cmd.bf16 (s.fetchNat (line.toNat + i * scoreSize w.cmd) (scoreSize w.cmd))
            ⟨(line.toNat - w.cmd.logitBase) / w.cmd.logitStride,
             (line.toNat - w.cmd.logitBase) % w.cmd.logitStride / scoreSize w.cmd + i, v, v⟩)))))

/-- The end of selection lists the first eligible scores in order, and a matching round holds the best proposals up to each quota. (02_octine_routers.md (Candidate lists), 02_octine_routers.md (Matching), 02_octine_routers.md (Commands and windows)) -/
def Obligations.SelectionAndMatchingKeepTheirBounds : Prop :=
  (∀ (j : Fin 4) (reads : StoreReads) (s : State) (w : Window), Claims.coreRuns s → (s.router j).win = some w →
    s.takesScores j = true → s.cclkPassed w.start w.selectEnd = true →
    ∃ t w', exec (.selectEnd j reads) s = .next t ∧ (t.router j).win = some w' ∧ w'.cmd = w.cmd ∧ w'.fault = (w.fault || reads.ue) ∧
      t = { s with regs := t.regs, log := t.log, power := t.power, routers := t.routers, parts := t.parts, free := t.free } ∧
      Claims.rose s t (Reg.ORT_STAT_NAN + instDelta j) w'.nan ∧ w'.nan ≤ w.select.nan ∧
      (w.fault = false → reads.ue = false → w'.nan = w.select.nan ∧ w'.missing = w.select.missing) ∧
      (∀ i, i ≠ j.val → t.router i = s.router i) ∧
      (w.cmd.isRecall = false → (t.router j).phase = some .matching ∧ ∀ k, k < w.cmd.tokens →
        (w'.lists.get (fun _ => []) k).length ≤ w.cmd.candidates ∧ ∀ x ∈ w'.lists.get (fun _ => []) k,
          x.row = k ∧ x.col < w.cmd.experts ∧ (w.table.getD x.col ⟨0, true, 0, 0⟩).exclude = false ∧ f32IsNan x.rank = false ∧
          w.kept k x.col = some x) ∧
      (w.cmd.isRecall = false → ∀ k, k < w.cmd.tokens →
        (w'.lists.get (fun _ => []) k).Pairwise (fun a b => scoreBefore a b = true) ∧
        ∀ e x, e < w.cmd.experts → (w.table.getD e ⟨0, true, 0, 0⟩).exclude = false → w.kept k e = some x → f32IsNan x.rank = false →
          x ∉ w'.lists.get (fun _ => []) k →
          (w'.lists.get (fun _ => []) k).length = w.cmd.candidates ∧ ∀ y ∈ w'.lists.get (fun _ => []) k, scoreBefore y x = true) ∧
      (w.cmd.isRecall = true → (t.router j).phase = some .wait ∧ ∀ k, k < w.cmd.tokens →
        (w'.lists.get (fun _ => []) (w.rowLo + k)).length ≤ w.cmd.topk ∧ ∀ x ∈ w'.lists.get (fun _ => []) (w.rowLo + k),
          x ∈ w.scores ∧ x.row = w.rowLo + k ∧ f32IsNan x.rank = false) ∧
      (w.cmd.isRecall = true → ∀ k, k < w.cmd.tokens →
        (w'.lists.get (fun _ => []) (w.rowLo + k)).Pairwise (fun a b => scoreBefore b a = false) ∧
        ∀ x ∈ w.scores, x.row = w.rowLo + k → f32IsNan x.rank = false → x ∉ w'.lists.get (fun _ => []) (w.rowLo + k) →
          (w'.lists.get (fun _ => []) (w.rowLo + k)).length = w.cmd.topk ∧
          ∀ y ∈ w'.lists.get (fun _ => []) (w.rowLo + k), scoreBefore x y = false)) ∧
  (∀ (j : Fin 4) (reads : StoreReads) (s : State) (w : Window), Claims.coreRuns s → (s.router j).win = some w →
    (s.takesScores j = false ∨ s.cclkPassed w.start w.selectEnd = false → exec (.selectEnd j reads) s = .next s) ∧
    ((s.router j).phase ≠ some .matching ∨ w.cmd.rounds ≤ w.round ∨ s.cclkPassed w.start (w.roundsEnd w.round) = false →
      exec (.matchingRound j reads) s = .next s)) ∧
  (∀ (j : Fin 4) (reads : StoreReads) (s : State) (w : Window), Claims.coreRuns s → (s.router j).win = some w →
    (s.router j).phase = some .matching → w.round < w.cmd.rounds → s.cclkPassed w.start (w.roundsEnd w.round) = true →
    ∃ t w', exec (.matchingRound j reads) s = .next t ∧ (t.router j).win = some w' ∧ (t.router j).phase = some .matching ∧
      t = { s with regs := t.regs, routers := t.routers, free := t.free } ∧ (∀ i, i ≠ j.val → t.router i = s.router i) ∧
      w'.round = w.round + 1 ∧ t.fld Reg.ORT_STATUS_ROUND (instDelta j) = (w.round + 1) % 32 ∧
      w'.lists = w.lists ∧ w'.scores = w.scores ∧ w'.table = w.table ∧ w'.fault = (w.fault || reads.ue) ∧
      (w.fault = true → w'.held = w.held) ∧
      (w.fault = false → ∀ e, (w.held.get (fun _ => []) e).length ≤ (w.table.getD e ⟨0, true, 0, 0⟩).quota →
        (w'.held.get (fun _ => []) e).length ≤ (w.table.getD e ⟨0, true, 0, 0⟩).quota ∧
        (e < w.cmd.experts →
          let offers := (((List.range w.cmd.tokens).flatMap w.proposalsOf).filter (fun o => decide (o.1 = e))).map Prod.snd
          let pool := w.held.get (fun _ => []) e ++ offers
          (w'.held.get (fun _ => []) e).length = min (w.table.getD e ⟨0, true, 0, 0⟩).quota pool.length ∧
          ∃ lost, (w'.held.get (fun _ => []) e ++ lost).Perm pool ∧
            ∀ x ∈ w'.held.get (fun _ => []) e, ∀ y ∈ lost, proposalBefore y x = false)))

/-- Publication writes the window's areas and no other byte; the last cycle counts the completion once and idles the routers. (02_octine_routers.md (Published result), 02_octine_routers.md (Commands and windows), 02_octine_routers.md (Degenerate batches and faults)) -/
def Obligations.WindowPublishesAndEnds : Prop :=
  (∀ (j : Fin 4) (s : State) (w : Window), Claims.coreRuns s → (s.router j).win = some w →
    s.groupOf j ≠ [] → (∀ i ∈ s.groupOf j, s.mayPublish i = true) →
    let shown := (s.groupOf j).foldl (fun s i => s.setPhase i .publish 0) s
    ∃ t, exec (.publishStart j ⟨0, 0⟩ false) s = .next t ∧
      t = { s with regs := t.regs, log := t.log, power := t.power, routers := t.routers, mem := t.mem, scratch := t.scratch, bad := t.bad,
                   channels := t.channels, flash := t.flash } ∧
      (∀ i ∈ s.groupOf j, (s.router i).win.isSome = true → (t.router i).phase = some .publish) ∧
      (∀ x, (∀ i ∈ s.groupOf j, ∀ v, (s.router i).win = some v → ∀ p ∈ v.areas, ¬ (p.1 ≤ x ∧ x < p.1 + p.2.length)) →
        t.readByte x = s.readByte x) ∧
      ((∃ i ∈ s.groupOf j, ∃ v, (s.router i).win = some v ∧ v.fault = true) → t.mem = s.mem) ∧
      (s.groupFaulted (s.groupOf j) = false → (shown.publishGroup (s.groupOf j)).1 ≠ 0 →
        ∀ i ∈ s.groupOf j, ∀ v, (t.router i).win = some v → v.fault = true) ∧
      (s.groupOf j = [j.val] → w.fault = false → (shown.publishGroup (s.groupOf j)).1 = 0 →
        (w.areas.Pairwise fun p q => p.1 + p.2.length ≤ q.1 ∨ q.1 + q.2.length ≤ p.1) →
        ∀ p ∈ w.areas, t.readBytes p.1 p.2.length = p.2)) ∧
  (∀ (j : Fin 4) (reads : StoreReads) (acked : Bool) (s : State) (w : Window), Claims.coreRuns s → (s.router j).win = some w →
    (s.router j).phase ≠ some .publish ∨ s.cclkPassed w.start w.cmd.windowCycles = false → exec (.windowEnd j reads acked) s = .next s) ∧
  (∀ (j : Fin 4) (acked : Bool) (s : State) (w : Window), Claims.coreRuns s → (s.router j).win = some w → j.val ∈ s.groupOf j →
    (s.router j).phase = some .publish → s.cclkPassed w.start w.cmd.windowCycles = true →
    let faulty := s.groupFaulted (s.groupOf j)
    let code := if faulty then 0x140F else 0
    ∃ t, exec (.windowEnd j ⟨0, 0⟩ acked) s = .next t ∧
      (∀ i ∈ s.groupOf j, (t.router i).win = none) ∧ (t.router j).phase = none ∧
      t.fld Reg.ORT_STATUS_BUSY (instDelta j) = 0 ∧ t.fld Reg.ORT_WINDOW_END_TIME (instDelta j) = s.tb % 2 ^ 64 ∧
      (faulty = true → Claims.raised s t (routerSite j) 0x140F) ∧
      (acked = true → Claims.counted s t w.cmd.completion code) ∧
      (acked = false → t.counters = s.counters ∧ (t.router j).unacked = (s.router j).unacked ++ [(w.cmd.completion, code, s.tb, w.context)]) ∧
      (∀ x, (∀ i ∈ s.groupOf j, ∀ v, (s.router i).win = some v →
          ¬ (routerAddr i v.cmd.workOffset ≤ x ∧ x < routerAddr i v.cmd.workOffset + v.workBytes) ∧
          (faulty = true → ∀ p ∈ ({ v with fault := true } : Window).areas, ¬ (p.1 ≤ x ∧ x < p.1 + p.2.length))) →
        t.readByte x = s.readByte x)) ∧
  (∀ (j : Fin 4) (cnt code ended ctx : Nat) (rest : List (Nat × Nat × Nat × Nat)) (s : State), Claims.coreRuns s →
    (s.router j).unacked = (cnt, code, ended, ctx) :: rest →
    ∃ t, exec (.publishLate j) s = .next t ∧ Claims.counted s t cnt code ∧ Claims.raised s t (routerSite j) 0x1415 ∧
      (t.router j).unacked = rest ∧ (t.router j).win = (s.router j).win ∧
      t = { s with regs := t.regs, log := t.log, power := t.power, routers := t.routers, counters := t.counters })

end

namespace Sys2Proof

open Sys2Proof.Machine

/-- A requester may use CSRs: the MC path always, a program where its context's CSR_EN is set (R35, R363). -/
def Claims.mayAccess (s : State) : Requester → Prop
  | .mc => True
  | .seq n => s.csrEn (s.seqCtx n) = true

/-- An access of 32 or 64 bits at an address aligned to its width (R525). -/
def Claims.wellSized (a : CsrAccess) : Prop := (a.width = 32 ∨ a.width = 64) ∧ a.addr.toNat % (a.width / 8) = 0

/-- The access reaches one instance, without a rake: its class exists, the instance is listed and present, and the core die
answers where it is needed (R506, R507). -/
def Claims.reachesOne (s : State) (a : Nat) : Prop :=
  (csrInst a < 0x3F0 ∨ classRake (csrClass a) = .no) ∧ s.instExists (csrClass a) (csrInst a) = true ∧
  (onCoreDie a = true → s.coreOn = true)

/-- The access reaches the members of a rake, and the core die answers where it is needed (R507, R509). -/
def Claims.reachesRake (s : State) (a : Nat) : Prop :=
  0x3F0 ≤ csrInst a ∧ classRake (csrClass a) = .yes ∧ (onCoreDie a = true → s.coreOn = true)

/-- An existing instance that a rake address names: all of them, or those whose bit is set in the group's mask (R509). -/
def Claims.member (s : State) (a i : Nat) : Prop :=
  s.instExists (csrClass a) i = true ∧
  (csrInst a = 0x3FF ∨ (s.groupMask (csrClass a) (csrInst a - 0x3F0) (i / 64)).getLsbD (i % 64) = true)

/-- The bit of the value that an access of some width carries for bit `b` of the register (R525). -/
def Claims.carried (a : CsrAccess) (v : Word) (b : Nat) : Option Bool :=
  if a.width = 64 then some (v.getLsbD b)
  else if a.addr.toNat / 4 % 2 = b / 32 then some (v.getLsbD (b % 32)) else none

/-- A register with no rule of its own: it refuses no value, it is not the data register of a selector, and its write is no
action and has no further effect. -/
def Claims.plain (rs : RegSpec) (a : Nat) : Prop :=
  (∀ (u : State) (via : Via) (i d v : Nat), u.writeBad via (csrHome a) i d v = none) ∧ rs.has .WO = false ∧
  selectedReg (csrHome a) = false ∧
  csrHome a ∉ [Reg.MAT_REPAIR, Reg.MAT_CTRL, Reg.FAB_CTRL, Reg.FAB_RT_CTRL, Reg.SCH_LAUNCH_BASE, Reg.SCH_PART_STEP, Reg.GLB_RAKE_SEL,
    Reg.SYN_CNT_STATE, Reg.CLK_TB_CFG]

/-- Only the answer, the error registers, the log and the alert have changed: an access was refused with a code that the block
`x` has raised. -/
def Claims.accessRefused (s t : State) (x : Site) (code : Nat) : Prop :=
  t = { s with regs := t.regs, log := t.log, power := t.power, out := .csr code 0 :: s.out } ∧ Claims.raised s t x code ∧
  Claims.regsOutside [errReg x code, Reg.MGT_ALERT, Reg.MGT_STAT_LOG_ENTRIES, Reg.MGT_STAT_LOG_DROPPED] s t

end Sys2Proof

section

open Sys2Proof Sys2Proof.Machine

/-- A CSR write sets the bits of RW fields, clears W1C bits written 1, stages WC fields and leaves all other bits alone. (00_scope.md (Register access types), 16_registers_pins.md (Address format)) -/
def Obligations.CsrWriteFollowsAccessTypes : Prop :=
  ∀ (a : CsrAccess) (v : Word) (rs : RegSpec) (s : State), Claims.powered s → Claims.mayAccess s a.req → Claims.wellSized a →
    Claims.reachesOne s a.addr.toNat → regAt a.addr.toNat = some rs → rightCode a.req a.addr.toNat true = 0 →
    Claims.plain rs (a.addr.toNat / 8 * 8) →
    (∀ b, b < 64 → Claims.carried a v b = some true → ∃ f ∈ rs.fields, f.lo ≤ b ∧ b < f.lo + f.w) →
    let r := a.addr.toNat / 8 * 8
    ∃ t, exec (.csrWrite a v) s = .next t ∧
      t = { s with regs := t.regs, staged := t.staged, out := .csr 0 0 :: s.out } ∧ Claims.regsOutside [r] s t ∧
      (∀ x, x ≠ r → SMap.find? t.staged x = SMap.find? s.staged x) ∧
      ∀ f ∈ rs.fields, ∀ b, f.lo ≤ b → b < f.lo + f.w →
        (t.reg r).getLsbD b = (match Claims.carried a v b with
          | none => (s.reg r).getLsbD b
          | some x => match f.acc with
            | .RW => x
            | .W1C => (s.reg r).getLsbD b && !x
            | _ => (s.reg r).getLsbD b) ∧
        (f.acc = .WC → ∀ x, Claims.carried a v b = some x → ((SMap.find? t.staged r).getD 0).getLsbD b = x)

/-- A refused access answers the first failing code, reads zero and changes no register but error registers, for one instance and for a rake. (00_scope.md (Register access types), 01_organisation.md (CSR access by a program), 16_registers_pins.md (Address format), 16_registers_pins.md (The order of checks)) -/
def Obligations.AccessChecksGiveTheirCodes : Prop :=
  ∀ (a : CsrAccess) (v : Word) (s : State), Claims.powered s →
    let n := a.addr.toNat
    let c := csrClass n
    (∀ k, a.req = .seq k → s.csrEn (s.seqCtx k) = false →
      ∃ t, exec (.csrWrite a v) s = .next t ∧ Claims.accessRefused s t (ctxSite (s.seqCtx k)) 0x3C04) ∧
    (Claims.mayAccess s a.req →
      (¬ Claims.wellSized a → ∃ t x, exec (.csrWrite a v) s = .next t ∧ Claims.accessRefused s t x 0x0004) ∧
      (Claims.wellSized a → classInstances c = none →
        ∃ t, exec (.csrWrite a v) s = .next t ∧ Claims.accessRefused s t glbSite 0x0002) ∧
      (Claims.wellSized a → (classInstances c).isSome = true → (csrInst n < 0x3F0 ∨ classRake c = .no) → s.instExists c (csrInst n) = false →
        ∃ t, exec (.csrWrite a v) s = .next t ∧ Claims.accessRefused s t glbSite 0x0003) ∧
      (Claims.wellSized a → (csrInst n < 0x3F0 ∨ classRake c = .no) → s.instExists c (csrInst n) = true → onCoreDie n = true → s.coreOn = false →
        ∃ t, exec (.csrWrite a v) s = .next t ∧
          Claims.accessRefused s t (if c = 17 then siteOf (atInst n (csrInst n)) else glbSite) 0x0006) ∧
      (Claims.wellSized a → Claims.reachesOne s n → regAt n = none →
        ∃ t, exec (.csrWrite a v) s = .next t ∧ Claims.accessRefused s t (siteOf (atInst n (csrInst n))) 0x0002) ∧
      (∀ rs, Claims.wellSized a → Claims.reachesOne s n → regAt n = some rs → rightCode a.req n true = 0 →
        (∃ b, b < 64 ∧ Claims.carried a v b = some true ∧ ∀ f ∈ rs.fields, ¬ (f.lo ≤ b ∧ b < f.lo + f.w)) →
        ∃ t, exec (.csrWrite a v) s = .next t ∧ Claims.accessRefused s t (siteOf n) 0x0001) ∧
      (Claims.wellSized a → 0x3F0 ≤ csrInst n → classRake c = .yes → (∃ i, Claims.member s n i) → onCoreDie n = true → s.coreOn = false →
        (∃ t, exec (.rakeWrite a v) s = .next t ∧ Claims.accessRefused s t glbSite 0x0006) ∧
        (∃ t, exec (.rakeRead a) s = .next t ∧ t.out = .csr 0x0006 0 :: s.out ∧ Claims.raised s t glbSite 0x0006)) ∧
      (¬ Claims.wellSized a → 0x3F0 ≤ csrInst n → classRake c = .yes →
        (∃ t, exec (.rakeWrite a v) s = .next t ∧ Claims.accessRefused s t glbSite 0x0004) ∧
        (∃ t, exec (.rakeRead a) s = .next t ∧ t.out = .csr 0x0004 0 :: s.out ∧ Claims.raised s t glbSite 0x0004)) ∧
      (Claims.wellSized a → Claims.reachesRake s n → (∃ i, Claims.member s n i) → findReg (classRegs c) (csrOff n / 8 * 8) = none →
        (∃ t, exec (.rakeWrite a v) s = .next t ∧ Claims.accessRefused s t glbSite 0x0002) ∧
        (∃ t, exec (.rakeRead a) s = .next t ∧ t.out = .csr 0x0002 0 :: s.out ∧ Claims.raised s t glbSite 0x0002)) ∧
      (∀ rs, Claims.wellSized a → Claims.reachesRake s n → (∃ i, Claims.member s n i) → a.req = .mc →
        findReg (classRegs c) (csrOff n / 8 * 8) = some rs → (∀ i, Claims.member s n i → regAt (atInst n i) = some rs) →
        (∃ b, b < 64 ∧ Claims.carried a v b = some true ∧ ∀ f ∈ rs.fields, ¬ (f.lo ≤ b ∧ b < f.lo + f.w)) →
        ∃ t, exec (.rakeWrite a v) s = .next t ∧ t.out = .csr 0x0001 0 :: s.out ∧
          t = { s with regs := t.regs, log := t.log, power := t.power, rake := t.rake, out := t.out } ∧
          (∀ i, Claims.member s n i → bits (t.reg (errReg (siteOf (atInst n i)) 0x0001)).toNat 0 16 = 0x0001) ∧
          ∀ x, (∀ i, Claims.member s n i → x ≠ errReg (siteOf (atInst n i)) 0x0001) →
            x ∉ [Reg.MGT_ALERT, Reg.MGT_STAT_LOG_ENTRIES, Reg.MGT_STAT_LOG_DROPPED] → t.reg x = s.reg x)) ∧
    (∀ k, a.req = .seq k → s.csrEn (s.seqCtx k) = false → 0x3F0 ≤ csrInst n → classRake c = .yes →
      (∃ t, exec (.rakeWrite a v) s = .next t ∧ Claims.accessRefused s t (ctxSite (s.seqCtx k)) 0x3C04) ∧
      (∃ t, exec (.rakeRead a) s = .next t ∧ t.out = .csr 0x3C04 0 :: s.out ∧ Claims.raised s t (ctxSite (s.seqCtx k)) 0x3C04))

/-- A rake access whose set of members is empty is refused with 0x0007 and a read of it returns zero. (R511) -/
def Obligations.RakeWithoutMembersIsRefused : Prop :=
  ∀ (a : CsrAccess) (v : Word) (s : State), Claims.powered s → Claims.mayAccess s a.req → Claims.wellSized a →
    0x3F0 ≤ csrInst a.addr.toNat → classRake (csrClass a.addr.toNat) = .yes →
    ((∀ i, ¬ Claims.member s a.addr.toNat i) ∨
     (csrInst a.addr.toNat ≠ 0x3FF ∧ ∀ w, s.groupMask (csrClass a.addr.toNat) (csrInst a.addr.toNat - 0x3F0) w = 0) ∨
     (csrInst a.addr.toNat ≠ 0x3FF ∧ csrClass a.addr.toNat ∈ [1, 3, 4] ∧ ∀ n, n < 64 →
        (s.groupMask (csrClass a.addr.toNat) (csrInst a.addr.toNat - 0x3F0) 0).getLsbD n = true → s.coreEnabled n = false) ∨
     (csrInst a.addr.toNat ≠ 0x3FF ∧ csrClass a.addr.toNat = 2 ∧ ∀ n, n < 128 →
        (s.groupMask 2 (csrInst a.addr.toNat - 0x3F0) (n / 64)).getLsbD (n % 64) = true → s.coreEnabled (n / 2) = false)) →
    (∃ t, exec (.rakeWrite a v) s = .next t ∧ Claims.accessRefused s t glbSite 0x0007) ∧
    (∃ t, exec (.rakeRead a) s = .next t ∧ t.out = .csr 0x0007 0 :: s.out ∧ Claims.raised s t glbSite 0x0007 ∧
      t = { s with regs := t.regs, log := t.log, power := t.power, rake := t.rake, out := t.out })

/-- A rake write is performed by every member; a rake read returns the OR of the members' values and says whether they differ. (16_registers_pins.md (Rake access), 16_registers_pins.md (Global registers)) -/
def Obligations.RakesReachEveryMember : Prop :=
  ∀ (a : CsrAccess) (v : Word) (rs : RegSpec) (s : State), Claims.powered s → a.req = .mc → a.width = 64 → a.addr.toNat % 8 = 0 →
    Claims.reachesRake s a.addr.toNat → (∃ i, Claims.member s a.addr.toNat i) →
    findReg (classRegs (csrClass a.addr.toNat)) (csrOff a.addr.toNat) = some rs →
    (∀ i, Claims.member s a.addr.toNat i → regAt (atInst a.addr.toNat i) = some rs) →
    ((∀ f ∈ rs.fields, f.acc = .RW) → (∀ i, Claims.plain rs (atInst a.addr.toNat i)) →
      (∀ b, b < 64 → v.getLsbD b = true → ∃ f ∈ rs.fields, f.lo ≤ b ∧ b < f.lo + f.w) →
      ∃ t, exec (.rakeWrite a v) s = .next t ∧
        (∀ i, Claims.member s a.addr.toNat i → ∀ f ∈ rs.fields, ∀ b, f.lo ≤ b → b < f.lo + f.w →
          (t.reg (atInst a.addr.toNat i)).getLsbD b = v.getLsbD b) ∧
        (∀ x, (∀ i, Claims.member s a.addr.toNat i → x ≠ atInst a.addr.toNat i) → t.reg x = s.reg x) ∧
        t = { s with regs := t.regs, rake := t.rake, out := .csr 0 0 :: s.out } ∧
        (∀ k, t.rakeOf (.seq k) = s.rakeOf (.seq k)) ∧ bits (t.rakeOf .mc).status.toNat 16 16 = 0 ∧
        bits (t.rakeOf .mc).status.toNat 42 10 = 0) ∧
    ((∀ f ∈ rs.fields, f.acc = .RW ∨ f.acc = .RO) → csrHome a.addr.toNat ≠ Reg.MGT_LOG_DATA + 24 → selectedReg (csrHome a.addr.toNat) = false →
      (∀ (u : State) i, u.shown .mc (atInst a.addr.toNat i) = u.reg (atInst a.addr.toNat i)) →
      ∃ t, ∃ val : Word, exec (.rakeRead a) s = .next t ∧ t.out = .csr 0 val.toNat :: s.out ∧
        (∀ b, b < 64 → (val.getLsbD b = true ↔ ∃ i, Claims.member s a.addr.toNat i ∧ (s.reg (atInst a.addr.toNat i)).getLsbD b = true)) ∧
        (bits (t.rakeOf .mc).status.toNat 0 1 = 1 ↔ ∃ i j, Claims.member s a.addr.toNat i ∧ Claims.member s a.addr.toNat j ∧
          s.reg (atInst a.addr.toNat i) ≠ s.reg (atInst a.addr.toNat j)) ∧
        bits (t.rakeOf .mc).status.toNat 1 10 = (s.rakeMembers (csrClass a.addr.toNat) (csrInst a.addr.toNat)).length ∧
        (∀ x, t.reg x = s.reg x) ∧ (∀ k, t.rakeOf (.seq k) = s.rakeOf (.seq k)))

/-- GLB_RAKE_DATA writes or reads the mask word its issuer selects and advances the WORD of that issuer alone. (16_registers_pins.md (Global registers), 16_registers_pins.md (Rake access)) -/
def Obligations.RakeMaskWordsAndTheSelector : Prop :=
  ∀ (req : Requester) (v : Word) (s : State), Claims.powered s → Claims.mayAccess s req →
    let x := (s.rakeOf req).sel
    selWord x < maskWords (selClass x) → selGroup x < 15 →
    let moved := fun (t : State) => selClass (t.rakeOf req).sel = selClass x ∧ selGroup (t.rakeOf req).sel = selGroup x ∧
      selWord (t.rakeOf req).sel = (selWord x + 1) % maskWords (selClass x) ∧ (t.rakeOf req).status = (s.rakeOf req).status ∧
      ∀ r, r ≠ req → t.rakeOf r = s.rakeOf r
    (∃ t, exec (.glbRakeDataAccess req (some v)) s = .next t ∧ t.out = .csr 0 0 :: s.out ∧ moved t ∧
      t = { s with rake := t.rake, rakeMask := t.rakeMask, out := t.out } ∧
      t.groupMask (selClass x) (selGroup x) (selWord x) = v ∧
      ∀ c g w, g < 16 → w < 64 → (c, g, w) ≠ (selClass x, selGroup x, selWord x) → t.groupMask c g w = s.groupMask c g w) ∧
    (∃ t, exec (.glbRakeDataAccess req none) s = .next t ∧
      t.out = .csr 0 (s.groupMask (selClass x) (selGroup x) (selWord x)).toNat :: s.out ∧ moved t ∧
      t = { s with rake := t.rake, regs := t.regs, out := t.out } ∧ (∀ r, t.reg r = s.reg r))

end

namespace Sys2Proof

open Sys2Proof.Machine

/-- A trigger was taken: captured in RAS_CAPTURE with code, level, die and instance, and its escalation runs from now (R476). -/
def Claims.triggered (s t : State) (level cls inst code die : Nat) : Prop :=
  t.fld Reg.RAS_CAPTURE_CODE = code ∧ t.fld Reg.RAS_CAPTURE_LEVEL = level ∧ t.fld Reg.RAS_CAPTURE_DIE = die ∧
  t.fld Reg.RAS_CAPTURE_INSTANCE = inst ∧ ⟨level, cls, inst, code, die, s.tb⟩ ∈ t.ras.escs

/-- No escalation of a level from some level up runs. -/
def Claims.noneFrom (s : State) (level : Nat) : Prop := ∀ e ∈ s.ras.escs, e.level < level

/-- No command of a pump, a router, a chain engine or the collective engine runs that could be writing to LPDDR6. -/
def Claims.quiet (s : State) : Prop :=
  s.pumps = [] ∧ s.colls = [] ∧ (∀ j : Fin 4, (s.router j).win = none) ∧ ∀ n : Fin 64, (s.chain n).running = none

/-- Commands completed with a code, one increment for each on its arrival counter: a counter without one is as before, and one that
carried no code yet carries it now (R272). -/
def Claims.endedWith (s t : State) (l : List Nat) (code : Nat) : Prop :=
  ∀ i, (t.counter i).count = (s.counter i).count + BitVec.ofNat 64 (l.count i) ∧ (t.counter i).remote = (s.counter i).remote ∧
    (t.counter i).err = (if l.count i = 0 ∨ (s.counter i).err ≠ 0 then (s.counter i).err else code)

/-- A pump command that holds no job and will send nothing but its own requests: no DISPATCH or RETURN, no counter beside its
completion counter, no link slots. -/
def Claims.plainPump (s : State) (c : PumpCmd) : Prop :=
  c.cancelled = 0 ∧ isFrameOp (pumpOp c.desc) = false ∧ (pumpOp c.desc = 0x22 ∨ pumpOp c.desc = 0x23 → bit (descWord c.desc 0) 9 = false) ∧
  c.jobs = [] ∧ (c.started = true ∨ s.asksSlots c.desc = false)

/-- The escalation of a level is running, and it is the only one of that level. -/
def Claims.runs (s : State) (e : Esc) : Prop := e ∈ s.ras.escs ∧ ∀ x ∈ s.ras.escs, x.level = e.level → x = e

end Sys2Proof

section

open Sys2Proof Sys2Proof.Machine

/-- EXTEST, EXTEST_PULSE, EXTEST_TRAIN, CLAMP and HIGHZ act only while RESET_N is low; its rise forces Test-Logic-Reset. (R523) -/
def Obligations.TapDriveInstructionsNeedResetLow : Prop :=
  (∀ (s : State) (c : Instr) (k : Nat), s.pins.pwrGood = true →
    (c, k) ∈ [(Instr.jtagExtest, 3), (.jtagExtestPulse, 4), (.jtagExtestTrain, 5), (.jtagClamp, 6), (.jtagHighz, 7)] →
    let u : State := { s with tap := { s.tap with ir := k, driving := decide (k ≠ 7) } }
    (∀ x rest, s.pins.resetLow = true → k ≤ 5 → s.inputs.scans = x :: rest → exec c s = .next { u with
      tap := { u.tap with boundary := x.load }, inputs := { s.inputs with scans := rest }, out := .tdo (u.boundaryCapture x.lands) :: s.out }) ∧
    (s.pins.resetLow = true → k ≤ 5 → s.inputs.scans = [] → ∃ x : BoundaryScan, exec c s = .next { u with
      tap := { u.tap with boundary := x.load }, free := s.free + 1, out := .tdo (u.boundaryCapture x.lands) :: s.out }) ∧
    (s.pins.resetLow = true → 5 < k → exec c s = .next { u with out := .tdo 0 :: s.out }) ∧
    (s.pins.resetLow = false → ∃ t, exec c s = .next t ∧
      t = { s with tap := { s.tap with ir := 0xFF, driving := false }, regs := t.regs, log := t.log, power := t.power, out := t.out } ∧
      Claims.raised s t glbSite 0x000A ∧
      ((s.log.siteOf glbSite).lastCycle ≠ mgclkCycle s.tb + 1 → ∃ e es, t.log.entries = e :: es ∧ e.code = 0x000A))) ∧
  (∀ s : State, s.pins.resetLow = true → exec .resetNRise s =
    .next { s with pins := { s.pins with resetLow := false }, tap := { s.tap with ir := 1, driving := false } })

/-- IDCODE, SAMPLE/PRELOAD and BYPASS shift out what the rules give; a long fall of RESET_N asks for a chip-level reset. (16_registers_pins.md (Boundary scan), 16_registers_pins.md (Package pins)) -/
def Obligations.TapReadsAndResetFall : Prop :=
  (∀ (s : State) (capture load : BitVec 489) (opcode : Byte), s.pins.pwrGood = true →
    exec .jtagIdcode s = .next { s with tap := { s.tap with ir := 1, driving := false }, out := .tdo 0x1B0095CD :: s.out } ∧
    (∃ v, exec (.jtagSamplePreload capture load) s =
        .next { s with tap := { s.tap with ir := 2, driving := false, boundary := load }, out := .tdo v :: s.out } ∧ v < 2 ^ 489 ∧
      v.testBit (3 * 16) = s.pins.pwrEn ∧ v.testBit (3 * 18) = !s.pins.resetLow ∧ v.testBit (3 * 21) = (capture.getLsbD (3 * 21) && !s.pins.trip) ∧
      ∀ i, 81 ≤ i → i < 489 → v.testBit i = capture.getLsbD i) ∧
    (opcode = 0 ∨ 7 < opcode.toNat →
      exec (.jtagBypass opcode) s = .next { s with tap := { s.tap with ir := 0xFF, driving := false }, out := .tdo 0 :: s.out })) ∧
  (∀ (s : State) (lowNs : Nat),
    (lowNs < 1000 → exec (.resetNFall lowNs) s = .next s) ∧
    (1000 ≤ lowNs → s.pins.resetLow = false → s.pins.pwrGood = false →
      exec (.resetNFall lowNs) s = .next { s with pins := { s.pins with resetLow := true } }) ∧
    (1000 ≤ lowNs → s.pins.resetLow = false → s.pins.pwrGood = true → s.fld Reg.RAS_STATE_FALLOW = 0 → s.inChipWindow = false →
      Claims.noneFrom s 4 → ∃ t, exec (.resetNFall lowNs) s = .next t ∧ Claims.triggered s t 4 21 0 0x540F 9 ∧
        t = { s with regs := t.regs, log := t.log, power := t.power, ras := t.ras, pins := { s.pins with resetLow := true } } ∧
        ((s.log.siteOf rasSite).lastCycle ≠ mgclkCycle s.tb + 1 → (∀ e ∈ s.log.entries.head?, e.code ≠ 0x540F) →
          ∃ e es, t.log.entries = e :: es ∧ e.code = 0x540F ∧ e.severity = 3 ∧ e.detail = 1)))

/-- RAS_ESCALATE and an engine's watchdog capture their trigger and begin its level, or merge into one that covers it. (15_faults_membership_insertion.md (The escalation ladder), 15_faults_membership_insertion.md (Triggers)) -/
def Obligations.EscalationRequestsAreTaken : Prop :=
  (∀ s : State, s.pins.pwrGood = true →
    let again := fun (last : Option Nat) => ∃ x, last = some x ∧ s.tb < x + s.fld Reg.RAS_CTRL_REPEAT_S * 1000000000
    let framed := fun (t : State) => t = { s with regs := t.regs, log := t.log, power := t.power, ras := t.ras, out := .csr 0 0 :: s.out } ∧
      t.fld Reg.RAS_ERR_CODE = 0x540F
    let calm := s.fld Reg.RAS_STATE_FALLOW = 0 ∧ s.inChipWindow = false ∧ Claims.noneFrom s 4
    let merged := fun (t : State) => t.reg Reg.RAS_CAPTURE = s.reg Reg.RAS_CAPTURE ∧ t.ras = s.ras ∧
      (t.reg Reg.RAS_STAT_MERGED).toNat = min ((s.reg Reg.RAS_STAT_MERGED).toNat + 1) (2 ^ 64 - 1)
    (∀ c : BitVec 16, c.toNat < 16384 → s.ctxState c.toNat = 2 → ∃ t, exec (.escalateContext .mc c) s = .next t ∧ framed t ∧ merged t) ∧
    (∀ c : BitVec 16, c.toNat < 16384 → s.merges 1 15 c.toNat = false →
      ∃ t, exec (.escalateContext .mc c) s = .next t ∧ t.out = .csr 0 0 :: s.out ∧
        t.fld Reg.RAS_CAPTURE_CODE = 0x540F ∧ t.fld Reg.RAS_CAPTURE_LEVEL = 1 ∧ t.fld Reg.RAS_CAPTURE_DIE = 0 ∧
        t.fld Reg.RAS_CAPTURE_INSTANCE = c.toNat ∧
        (t.reg Reg.RAS_STAT_CONTEXT).toNat = min ((s.reg Reg.RAS_STAT_CONTEXT).toNat + 1) (2 ^ 64 - 1) ∧
        t.ctxState c.toNat = (if s.ctxState c.toNat = 1 then 2 else s.ctxState c.toNat) ∧
        (s.ctxState c.toNat = 1 → Claims.triggered s t 1 15 c.toNat 0x540F 0) ∧
        (s.ctxState c.toNat = 0 ∨ s.ctxState c.toNat = 3 → framed t)) ∧
    (∀ (cls : BitVec 6) (inst : BitVec 16), engineClass cls.toNat = true → s.instExists cls.toNat inst.toNat = true →
      (¬ again (SMap.find? s.ras.engineResets (cls.toNat * 1024 + inst.toNat)) → s.merges 2 cls.toNat inst.toNat = false →
        ∃ t, exec (.escalateEngine .mc cls inst) s = .next t ∧ framed t ∧
          Claims.triggered s t 2 cls.toNat inst.toNat 0x540F (dieOf cls.toNat inst.toNat)) ∧
      (again (SMap.find? s.ras.engineResets (cls.toNat * 1024 + inst.toNat)) → engineCore cls.toNat inst.toNat = none → calm →
        ∃ t, exec (.escalateEngine .mc cls inst) s = .next t ∧ framed t ∧
          Claims.triggered s t 4 cls.toNat inst.toNat 0x5402 (dieOf cls.toNat inst.toNat))) ∧
    (∀ p : BitVec 16, p.toNat < 16 →
      (¬ again (SMap.find? s.ras.partResets p.toNat) → s.merges 3 14 p.toNat = false →
        ∃ t, exec (.escalatePartition .mc p) s = .next t ∧ framed t ∧ Claims.triggered s t 3 14 p.toNat 0x540F 0) ∧
      (again (SMap.find? s.ras.partResets p.toNat) → calm →
        ∃ t, exec (.escalatePartition .mc p) s = .next t ∧ framed t ∧ Claims.triggered s t 4 21 0 0x540C 9)) ∧
    (calm → ∃ t, exec (.escalateChip .mc) s = .next t ∧ framed t ∧ Claims.triggered s t 4 21 0 0x540F 9 ∧
      t.ras.escs = [⟨4, 21, 0, 0x540F, 9, s.tb⟩] ∧ t.fld Reg.RAS_STATE_BUSY_LEVEL = 4) ∧
    (s.fld Reg.RAS_STATE_FALLOW = 0 → s.inChipWindow = false → (∃ e ∈ s.ras.escs, 4 ≤ e.level) →
      ∃ t, exec (.escalateChip .mc) s = .next t ∧ framed t ∧ merged t) ∧
    (s.fld Reg.RAS_STATE_FALLOW = 1 → Claims.noneFrom s 6 →
      ∃ t, exec (.escalateChip .mc) s = .next t ∧ framed t ∧ Claims.triggered s t 6 21 0 0x540F 9) ∧
    (Claims.noneFrom s 6 → ∃ t, exec (.escalatePowerCycle .mc) s = .next t ∧ framed t ∧ Claims.triggered s t 6 21 0 0x540F 9) ∧
    (∀ k c, c ∈ [Instr.escalateChip (.seq k), .escalatePowerCycle (.seq k), .escalatePartition (.seq k) 0, .escalateContext (.seq k) 0,
        .escalateEngine (.seq k) 5 0] → s.csrEn (s.seqCtx k) = true →
      ∃ t, exec c s = .next t ∧ Claims.accessRefused s t rasSite 0x5401)) ∧
  (∀ (s : State) (cls : BitVec 6) (inst : BitVec 10), s.pins.pwrGood = true →
    (∀ x, s.engineSince cls.toNat inst.toNat = some x → x + s.fld Reg.RAS_CTRL_ENGINE_WD_MS * 1000000 ≤ s.tb →
      SMap.find? s.ras.engineResets (cls.toNat * 1024 + inst.toNat) = none → s.merges 2 cls.toNat inst.toNat = false →
      ∃ t, exec (.engineWatchdog cls inst) s = .next t ∧
        t = { s with regs := t.regs, log := t.log, power := t.power, ras := t.ras } ∧ t.fld Reg.RAS_ERR_CODE = 0x540B ∧
        Claims.triggered s t 2 cls.toNat inst.toNat 0x540B (dieOf cls.toNat inst.toNat)) ∧
    (s.engineSince cls.toNat inst.toNat = none → exec (.engineWatchdog cls inst) s = .next s))

/-- An engine reset ends every command of the instance with 0x5402; a partition reset tears down its contexts and moves it OFF. (15_faults_membership_insertion.md (Engine and partition level), 15_faults_membership_insertion.md (What each level keeps)) -/
def Obligations.EngineAndPartitionResets : Prop :=
  (∀ (s : State) (m : Fin 128) (e : Esc), Claims.coreRuns s → e ∈ s.ras.escs → e.level = 2 → e.cls = 2 → e.inst = m →
    let gone := (s.mat m).running.map RunPass.cmd ++ (s.mat m).queue
    ∃ t, exec (.engineReset 2 (BitVec.ofNat 10 m)) s = .next t ∧ (t.mat m).running = [] ∧ (t.mat m).queue = [] ∧
      Claims.endedWith s t (gone.map (fun k => (passOf k.desc).completion)) 0x5402 ∧
      (∀ k : Fin 128, k ≠ m → t.mat k = s.mat k) ∧
      (∀ c, c < 16384 → t.ctxState c = s.ctxState c) ∧ t.reg (Reg.MAT_REPAIR + instDelta m) = s.reg (Reg.MAT_REPAIR + instDelta m) ∧
      t.reg (Reg.MAT_CTRL + instDelta m) = s.reg (Reg.MAT_CTRL + instDelta m) ∧
      (t.reg Reg.RAS_STAT_ENGINE).toNat = min ((s.reg Reg.RAS_STAT_ENGINE).toNat + 1) (2 ^ 64 - 1) ∧
      (∀ x ∈ t.ras.escs, x ∈ s.ras.escs ∧ ¬ (x.level = 2 ∧ x.cls = 2 ∧ x.inst = m)) ∧
      SMap.find? t.ras.engineResets (2 * 1024 + m) = some s.tb ∧ (∀ x, x < coreStoreBase → t.readByte x = s.readByte x)) ∧
  (∀ (s : State) (cls : BitVec 6) (inst : BitVec 10) (e : Esc), Claims.coreRuns s → e ∈ s.ras.escs → e.level = 2 → e.cls = cls.toNat → e.inst = inst.toNat →
    ∃ t, exec (.engineReset cls inst) s = .next t ∧
      (∀ n : Fin 64, cls = 3 → inst.toNat = n →
        (t.chain n).running = none ∧ (t.chain n).queue = [] ∧
        Claims.endedWith s t (((s.chain n).running.toList.map RunChain.cmd ++ (s.chain n).queue).map (fun k =>
          if descFld k.desc 0 0 8 = 0x40 then (combineOf k.desc).completion else (chainOf k.desc).completion)) 0x5402) ∧
      (∀ n : Fin 64, cls = 4 → inst.toNat = n →
        t.seqActive n = false ∧ t.counters = s.counters ∧ (s.seqActive n = true → Claims.raised s t (seqSite n) 0x5402)) ∧
      (∀ j : Fin 4, cls = 5 → inst.toNat = j → ((s.router j).win.isSome = true → j.val ∈ s.groupOf j) →
        (t.router j).win = none ∧ (t.router j).unacked = [] ∧
        Claims.endedWith s t ((s.router j).unacked.map (fun x => x.1) ++ (s.router j).win.toList.map (fun w => w.cmd.completion)) 0x5402) ∧
      (cls = 12 → (∀ c ∈ t.pumps, c.cancelled ≠ 0) ∧
        ((∀ c ∈ s.pumps, Claims.plainPump s c) → t.pumps = [] ∧ Claims.endedWith s t (s.pumps.map (fun c => pumpCompletion c.desc)) 0x5402)) ∧
      (cls = 13 → (∀ c ∈ t.colls, c.ended = true) ∧
        ∀ c ∈ s.colls, c.ended = false → ∃ x ∈ t.colls, x.seq = c.seq ∧ x.ended = true ∧ x.code = 0x5402) ∧
      (cls = 22 → t.fills = [] ∧ Claims.endedWith s t (s.fills.map (fun f => f.completion)) 0x5402)) ∧
  (∀ (s : State) (p : Fin 16) (e : Esc), Claims.coreRuns s → e ∈ s.ras.escs → e.level = 3 → e.cls = 14 → e.inst = p →
    ∃ t, exec (.partitionReset p) s = .next t ∧ t.fld Reg.SCH_PART_STATE_STATE (instDelta p) = 0 ∧
      (∀ q : Fin 16, q ≠ p → t.fld Reg.SCH_PART_STATE_STATE (instDelta q) = s.fld Reg.SCH_PART_STATE_STATE (instDelta q)) ∧
      (∀ c, c < 16384 → t.ctxState c = (if s.ctxState c = 1 ∧ s.ctxPartition c = p then 2 else s.ctxState c)) ∧
      (∀ r, r < 16 → (t.ring p r).take = (s.ring p r).head ∧ (t.ring p r).head = (s.ring p r).head) ∧
      (t.reg Reg.RAS_STAT_PARTITION).toNat = min ((s.reg Reg.RAS_STAT_PARTITION).toNat + 1) (2 ^ 64 - 1) ∧
      bits (t.reg Reg.RAS_ERR).toNat 0 16 = 0x540C ∧ SMap.find? t.ras.partResets p = some s.tb ∧
      (∀ x ∈ t.ras.escs, x ∈ s.ras.escs ∧ ¬ (x.level = 3 ∧ x.cls = 14 ∧ x.inst = p)) ∧
      (∀ n : Fin 64, (s.reg (Reg.SCH_PART_CORES + instDelta p)).getLsbD n = true → (t.mat (2 * n)).running = [] ∧ (t.chain n).running = none ∧
        t.seqActive n = false)) ∧
  (∀ (s : State) (cls : BitVec 6) (inst : BitVec 10) (p : Fin 16), s.pins.pwrGood = true → s.ras.escs = [] →
    exec (.engineReset cls inst) s = .next s ∧ exec (.partitionReset p) s = .next s)

/-- A chip reset keeps memory, fuses, flash, regions and the time base; fallow entry and power-cycle level do what their rules list. (15_faults_membership_insertion.md (Chip level), 15_faults_membership_insertion.md (What each level keeps), 15_faults_membership_insertion.md (Fallow mode), 15_faults_membership_insertion.md (Power-cycle level)) -/
def Obligations.ChipLevelAndAbove : Prop :=
  (∀ (s : State) (e : Esc), s.pins.pwrGood = true → Claims.runs s e →
    (e.level = 4 ∧ s.fld Reg.RAS_STATE_FALLOW = 0) ∨ (e.level = 5 ∧ s.fld Reg.RAS_STATE_FALLOW = 1 ∧ ∀ x ∈ s.ras.escs, x.level ≠ 4) →
    ∃ t, exec .chipReset s = .next t ∧ t.coreOn = false ∧ t.mgmt.boot = some false ∧ t.tb = s.tb ∧ t.fuses = s.fuses ∧ t.flash = s.flash ∧
      t.channels = s.channels ∧ t.regions = s.regions ∧ t.pins = s.pins ∧ t.pending = s.pending ∧ t.counters = [] ∧ t.parts = [] ∧
      t.imem = [] ∧ t.seqs = [] ∧ t.pumps = [] ∧ t.ras.escs = [e] ∧
      (∀ c : Fin 384, t.fld Reg.MCH_STATE_SELF_REFRESH (instDelta c) = 1) ∧
      (Claims.quiet s → ∀ x, x < dumpBase → t.readByte x = s.readByte x) ∧
      t.reg Reg.RAS_CAPTURE = s.reg Reg.RAS_CAPTURE ∧ t.fld Reg.RAS_STATE_CHIP_FAILS = s.fld Reg.RAS_STATE_CHIP_FAILS ∧
      t.reg Reg.FAB_ADMIT = regReset Reg.FAB_ADMIT ∧
      (t.reg Reg.RAS_STAT_CHIP).toNat = min ((s.reg Reg.RAS_STAT_CHIP).toNat + 1) (2 ^ 64 - 1)) ∧
  (∀ (s : State) (e : Esc), s.pins.pwrGood = true → Claims.runs s e → e.level = 5 → s.fld Reg.RAS_STATE_FALLOW = 0 →
    ∃ t, exec .fallowEntry s = .next t ∧ t.coreOn = false ∧ t.fld Reg.MGT_BOOT_STATE = 9 ∧ t.fld Reg.RAS_STATE_FALLOW = 1 ∧
      bits (t.reg Reg.RAS_ERR).toNat 0 16 = 0x5403 ∧ (∀ x ∈ t.ras.escs, x.level ≠ 5) ∧
      ((s.log.siteOf rasSite).lastCycle ≠ mgclkCycle s.tb + 1 → t.fld Reg.MGT_ALERT_VALID = 1) ∧
      (Claims.quiet s → ∀ x, x < dumpBase → t.readByte x = s.readByte x) ∧ t.regions = s.regions) ∧
  (∀ (s : State) (e : Esc), s.pins.pwrGood = true → Claims.runs s e → e.level = 6 →
    (s.fld Reg.RAS_STATE_CYCLE_REQ = 1 → exec .pwrCycleReq s = .next s) ∧
    (s.fld Reg.RAS_STATE_CYCLE_REQ = 0 → ∃ t, exec .pwrCycleReq s = .next t ∧ t.fld Reg.RAS_STATE_CYCLE_REQ = 1 ∧
      bits (t.reg Reg.RAS_ERR).toNat 0 16 = 0x540D ∧
      ((s.log.siteOf rasSite).lastCycle ≠ mgclkCycle s.tb + 1 → t.fld Reg.MGT_ALERT_VALID = 1) ∧ t.coreOn = s.coreOn ∧ t.ras = s.ras ∧
      (∀ x, x < dumpBase → t.readByte x = s.readByte x))) ∧
  (∀ s : State, s.pins.pwrGood = true → ∃ t, exec .mcWatchdog s = .next t ∧ t = { s with regs := t.regs } ∧
    t.fld Reg.RAS_CAPTURE_CODE = 0x540E ∧ t.fld Reg.RAS_STATE_CYCLE_REQ = 1 ∧ t.fld Reg.MGT_ALERT_VALID = 1 ∧
    Claims.regsOutside [Reg.RAS_CAPTURE, Reg.RAS_STATE, Reg.MGT_ALERT] s t) ∧
  (∀ (s : State) (x : Nat), s.pins.pwrGood = true → s.ras.runningAt = some x →
    (x + s.fld Reg.RAS_CTRL_CHIP_WINDOW_S * 1000000000 ≤ s.tb → ∃ t, exec .chipWindowExpiry s = .next t ∧
      t = { s with regs := t.regs, ras := { s.ras with runningAt := none, failDies := [] } } ∧ t.fld Reg.RAS_STATE_CHIP_FAILS = 0 ∧
      Claims.regsOutside [Reg.RAS_STATE] s t) ∧
    (s.tb < x + s.fld Reg.RAS_CTRL_CHIP_WINDOW_S * 1000000000 → exec .chipWindowExpiry s = .next s)) ∧
  (∀ (s : State) (c : Instr), s.pins.pwrGood = true → s.ras.escs = [] → c ∈ [Instr.chipReset, .fallowEntry, .pwrCycleReq] → exec c s = .next s)

/-- A level that exceeds its bound escalates to the next one with 0x5410, and a failed chip reset counts towards a second or above. (15_faults_membership_insertion.md (Triggers), 15_faults_membership_insertion.md (Chip level)) -/
def Obligations.BoundsOfEscalations : Prop :=
  ∀ (s : State) (e : Esc), s.pins.pwrGood = true → s.ras.escs = [e] →
    let late := fun (ns : Nat) => e.since + ns < s.tb
    let calm := s.fld Reg.RAS_STATE_FALLOW = 0 ∧ s.inChipWindow = false
    ((e.level ≤ 1 ∨ 6 ≤ e.level ∨ (e.level = 2 ∧ ¬ late 100000) ∨ (e.level = 3 ∧ ¬ late 1000000) ∨ (4 ≤ e.level ∧ ¬ late 200000000)) →
      exec .escalationTimeout s = .next s) ∧
    (e.level = 2 → late 100000 → engineCore e.cls e.inst = none → calm → e.inst < 2 ^ 16 → dieOf e.cls e.inst < 16 →
      ∃ t, exec .escalationTimeout s = .next t ∧ Claims.triggered s t 4 e.cls e.inst 0x5410 (dieOf e.cls e.inst) ∧
        t = { s with regs := t.regs, log := t.log, power := t.power, ras := t.ras }) ∧
    (∀ n p, e.level = 2 → late 100000 → engineCore e.cls e.inst = some n → s.partOfCore n = some p → SMap.find? s.ras.partResets p = none →
      ∃ t, exec .escalationTimeout s = .next t ∧ Claims.triggered s t 3 14 p 0x5410 0 ∧
        t = { s with regs := t.regs, log := t.log, power := t.power, ras := t.ras }) ∧
    (e.level = 3 → late 1000000 → calm → e.inst < 16 →
      ∃ t, exec .escalationTimeout s = .next t ∧ Claims.triggered s t 4 14 e.inst 0x5410 0 ∧
        t = { s with regs := t.regs, log := t.log, power := t.power, ras := t.ras }) ∧
    (e.level = 4 → late 200000000 → e.inst < 2 ^ 16 → e.die < 16 →
      ∃ t, exec .escalationTimeout s = .next t ∧ t.fld Reg.RAS_STATE_CHIP_FAILS = min 2 (s.fld Reg.RAS_STATE_CHIP_FAILS + 1) ∧
        (s.fld Reg.RAS_STATE_CHIP_FAILS = 0 → Claims.triggered s t 4 e.cls e.inst 0x5410 e.die ∧
          t.fld Reg.RAS_STATE_FALLOW = s.fld Reg.RAS_STATE_FALLOW) ∧
        (s.fld Reg.RAS_STATE_CHIP_FAILS ≠ 0 → (e.die ≠ 0 ∨ s.fld Reg.RAS_CTRL_FALLOW_EN = 0) → Claims.triggered s t 6 e.cls e.inst 0x5410 e.die) ∧
        (s.fld Reg.RAS_STATE_CHIP_FAILS ≠ 0 → e.die = 0 → (∀ d ∈ s.ras.failDies, d = 0) → s.fld Reg.RAS_CTRL_FALLOW_EN = 1 →
          Claims.triggered s t 5 e.cls e.inst 0x5410 0 ∧ t.fld Reg.RAS_STATE_FALLOW = 1)) ∧
    (e.level = 5 → late 200000000 → e.inst < 2 ^ 16 → e.die < 16 →
      ∃ t, exec .escalationTimeout s = .next t ∧ Claims.triggered s t 6 e.cls e.inst 0x5410 e.die)

end

namespace Sys2Proof

open Sys2Proof.Machine

/-- A clean line of LPDDR6's general area on a channel in service that no brine view covers (R209, R214, R219, R224). -/
def Claims.clearLine (s : State) (l : Nat) : Prop :=
  l + 64 ≤ generalSize ∧ s.chanDead (channelOf l) = false ∧ s.viewAt l = none ∧ s.poisoned l 64 = false

/-- The new value of an element for the operations on 64-bit integers and for the two exchanges (R220). -/
def Claims.nm64 (op : Nat) (v x cmp : Word) : Option Word :=
  match op with
  | 0 => some (v + x)
  | 2 => some (if x.slt v then x else v)
  | 3 => some (if v.slt x then x else v)
  | 4 => some (if x.ult v then x else v)
  | 5 => some (if v.ult x then x else v)
  | 8 => some (v &&& x)
  | 9 => some (v ||| x)
  | 10 => some (v ^^^ x)
  | 11 => some x
  | 12 => some (if v = cmp then x else v)
  | _ => none

end Sys2Proof

section

open Sys2Proof Sys2Proof.Machine

/-- A line read answers stored, corrected or no data with its code; a line write stores exactly its bytes; scrub keeps them. (07_memory_pans_queues.md (Error correction and poison), 07_memory_pans_queues.md (Retirement and scrub), 07_memory_pans_queues.md (Channels, bridges and addresses), 06_sequencer.md (Registers, predicates and the instruction store)) -/
def Obligations.LinesAreReadAndWrittenUnderEcc : Prop :=
  (∀ (pa : BitVec 42) (nBad : Nat) (mc : Bool) (s : State), Claims.powered s →
    let l := pa.toNat / 64 * 64
    let ch := channelOf l
    let lim := s.fld Reg.MCH_ECC_CTRL_CORR_LIMIT (instDelta ch)
    (Claims.clearLine s l →
      (nBad = 0 → exec (.lineRead pa nBad mc) s = .next { s with out := .lineData l (s.readBytes l 64) 0 :: s.out }) ∧
      (0 < nBad → nBad ≤ lim → ∃ t, exec (.lineRead pa nBad mc) s = .next t ∧ t.out = .lineData l (s.readBytes l 64) 0 :: s.out ∧
        Claims.memSame s t ∧ t.poisoned l 64 = false ∧ Claims.rose s t (Reg.MCH_STAT_CE_LINES + instDelta ch) 1 ∧
        Claims.rose s t (Reg.MCH_STAT_CE_BYTES + instDelta ch) nBad) ∧
      (0 < nBad → lim < nBad → nBad ≤ 4 → ∃ t, exec (.lineRead pa nBad mc) s = .next t ∧ t.out = .lineData l [] 0x1801 :: s.out ∧
        Claims.memSame s t ∧ t.poisoned l 64 = true ∧ Claims.rose s t (Reg.MCH_STAT_UE + instDelta ch) 1 ∧
        (t.reg (Reg.MCH_UE_ADDR + instDelta ch)).toNat = l + 2 ^ 63)) ∧
    (l + 64 ≤ generalSize → s.chanDead ch = false → s.viewAt l = none → s.poisoned l 64 = true → s.hasUe l 64 = false → nBad ≤ 3 →
      ∃ t, exec (.lineRead pa nBad mc) s = .next t ∧ t.out = .lineData l [] 0x1802 :: s.out ∧ Claims.raised s t (chanSite ch) 0x1802 ∧
        Claims.rose s t (Reg.MCH_STAT_POISON_READ + instDelta ch) 1 ∧
        t = { s with regs := t.regs, log := t.log, power := t.power, out := t.out }) ∧
    (l + 64 ≤ generalSize → s.chanDead ch = true → s.viewAt l = none →
      exec (.lineRead pa nBad mc) s = .next { s with out := .lineData l [] 0x1806 :: s.out }) ∧
    (generalSize < l + 64 → pa.toNat < lpddrSize → s.viewAt l = none → mc = false →
      ∃ t, exec (.lineRead pa nBad mc) s = .next t ∧ t.out = .lineData l [] 0x1C01 :: s.out ∧ Claims.raised s t (bridgeSite (bridgeOf ch)) 0x1C01 ∧
        t = { s with regs := t.regs, log := t.log, power := t.power, out := t.out }) ∧
    (lpddrSize ≤ pa.toNat → ∃ t, exec (.lineRead pa nBad mc) s = .next t ∧ t.out = .lineData l [] 0x0005 :: s.out ∧
      Claims.raised s t glbSite 0x0005 ∧ t = { s with regs := t.regs, log := t.log, power := t.power, out := t.out })) ∧
  (∀ (pa : BitVec 42) (data : Bytes) (poison mc : Bool) (s : State), Claims.powered s →
    let l := pa.toNat / 64 * 64
    let bs := data.take (64 - pa.toNat % 64)
    bs ≠ [] → l + 64 ≤ generalSize → s.touchesView pa.toNat bs.length = false →
    (s.chanDead (channelOf l) = false → (s.poisoned l 64 = false ∨ bs.length = 64) → ∃ t, exec (.lineWrite pa data poison 0 mc) s = .next t ∧
      t = { s with mem := t.mem, scratch := t.scratch, bad := t.bad, out := .done pa.toNat 0 :: s.out } ∧
      (poison = false → Claims.stored s t pa.toNat bs ∧ t.poisoned l 64 = false) ∧
      (poison = true → t.poisoned l 64 = true) ∧ (∀ x, x / 64 ≠ l / 64 → t.readByte x = s.readByte x ∧ t.badAt x = s.badAt x)) ∧
    (s.chanDead (channelOf l) = false → s.poisoned l 64 = true → s.hasUe l 64 = false → bs.length < 64 → ∃ t, exec (.lineWrite pa data poison 0 mc) s = .next t ∧
      t = { s with regs := t.regs, log := t.log, power := t.power, out := .done pa.toNat 0x1803 :: s.out } ∧
      t.fld Reg.MCH_ERR_CODE (instDelta (channelOf l)) = 0x1803 ∧ Claims.rose s t (Reg.MCH_STAT_POISON_READ + instDelta (channelOf l)) 1) ∧
    (s.chanDead (channelOf l) = true → exec (.lineWrite pa data poison 0 mc) s = .next { s with out := .done pa.toNat 0x1806 :: s.out })) ∧
  (∀ (pa : BitVec 42) (s : State), Claims.powered s → pa.toNat < lpddrSize →
    let ch := channelOf (pa.toNat / 64 * 64)
    (s.fld Reg.MBD_CTRL_SCRUB_HOURS (instDelta (bridgeOf ch)) = 0 → exec (.patrolScrub pa 0) s = .next s) ∧
    (s.fld Reg.MBD_CTRL_SCRUB_HOURS (instDelta (bridgeOf ch)) ≠ 0 → s.chanDead ch = false → s.poisoned (pa.toNat / 64 * 64) 64 = false → s.spareHome (pa.toNat / 64 * 64) = pa.toNat / 64 * 64 →
      ∃ t, exec (.patrolScrub pa 0) s = .next t ∧ t = { s with regs := t.regs } ∧
        Claims.rose s t (Reg.MCH_STAT_SCRUB_LINES + instDelta ch) 1 ∧ Claims.regsOutside [Reg.MCH_STAT_SCRUB_LINES + instDelta ch] s t)) ∧
  (∀ (ch : Fin 384) (s : State), Claims.powered s → s.fld Reg.RAS_STATE_FALLOW = 0 → s.inChipWindow = false → Claims.noneFrom s 4 →
    ∃ t, exec (.channelDead ch) s = .next t ∧ t.fld Reg.MCH_STATE_DEAD (instDelta ch) = 1 ∧ t.fld Reg.MCH_STATE_TRAINED (instDelta ch) = 0 ∧
      Claims.triggered s t 4 6 ch 0x1806 (1 + ch.val / 48) ∧ Claims.memSame s t ∧
      t = { s with regs := t.regs, log := t.log, power := t.power, ras := t.ras }) ∧
  (∀ (req : Requester) (n : Fin 64) (v : BitVec 32) (s : State), Claims.coreRuns s → s.coreEnabled n = true → Claims.mayAccess s req →
    let i := s.fld Reg.SEQ_IMEM_ADDR_INDEX (instDelta n)
    (s.seqRun n = false → ∃ t, exec (.seqImemDataWrite req n v) s = .next t ∧
      t = { s with regs := t.regs, imem := t.imem, out := .csr 0 0 :: s.out } ∧ t.imemWord n i = v.toNat ∧
      t.fld Reg.SEQ_IMEM_ADDR_INDEX (instDelta n) = (i + 1) % 65536 ∧
      (∀ (m : Fin 64) k, k < 65536 → (m, k) ≠ (n, i) → t.imemWord m k = s.imemWord m k) ∧
      Claims.regsOutside [Reg.SEQ_IMEM_ADDR + instDelta n] s t) ∧
    (s.seqRun n = true → ∃ t, exec (.seqImemDataWrite req n v) s = .next t ∧ Claims.accessRefused s t (site 4 n) 0x100C) ∧
    (∃ t, exec (.seqImemDataRead req n) s = .next t ∧ t = { s with regs := t.regs, out := .csr 0 (s.imemWord n i % 2 ^ 64) :: s.out } ∧
      t.fld Reg.SEQ_IMEM_ADDR_INDEX (instDelta n) = (i + 1) % 65536 ∧ Claims.regsOutside [Reg.SEQ_IMEM_ADDR + instDelta n] s t))

/-- Atomics and reduces write the operation's result to their elements alone; brine blocks decode, fail or turn on as ruled. (07_memory_pans_queues.md (Near-memory operations), 07_memory_pans_queues.md (Brine views), 07_memory_pans_queues.md (Atomics on core store)) -/
def Obligations.NearMemoryAndBrine : Prop :=
  (∀ (pa : BitVec 42) (opc : BitVec 4) (x cmp : Word) (strict : Bool) (s : State), Claims.powered s →
    Claims.clearLine s (pa.toNat / 64 * 64) → pa.toNat % 8 = 0 → s.touchesView pa.toNat 8 = false →
    let ch := channelOf pa.toNat
    let b := bridgeOf ch
    (s.fld Reg.MBD_CTRL_NM_ENABLE (instDelta b) = 1 → ∀ v, Claims.nm64 opc.toNat (BitVec.ofNat 64 (s.readNat pa.toNat 8)) x cmp = some v →
      ∃ t, exec (.nmAtomic pa opc 8 x cmp strict 0) s = .next t ∧ t.out = .atomicResult pa.toNat (s.readNat pa.toNat 8) 0 :: s.out ∧
        t = { s with regs := t.regs, mem := t.mem, scratch := t.scratch, out := t.out } ∧ Claims.stored s t pa.toNat (leBytes 8 v.toNat) ∧
        Claims.rose s t (Reg.MCH_STAT_NM_OPS + instDelta ch) 1 ∧ Claims.regsOutside [Reg.MCH_STAT_NM_OPS + instDelta ch] s t) ∧
    (∀ code, (s.fld Reg.MBD_CTRL_NM_ENABLE (instDelta b) = 0 ∧ code = 0x1C07) ∨
        (s.fld Reg.MBD_CTRL_NM_ENABLE (instDelta b) = 1 ∧ 12 < opc.toNat ∧ code = 0x1C03) →
      ∃ t, exec (.nmAtomic pa opc 8 x cmp strict 0) s = .next t ∧ t.out = .atomicResult pa.toNat 0 code :: s.out ∧
        t = { s with regs := t.regs, log := t.log, power := t.power, out := t.out } ∧ Claims.raised s t (bridgeSite b) code) ∧
    (s.fld Reg.MBD_CTRL_NM_ENABLE (instDelta b) = 1 →
      ∃ t, exec (.nmAtomic pa 1 4 x cmp true 0) s = .next t ∧ t.out = .atomicResult pa.toNat 0 0x1C02 :: s.out ∧ Claims.memSame s t)) ∧
  (∀ (pa : BitVec 42) (opc : BitVec 4) (data : Bytes) (strict : Bool) (s : State), Claims.powered s →
    Claims.clearLine s pa.toNat → pa.toNat % 64 = 0 → s.touchesView pa.toNat 64 = false → data.length = 64 →
    s.fld Reg.MBD_CTRL_NM_ENABLE (instDelta (bridgeOf (channelOf pa.toNat))) = 1 → opc ∈ [0, 2, 3, 4, 5, 8, 9, 10] →
    ∃ t, exec (.nmReduce pa opc data strict 0) s = .next t ∧ t.out = .done pa.toNat 0 :: s.out ∧
      (∀ i, i < 8 → Claims.nm64 opc.toNat (BitVec.ofNat 64 (s.readNat (pa.toNat + 8 * i) 8)) (BitVec.ofNat 64 (leNat ((data.drop (8 * i)).take 8))) 0 =
        some (BitVec.ofNat 64 (t.readNat (pa.toNat + 8 * i) 8))) ∧
      (∀ a, (a < pa.toNat ∨ pa.toNat + 64 ≤ a) → t.readByte a = s.readByte a) ∧
      t = { s with regs := t.regs, mem := t.mem, scratch := t.scratch, out := t.out }) ∧
  (∀ (n : Fin 64) (off : Nat) (opc : BitVec 4) (x cmp : Word) (strict : Bool) (s : State), Claims.coreRuns s → s.coreEnabled n = true →
    off + 8 ≤ storeSize → off % 8 = 0 →
    let pa := coreAddr n off
    ((s.badAt pa).spoils = false → ∀ v, Claims.nm64 opc.toNat (BitVec.ofNat 64 (s.readNat pa 8)) x cmp = some v →
      ∃ t, exec (.coreStoreAtomic (BitVec.ofNat 48 pa) opc (.atomic 8 x cmp) strict) s = .next t ∧
        t.out = .atomicResult pa (s.readNat pa 8) 0 :: s.out ∧ Claims.stored s t pa (leBytes 8 v.toNat) ∧
        t.fld Reg.CORE_STORE_ECC_CORRECTED (instDelta n) =
          min (s.fld Reg.CORE_STORE_ECC_CORRECTED (instDelta n) + b2n (decide (s.badAt pa = .ce))) (2 ^ 32 - 1) ∧
        t = { s with regs := t.regs, mem := t.mem, scratch := t.scratch, bad := t.bad, out := t.out }) ∧
    ((s.badAt pa).spoils = true → opc.toNat ∈ [0, 2, 3, 4, 5, 8, 9, 10, 11, 12] →
      ∃ t, exec (.coreStoreAtomic (BitVec.ofNat 48 pa) opc (.atomic 8 x cmp) strict) s = .next t ∧ t.out = .atomicResult pa 0 0x1803 :: s.out ∧
        Claims.memSame s t)) ∧
  (∀ (pa : BitVec 42) (v j : Nat) (s : State), Claims.powered s → s.viewAt (pa.toNat / 64 * 64) = some (v, j) →
    let l := pa.toNat / 64 * 64
    let kept := s.keptBlock v j
    let index := (s.reg (mbdIndex (j % 8) v)).toNat
    let e := s.brineEntry index j
    (∀ d, kept = some d → ∃ t, exec (.brineRead pa) s = .next t ∧ t.out = .lineData l ((d.drop (l % 4096)).take 64) 0 :: s.out ∧
      Claims.rose s t (Reg.MBD_STAT_BRINE_HITS + instDelta (j % 8)) 1 ∧ Claims.memSame s t) ∧
    (kept = none → s.unreadable (entryAddr index j) = false → bits e 0 2 = 2 → ∃ t, exec (.brineRead pa) s = .next t ∧
      t.out = .lineData l (List.replicate 64 (BitVec.ofNat 8 (bits e 8 8))) 0 :: s.out ∧
      t.keptBlock v j = some (List.replicate 4096 (BitVec.ofNat 8 (bits e 8 8))) ∧
      Claims.rose s t (Reg.MBD_STAT_BRINE_BLOCKS + instDelta (j % 8)) 1 ∧ Claims.memSame s t) ∧
    (kept = none → (s.unreadable (entryAddr index j) = true ∨ bits e 0 2 = 3) → ∃ t, exec (.brineRead pa) s = .next t ∧ t.out = .lineData l [] 0x1C06 :: s.out ∧
      Claims.raised s t (bridgeSite (j % 8)) 0x1C06 ∧ Claims.rose s t (Reg.MBD_STAT_BRINE_CORRUPT + instDelta (j % 8)) 1)) ∧
  (∀ (b : Fin 8) (v : Fin 64) (x : BrineScan) (s : State), Claims.powered s → SMap.find? s.brineScans (b * 64 + v) = some x →
    ∃ t, exec (.brineScanDone b v) s = .next t ∧ Claims.memSame s t ∧
      (s.viewRangeBad b v x = false → s.scanView b x = none → t.viewOn b v = true ∧ (t.reg (mbdBase b v)) = BitVec.ofNat 64 x.base ∧
        t.reg (mbdBlocks b v) = BitVec.ofNat 64 x.blocks ∧ t.reg (mbdIndex b v) = BitVec.ofNat 64 x.index ∧
        (∀ u : Fin 64, u ≠ v → t.viewOn b u = s.viewOn b u)) ∧
      (∀ k, s.viewRangeBad b v x = false → s.scanView b x = some k → Claims.raised s t (bridgeSite b) 0x1C05 ∧
        (s.coreOn = true → t.fld Reg.SCH_COMMIT_STATUS_CODE (instDelta x.via) = 0x1C05) ∧ (∀ u : Fin 64, t.viewOn b u = s.viewOn b u) ∧
        t.reg (mbdBase b v) = s.reg (mbdBase b v)))

end

namespace Sys2Proof

open Sys2Proof.Machine

/-- A range of whole clean lines of LPDDR6's general area that no view covers or touches, on channels in service. -/
def Claims.clearRange (s : State) (a n : Nat) : Prop :=
  a % 64 = 0 ∧ n % 64 = 0 ∧ s.touchesView a n = false ∧ ∀ i, i < n / 64 → Claims.clearLine s (a + 64 * i)

/-- The row of a pump descriptor. -/
def Claims.pumpRow (die : Fin 2) (req : Requester) (d : Desc) : Option Instr :=
  match pumpOp d with
  | 0x20 => some (.dispatch die req d) | 0x21 => some (.return die req d) | 0x22 => some (.copy die req d)
  | 0x23 => some (.putReduce die req d) | 0x24 => some (.atomic die req d) | 0x25 => some (.fence die req d)
  | 0x26 => some (.cntClear die req d) | 0x27 => some (.memRake die req d) | _ => none

/-- The request of a core whose context is live and for which the pump has room. -/
def Claims.pumpReady (s : State) (die : Fin 2) (n : Fin 64) : Prop := Claims.coreRuns s ∧ Claims.live s n ∧ s.pumpRoom die n = true

/-- Two byte ranges share no byte. -/
def Claims.apart (a n b m : Nat) : Prop := a + n ≤ b ∨ b + m ≤ a

end Sys2Proof

section

open Sys2Proof Sys2Proof.Machine

/-- A pump command is refused with its first failing code, or moves, reduces, exchanges, clears, rakes or sends what it names. (03_dispatch_combine.md (Descriptors of the pump), 08_salax_memory.md (Copy pump commands), 08_salax_memory.md (Arrival counters), 08_salax_memory.md (Memory rake)) -/
def Obligations.PumpCommandsAct : Prop :=
  (∀ (s : State) (die : Fin 2) (n : Fin 64) (d : Desc) (c : Instr) (code : Nat), Claims.pumpReady s die n → Claims.pumpRow die (.seq n) d = some c →
    s.pumpCode die d = some code → ∃ t, exec c s = .next t ∧ Claims.refused s t (fabSite die) (pumpCompletion d) code) ∧
  (∀ (s : State) (die : Fin 2) (n : Fin 64) (d : Desc), Claims.pumpReady s die n → s.pumpCode die d = none → s.pumps = [] → s.pumpOpen s.pumpSeq = false →
    let src := descWord d 1
    let dst := descWord d 2
    let len := descFld d 0x18 0 41
    let plain := bit (descWord d 0) 9 = false ∧ bit (descWord d 0) 10 = false ∧ bit (descWord d 0) 11 = false
    let framed := fun (t : State) =>
      t = { s with regs := t.regs, mem := t.mem, scratch := t.scratch, bad := t.bad, counters := t.counters, spoilt := t.spoilt,
                   pumpSeq := s.pumpSeq + 1 } ∧
      Claims.counted s t (pumpCompletion d) 0
    (pumpOp d = 0x22 → plain → Claims.clearRange s src len → Claims.clearRange s dst len → Claims.apart src len dst len →
      ∃ t, exec (.copy die (.seq n) d) s = .next t ∧ framed t ∧ Claims.stored s t dst (s.readBytes src len)) ∧
    (pumpOp d = 0x23 → descFld d 0 12 4 = 0 → plain → Claims.clearRange s src len → Claims.clearRange s dst len → Claims.apart src len dst len →
      (∀ b, b < 8 → s.fld Reg.MBD_CTRL_NM_ENABLE (instDelta b) = 1) →
      ∃ t, exec (.putReduce die (.seq n) d) s = .next t ∧ framed t ∧
        (∀ i, i < len / 8 → t.readNat (dst + 8 * i) 8 = (s.readNat (dst + 8 * i) 8 + s.readNat (src + 8 * i) 8) % 2 ^ 64) ∧
        (∀ x, (x < dst ∨ dst + len ≤ x) → t.readByte x = s.readByte x)) ∧
    (pumpOp d = 0x24 → descFld d 0 12 4 = 0 → bit (descWord d 0) 10 = false → Claims.plainLp s src 8 → s.viewAt src = none →
      Claims.plainLp s (descFld d 0x20 0 48) 8 → s.viewAt (descFld d 0x20 0 48) = none → Claims.apart src 8 (descFld d 0x20 0 48) 8 →
      s.fld Reg.MBD_CTRL_NM_ENABLE (instDelta (bridgeOf (channelOf src))) = 1 →
      ∃ t, exec (.atomic die (.seq n) d) s = .next t ∧ framed t ∧ t.readNat src 8 = (s.readNat src 8 + descWord d 2) % 2 ^ 64 ∧
        t.readNat (descFld d 0x20 0 48) 8 = s.readNat src 8 ∧
        (∀ x, (x < src ∨ src + 8 ≤ x) → (x < descFld d 0x20 0 48 ∨ descFld d 0x20 0 48 + 8 ≤ x) → t.readByte x = s.readByte x)) ∧
    (pumpOp d = 0x27 → Claims.clearRange s (descFld d 8 0 48) (descFld d 0x10 32 32) →
      let off := descFld d 0x10 0 23
      ∃ t, exec (.memRake die (.seq n) d) s = .next t ∧ framed t ∧
        (∀ k, k < 64 → bit (descWord d 3) k = true → s.coreEnabled k = true →
          t.readBytes (coreAddr k off) (descFld d 0x10 32 32) = s.readBytes (descFld d 8 0 48) (descFld d 0x10 32 32)) ∧
        (∀ x, (∀ k, k < 64 → bit (descWord d 3) k = true → s.coreEnabled k = true →
          (x < coreAddr k off ∨ coreAddr k off + descFld d 0x10 32 32 ≤ x)) → t.readByte x = s.readByte x)) ∧
    (pumpOp d = 0x25 → ∃ t, exec (.fence die (.seq n) d) s = .next t ∧ Claims.counted s t (pumpCompletion d) 0 ∧
      t = { s with regs := t.regs, counters := t.counters, pumpSeq := s.pumpSeq + 1 } ∧ Claims.rose s t Reg.FAB_STAT_FENCES 1 ∧
      Claims.regsOutside [Reg.FAB_STAT_FENCES] s t) ∧
    (pumpOp d = 0x26 → ∃ t, exec (.cntClear die (.seq n) d) s = .next t ∧ t = { s with counters := t.counters } ∧
      t.counter (descFld d 8 0 14) = { s.counter (descFld d 8 0 14) with err := 0 } ∧
      (t.counter (pumpCompletion d)).count = (s.counter (pumpCompletion d)).count + 1 ∧
      (∀ i, i ≠ descFld d 8 0 14 → i ≠ pumpCompletion d → t.counter i = s.counter i)) ∧
    (pumpOp d = 0x21 → descFld d 8 32 15 = 0 → ∃ t, exec (.return die (.seq n) d) s = .next t ∧ t = { s with counters := t.counters } ∧
      Claims.counted s t (pumpCompletion d) 0) ∧
    (pumpOp d = 0x20 ∨ (pumpOp d = 0x21 ∧ descFld d 8 32 15 ≠ 0) →
      (∀ i, i < descFld d 8 32 15 → (s.frameEntry (frameCmdOf d) i).loc = true ∨ (s.grantOf (s.frameEntry (frameCmdOf d) i).xfer).isSome = true) → ∀ c, Claims.pumpRow die (.seq n) d = some c →
      ∃ t p, exec c s = .next t ∧
        t = { s with pumps := [p], pumpSeq := s.pumpSeq + 1, regs := t.regs, log := t.log, power := t.power } ∧
        ((∀ j ∈ p.jobs, j.code ≠ 0x2804) → t = { s with pumps := [p], pumpSeq := s.pumpSeq + 1 }) ∧
        (∀ j ∈ p.jobs, j.code = 0x2804 → ∃ l k, s.grantOf j.xfer = some (l, k) ∧ bits (t.reg (errReg (lnkSite l) 0x2804)).toNat 0 16 = 0x2804) ∧
        p.desc = d ∧ p.die = die.val ∧ p.core = some n.val ∧
        p.started = true ∧ p.context = s.coreContext n ∧ p.key = s.ctxKey (s.coreContext n) ∧ p.epoch = s.ctxEpoch (s.coreContext n) ∧
        p.jobs.map (fun j => j.index) = (if pumpOp d = 0x21 then List.range (descFld d 8 32 15)
          else (List.range (descFld d 8 32 15)).filter (fun i => s.sumQuota (descFld d 0x10 0 48) i ≠ 0))))

/-- A LOCAL frame lands once; a landing frame writes its three areas alone, counts its status and is acknowledged. (03_dispatch_combine.md (Sending frames), 03_dispatch_combine.md (Landing), 03_dispatch_combine.md (Statistics)) -/
def Obligations.FramesMoveLandAndComplete : Prop :=
  (∀ (die : Fin 2) (s : State) (c : PumpCmd) (j : Job), Claims.powered s → s.pumps.find? (fun c => decide (c.die = die.val) &&
      c.jobs.any (fun j => j.loc && decide (j.state = .waiting))) = some c →
    c.jobs.find? (fun j => j.loc && decide (j.state = .waiting)) = some j → (∀ k ∈ c.jobs, k.index = j.index → k = j) →
    (∀ x ∈ s.pumps, x.seq = c.seq → x = c) →
    ∃ t c', exec (.localFrameMove die) s = .next t ∧ c' ∈ t.pumps ∧ c'.seq = c.seq ∧ (∀ k ∈ c'.jobs, k.index = j.index → k.state = .landed) ∧
      (∀ k ∈ c.jobs, k.index ≠ j.index → k ∈ c'.jobs) ∧ (∀ x ∈ s.pumps, x.seq ≠ c.seq → x ∈ t.pumps)) ∧
  (∀ (die : Fin 2) (s : State), Claims.powered s → (∀ c ∈ s.pumps, ∀ j ∈ c.jobs, j.state ≠ .waiting) →
    exec (.localFrameMove die) s = .next s) ∧
  (∀ (die : Fin 2) (f : Frame) (s : State), Claims.coreRuns s → s.pends = [] →
    let src := Source.member (f.source % 256)
    let quota := hfld f.header 4 4 16 12
    let stride := rowStride (hfld f.header 8 4 12 4) (hfld f.header 0x14 4 0 15)
    let code := s.landingCode src f
    ∃ t, exec (.frameLanding die f) s = .next t ∧ t.pumps = s.pumps ∧
      Claims.rose s t (Reg.FAB_DSP_FRAMES_LANDED + 0x100 * die) 1 ∧ Claims.rose s t (Reg.FAB_DSP_FRAMES_REFUSED + 0x100 * die) (if code = 0 then 0 else 1) ∧
      (∀ x, (∀ k, k < 64 → x ≠ s.regionAddr (f.hdrDest + k)) → (∀ k, k < 8 * quota → x ≠ s.regionAddr (f.slotDest + k)) →
        (∀ k, k < quota * stride → x ≠ s.regionAddr (f.rowDest + k)) → t.readByte x = s.readByte x) ∧
      (f.cntEn = true → (s.counter f.counter).remote = true →
        Claims.counted s t f.counter (if hfld f.header 0 4 16 16 ≠ 0 then hfld f.header 0 4 16 16 else code)) ∧
      (f.cntEn = false → t.counters = s.counters) ∧
      (f.source = s.selfMember → t.injected = s.injected) ∧
      (f.source ≠ s.selfMember → (f.cntEn = true → (s.counter f.counter).remote = true) → ∃ x, t.injected = s.injected ++ [x] ∧ x.pkt.typ = 0x11 ∧
        x.pkt.code = code ∧ x.pkt.dest % 256 = f.source % 256)) ∧
  (∀ (die : Fin 2) (s : State) (c : PumpCmd), Claims.coreRuns s → s.pumps = [c] → c.die = die.val → isFrameOp (pumpOp c.desc) = true → c.started = true →
    c.cancelled = 0 → (∀ j ∈ c.jobs, j.state = .landed) → s.outstanding = [] → c.first = none →
    ∃ t, exec (.pumpCompletion die) s = .next t ∧ t = { s with pumps := [], counters := t.counters } ∧
      Claims.counted s t (pumpCompletion c.desc) (((c.jobs.map (fun j => j.code)).find? (fun k => decide (k ≠ 0))).getD 0))

end

namespace Sys2Proof

open Sys2Proof.Machine

/-- A command of a live core at engine time. -/
def Claims.engineReady (s : State) (n : Fin 64) : Prop := Claims.coreRuns s ∧ Claims.live s n

/-- Every array but one is as before. -/
def Claims.otherArrays (s t : State) (m : Nat) : Prop := ∀ k, k ≠ m → t.mat k = s.mat k

/-- Every chain engine but one is as before. -/
def Claims.otherChains (s t : State) (n : Nat) : Prop := ∀ k, k ≠ n → t.chain k = s.chain k

end Sys2Proof

section

open Sys2Proof Sys2Proof.Machine

/-- PASS, LANE, CHAIN and COMBINE are queued or refused, heads start in order, ramps move one step, repair needs an idle array. (04_cube_arrays.md (Pass descriptor), 04_cube_arrays.md (Activity ramp), 04_cube_arrays.md (Repair and checksum mode), 05_chain_engine.md (Commands and order), 03_dispatch_combine.md (Combine)) -/
def Obligations.EnginesQueueStartAndRamp : Prop :=
  (∀ (s : State) (k : Fin 2) (x : Issue), Claims.engineReady s x.core →
    let m := 2 * x.core.val + k.val
    s.matRoom m = true →
    let queued := fun (t : State) => t = { s with regs := t.regs, arrays := t.arrays } ∧ Claims.otherArrays s t m ∧
      t.mat m = { s.mat m with queue := (s.mat m).queue ++ [⟨x.desc, x.core, s.coreContext x.core⟩], running := s.noteLate m } ∧
      ((∀ r ∈ (s.mat m).running, r.pass.skipped = false) → (t.mat m).running = (s.mat m).running) ∧
      t.fld Reg.MAT_STATE_QUEUED (instDelta m) = (s.mat m).queue.length + 1
    (descFld x.desc 0 0 8 = 0x10 →
      (s.passCode m x.desc = none → ∃ t, exec (.pass k x) s = .next t ∧ queued t) ∧
      (∀ c, s.passCode m x.desc = some c → ∃ t, exec (.pass k x) s = .next t ∧ Claims.refused s t (matSite m) (descFld x.desc 0x48 0 14) c)) ∧
    (descFld x.desc 0 0 8 = 0x11 →
      (s.laneCode m x.desc = none → ∃ t, exec (.lane k x) s = .next t ∧ queued t) ∧
      (∀ c, s.laneCode m x.desc = some c → ∃ t, exec (.lane k x) s = .next t ∧ Claims.refused s t (matSite m) (descFld x.desc 0x48 0 14) c))) ∧
  (∀ (s : State) (x : Issue), Claims.engineReady s x.core → s.chainRoom x.core = true →
    let n := x.core.val
    let queued := fun (t : State) => t = { s with regs := t.regs, chains := t.chains } ∧ Claims.otherChains s t n ∧
      t.chain n = { s.chain n with queue := (s.chain n).queue ++ [⟨x.desc, n, s.coreContext n⟩] }
    (descFld x.desc 0 0 8 = 0x41 →
      (s.chainCode n x.desc = none → ∃ t, exec (.chain x) s = .next t ∧ queued t) ∧
      (∀ c, s.chainCode n x.desc = some c → ∃ t, exec (.chain x) s = .next t ∧ Claims.refused s t (chainSite n) (descFld x.desc 0x30 0 14) c)) ∧
    (descFld x.desc 0 0 8 = 0x40 →
      (s.combineCode x.desc = none → descFld x.desc 8 32 17 ≠ 0 → ∃ t, exec (.combine x) s = .next t ∧ queued t) ∧
      (s.combineCode x.desc = none → descFld x.desc 8 32 17 = 0 → ∃ t, exec (.combine x) s = .next t ∧
        t = { s with counters := t.counters } ∧ Claims.counted s t (descFld x.desc 0x68 0 14) 0) ∧
      (∀ c, s.combineCode x.desc = some c → ∃ t, exec (.combine x) s = .next t ∧ Claims.refused s t (chainSite n) (descFld x.desc 0x68 0 14) c))) ∧
  (∀ (s : State) (m : Fin 128), Claims.coreRuns s →
    ((s.mat m).queue = [] → exec (.passStart m) s = .next s) ∧
    (s.passMayStart m = false → exec (.passStart m) s = .next s) ∧
    (∀ c rest, (s.mat m).queue = c :: rest → s.passMayStart m = true →
      let rises := decide ((s.mat m).ramp = 0) && !((passOf c.desc).skip && decide ((passOf c.desc).opcode = 0x10))
      ∃ t, exec (.passStart m) s = .next t ∧ t = { s with regs := t.regs, arrays := t.arrays } ∧ Claims.otherArrays s t m ∧
        (t.mat m).queue = rest ∧ (t.mat m).ramp = (if rises then 1 else (s.mat m).ramp) ∧
        (t.mat m).running = (s.mat m).running ++ [⟨c, s.tb, .waiting, if (s.mat m).ramp = 8 then some s.tb else none, rises, false, 0, 0⟩] ∧
        (t.mat m).shadow = (s.mat m).shadow ∧ (t.mat m).active = (s.mat m).active ∧ (t.mat m).banks = (s.mat m).banks ∧
        t.fld Reg.MAT_STATE_BUSY (instDelta m) = 1) ∧
    ((s.mat m).ramp < 8 → (s.activityUp m = true ∨ ∃ r ∈ (s.mat m).running, r.pass.skipped = false ∧ r.full = none) →
      let full := fun (r : RunPass) => if (s.mat m).ramp = 7 ∧ r.pass.skipped = false ∧ r.full = none then { r with full := some s.tb } else r
      ∃ t, exec (.rampStep m true) s = .next t ∧ t = { s with regs := t.regs, arrays := t.arrays } ∧ Claims.otherArrays s t m ∧
        t.mat m = { s.mat m with ramp := (s.mat m).ramp + 1, running := (s.mat m).running.map full } ∧ t.fld Reg.MAT_STATE_RAMP (instDelta m) = (s.mat m).ramp + 1) ∧
    (0 < (s.mat m).ramp → (s.activityUp m = false ∨ ((s.mat m).running = [] ∧ (s.mat m).queue = [])) → ∃ t, exec (.rampStep m false) s = .next t ∧
      t = { s with regs := t.regs, arrays := t.arrays } ∧ Claims.otherArrays s t m ∧ t.mat m = { s.mat m with ramp := (s.mat m).ramp - 1 }) ∧
    ((s.mat m).running = [] → (s.mat m).queue = [] → exec (.rampStep m true) s = .next s) ∧
    (∀ up, (if up then 8 ≤ (s.mat m).ramp else (s.mat m).ramp = 0) ∨ s.activityUp m ≠ up → exec (.rampStep m up) s = .next s)) ∧
  (∀ (s : State) (n : Fin 64), Claims.coreRuns s →
    (∀ h rest, (s.chain n).running = none → (s.chain n).queue = h :: rest → ∃ t, exec (.chainStart n) s = .next t ∧
      t = { s with regs := t.regs, chains := t.chains } ∧ Claims.otherChains s t n ∧ t.chain n = ⟨rest, some ⟨h, s.tb, false, false, none, 0, s.tb⟩⟩ ∧
      t.fld Reg.CHN_STATE_BUSY (instDelta n) = 1) ∧
    ((s.chain n).queue = [] → exec (.chainStart n) s = .next s) ∧
    ((s.chain n).running.isSome = true → exec (.chainStart n) s = .next s)) ∧
  (∀ (s : State) (m : Fin 128) (v : Word), Claims.coreRuns s → s.coreEnabled (m.val / 2) = true → v.toNat < 2 ^ 9 →
    let row := bits v.toNat 0 4
    let col := bits v.toNat 4 5
    let legal := (row = 15 ∨ ((s.fuseSkip m).1 = 15 ∧ row < 8)) ∧ (col = 31 ∨ ((s.fuseSkip m).2 = 31 ∧ col < 16))
    (legal → s.matIdle m = true → ∃ t, exec (.matRepairWrite .mc m v) s = .next t ∧ t = { s with regs := t.regs, out := .csr 0 0 :: s.out } ∧
      t.fld Reg.MAT_REPAIR_ROW (instDelta m) = row ∧ t.fld Reg.MAT_REPAIR_COL (instDelta m) = col ∧ Claims.regsOutside [Reg.MAT_REPAIR + instDelta m, Reg.MAT_STATE + instDelta m] s t) ∧
    (¬ legal → ∃ t, exec (.matRepairWrite .mc m v) s = .next t ∧ Claims.accessRefused s t (matSite m) 0x080F) ∧
    (legal → s.matIdle m = false → ∃ t, exec (.matRepairWrite .mc m v) s = .next t ∧ Claims.accessRefused s t (matSite m) 0x080E)) ∧
  (∀ (s : State) (m : Fin 128) (v : Word), Claims.coreRuns s → s.coreEnabled (m.val / 2) = true → v.toNat < 4 →
    (s.matIdle m = true ∨ bits v.toNat 1 1 = s.fld Reg.MAT_CTRL_CHECKSUM_REQ (instDelta m) →
      ∃ t, exec (.checksumReqWrite .mc m v) s = .next t ∧ t = { s with regs := t.regs, out := .csr 0 0 :: s.out } ∧
      t.fld Reg.MAT_CTRL_CHECKSUM_REQ (instDelta m) = bits v.toNat 1 1 ∧ t.fld Reg.MAT_CTRL_ENABLE (instDelta m) = bits v.toNat 0 1 ∧
      Claims.regsOutside [Reg.MAT_CTRL + instDelta m, Reg.MAT_STATE + instDelta m] s t) ∧
    (s.matIdle m = false → bits v.toNat 1 1 ≠ s.fld Reg.MAT_CTRL_CHECKSUM_REQ (instDelta m) →
      ∃ t, exec (.checksumReqWrite .mc m v) s = .next t ∧ Claims.accessRefused s t (matSite m) 0x080E))

/-- A completing pass, lane, chain or combine writes its outputs and nothing else, counts its completion and leaves the engine. (04_cube_arrays.md (Arithmetic), 04_cube_arrays.md (Outputs), 04_cube_arrays.md (Scalar lanes), 05_chain_engine.md (Streams), 05_chain_engine.md (Completion), 03_dispatch_combine.md (Combine)) -/
def Obligations.EnginesComputeAndComplete : Prop :=
  (∀ (s : State) (m : Fin 128) (r : RunPass) (rest : List RunPass) (fx : PassFacts), Claims.coreRuns s → s.coreEnabled (m.val / 2) = true →
    (s.mat m).running = r :: rest →
    let c := passOf r.cmd.desc
    let left := fun (t : State) => (t.mat m).running = rest ∧ (t.mat m).queue = (s.mat m).queue ∧ Claims.otherArrays s t m ∧
      Claims.rose s t (Reg.MAT_STAT_PASSES + instDelta m) 1
    (s.passMayComplete m = false → exec (.passCompletion m fx) s = .next s) ∧
    (c.opcode = 0x10 → c.skip = true → ∃ t, exec (.passCompletion m fx) s = .next t ∧ left t ∧ Claims.counted s t c.completion 0 ∧
      t = { s with regs := t.regs, arrays := t.arrays, counters := t.counters } ∧ Claims.rose s t (Reg.MAT_STAT_SKIPS + instDelta m) 1) ∧
    (c.opcode = 0x11 → r.full.isSome = true → fx.cubes = [] → c.cEn = false → c.phys = false → c.outBase + 512 ≤ storeSize → c.outBase % 8 = 0 →
      s.fetchPoisoned (matAddr m c.aBase) (c.elems * laneVecBytes c.aFmt) = false →
      s.fetchPoisoned (matAddr m c.wBase) (ceilDiv (c.elems * elemBits c.wFmt) 8) = false →
      ∃ t, exec (.passCompletion m fx) s = .next t ∧ left t ∧ Claims.counted s t c.completion 0 ∧
        (∀ l, l < 128 → t.readNat (matAddr m (c.outBase + 4 * l)) 4 = ((List.range c.elems).foldl (fun y e => f32Of (fpAddVal (f32Val y) (fpMulVal
          (elemVal c.aFmt (packedElem (s.fetch (matAddr m (c.aBase + e * laneVecBytes c.aFmt)) (laneVecBytes c.aFmt)) (elemBits c.aFmt) l))
          (elemVal c.wFmt (packedElem (s.fetch (matAddr m c.wBase) (ceilDiv (c.elems * elemBits c.wFmt) 8)) (elemBits c.wFmt) e)))))
          (0 : BitVec 32)).toNat) ∧
        (∀ x, (x < matAddr m c.outBase ∨ matAddr m c.outBase + 512 ≤ x) → t.readByte x = s.readByte x)) ∧
    (c.opcode = 0x10 → c.skip = false → c.dest = 0 → r.full.isSome = true → fx.wrong = [] → c.cEn = false → c.n = 64 → s.checksumMode m = false → 0 < c.m →
      c.outBase % 64 = 0 → c.outStride % 64 = 0 → 64 * outBytes c ≤ c.outStride → c.outBase + (c.m - 1) * c.outStride + 64 * outBytes c ≤ storeSize →
      s.tilePoisoned m c (List.range 64) = false → 0 ∉ fx.accUe →
      ∃ t, exec (.passCompletion m fx) s = .next t ∧ left t ∧ Claims.counted s t c.completion 0 ∧
        (∀ i j, i < c.m → j < 64 → t.readNat (matAddr m (c.outBase + i * c.outStride + j * outBytes c)) (outBytes c) =
          passConvert c.outFmt (accumulate c (s.aRow m c i) ((List.range (c.k / tileK c.wFmt)).map (s.wTile c (m.val / 2) 0)) j) % 2 ^ (8 * outBytes c)) ∧
        (∀ x, (∀ i, i < c.m → (x < matAddr m (c.outBase + i * c.outStride) ∨ matAddr m (c.outBase + i * c.outStride) + 64 * outBytes c ≤ x)) →
          t.readByte x = s.readByte x))) ∧
  (∀ (s : State) (m : Fin 128) (fx : PassFacts), Claims.coreRuns s → (s.mat m).running = [] → exec (.passCompletion m fx) s = .next s) ∧
  (∀ (s : State) (n : Fin 64) (a : Fin 2) (stall : Nat) (p : PassCmd) (r : RunChain), Claims.coreRuns s →
    s.streamWaiting (2 * n.val + a.val) = some p → (s.chain n).running = some r → descFld r.cmd.desc 0 0 8 = 0x41 →
    descFld r.cmd.desc 0 12 2 = a.val + 1 → r.begun = false →
    let fits := p.m = descFld r.cmd.desc 8 0 17 ∧ p.n = descFld r.cmd.desc 8 32 25 ∧ p.outFmt = descFld r.cmd.desc 0 14 4
    ∃ t r', exec (.streamBegin n a stall) s = .next t ∧ t = { s with regs := t.regs, arrays := t.arrays, chains := t.chains } ∧
      (t.chain n).running = some r' ∧ r'.begun = true ∧ (r'.mismatch = true ↔ ¬ fits) ∧ r'.cmd = r.cmd ∧
      (fits → ((t.mat (2 * n.val + a.val)).running.head?.map (fun x => x.stream)) = some .taken) ∧
      (¬ fits → ((t.mat (2 * n.val + a.val)).running.head?.map (fun x => x.stream)) = some .discarded) ∧
      Claims.rose s t (Reg.CHN_STAT_STREAM_WAIT + instDelta n) stall ∧ Claims.rose s t (Reg.MAT_STAT_DRAIN_STALL + instDelta (2 * n.val + a.val)) stall ∧
      t.streamStalled n a = false) ∧
  (∀ (s : State) (n : Fin 64) (r : RunChain), Claims.coreRuns s → s.coreEnabled n = true → (s.chain n).running = some r →
    descFld r.cmd.desc 0 0 8 = 0x41 →
    let c := chainOf r.cmd.desc
    let left := fun (t : State) => (t.chain n).running = none ∧ (t.chain n).queue = (s.chain n).queue ∧ Claims.otherChains s t n ∧
      Claims.rose s t (Reg.CHN_STAT_CHAINS + instDelta n) 1
    (c.src ≠ 0 → r.rows = none → exec (.chainCompletion n) s = .next s) ∧
    (r.mismatch = true → (c.src = 0 ∨ r.rows.isSome = true) → ∃ t, exec (.chainCompletion n) s = .next t ∧ left t ∧ Claims.counted s t c.completion 0x0C0C ∧ Claims.memSame s t) ∧
    (r.mismatch = false → c.src = 0 → c.outFmt = 0 → s.chainPoison n c = 0 → c.outBase % 64 = 0 → c.outStride % 64 = 0 → 4 * c.cols ≤ c.outStride →
      0 < c.rows → c.outBase + (c.rows - 1) * c.outStride + 4 * c.cols ≤ storeSize →
      ∃ t, exec (.chainCompletion n) s = .next t ∧ left t ∧ Claims.counted s t c.completion 0 ∧
        (∀ i k, i < c.rows → k < c.cols → t.readNat (coreAddr n (c.outBase + i * c.outStride + 4 * k)) 4 = (convPlain 0 c.sat
          (runStages c.stages (s.chainInput n c [] i k) (s.auxValue n c.aux0 i k) (s.auxValue n c.aux1 i k)).1).1 % 2 ^ 32) ∧
        (∀ x, (∀ i, i < c.rows → (x < coreAddr n (c.outBase + i * c.outStride) ∨ coreAddr n (c.outBase + i * c.outStride) + 4 * c.cols ≤ x)) →
          t.readByte x = s.readByte x) ∧
        (∀ g, c.stages.find? (fun g => decide (g.op = 11)) = some g →
          (t.reg (Reg.CHN_SUM + instDelta n + 32 * c.slot + 24)).toNat = c.tag + 2 ^ 32))) ∧
  (∀ (s : State) (n : Fin 64) (r : RunChain), Claims.coreRuns s → (s.chain n).running = some r → descFld r.cmd.desc 0 0 8 = 0x40 →
    let c := combineOf r.cmd.desc
    ∃ t code, exec (.combineDone n) s = .next t ∧ Claims.counted s t c.completion code ∧ (code = 0 ∨ code = 0x0E06) ∧ (t.chain n).running = none ∧
      (t.chain n).queue = (s.chain n).queue ∧ Claims.otherChains s t n ∧ Claims.rose s t (Reg.CHN_CMB_TOKENS + instDelta n) c.count ∧
      (∀ x, (∀ i, i < c.count → (x < c.outBase + (c.first + i) * c.outStride ∨
          c.outBase + (c.first + i) * c.outStride + c.hidden * (plainBits c.outFmt / 8) ≤ x) ∧ x ≠ c.statusOut + i) →
        t.readByte x = s.readByte x))

end

namespace Sys2Proof

open Sys2Proof.Machine

/-- A range of the general area that stores reach: no brine view covers it, and every line of it is clean and in service; or a
range of the store of an enabled core while the core die is on (R31, R214, R219, R224). -/
def Claims.storable (s : State) (a n : Nat) : Prop :=
  (a + n ≤ generalSize ∧ s.touchesView a n = false ∧
    ∀ l, l % 64 = 0 → l < a + n → a < l + 64 → s.chanDead (channelOf l) = false ∧ s.poisoned l 64 = false) ∨
  (∃ (n' : Fin 64) (off : Nat), a = coreAddr n' off ∧ off + n ≤ storeSize ∧ s.coreEnabled n' = true ∧ s.coreOn = true)

/-- Two ranges have no byte in common. -/
def Claims.disjoint (a n b m : Nat) : Prop := a + n ≤ b ∨ b + m ≤ a

/-- Who may reach a pool: the MC each, a sequencer whose context has CSR_EN those of the schedule (R235). -/
def Claims.mayUsePool (s : State) (req : Requester) (p : Nat) : Prop := req = .mc ∨ (4 ≤ p ∧ Claims.mayAccess s req)

/-- Every pool but one has the indices it had. -/
def Claims.otherPools (s t : State) (p : Nat) : Prop :=
  ∀ k, k ≠ p → t.pools.get (fun _ => poolInit) k = s.pools.get (fun _ => poolInit) k

/-- Every queue but one is as before. -/
def Claims.otherQueues (s t : State) (q : Nat) : Prop := ∀ k, k ≠ q → t.queue k = s.queue k

end Sys2Proof

section

open Sys2Proof Sys2Proof.Machine

/-- PAN_ALLOC hands out one free buffer, PAN_RETAIN and PAN_RELEASE count its references, each refusal changes no state of the pool. (07_memory_pans_queues.md (Pans), 08_salax_memory.md (Arrival counters), 00_scope.md (Error codes)) -/
def Obligations.PansGiveAndTakeBuffers : Prop :=
  (∀ (req : Requester) (p : Fin 64) (v : Word) (s : State), Claims.coreRuns s → Claims.mayUsePool s req p → v.toNat < 2 ^ 62 →
    let f := s.poolFields p
    let free := s.fld Reg.PAN_STATE_FREE (instDelta p)
    let result := bits v.toNat 0 48
    let cnt := bits v.toNat 48 14
    let used := (s.pools.get (fun _ => poolInit) p).used
    let top := s.fetchNat (f.stateBase + 4 * (free - 1)) 4
    let handed := fun (t : State) (idx : Nat) =>
      t = { s with regs := t.regs, mem := t.mem, scratch := t.scratch, bad := t.bad, pools := t.pools, counters := t.counters, out := .csr 0 0 :: s.out } ∧
      Claims.counted s t cnt 0 ∧ t.fld Reg.PAN_STATE_FREE (instDelta p) = free - 1 ∧ Claims.rose s t (Reg.PAN_STAT_ALLOCS + instDelta p) 1 ∧
      Claims.otherPools s t p ∧ t.readNat result 8 = (f.base + idx * 2 ^ f.log2 + p.val * 2 ^ 48 + 2 ^ 63) % 2 ^ 64
    (result % 8 = 0 → s.inLpOrCore result 8 = true → Claims.storable s result 8 → 0 < free → free ≤ f.count →
      (p.val < 4 → f.shared = false → (∃ k, k < f.count ∧ k ∉ used) → ∃ t idx, exec (.panAlloc req p v) s = .next t ∧ handed t idx ∧
        idx < f.count ∧ idx ∉ used ∧ (∀ k, k < idx → k ∈ used) ∧ (t.pools.get (fun _ => poolInit) p).used = idx :: used ∧
        (∀ x, (x < result ∨ result + 8 ≤ x) → t.readByte x = s.readByte x)) ∧
      (4 ≤ p.val → f.shared = false → Claims.storable s (f.stateBase + 4 * (free - 1)) 4 → s.readCode (f.stateBase + 4 * (free - 1)) 4 = 0 →
        ∃ t, exec (.panAlloc req p v) s = .next t ∧ handed t top ∧
        (∀ x, (x < result ∨ result + 8 ≤ x) → t.readByte x = s.readByte x)) ∧
      (4 ≤ p.val → f.shared = true → Claims.storable s (f.stateBase + 4 * (free - 1)) 4 → s.readCode (f.stateBase + 4 * (free - 1)) 4 = 0 →
        Claims.storable s (f.stateBase + 4 * f.count + top) 1 → s.inLpOrCore (f.stateBase + 4 * f.count + top) 1 = true →
        Claims.disjoint result 8 (f.stateBase + 4 * f.count + top) 1 → ∃ t, exec (.panAlloc req p v) s = .next t ∧ handed t top ∧
        t.readByte (f.stateBase + 4 * f.count + top) = 1 ∧
        (∀ x, (x < result ∨ result + 8 ≤ x) → x ≠ f.stateBase + 4 * f.count + top → t.readByte x = s.readByte x)) ∧
      (∀ code, 4 ≤ p.val → s.readCode (f.stateBase + 4 * (free - 1)) 4 = code → code ≠ 0 → ∃ t, exec (.panAlloc req p v) s = .next t ∧
        t.readNat result 8 = 0 ∧ Claims.counted s t cnt code ∧ t.pools = s.pools ∧ t.fld Reg.PAN_STATE_FREE (instDelta p) = free ∧
        (∀ x, (x < result ∨ result + 8 ≤ x) → t.readByte x = s.readByte x))) ∧
    (∀ code, result % 8 = 0 → s.inLpOrCore result 8 = true → Claims.storable s result 8 →
      ((f.count = 0 ∧ code = 0x2002) ∨ (f.count ≠ 0 ∧ free = 0 ∧ code = 0x2001)) → ∃ t, exec (.panAlloc req p v) s = .next t ∧
        t = { s with regs := t.regs, mem := t.mem, scratch := t.scratch, bad := t.bad, log := t.log, power := t.power, counters := t.counters, out := .csr 0 0 :: s.out } ∧
        Claims.stored s t result (leBytes 8 0) ∧ Claims.counted s t cnt code ∧ Claims.raised s t (poolSite p) code ∧
        Claims.rose s t (Reg.PAN_STAT_EMPTY + instDelta p) 1) ∧
    (result % 8 ≠ 0 → ∃ t, exec (.panAlloc req p v) s = .next t ∧
      t = { s with regs := t.regs, log := t.log, power := t.power, counters := t.counters, out := .csr 0 0 :: s.out } ∧
      Claims.counted s t cnt 0x200C ∧ Claims.raised s t (poolSite p) 0x200C)) ∧
  (∀ (req : Requester) (p : Fin 64) (v : Word) (s : State), Claims.coreRuns s → Claims.mayUsePool s req p →
    let f := s.poolFields p
    let δ := instDelta p
    let free := s.fld Reg.PAN_STATE_FREE δ
    let idx := (bits v.toNat 0 48 - f.base) / 2 ^ f.log2
    let refs := f.stateBase + 4 * f.count + idx
    let kept := fun (t : State) => t = { s with regs := t.regs, mem := t.mem, scratch := t.scratch, bad := t.bad, pools := t.pools, out := .csr 0 0 :: s.out }
    let turned := fun (t : State) c =>
      t = { s with regs := t.regs, log := t.log, power := t.power, bad := t.bad, channels := t.channels, flash := t.flash, brineKept := t.brineKept,
                   out := .csr c 0 :: s.out } ∧
      (c / 0x400 = 8 → Claims.raised s t (poolSite p) c) ∧ t.fld Reg.PAN_STATE_FREE δ = free ∧ Claims.rose s t (Reg.PAN_STAT_REFUSED + δ) 1
    let freed := fun (t : State) => t.fld Reg.PAN_STATE_FREE δ = free + 1 ∧ Claims.rose s t (Reg.PAN_STAT_FREED + δ) 1
    (s.panCode p v.toNat true = none → Claims.storable s refs 1 → s.inLpOrCore refs 1 = true → ∃ t, exec (.panRetain req p v) s = .next t ∧ kept t ∧
      t.pools = s.pools ∧ Claims.stored s t refs (leBytes 1 ((s.readByte refs).toNat + bits v.toNat 54 8)) ∧ t.fld Reg.PAN_STATE_FREE δ = free) ∧
    (∀ c, s.panCode p v.toNat true = some c → ∃ t, exec (.panRetain req p v) s = .next t ∧ turned t c) ∧
    (∀ c, s.panCode p v.toNat false = some c → ∃ t, exec (.panRelease req p v) s = .next t ∧ turned t c) ∧
    (s.panCode p v.toNat false = none → f.shared = false → free < f.count →
      (p.val < 4 → ∃ t, exec (.panRelease req p v) s = .next t ∧ kept t ∧ freed t ∧ Claims.memSame s t ∧ Claims.otherPools s t p ∧
        (t.pools.get (fun _ => poolInit) p).used = (s.pools.get (fun _ => poolInit) p).used.erase idx) ∧
      (4 ≤ p.val → Claims.storable s (f.stateBase + 4 * free) 4 → s.inLpOrCore (f.stateBase + 4 * free) 4 = true →
        ∃ t, exec (.panRelease req p v) s = .next t ∧ kept t ∧ freed t ∧ t.pools = s.pools ∧
        Claims.stored s t (f.stateBase + 4 * free) (leBytes 4 idx))) ∧
    (s.panCode p v.toNat false = none → f.shared = true → 4 ≤ p.val → free < f.count → Claims.storable s refs 1 → s.inLpOrCore refs 1 = true →
      Claims.storable s (f.stateBase + 4 * free) 4 → s.inLpOrCore (f.stateBase + 4 * free) 4 = true →
      ((s.readByte refs).toNat ≠ 1 → ∃ t, exec (.panRelease req p v) s = .next t ∧ kept t ∧ t.fld Reg.PAN_STATE_FREE δ = free ∧
        Claims.stored s t refs (leBytes 1 ((s.readByte refs).toNat - 1))) ∧
      ((s.readByte refs).toNat = 1 → ∃ t, exec (.panRelease req p v) s = .next t ∧ kept t ∧ freed t ∧ t.readByte refs = 0 ∧
        t.readNat (f.stateBase + 4 * free) 4 = idx % 2 ^ 32))) ∧
  (∀ (n : Fin 64) (p : Fin 64) (v : Word) (s : State), Claims.coreRuns s → Claims.mayAccess s (.seq n) → p.val < 4 →
    (∃ t, exec (.panAlloc (.seq n) p v) s = .next t ∧ Claims.accessRefused s t (poolSite p) 0x200A) ∧
    ∀ c ∈ [Instr.panRetain (.seq n) p v, .panRelease (.seq n) p v],
      ∃ t, exec c s = .next t ∧ t = { s with regs := t.regs, log := t.log, power := t.power, out := .csr 0x200A 0 :: s.out } ∧
        Claims.raised s t (poolSite p) 0x200A ∧ Claims.rose s t (Reg.PAN_STAT_REFUSED + instDelta p) 1 ∧
        Claims.regsOutside [errReg (poolSite p) 0x200A, Reg.PAN_STAT_REFUSED + instDelta p, Reg.MGT_ALERT, Reg.MGT_STAT_LOG_ENTRIES,
          Reg.MGT_STAT_LOG_DROPPED] s t)

/-- A packet enters a queue whole or is refused; POP copies the head's next part with its record, DROP removes it; a stale queue fires once. (07_memory_pans_queues.md (Queues), 07_memory_pans_queues.md (Ingress watermarks), 08_salax_memory.md (Arrival counters), 15_faults_membership_insertion.md (Triggers)) -/
def Obligations.QueuesTakeAndGivePackets : Prop :=
  (∀ (q : Fin 4096) (src : BitVec 3) (tag : BitVec 40) (payload : StoredPayload) (s : State), Claims.coreRuns s →
    let δ := queueDelta q
    let x := s.queue q
    let p : Packet := ⟨src.toNat, tag.toNat, payload.bytes, payload.bad⟩
    let words := x.words + (1 + (payload.bytes.length + 7) / 8)
    let open' := s.fld Reg.QUE_CFG_TYPE δ ≠ 0 ∧ s.fld Reg.QUE_STATE_CLOSED δ = 0
    let turned := fun (c : Nat) => ∃ t, exec (.packetEnqueue q src tag payload) s = .next t ∧ t = { s with regs := t.regs, log := t.log, power := t.power } ∧
      Claims.raised s t (queueSite q) c ∧ Claims.rose s t (Reg.QUE_STAT_REFUSED + δ) 1
    (open' → words ≤ s.fld Reg.QUE_CFG_DEPTH δ → ∃ t, exec (.packetEnqueue q src tag payload) s = .next t ∧
      t = { s with regs := t.regs, queues := t.queues, counters := t.counters, ethPorts := t.ethPorts, out := t.out } ∧ Claims.otherQueues s t q ∧
      t.queue q = ⟨x.packets ++ [p], x.consumed, if x.packets = [] then s.tb else x.since⟩ ∧ t.fld Reg.QUE_STATE_WORDS δ = words ∧
      Claims.rose s t (Reg.QUE_STAT_ENQUEUED + δ) 1 ∧
      (s.fld Reg.QUE_NOTIFY_NOTIFY_EN δ = 1 → Claims.counted s t (s.fld Reg.QUE_NOTIFY_ARRIVAL δ) 0) ∧
      (s.fld Reg.QUE_NOTIFY_NOTIFY_EN δ = 0 → t.counters = s.counters) ∧
      (s.fld Reg.QUE_CFG_TYPE δ ≠ 3 → s.fld Reg.QUE_STATE_HOLD δ = 0 → t.out = s.out ∧ t.ethPorts = s.ethPorts ∧ t.fld Reg.QUE_STATE_HOLD δ = 0) ∧
      (s.fld Reg.QUE_CFG_TYPE δ = 3 → s.fld Reg.QUE_WM_WM_EN δ = 1 → s.fld Reg.QUE_STATE_HOLD δ = 0 →
        (t.fld Reg.QUE_STATE_HOLD δ = 1 ↔ s.fld Reg.QUE_WM_HIGH δ ≤ words))) ∧
    (¬ open' → turned 0x2406) ∧
    (open' → s.fld Reg.QUE_CFG_DEPTH δ < words → turned 0x2401)) ∧
  (∀ (req : Requester) (q : Fin 4096) (v : Word) (parity : QueueParity) (s : State), Claims.coreRuns s → Claims.mayAccess s req →
    (req = .mc ∨ s.fld Reg.QUE_CFG_TYPE (queueDelta q) ≠ 3) → v.toNat < 2 ^ 62 →
    let δ := queueDelta q
    let x := s.queue q
    let dest := bits v.toNat 0 48
    let cnt := bits v.toNat 48 14
    let changed := fun (t : State) => t = { s with regs := t.regs, queues := t.queues, mem := t.mem, scratch := t.scratch, bad := t.bad, log := t.log, power := t.power, counters := t.counters, ethPorts := t.ethPorts, out := t.out } ∧ Claims.otherQueues s t q ∧ t.out.head? = some (.csr 0 0)
    (dest % 64 ≠ 0 → ∃ t, exec (.quePop req q v parity) s = .next t ∧ Claims.accessRefused s t (queueSite q) 0x2407) ∧
    (x.packets = [] → dest % 64 = 0 → s.inLpOrCore dest 64 = true → Claims.storable s dest 64 → ∃ t, exec (.quePop req q v parity) s = .next t ∧
      changed t ∧ Claims.stored s t dest (popRecord 0 0 0 0 0xFFFFFFFF 0x2403) ∧ Claims.counted s t cnt 0x2403 ∧
      Claims.raised s t (queueSite q) 0x2403 ∧ t.fld Reg.QUE_STATE_STALE δ = 0) ∧
    (∀ p rest, x.packets = p :: rest → dest % 64 = 0 →
      let copied := min (s.fld Reg.QUE_CFG_RECV_MAX δ * 64) (p.payload.length - x.consumed)
      let remaining := p.payload.length - x.consumed - copied
      let badWord := fun (k : Nat) => k ∈ parity.words ∨ k + 1 ∈ p.bad
      let poison := (List.range copied).find? (fun i => decide (badWord ((x.consumed + i) / 8)))
      let code := if poison.isSome then 0x2402 else 0
      s.inLpOrCore dest (64 + copied) = true →
      (parity.framing = true ∨ 0 ∈ p.bad → ∃ t, exec (.quePop req q v parity) s = .next t ∧ changed t ∧ Claims.memSame s t ∧ t.queue q = queueInit ∧
        Claims.counted s t cnt 0x2409 ∧ Claims.raised s t (queueSite q) 0x2409 ∧ t.fld Reg.QUE_STATE_FLUSHED δ = 1 ∧ t.fld Reg.QUE_STATE_STALE δ = 0) ∧
      (parity.framing = false → 0 ∉ p.bad → Claims.storable s dest (64 + copied) → ∃ t, exec (.quePop req q v parity) s = .next t ∧ changed t ∧
        (∀ i, i < 64 → t.readByte (dest + i) = (popRecord (p.payload.length + p.source * 2 ^ 16 + p.tag * 2 ^ 24) x.consumed copied remaining
          (poison.getD 0xFFFFFFFF) code).getD i 0) ∧
        (∀ i, i < copied → t.readByte (dest + 64 + i) = if badWord ((x.consumed + i) / 8) then 0 else p.payload.getD (x.consumed + i) 0) ∧
        (∀ a, (a < dest ∨ dest + 64 + copied ≤ a) → t.readByte a = s.readByte a) ∧ Claims.counted s t cnt code ∧
        t.queue q = (if remaining = 0 then ⟨rest, 0, s.tb⟩ else ⟨p :: rest, x.consumed + copied, s.tb⟩) ∧
        Claims.rose s t (Reg.QUE_STAT_POPS + δ) 1 ∧ t.fld Reg.QUE_STATE_STALE δ = 0))) ∧
  (∀ (req : Requester) (q : Fin 4096) (v : Word) (s : State), Claims.coreRuns s → Claims.mayAccess s req → v.toNat < 2 ^ 14 →
    let δ := queueDelta q
    let changed := fun (t : State) => t = { s with regs := t.regs, queues := t.queues, log := t.log, power := t.power, counters := t.counters, ethPorts := t.ethPorts, out := t.out } ∧ Claims.otherQueues s t q ∧ t.out.head? = some (.csr 0 0) ∧ t.fld Reg.QUE_STATE_STALE δ = 0
    ((s.queue q).packets = [] → ∃ t, exec (.queDrop req q v) s = .next t ∧ changed t ∧ Claims.counted s t v.toNat 0x2403 ∧ Claims.raised s t (queueSite q) 0x2403) ∧
    (∀ p rest, (s.queue q).packets = p :: rest → 0 ∈ p.bad → ∃ t, exec (.queDrop req q v) s = .next t ∧ changed t ∧ t.queue q = queueInit ∧
      Claims.counted s t v.toNat 0x2409 ∧ Claims.raised s t (queueSite q) 0x2409 ∧ t.fld Reg.QUE_STATE_FLUSHED δ = 1) ∧
    (∀ p rest, (s.queue q).packets = p :: rest → 0 ∉ p.bad → ∃ t, exec (.queDrop req q v) s = .next t ∧ changed t ∧ Claims.counted s t v.toNat 0 ∧
      t.queue q = ⟨rest, 0, s.tb⟩ ∧ Claims.rose s t (Reg.QUE_STAT_DROPS + δ) 1)) ∧
  (∀ (q : Fin 4096) (s : State), Claims.powered s →
    let δ := queueDelta q
    let us := s.fld Reg.QUE_NOTIFY_STALE_US δ
    let due := us ≠ 0 ∧ s.fld Reg.QUE_CFG_TYPE δ = 1 ∧ (s.queue q).packets ≠ [] ∧ s.fld Reg.QUE_STATE_STALE δ = 0 ∧ (s.queue q).since + us * 1000 ≤ s.tb
    (¬ due → exec (.queStale q) s = .next s) ∧
    (due → ∃ t u, exec (.queStale q) s = .next t ∧ u = { s with regs := u.regs, log := u.log, power := u.power } ∧ u.fld Reg.QUE_STATE_STALE δ = 1 ∧
      Claims.raised s u (queueSite q) 0x2404 ∧ Claims.rose s u (Reg.QUE_STAT_STALE + δ) 1 ∧
      t = if s.fld Reg.QUE_NOTIFY_OWNER_EN δ = 1 then u.escalateContext (s.fld Reg.QUE_NOTIFY_OWNER δ) 0x2404 (queueSite q) else u))

end

namespace Sys2Proof

open Sys2Proof.Machine

/-- The row of the table for an arriving request. -/
def Claims.requestRow (die : Fin 2) (p : Pkt) : Instr :=
  match p.typ with
  | 1 => .writeRequest die p
  | 2 => .readRequest die p
  | 3 => .atomicRequest die p
  | 4 => .reduceRequest die p
  | _ => .mark die p

/-- The last request of a command names a counter here. -/
def Claims.lastCounts (p : Pkt) : Prop := p.cntEn = true ∧ p.last = true

/-- The counter of a request that has arrived over a port may be incremented: it is REMOTE (R264 order 12). -/
def Claims.mayCount (s : State) (p : Pkt) : Prop := (s.counter p.counter).remote = true

/-- The first code that the source's run of requests carries once a request has ended with code `c` (R273). -/
def Claims.runCode (s : State) (p : Pkt) (c : Nat) : Nat :=
  let old := (s.sources.get (fun _ => sourceInit) (p.src % 256)).code
  if old ≠ 0 then old else if c ≠ 0 then c else p.code

/-- A request that ended with code `c` has been answered with its bytes, its counter incremented where it may be, and its
source's run remembered (R263, R272, R273). -/
def Claims.served (s t : State) (p : Pkt) (c : Nat) (data : Bytes) : Prop :=
  (∃ r, t.injected = s.injected ++ [r] ∧ r.pkt.dest = p.src ∧ r.pkt.src = s.selfDev ∧ r.pkt.reqId = p.reqId ∧ r.pkt.tag = p.tag ∧
    (Claims.lastCounts p → Claims.mayCount s p → r.pkt.code = c) ∧ (¬ Claims.lastCounts p → r.pkt.code = c) ∧
    (Claims.lastCounts p → ¬ Claims.mayCount s p → r.pkt.code = if c = 0 then 0x3011 else c) ∧
    (r.pkt.code = 0 → r.pkt.typ = (if p.typ = 2 ∨ p.typ = 3 then 0x10 else 0x11) ∧ r.pkt.body = if p.typ = 2 ∨ p.typ = 3 then data else [])) ∧
  (Claims.lastCounts p → Claims.mayCount s p → Claims.counted s t p.counter (Claims.runCode s p c)) ∧
  (Claims.lastCounts p → ¬ Claims.mayCount s p → t.counters = s.counters) ∧ (¬ Claims.lastCounts p → t.counters = s.counters) ∧
  (p.typ ≠ 2 → (t.sources.get (fun _ => sourceInit) (p.src % 256)).code = (if p.last = true then 0 else Claims.runCode s p c)) ∧
  (p.typ = 2 → t.sources = s.sources) ∧ (∀ k, k ≠ p.src % 256 → t.sources.get (fun _ => sourceInit) k = s.sources.get (fun _ => sourceInit) k)

/-- The code of the first failing check of R264 of a request that has arrived over a port, none where all pass. -/
def Claims.checks (s : State) (p : Pkt) : Option Nat :=
  let x := s.region (faRegion p.addr)
  let from' := p.src % 256
  let len := if p.typ = 5 then 0 else p.len
  if s.fld Reg.FAB_CTRL_ENABLE = 0 then some 0x3005
  else if 4194240 < (s.tb + 2 ^ 32 - p.inject % 2 ^ 32) % 2 ^ 32 then some 0x3008
  else if !s.admitted from' then some 0x3007
  else if x.size = 0 then some 0x3009
  else if p.key ≠ x.key then some 0x300A
  else if p.epoch ≠ x.epoch ∨ x.revoking = true then some 0x300B
  else if x.state ≠ 2 ∧ !((x.scope = 0) ∨ (x.scope = 2 ∧ x.scopeMember = from')) then some 0x300C
  else if bit x.attr (match p.typ with | 2 => 0 | 3 => 2 | 4 => 3 | _ => 1) = false then some 0x300D
  else if x.state = 1 ∧ (p.typ = 1 ∨ p.typ = 3 ∨ p.typ = 4) then some 0x300E
  else if x.state = 2 ∧ x.scopeMember ≠ from' then some 0x300F
  else if x.size < faOffset p.addr + len then some 0x3010
  else none

end Sys2Proof

section

open Sys2Proof Sys2Proof.Machine

/-- An arriving request is refused by the first failing check with memory unchanged, or performed exactly, counted and answered. (08_salax_memory.md (Checks at the destination), 08_salax_memory.md (Regions), 08_salax_memory.md (Arrival counters), 07_memory_pans_queues.md (Near-memory operations)) -/
def Obligations.RequestsAreCheckedPerformedAndAnswered : Prop :=
  (∀ (die : Fin 2) (p : Pkt) (s : State), Claims.coreRuns s → 1 ≤ p.typ → p.typ ≤ 5 → (p.frame = true → p.typ ≠ 1) →
    (∀ x ∈ s.pends, x.group ≠ .region (faRegion p.addr)) →
    let row := Claims.requestRow die p
    let pa := (s.region (faRegion p.addr)).base + faOffset p.addr
    let quiet := fun (t : State) => t = { s with regs := t.regs, log := t.log, power := t.power, sources := t.sources, counters := t.counters, injected := t.injected }
    let stores := fun (t : State) => t = { s with regs := t.regs, mem := t.mem, scratch := t.scratch, bad := t.bad, log := t.log, power := t.power, sources := t.sources, counters := t.counters, injected := t.injected, chunkHeaders := t.chunkHeaders }
    (∀ c, Claims.checks s p = some c → ∃ t, exec row s = .next t ∧ quiet t ∧ Claims.served s t p c [] ∧
      Claims.rose s t Reg.FAB_STAT_REQ_RECV 1 ∧ Claims.rose s t Reg.FAB_STAT_REFUSED_IN 1 ∧ (Claims.mayCount s p → Claims.raised s t (fabSite die) c)) ∧
    (Claims.checks s p = none →
      (p.typ = 1 → 0 < p.len → p.body.length = p.len → p.poison = false → Claims.storable s pa p.len → ∃ t, exec row s = .next t ∧ stores t ∧
        Claims.stored s t pa p.body ∧ Claims.served s t p 0 [] ∧ Claims.rose s t Reg.FAB_STAT_REQ_RECV 1) ∧
      (p.typ = 2 → 0 < p.len → s.readCode pa p.len = 0 → Claims.storable s pa p.len →
        (∀ l, l % 64 = 0 → l < pa + p.len → pa < l + 64 → s.viewAt l = none) → ∃ t, exec row s = .next t ∧ stores t ∧ Claims.memSame s t ∧
        Claims.served s t p 0 (s.readBytes pa p.len)) ∧
      (p.typ = 3 → p.len = 8 → pa % 8 = 0 → Claims.clearLine s (pa / 64 * 64) → s.touchesView pa 8 = false →
        s.fld Reg.MBD_CTRL_NM_ENABLE (instDelta (bridgeOf (channelOf pa))) = 1 → ∀ v,
        Claims.nm64 p.op (BitVec.ofNat 64 (s.readNat pa 8)) (BitVec.ofNat 64 p.operand) (BitVec.ofNat 64 p.compare) = some v →
        p.operand < 2 ^ 64 → p.compare < 2 ^ 64 → ∃ t, exec row s = .next t ∧ stores t ∧
          Claims.stored s t pa (leBytes 8 v.toNat) ∧ Claims.served s t p 0 (leBytes 8 (s.readNat pa 8))) ∧
      (p.typ = 4 → p.len = 64 → p.body.length = 64 → pa % 64 = 0 → Claims.clearLine s pa → s.touchesView pa 64 = false →
        s.fld Reg.MBD_CTRL_NM_ENABLE (instDelta (bridgeOf (channelOf pa))) = 1 → p.op ∈ [0, 2, 3, 4, 5, 8, 9, 10] → ∃ t, exec row s = .next t ∧ stores t ∧
          (∀ i, i < 8 → Claims.nm64 p.op (BitVec.ofNat 64 (s.readNat (pa + 8 * i) 8)) (BitVec.ofNat 64 (leNat ((p.body.drop (8 * i)).take 8))) 0 =
            some (BitVec.ofNat 64 (t.readNat (pa + 8 * i) 8))) ∧
          (∀ a, (a < pa ∨ pa + 64 ≤ a) → t.readByte a = s.readByte a) ∧ Claims.served s t p 0 []) ∧
      (p.typ = 5 → (p.len = 0 ∨ s.physCode pa = 0) → ∃ t, exec row s = .next t ∧ quiet t ∧ Claims.served s t p 0 []))) ∧
  (∀ (die : Fin 2) (p : Pkt) (s : State), Claims.powered s →
    (p.typ ≠ 1 → exec (.writeRequest die p) s = .next s) ∧ (p.typ ≠ 2 → exec (.readRequest die p) s = .next s) ∧
    (p.typ ≠ 3 → exec (.atomicRequest die p) s = .next s) ∧ (p.typ ≠ 4 → exec (.reduceRequest die p) s = .next s) ∧
    (p.typ ≠ 5 → exec (.mark die p) s = .next s))

/-- REQUEST_ACK resolves the request it names or counts as late; a request past REQ_TIMEOUT is resolved with 0x3012. (08_salax_memory.md (Requests and acknowledgements), 08_salax_memory.md (Pump commands)) -/
def Obligations.AcknowledgementsResolveTheirRequests : Prop :=
  (∀ (p : Pkt) (s : State), Claims.powered s →
    (p.typ ≠ 0x10 → p.typ ≠ 0x11 → exec (.requestAck p) s = .next s) ∧
    ((p.typ = 0x10 ∨ p.typ = 0x11) → (∀ r ∈ s.outstanding, r.id ≠ p.reqId) → ∃ t, exec (.requestAck p) s = .next t ∧
      t = { s with regs := t.regs } ∧ Claims.rose s t Reg.FAB_STAT_LATE_ACKS 1 ∧ Claims.regsOutside [Reg.FAB_STAT_LATE_ACKS] s t)) ∧
  (∀ (p : Pkt) (s : State) (r : Sent) (c : PumpCmd) (i : Nat), Claims.coreRuns s → (p.typ = 0x10 ∨ p.typ = 0x11) →
    s.outstanding.find? (fun x => decide (x.id = p.reqId)) = some r → r.owner = .pump c.seq i → s.pumps.find? (fun x => decide (x.seq = c.seq)) = some c →
    (∀ x ∈ s.outstanding, x.id ≠ r.id → x.owner = .pump c.seq (i + 1)) → (∃ x ∈ s.outstanding, x.id ≠ r.id) → s.pumps = [c] → c.started = true →
    ∃ t c', exec (.requestAck p) s = .next t ∧
      t = { s with regs := t.regs, mem := t.mem, scratch := t.scratch, bad := t.bad, log := t.log, power := t.power, outstanding := t.outstanding, pumps := t.pumps, channels := t.channels, flash := t.flash } ∧
      t.outstanding = s.outstanding.filter (fun x => decide (x.id ≠ p.reqId)) ∧ t.pumps = [c'] ∧
      (p.code = 0 → r.typ = 1 ∨ (r.typ = 2 ∧ p.body.length = r.len ∧ Claims.storable s r.target r.len) → c' = { c with moved := s.tb }) ∧ (p.code ≠ 0 → c.first = none → c'.first = some (i, p.code)) ∧
      (p.code = 0 → r.typ = 2 → p.body.length = r.len → Claims.storable s r.target r.len → Claims.stored s t r.target p.body) ∧
      (p.code = 0 → r.typ = 1 → Claims.memSame s t)) ∧
  (∀ (id : BitVec 24) (s : State), Claims.powered s →
    ((∀ r ∈ s.outstanding, r.id ≠ id.toNat) → exec (.fabTimeout id) s = .next s) ∧
    (∀ r, s.outstanding.find? (fun x => decide (x.id = id.toNat)) = some r → s.tb < r.time + s.fld Reg.FAB_CTRL_REQ_TIMEOUT * 1000 →
      exec (.fabTimeout id) s = .next s) ∧
    (∀ r c i, s.outstanding.find? (fun x => decide (x.id = id.toNat)) = some r → r.time + s.fld Reg.FAB_CTRL_REQ_TIMEOUT * 1000 ≤ s.tb →
      r.owner = .pump c.seq i → s.pumps = [c] → c.started = true → c.first = none → c.die < 2 →
      (∀ x ∈ s.outstanding, x.id ≠ r.id → x.owner = .pump c.seq (i + 1)) → (∃ x ∈ s.outstanding, x.id ≠ r.id) → ∃ t, exec (.fabTimeout id) s = .next t ∧
        t = { s with regs := t.regs, log := t.log, power := t.power, outstanding := t.outstanding, pumps := t.pumps } ∧
        t.outstanding = s.outstanding.filter (fun x => decide (x.id ≠ id.toNat)) ∧ t.pumps = [{ c with first := some (i, 0x3012), timedOut := true }] ∧
        Claims.raised s t (fabSite c.die) 0x3012 ∧ Claims.rose s t Reg.FAB_STAT_TIMEOUTS 1))

/-- An advance moves a region's epoch by one at most every 32,768 ns; SYN_CNT_CLEAR clears one ERR; FAB_SELF waits for idle pumps. (08_salax_memory.md (Regions), 08_salax_memory.md (Epochs and revocation), 08_salax_memory.md (Arrival counters), 08_salax_memory.md (Pump commands)) -/
def Obligations.RegionsCountersAndFabSelf : Prop :=
  (∀ (req : Requester) (r : BitVec 16) (ctx : Fin 16384) (c : Instr) (hit : Nat → Prop) (s : State), Claims.powered s → Claims.mayAccess s req →
    SMap.wf s.regions (fun _ => regionInit) = true →
    ((c = .regionAdvance req r ∧ hit = fun k => k = r.toNat) ∨
     (c = .regionAdvanceAll req ∧ hit = fun k => (s.region k).size ≠ 0) ∨
     (c = .regionAdvanceOwner req ctx ∧ hit = fun k => (s.region k).owned = true ∧ (s.region k).owner = ctx.val)) →
    ∃ t, exec c s = .next t ∧ t = { s with regs := t.regs, regions := t.regions, out := .csr 0 0 :: s.out } ∧
      Claims.regsOutside [Reg.FAB_STAT_ADVANCES] s t ∧
      ∀ k, (¬ hit k → t.region k = s.region k) ∧
        (hit k → (s.region k).revoking = true → t.region k = s.region k) ∧
        (hit k → (s.region k).revoking = false → (∀ at', (s.region k).advTime = some at' → at' + 32768 ≤ s.tb) →
          t.region k = { s.region k with epoch := ((s.region k).epoch + 1) % 256, advTime := some s.tb }) ∧
        (hit k → (s.region k).revoking = false → (∃ at', (s.region k).advTime = some at' ∧ s.tb < at' + 32768) →
          t.region k = { s.region k with revoking := true })) ∧
  (∀ (r : BitVec 16) (s : State), Claims.powered s →
    ((s.region r.toNat).revoking = false → exec (.revokingAdvance r) s = .next s) ∧
    (∀ at', (s.region r.toNat).advTime = some at' → s.tb < at' + 32768 → exec (.revokingAdvance r) s = .next s) ∧
    (∀ at', (s.region r.toNat).revoking = true → (s.region r.toNat).advTime = some at' → at' + 32768 ≤ s.tb → s.ras.owed = [] → s.ras.sweepTo = none → s.ras.join = none →
      ∃ t, exec (.revokingAdvance r) s = .next t ∧ t = { s with regs := t.regs, regions := t.regions } ∧
        t.region r.toNat = { s.region r.toNat with epoch := ((s.region r.toNat).epoch + 1) % 256, revoking := false, advTime := some s.tb } ∧
        (∀ k, k ≠ r.toNat → t.region k = s.region k) ∧ Claims.rose s t Reg.FAB_STAT_ADVANCES 1)) ∧
  (∀ (req : Requester) (v : Word) (s : State), Claims.coreRuns s → Claims.mayAccess s req → v.toNat < 2 ^ 14 →
    ∃ t, exec (.synCntClear req v) s = .next t ∧ t = { s with counters := t.counters, out := .csr 0 0 :: s.out } ∧
      t.counter v.toNat = { s.counter v.toNat with err := 0 } ∧ ∀ k, k ≠ v.toNat → t.counter k = s.counter k) ∧
  (∀ (req : Requester) (v : Word) (s : State), Claims.powered s → Claims.mayAccess s req →
    (∀ b, b < 64 → v.getLsbD b = true → b < 8 ∨ (8 ≤ b ∧ b < 24) ∨ b = 24) →
    ((∀ c ∈ s.pumps, c.cancelled ≠ 0) → ∃ t, exec (.fabSelfWrite req v) s = .next t ∧ t = { s with regs := t.regs, out := .csr 0 0 :: s.out } ∧
      t.fld Reg.FAB_SELF_MEMBER = bits v.toNat 0 8 ∧ t.fld Reg.FAB_SELF_SALTERN = bits v.toNat 8 16 ∧ t.fld Reg.FAB_SELF_IN_SALTERN = bits v.toNat 24 1 ∧
      Claims.regsOutside [Reg.FAB_SELF] s t) ∧
    ((∃ c ∈ s.pumps, c.cancelled = 0) → ∃ t, exec (.fabSelfWrite req v) s = .next t ∧ Claims.accessRefused s t (fabSite 0) 0x3017))

end

namespace Sys2Proof

open Sys2Proof.Machine

/-- The rows of the table that apply a pending commit of a group (R382). -/
def Claims.commitRow : Instr → Group → Bool
  | .regionCommit r, g => decide (g = .region r.toNat)
  | .lnkCfgCommit n, g => decide (g = .lnkCfg n)
  | .linkTableCommit l, g => decide (g = .linkTable l)
  | .ethCfgCommit n, g => decide (g = .ethCfg n)
  | .qpCommit q, g => decide (g = .qp q)
  | .queueCommit q k, g => decide (g = match k with | .cfg => .queCfg q | .wm => .queWm q | .notify => .queNotify q)
  | .poolCommit p, g => decide (g = .pool p)
  | .rankWindowCommit p, g => decide (g = .rank p)
  | .partitionCommit p, g => decide (g = .partition p)
  | .tableCommit p, g => decide (g = .table p)
  | .contextCommit c, g => decide (g = .context c)
  | .ringCommit p r, g => decide (g = .ring p r)
  | .profileCommit p sprint, g => decide (g = .profile p (if sprint then 1 else 0))
  | .baseWCommit, g => decide (g = .pwrCtrl)
  | .sprintCommit p, g => decide (g = .pwrPart p)
  | .membershipCommit, g => decide (g = .membership)
  | .logCommit, g => decide (g = .detLog)
  | .replayCommit, g => decide (g = .detReplay)
  | .commitApply, _ => true
  | _, _ => false

/-- Who waits for both copies of a FABRIC group's COMMIT is answered (R380). -/
def Claims.commitAcks (x : Pend) : List Out :=
  match x.ack with
  | .none => []
  | .csr => [.csr 0 0]
  | .monitor => [.monitor 0 []]

/-- The registers that a group holds, where each is one register of its own (R379). -/
def Claims.groupRegs : Group → List Nat
  | .partition p => [Reg.SCH_PART_CFG, Reg.SCH_PART_CORES, Reg.SCH_PART_FRAME, Reg.SCH_PART_T0].map (· + instDelta p)
  | .table p => [Reg.SCH_TBL_COUNT + instDelta p]
  | .context c => (List.range 8).map (fun i => Reg.CTX_DESC0 + ctxDelta c + 8 * i)
  | .rank p => [Reg.FAB_RANK_WINp_A + 0x10 * p, Reg.FAB_RANK_WINp_B + 0x10 * p]
  | .lnkCfg n => [Reg.LNK_CFG + instDelta n]
  | .ethCfg n => [Reg.ETH_CFG + instDelta n]
  | .queCfg q => [Reg.QUE_CFG + queueDelta q]
  | .queWm q => [Reg.QUE_WM + queueDelta q]
  | .queNotify q => [Reg.QUE_NOTIFY + queueDelta q]
  | .pool p => [Reg.PAN_CFG, Reg.PAN_BASE, Reg.PAN_STATE_BASE].map (· + instDelta p)
  | .pwrCtrl => [Reg.PWR_CTRL]
  | .pwrPart p => [Reg.PWR_PART_CFGp + 8 * p]
  | .membership => [Reg.RAS_MBR_CFG]
  | .detLog => [Reg.DET_LOG_BASE, Reg.DET_LOG_SIZE, Reg.DET_LOG_TAIL_ADDR]
  | .detReplay => [Reg.DET_REPLAY_BASE, Reg.DET_REPLAY_SIZE, Reg.DET_REPLAY_PARTS]
  | _ => []

/-- A group's instances are those the device has. -/
def Claims.groupExists : Group → Prop
  | .partition p | .table p | .rank p | .pwrPart p => p < 16
  | .ring p r => p < 16 ∧ r < 16
  | .context c => c < 16384
  | .region r => r < 65536
  | .lnkCfg n => n < 16
  | .linkTable l => l < 32
  | .ethCfg n => n < 4
  | .qp q | .queCfg q | .queWm q | .queNotify q => q < 4096
  | .pool p => p < 64
  | .brine b v => b < 8 ∧ v < 64
  | .profile p k => p < 16 ∧ k < 2
  | _ => True

/-- The value that a commit captured for a register: what was staged, else what is in force (R379). -/
def Claims.captured (s : State) (x : Pend) (a : Nat) : Word := (SMap.find? x.staged a).getD (s.reg a)

/-- The captured value of a field. -/
def Claims.capturedFld (s : State) (x : Pend) (f : Fld) (δ : Nat := 0) : Nat := bits (Claims.captured s x (f.base + δ)).toNat f.lo f.w

/-- The state in which the captured values of a commit are checked (R382). -/
def Claims.checkedIn (s : State) (x : Pend) : State :=
  { s with pends := s.pends.filter (fun y => decide (y ≠ x)), staged := x.staged }.withSlots x.group x.slots

/-- Values that the owning block refuses in every state, with its code, one for each group (R235, R250, R255, R289, R306, R317, R322,
R323, R358, R362, R365, R375, R406, R411, R453, R455, R489). -/
def Claims.refusesAlways (s : State) (x : Pend) (k : Nat) : Prop :=
  match x.group with
  | .partition p => 2 ≤ s.partState p ∧ Claims.captured s x (Reg.SCH_PART_FRAME + instDelta p) ≠ s.reg (Reg.SCH_PART_FRAME + instDelta p) ∧ k = 0x3810
  | .table p => 4096 < Claims.capturedFld s x Reg.SCH_TBL_COUNT_COUNT (instDelta p) ∧ k = 0x3801
  | .context c => 2 ≤ s.ctxState c ∧ k = 0x3C03
  | .rank p => 65536 < Claims.capturedFld s x Reg.FAB_RANK_WINp_A_SIZE (0x10 * p) ∧ k = 0x3109
  | .lnkCfg n => 2 ≤ Claims.capturedFld s x Reg.LNK_CFG_MEDIUM (instDelta n) ∧ k = 0x2801
  | .linkTable l => Claims.capturedFld s x Reg.LNK_STh_LEN_LEN (instDelta (l / 2) + (l % 2) * 0x10) % 25 ≠ 0 ∧ k = 0x2802
  | .ethCfg n => Claims.capturedFld s x Reg.ETH_CFG_PRIO0 (instDelta n) = Claims.capturedFld s x Reg.ETH_CFG_PRIO1 (instDelta n) ∧ k = 0x2C01
  | .queCfg q => (s.queue q).packets ≠ [] ∧ k = 0x2408
  | .queWm q => Claims.capturedFld s x Reg.QUE_WM_PORT (queueDelta q) / 2 ≠ q / 2048 ∧ k = 0x2405
  | .queNotify q => Claims.capturedFld s x Reg.QUE_NOTIFY_STALE_US (queueDelta q) ≠ 0 ∧ s.fld Reg.QUE_CFG_TYPE (queueDelta q) ≠ 1 ∧ k = 0x2405
  | .pool p => (Claims.capturedFld s x Reg.PAN_CFG_BUF_LOG2 (instDelta p) < 8 ∨ 20 < Claims.capturedFld s x Reg.PAN_CFG_BUF_LOG2 (instDelta p)) ∧ k = 0x2008
  | .pwrCtrl => Claims.capturedFld s x Reg.PWR_CTRL_TOL_PCT = 0 ∧ k = 0x440C
  | .membership => s.mbrState ≠ 0 ∧ k = 0x5405
  | .detLog => Claims.capturedFld s x Reg.DET_LOG_BASE_BASE % 4096 ≠ 0 ∧ k = 0x5809
  | .detReplay => Claims.capturedFld s x Reg.DET_REPLAY_BASE_BASE % 32 ≠ 0 ∧ k = 0x5809
  | _ => False

/-- What a group's own state becomes when its captured values are taken. -/
def Claims.took (s t : State) (x : Pend) : Prop :=
  (∀ a ∈ Claims.groupRegs x.group, t.reg a = Claims.captured s x a) ∧
  match x.group with
  | .region r =>
    let v := fun (a : Nat) (old : Nat) => (((SMap.find? x.staged a).map (·.toNat)).getD (old % 2 ^ 64))
    (t.region r).key = v Reg.FAB_RGN_KEY (s.region r).key ∧ (t.region r).base = bits (v Reg.FAB_RGN_BASE (s.region r).base) 0 48 ∧
    (t.region r).attr = v Reg.FAB_RGN_ATTR (s.region r).attr ∧ (t.region r).epoch = (s.region r).epoch ∧ (∀ k, k ≠ r → t.region k = s.region k) ∧ Claims.memSame s t
  | .qp q => (∀ i, i < 8 → i ≠ 6 → (t.qp q).words.getD i 0 = (SMap.find? x.staged (Reg.ETH_QP_DATA + 8 * i)).getD ((s.qp q).words.getD i 0)) ∧
    (∀ k, k ≠ q → t.qp k = s.qp k) ∧ Claims.memSame s t
  | .ring p r => (t.ring p r).head = 0 ∧ (t.ring p r).take = 0 ∧
    (t.ring p r).cfg = (SMap.find? x.staged (Reg.SCH_RING_CFG + instDelta p)).getD (s.ring p r).cfg ∧
    (t.ring p r).base = (SMap.find? x.staged (Reg.SCH_RING_BASE + instDelta p)).getD (s.ring p r).base ∧ (∀ k, k ≠ r → t.ring p k = s.ring p k) ∧
    (Claims.storable s (t.ring p r).headAddr.toNat 8 → Claims.stored s t (t.ring p r).headAddr.toNat (leBytes 8 0))
  | .linkTable l => (t.lport l).active = (s.lport l).active ∧ (t.lport l).swapBy = (x.via, x.atStep.isSome) ∧ (∃ tbl at', (t.lport l).swap = some (tbl, at') ∧ tbl.entries = x.slots.entries ∧
      tbl.t0 = Claims.capturedFld s x Reg.LNK_STh_T0_T0 (instDelta (l / 2) + (l % 2) * 0x10) ∧
      tbl.len = Claims.capturedFld s x Reg.LNK_STh_LEN_LEN (instDelta (l / 2) + (l % 2) * 0x10) ∧ tbl.t0 ≤ at') ∧
    (∀ k, k ≠ l → t.lport k = s.lport k) ∧ Claims.memSame s t
  | .profile p k => t.profile p k = (List.range (Claims.capturedFld s x Reg.PWR_PROF_COUNT_COUNT)).map (fun i => (x.words.get (fun _ => [0]) i).headD 0) ∧
    (∀ q j, (q, j) ≠ (p, k) → j < 2 → t.profile q j = s.profile q j) ∧ Claims.memSame s t
  | .table p => (∀ i, i < Claims.capturedFld s x Reg.SCH_TBL_COUNT_COUNT (instDelta p) → (t.part p).table.get tblZero i = x.words.get tblZero i) ∧
    (∀ q, q ≠ p → t.part q = s.part q) ∧ Claims.memSame s t
  | .context c => t.ctxState c = 1 ∧ (∀ k, k < 16384 → k ≠ c → t.ctxState k = s.ctxState k) ∧ Claims.memSame s t
  | .partition p =>
    (Claims.capturedFld s x Reg.SCH_PART_CFG_ENABLE (instDelta p) = 0 → s.partState p ≠ 3 → t.partState p = 0) ∧
    (Claims.capturedFld s x Reg.SCH_PART_CFG_ENABLE (instDelta p) = 1 → s.partState p = 0 → Claims.capturedFld s x Reg.SCH_PART_CFG_START_MODE (instDelta p) = 1 → t.partState p = 1) ∧
    (Claims.capturedFld s x Reg.SCH_PART_CFG_ENABLE (instDelta p) = 1 → s.partState p = 0 → Claims.capturedFld s x Reg.SCH_PART_CFG_START_MODE (instDelta p) = 0 →
      t.partState p = if s.scheduleOn then 3 else 1)
  | .queCfg q => t.fld Reg.QUE_STATE_FLUSHED (queueDelta q) = 0 ∧ t.fld Reg.QUE_STATE_CLOSED (queueDelta q) = 0 ∧ Claims.memSame s t
  | .pool p => t.fld Reg.PAN_STATE_FREE (instDelta p) = Claims.capturedFld s x Reg.PAN_CFG_COUNT (instDelta p) ∧
    (t.pools.get (fun _ => poolInit) p).used = [] ∧ Claims.otherPools s t p ∧ (p < 4 → Claims.memSame s t)
  | .pwrPart p => (t.sprinting p = true → t.power.sprintAt = some s.tb) ∧ Claims.memSame s t
  | .membership => t.ras.members = x.words.map (fun (e : Nat × List Word) => (e.1, e.2.headD 0))
  | .ethCfg n => (Claims.capturedFld s x Reg.ETH_CFG_ENABLE (instDelta n) = 0 → t.fld Reg.ETH_STATE_LINK (instDelta n) = 0) ∧
    (Claims.capturedFld s x Reg.ETH_CFG_ENABLE (instDelta n) = 1 → s.fld Reg.ETH_STATE_LINK (instDelta n) = 0 → t.fld Reg.ETH_STATE_LINK (instDelta n) = 1) ∧ Claims.memSame s t
  | .lnkCfg _ => True
  | .detLog => t.fld Reg.DET_LOG_HEAD_HEAD = 0 ∧ (Claims.storable s (Claims.capturedFld s x Reg.DET_LOG_TAIL_ADDR_TAIL_ADDR) 8 →
      Claims.stored s t (Claims.capturedFld s x Reg.DET_LOG_TAIL_ADDR_TAIL_ADDR) (leBytes 8 0))
  | _ => Claims.memSame s t

end Sys2Proof

section

open Sys2Proof Sys2Proof.Machine

/-- A COMMIT captures its group's staged values; at the safe point the group takes them all, or none with the owning block's code. (11_partitions_contexts_schedule.md (Commits), 08_salax_memory.md (Regions), 07_memory_pans_queues.md (Pans), 09_links_routes_topologies.md (Link slot tables), 12_reproducibility.md (Record log), 14_power_thermal_clocks.md (Power profiles), 15_faults_membership_insertion.md (Membership)) -/
def Obligations.CommitsAreHeldAppliedOrRefused : Prop :=
  (∀ (c : Instr) (x : Pend) (s : State), Claims.coreRuns s → x.via < 16 → Claims.groupExists x.group → (∀ b v, x.group ≠ .brine b v) →
    s.pends.find? (fun y => Claims.commitRow c y.group && y.due && s.safeNow y.group) = some x →
    let code := ((Claims.checkedIn s x).applyGroup x.words x.group).1
    let gone := fun (t : State) => t.pends = s.pends.filter (fun y => decide (y ≠ x)) ∧ t.staged = s.staged ∧ t.pending = s.pending
    (code = 0 → ∃ t, exec c s = .next t ∧ gone t ∧ Claims.took s t x ∧ t.out = Claims.commitAcks x ++ s.out ∧
      ((∀ l, x.group ≠ .linkTable l) → Claims.rose s t (Reg.SCH_STAT_COMMITS + instDelta x.via) 1) ∧
      (∀ l, x.group = .linkTable l → t.regs = s.regs)) ∧
    (code ≠ 0 → ∃ t, exec c s = .next t ∧ gone t ∧ t.fld Reg.SCH_COMMIT_STATUS_CODE (instDelta x.via) = code ∧ Claims.memSame s t ∧
      (∀ a ∈ Claims.groupRegs x.group, t.reg a = s.reg a) ∧ (∀ l, t.lport l = s.lport l) ∧ t.regions = s.regions ∧ t.qps = s.qps ∧ t.parts = s.parts ∧
      t.pools = s.pools ∧ t.queues = s.queues ∧ t.ras = s.ras) ∧
    (∀ k, Claims.refusesAlways s x k → code = k ∧ k ≠ 0)) ∧
  (∀ (c : Instr) (s : State), Claims.coreRuns s → (∃ g, Claims.commitRow c g = true) → (∀ y ∈ s.pends, ¬ (Claims.commitRow c y.group = true ∧ y.due = true)) →
    exec c s = .next s) ∧
  (∀ (req : Requester) (p : Fin 16) (a : BitVec 32) (g : Group) (s : State), Claims.coreRuns s → Claims.mayAccess s req →
    Claims.reachesOne s a.toNat → s.groupOfAddr a.toNat = some g → (∀ b v, g ≠ .brine b v) → (∀ l, g ≠ .linkTable l) →
    let pending := fun (x : Pend) => sameGroup x.group g = true
    let step := s.fld Reg.SCH_COMMIT_STEP_STEP (instDelta p)
    let held := fun (t : State) at' due' (ack' : Bool) => t.pends = s.pends ++ [⟨g, p, at', due', s.staged, slotTableInit, s.captureWords g, if ack' then .csr else .none⟩] ∧
      t.out = (if ack' then s.out else .csr 0 0 :: s.out) ∧ t = { s with regs := t.regs, pends := t.pends, parts := t.parts, out := t.out } ∧
      ∀ q, t.part q = if g = .table q then { s.part q with since := [] } else s.part q
    ((∀ x ∈ s.pends, ¬ pending x) → ∃ t, exec (.commit req p a) s = .next t ∧ held t none true (fabricGroup g) ∧ t.regs = s.regs) ∧
    ((∀ x ∈ s.pends, ¬ pending x) → s.partStep p < step → ∃ t, exec (.commitAtStep req p a) s = .next t ∧ held t (some step) false false ∧
      Claims.regsOutside [Reg.SCH_COMMIT_STATUS + instDelta p] s t ∧ t.fld Reg.SCH_COMMIT_STATUS_CODE (instDelta p) = s.fld Reg.SCH_COMMIT_STATUS_CODE (instDelta p)) ∧
    ((∀ x ∈ s.pends, ¬ pending x) → step ≤ s.partStep p → ∃ t, exec (.commitAtStep req p a) s = .next t ∧ Claims.accessRefused s t (schSite p) 0x3807) ∧
    ((∃ x ∈ s.pends, pending x) → (∃ t, exec (.commit req p a) s = .next t ∧ Claims.accessRefused s t (schSite p) 0x3806) ∧
      (∃ t, exec (.commitAtStep req p a) s = .next t ∧ Claims.accessRefused s t (schSite p) 0x3806)) ∧
    (∀ x, s.pends.find? (fun y => sameGroup y.group g) = some x → ∃ t, exec (.commitCancel req p a) s = .next t ∧
      t.pends = s.pends.filter (fun y => decide (y ≠ x)) ∧ t = { s with regs := t.regs, pends := t.pends, out := .csr 0 0 :: (Claims.commitAcks x ++ s.out) } ∧
      Claims.regsOutside [Reg.SCH_COMMIT_STATUS + instDelta x.via] s t) ∧
    ((∀ x ∈ s.pends, ¬ pending x) → exec (.commitCancel req p a) s = .next { s with out := .csr 0 0 :: s.out })) ∧
  (∀ (req : Requester) (p : Fin 16) (a : BitVec 32) (s : State), Claims.coreRuns s → Claims.mayAccess s req → Claims.reachesOne s a.toNat → s.groupOfAddr a.toNat = none →
    ∀ c ∈ [Instr.commit req p a, .commitAtStep req p a, .commitCancel req p a], ∃ t, exec c s = .next t ∧ Claims.accessRefused s t (schSite p) 0x3805) ∧
  (∀ (v : Fin 64) (st : SMap Word) (s : State), Claims.coreRuns s →
    s.pends = (List.range 8).map (fun b => (⟨.brine b v, 0, none, true, st, slotTableInit, [], .none⟩ : Pend)) →
    let captured := fun b a => (SMap.find? st (a + instDelta b)).getD (s.reg (a + instDelta b))
    ((∀ b, b < 8 → captured b (mbdBlocks 0 v) = 0 ∧ s.viewRangeBad b v ⟨(captured b (mbdBase 0 v)).toNat, 0, (captured b (mbdIndex 0 v)).toNat, 0, false⟩ = false) → ∃ t, exec (.brineViewCommit v) s = .next t ∧ t.pends = [] ∧ Claims.memSame s t ∧
      (∀ b, b < 8 → t.viewOn b v = false) ∧ (∀ b (u : Fin 64), b < 8 → u ≠ v → t.viewOn b u = s.viewOn b u)) ∧
    ((∀ b, b < 8 → captured b (mbdBlocks 0 v) ≠ 0 ∧ s.viewRangeBad b v ⟨(captured b (mbdBase 0 v)).toNat, (captured b (mbdBlocks 0 v)).toNat, (captured b (mbdIndex 0 v)).toNat, 0, false⟩ = false) →
      ∃ t, exec (.brineViewCommit v) s = .next t ∧ t.pends = [] ∧ Claims.memSame s t ∧ (∀ b, b < 8 → SMap.find? t.brineScans (b * 64 + v) =
        some ⟨(captured b (mbdBase 0 v)).toNat, (captured b (mbdBlocks 0 v)).toNat, (captured b (mbdIndex 0 v)).toNat, 0, false⟩)))

end

namespace Sys2Proof

open Sys2Proof.Machine

/-- The link state of a port starts afresh: sequences, replay and credits; queued packets, waiting packets and tables stay, and what is
free of the receive buffers is to be granted anew. -/
def Claims.freshPort (s t : State) (l : Nat) : Prop :=
  t.lport l = s.freshLport l ∧ ∀ k, k ≠ l → t.lport k = s.lport k

/-- The first bytes of a TC0 header as numbers (R298). -/
def Claims.xferWord (x : Transfer) (i : Nat) : Nat := leNat ((x.header.drop (8 * i)).take 8)

/-- A scheduled COPY of one part as the request that it stands for (R298, R299). -/
def Claims.xferRequest (s : State) (x : Transfer) (n : Nat) : Pkt :=
  let w := Claims.xferWord x
  { typ := 1, len := n, dest := s.selfDev, src := bits (w 4) 40 8, addr := w 0, key := w 3, epoch := bits (w 4) 32 8, inject := bits (w 4) 0 32, body := x.data.take n }

/-- The one acknowledgement of a TC0 transfer: to another member, none to this device itself (R299). -/
def Claims.xferAnswered (s t : State) (x : Transfer) (code : Nat) : Prop :=
  let m := bits (Claims.xferWord x 4) 40 8
  (m = s.selfMember → t.injected = s.injected) ∧
  (m ≠ s.selfMember → ∃ r, t.injected = s.injected ++ [r] ∧ r.pkt.typ = 0x11 ∧ r.pkt.dest = s.fld Reg.FAB_SELF_SALTERN * 256 + m ∧ r.pkt.src = s.selfDev ∧ r.pkt.code = code)

/-- A packet at this hop is on its way to a port: it stands last in the port's queue of its channel (R296, R303). -/
def Claims.queuedAt (s t : State) (m ch : Nat) (r : Routed) : Prop :=
  (t.lport m).queues.getD ch [] = (s.lport m).queues.getD ch [] ++ [⟨r, 0, r.pkt.budget⟩]

end Sys2Proof

section

open Sys2Proof Sys2Proof.Machine

/-- Links train, fail, check, sequence and send flits; packets follow their routes, the sluice and their budgets; tables are written and swapped. (09_links_routes_topologies.md (Link bring-up), 09_links_routes_topologies.md (Flits), 09_links_routes_topologies.md (Replay), 09_links_routes_topologies.md (Link slot tables), 09_links_routes_topologies.md (Routes), 09_links_routes_topologies.md (The sluice), 09_links_routes_topologies.md (Gangs)) -/
def Obligations.LinksCarryFlitsAndRoutesCarryPackets : Prop :=
  (∀ (l : Fin 32) (s : State), Claims.powered s →
    let δ := instDelta (l / 2)
    let held := fun (t : State) => t = { s with lports := t.lports } ∧ ∀ k, k ≠ l.val → t.lport k = s.lport k
    (∀ d, d < 65536 → (s.lportState l = 2 ∨ s.lportState l = 4) → ∃ t, exec (.linkTrained l d) s = .next t ∧ t = { s with regs := t.regs, lports := t.lports } ∧
      t.lportState l = 3 ∧ t.fld (delayFld l) δ = d ∧ Claims.freshPort s t l ∧ Claims.regsOutside [Reg.LNK_STATE + δ] s t) ∧
    (∀ d, s.lportState l ≠ 2 → s.lportState l ≠ 4 → exec (.linkTrained l d) s = .next s) ∧
    ((s.lportState l = 2 ∨ s.lportState l = 3) → s.pumps = [] → ∃ t, exec (.lnkTrainFail l) s = .next t ∧
      t = { s with regs := t.regs, log := t.log, power := t.power, lports := t.lports, sending := t.sending } ∧
      t.lportState l = 4 ∧ Claims.freshPort s t l ∧ Claims.raised s t (lnkSite l) 0x2805) ∧
    (∀ c j j2, (s.lportState l = 2 ∨ s.lportState l = 3) → s.pumps = [c] → s.outstanding = [] → c.started = true → c.cancelled = 0 → c.jobs = [j, j2] →
      j.loc = false → j.state = .waiting → ((s.lport l).active.slotsOf j.xfer).isEmpty = false → j2.loc = true → j2.state = .waiting →
      ∃ t, exec (.lnkTrainFail l) s = .next t ∧ t.lportState l = 4 ∧ t.pumps = [{ c with jobs := [j.land 0x2804, j2] }] ∧
        bits (t.reg (errReg (lnkSite l) 0x2804)).toNat 0 16 = 0x2804 ∧ Claims.memSame s t) ∧
    (s.lportState l ≠ 2 → s.lportState l ≠ 3 → exec (.lnkTrainFail l) s = .next s) ∧
    (∀ f : Flit,
      let h := flitHdr f.header.toNat
      let good := flitCrc f.header.toNat (if h.kind = 1 then some f.body else none) = f.crc.toNat
      let p := s.lport l
      let ch := channelIdx h.tc h.sluice
      let d := (h.seq + 1024 - p.expect) % 1024
      let calm := f.fec = 0 ∧ ∀ e ∈ (p.takeAck h).asked, e.2 < 8
      (s.lportState l ≠ 3 → exec (.flitReceived l f) s = .next s) ∧
      (s.lportState l = 3 → ¬ good → ∃ t, exec (.flitReceived l f) s = .next t ∧ t = { s with regs := t.regs, lports := t.lports } ∧ Claims.rose s t (Reg.LNK_STAT_FEC_UNCORR + δ) f.fec ∧
        t.lport l = (if p.held = [] then p else { p with nak := true }) ∧ (∀ k, k ≠ l.val → t.lport k = s.lport k) ∧ Claims.rose s t (Reg.LNK_STAT_CRC_ERR + δ) 1 ∧ Claims.regsOutside [Reg.LNK_STAT_CRC_ERR + δ, Reg.LNK_STAT_FEC_UNCORR + δ] s t) ∧
      (s.lportState l = 3 → good → h.illegal = true → s.pumps = [] → ∃ t, exec (.flitReceived l f) s = .next t ∧
        t = { s with regs := t.regs, log := t.log, power := t.power, lports := t.lports, sending := t.sending } ∧ t.lportState l = 2 ∧
        Claims.freshPort s t l ∧ Claims.raised s t (lnkSite l) 0x2808 ∧ Claims.rose s t (Reg.LNK_STAT_RETRAINS + δ) 1) ∧
      (s.lportState l = 3 → good → h.illegal = false → (∃ e ∈ (p.takeAck h).asked, 8 ≤ e.2) → s.pumps = [] → ∃ t, exec (.flitReceived l f) s = .next t ∧
        t = { s with regs := t.regs, log := t.log, power := t.power, lports := t.lports, sending := t.sending } ∧ t.lportState l = 2 ∧
        t.lport l = ((s.setLport l (p.takeAck h)).freshLport l) ∧ Claims.raised s t (lnkSite l) 0x2803 ∧ Claims.rose s t (Reg.LNK_STAT_RETRAINS + δ) 1) ∧
      (calm → s.lportState l = 3 → good → h.illegal = false → h.kind ≠ 1 → h.kind ≠ 2 → ∃ t, exec (.flitReceived l f) s = .next t ∧ held t ∧ t.lport l = p.takeAck h) ∧
      (calm → s.lportState l = 3 → good → h.illegal = false → (h.kind = 1 ∨ h.kind = 2) → 512 ≤ d → ∃ t, exec (.flitReceived l f) s = .next t ∧ held t ∧ t.lport l = p.takeAck h) ∧
      (calm → s.lportState l = 3 → good → h.illegal = false → h.kind = 1 → h.tc ≠ 0 → h.seq = p.expect → p.held = [] → p.room.getD ch 0 ≠ 0 → h.sop = true → h.eop = true →
        f.body.length = 256 → (pktOf f.body).bad (ch % 3 + 1) = false → ∃ t, exec (.flitReceived l f) s = .next t ∧ held t ∧
          (t.lport l).hop = p.hop ++ [⟨pktOf f.body, h.epoch, decide (3 ≤ ch), s.tb, some (l, ch, 1)⟩] ∧
          (t.lport l).expect = (p.expect + 1) % 1024 ∧ (t.lport l).queues = p.queues) ∧
      (calm → s.lportState l = 3 → good → h.illegal = false → h.kind = 1 → h.tc ≠ 0 → 1 ≤ d → d < 512 → (∀ x ∈ p.held, x.1 ≠ h.seq) → p.room.getD ch 0 ≠ 0 → ∃ t, exec (.flitReceived l f) s = .next t ∧ held t ∧
          (t.lport l).held = p.held ++ [(h.seq, f)] ∧ (t.lport l).nak = (p.nak || decide (p.asks.get (fun _ => 0) p.expect = 0)) ∧ (t.lport l).asks = p.asks ∧ (t.lport l).expect = p.expect ∧ (t.lport l).hop = p.hop))) ∧
  (∀ (l : Fin 32) (c k : Nat) (late : List Nat) (s : State), Claims.powered s →
    let p := s.lport l
    let tx := fun (t : State) => t = { s with regs := t.regs, lports := t.lports, out := t.out } ∧ (t.lport l).nextSlot = c * p.active.len + k + 1 ∧
      ∀ j, j ≠ l.val → t.lport j = s.lport j
    let askable := p.nak = true → p.asks.get (fun _ => 0) p.expect + 1 < 8
    let idles := fun (o : List Out) => ∀ x ∈ o, ∃ h crc, x = .flit l h crc none ∧ bits h 0 2 = 0
    (s.slotMayStart l c k = false → exec (.linkSlotStart l c ⟨k, late⟩) s = .next s) ∧
    (s.slotMayStart l c k = true → askable → (p.active.entry k = .idle ∨ (p.active.entry k = .shared ∧ p.resend = [] ∧ p.late = [] ∧ ∀ ch, ch < 6 → p.queues.getD ch [] = [])) →
      ∃ t o, exec (.linkSlotStart l c ⟨k, late⟩) s = .next t ∧ tx t ∧ t.regs = s.regs ∧ t.out = o ++ s.out ∧ o.length = 16 ∧ idles o) ∧
    (∀ x, s.slotMayStart l c k = true → askable → p.active.entry k = .shared → p.resend = [] → p.late = [] → p.queues = [[], [], [x], [], [], []] → p.credits.getD 2 0 ≠ 0 →
      p.unacked.length + 1 < 512 → p.nextSeq < 1024 → x.sent = 0 → x.r.sluice = false → x.r.buffer = none → x.r.bank < 2 → x.r.pkt.typ = 0x30 → x.r.pkt.body.length ≤ 192 →
      let pk := { x.r.pkt with budget := x.budget }
      ∃ t o h, exec (.linkSlotStart l c ⟨k, late⟩) s = .next t ∧ tx t ∧ Claims.rose s t (Reg.LNK_STAT_FLITS_TX + instDelta (l / 2)) 1 ∧
        t.out = o ++ .flit l h (flitCrc h (some (pk.flitBody 0))) (some (pk.flitBody 0)) :: s.out ∧ o.length = 15 ∧ idles o ∧
        bits h 0 2 = 1 ∧ bits h 2 2 = 3 ∧ bits h 8 10 = p.nextSeq ∧ (t.lport l).nextSeq = (p.nextSeq + 1) % 1024 ∧
        (t.lport l).unacked = p.unacked ++ [⟨p.nextSeq, h, some (pk.flitBody 0)⟩] ∧ (∀ ch, ch < 6 → (t.lport l).queues.getD ch [] = [])) ∧
    (∀ y, s.slotMayStart l c k = true → askable → p.active.entry k = .tc0 63 y → s.pumps = [] → SMap.find? s.sending (l * 65536 + y) = none → p.unacked.length + 16 < 512 →
      ∃ t, exec (.linkSlotStart l c ⟨k, late⟩) s = .next t ∧ tx t ∧ t.out.length = s.out.length + 16 ∧ Claims.rose s t (Reg.LNK_STAT_VOID_TX + instDelta (l / 2)) 16 ∧
        (t.lport l).unacked.length = p.unacked.length + 16)) ∧
  (∀ (l : Fin 32) (x : Transfer) (n : Nat) (s : State), Claims.coreRuns s → bits (Claims.xferWord x 5) 0 2 = 0 → bits (Claims.xferWord x 5) 2 41 = n → 0 < n →
    n ≤ x.data.length → faOffset (Claims.xferWord x 0) % 4096 + n ≤ 4096 →
    let q := Claims.xferRequest s x n
    let pa := (s.region (faRegion q.addr)).base + faOffset q.addr
    let i := bits (Claims.xferWord x 4) 48 14
    let cnt := bit (Claims.xferWord x 4) 62
    (∀ y ∈ s.pends, y.group ≠ .region (faRegion q.addr)) →
    (Claims.checks s q = none → Claims.storable s pa n → (cnt = true → (s.counter i).remote = true) →
      ∃ t, exec (.tc0TransferLand l x) s = .next t ∧ Claims.stored s t pa (x.data.take n) ∧ Claims.xferAnswered s t x 0 ∧
        (cnt = true → Claims.counted s t i 0) ∧ (cnt = false → t.counters = s.counters) ∧
        t = { s with regs := t.regs, mem := t.mem, scratch := t.scratch, bad := t.bad, counters := t.counters, injected := t.injected, free := t.free }) ∧
    (∀ c, Claims.checks s q = some c → cnt = false → ∃ t, exec (.tc0TransferLand l x) s = .next t ∧ Claims.xferAnswered s t x c ∧
        Claims.raised s t (fabSite (lportDie l)) c ∧
        t = { s with regs := t.regs, log := t.log, power := t.power, injected := t.injected, free := t.free })) ∧
  (∀ (input : Option (Fin 32)) (r : Routed) (rest : List Routed) (s u : State), Claims.powered s →
    ((input = none ∧ s.injected = r :: rest ∧ u = { s with injected := rest } ∧ r.buffer = none) ∨
     (∃ l : Fin 32, input = some l ∧ (s.lport l).hop = r :: rest ∧ u = s.setLport l { s.lport l with hop := rest })) →
    (∀ m ch, s.nextHop r = .port m → ch = channelIdx r.pkt.tc r.sluice → ch < (s.lport m).queues.length → ∃ t, exec (.packetRoute input) s = .next t ∧
      t = { u with lports := t.lports } ∧ Claims.queuedAt s t m ch r ∧ ∀ k, k ≠ m → t.lport k = u.lport k) ∧
    (∀ l ch n (die : Fin 2), s.nextHop r = .here → r.buffer = some (l, ch, n) → die.val = lportDie l → 1 ≤ r.pkt.typ → r.pkt.typ ≤ 5 →
      exec (.packetRoute input) s = exec (Claims.requestRow die r.pkt) (u.freeBuffer r.buffer)) ∧
    (s.nextHop r = .here → r.buffer = none → 1 ≤ r.pkt.typ → r.pkt.typ ≤ 5 → r.pkt.src = s.selfDev → exec (.packetRoute input) s = .next (u.landRequest 0 .self r.pkt)) ∧
    (s.nextHop r = .here → r.buffer = none → (r.pkt.typ = 0x10 ∨ r.pkt.typ = 0x11) → exec (.packetRoute input) s = exec (.requestAck r.pkt) u) ∧
    let back := fun (code : Nat) => s.nextHop ⟨s.ackOf r.pkt code, s.fld Reg.FAB_RT_CTRL_INJECT_EPOCH, false, s.tb, none⟩
    let answered := fun (t : State) (code : Nat) => (back code = .nowhere → t.injected = u.injected) ∧
      (back code ≠ .nowhere → ∃ x, t.injected = u.injected ++ [x] ∧ x.pkt.typ = 0x11 ∧ x.pkt.code = code ∧ x.pkt.dest = r.pkt.src ∧ x.pkt.reqId = r.pkt.reqId)
    (∀ l ch n, s.nextHop r = .here → r.buffer = some (l, ch, n) → r.pkt.tc ≠ 1 → r.pkt.budget ≤ 1 → ∃ t, exec (.packetRoute input) s = .next t ∧
      Claims.raised s t (fabSite 0) 0x3105 ∧ Claims.rose s t Reg.FAB_STAT_BUDGET_DROP 1 ∧ answered t 0x3105 ∧ Claims.memSame s t) ∧
    (s.nextHop r = .nowhere → r.buffer = none → (r.pkt.typ = 0x10 ∨ r.pkt.typ = 0x11 ∨ r.pkt.typ = 0x30) → ∃ t, exec (.packetRoute input) s = .next t ∧
      Claims.raised s t (fabSite 0) 0x3102 ∧ Claims.rose s t Reg.FAB_STAT_NO_ROUTE 1 ∧ t.injected = u.injected ∧ Claims.memSame s t) ∧
    (∀ l ch n, s.nextHop r = .nowhere → r.buffer = some (l, ch, n) → ∃ t, exec (.packetRoute input) s = .next t ∧
      Claims.raised s t (fabSite 0) 0x3102 ∧ Claims.rose s t Reg.FAB_STAT_NO_ROUTE 1 ∧ answered t 0x3102 ∧ Claims.memSame s t)) ∧
  (∀ s : State, Claims.powered s → s.injected = [] → exec (.packetRoute none) s = .next s) ∧
  (∀ (l : Fin 32) (ch : Fin 3) (s : State), Claims.powered s →
    let waits := fun (y : TxPacket) => y.sent = 0 ∧ y.r.sluice = false ∧ s.fld Reg.FAB_SLUICE_CFG_THRESH_NS < s.tb - y.r.since
    ((∀ y ∈ (s.lport l).queues.getD ch [], ¬ waits y) → exec (.sluiceMove l ch) s = .next s) ∧
    (∀ (before rest : List TxPacket) (x : TxPacket), (s.lport l).queues.getD ch [] = before ++ x :: rest → (∀ y ∈ before, ¬ waits y) → waits x →
      (s.lport l).queues.length = 6 →
      let r : Routed := { x.r with sluice := true, pkt := { x.r.pkt with budget := x.budget } }
      let moved := fun (t : State) => (t.lport l).queues.getD ch [] = before ++ rest ∧ Claims.rose s t Reg.FAB_STAT_SLUICE_MOVES 1 ∧
        Claims.rose s t (Reg.LNK_STAT_SLUICE_MOVES + instDelta (l / 2)) 1
      (∀ m, s.nextHop r = .port m → (s.lport m).queues.length = 6 → ∃ t, exec (.sluiceMove l ch) s = .next t ∧
        t = { s with regs := t.regs, lports := t.lports } ∧ moved t ∧ Claims.queuedAt s t m (channelIdx r.pkt.tc true) r) ∧
      (s.nextHop r = .here → ∃ t, exec (.sluiceMove l ch) s = .next t ∧ t = { s with regs := t.regs, lports := t.lports, injected := s.injected ++ [r] } ∧
        moved t) ∧
      (s.nextHop r = .nowhere → ∃ t, exec (.sluiceMove l ch) s = .next t ∧ moved t ∧ Claims.raised s t (fabSite 0) 0x3102 ∧
        Claims.rose s t Reg.FAB_STAT_NO_ROUTE 1 ∧
        t = { s with regs := t.regs, lports := t.lports, log := t.log, power := t.power, injected := t.injected }))) ∧
  (∀ (l : Fin 32) (s : State), Claims.coreRuns s →
    let δ := instDelta (l / 2) + (l % 2) * 0x10
    ((s.lport l).swap = none → exec (.linkTableSwap l) s = .next s) ∧
    (∀ tbl at', (s.lport l).swap = some (tbl, at') → s.tb < at' → exec (.linkTableSwap l) s = .next s) ∧
    (∀ tbl at', (s.lport l).swap = some (tbl, at') → at' ≤ s.tb → tbl.t0 < 2 ^ 64 → tbl.len < 2 ^ 14 → (s.lport l).swapBy.1 < 16 →
      SMap.sorted none (s.lport l).since = true → ∃ t, exec (.linkTableSwap l) s = .next t ∧
      t = { s with regs := t.regs, lports := t.lports, bound := t.bound } ∧
      t.lport l = { s.lport l with active := tbl, staged := (t.lport l).staged, swap := none, nextSlot := 0 } ∧
      (∀ j, (t.lport l).staged.entry j = (SMap.find? (s.lport l).since j).getD ((s.lport l).active.entry j)) ∧
      Claims.rose s t (Reg.SCH_STAT_COMMITS + instDelta (s.lport l).swapBy.1) 1 ∧ (∀ k, k ≠ l.val → t.lport k = s.lport k) ∧
      t.fld Reg.LNK_STh_T0_T0 δ = tbl.t0 ∧ t.fld Reg.LNK_STh_LEN_LEN δ = tbl.len ∧ 
      Claims.regsOutside [Reg.LNK_STh_T0 + δ, Reg.LNK_STh_LEN + δ, Reg.SCH_STAT_COMMITS + instDelta (s.lport l).swapBy.1,
        Reg.SCH_COMMIT_STATUS + instDelta (s.lport l).swapBy.1] s t)) ∧
  (∀ (req : Requester) (v : Word) (s : State), Claims.powered s → Claims.mayAccess s req →
    let wrote := fun (t : State) => t = { s with regs := t.regs, routes := t.routes, sluices := t.sluices, lports := t.lports, out := .csr 0 0 :: s.out }
    (v.toNat < 2 → ∃ t, exec (.switchOver req v) s = .next t ∧ wrote t ∧ t.routes = s.routes ∧ t.sluices = s.sluices ∧ t.lports = s.lports ∧
      t.fld Reg.FAB_RT_CTRL_INJECT_EPOCH = v.toNat ∧
      (v.toNat = s.fld Reg.FAB_RT_CTRL_INJECT_EPOCH → Claims.regsOutside [] s t) ∧
      (v.toNat ≠ s.fld Reg.FAB_RT_CTRL_INJECT_EPOCH → t.reg Reg.FAB_RT_SWITCH_TIME = BitVec.ofNat 64 s.tb ∧ Claims.rose s t Reg.FAB_STAT_SWITCHES 1 ∧
        Claims.regsOutside [Reg.FAB_RT_CTRL, Reg.FAB_RT_SWITCH_TIME, Reg.FAB_STAT_SWITCHES] s t)) ∧
    (v.toNat < 128 → (v.getLsbD 6 = true → v.toNat % 32 = 0) → s.routeEarly = false → ∃ t, exec (.fabRtDataWrite req v) s = .next t ∧ wrote t ∧
      t.routes.get (fun _ => 0) s.routeSel = v.toNat ∧ (∀ k, k ≠ s.routeSel → t.routes.get (fun _ => 0) k = s.routes.get (fun _ => 0) k) ∧
      t.sluices = s.sluices ∧ t.lports = s.lports ∧ Claims.regsOutside [Reg.FAB_RT_SEL] s t ∧
      t.fld Reg.FAB_RT_SEL_INDEX = (if s.fld Reg.FAB_RT_SEL_INDEX + 1 < (if s.fld Reg.FAB_RT_SEL_TABLE = 0 then 256 else 65536) then s.fld Reg.FAB_RT_SEL_INDEX + 1 else 0)) ∧
    (v.toNat < 128 → v.getLsbD 6 = true → v.toNat % 32 ≠ 0 → ∃ t, exec (.fabRtDataWrite req v) s = .next t ∧ Claims.accessRefused s t (fabSite 0) 0x3101) ∧
    (v.toNat < 64 → s.routeEarly = true → ∃ t, exec (.fabRtDataWrite req v) s = .next t ∧ Claims.accessRefused s t (fabSite 0) 0x3103) ∧
    (s.sluiceLocked = true → (bits v.toNat 30 2 = 0 → ∃ t, exec (.fabSluiceWrite req 0 v) s = .next t ∧ Claims.accessRefused s t (fabSite 0) 0x3104) ∧
      (v.toNat < 2 ^ 17 → ∃ t, exec (.fabSluiceWrite req 1 v) s = .next t ∧ Claims.accessRefused s t (fabSite 0) 0x3104) ∧
      (v.toNat < 2 ^ 6 → ∃ t, exec (.fabSluiceWrite req 2 v) s = .next t ∧ Claims.accessRefused s t (fabSite 0) 0x3104)) ∧
    (s.sluiceLocked = false → bits v.toNat 30 2 = 0 → bits v.toNat 32 32 ≠ 0 → (v.getLsbD 29 = true ↔ bits v.toNat 0 24 ≠ s.selfDev) → ∃ t, exec (.fabSluiceWrite req 0 v) s = .next t ∧
      wrote t ∧ Claims.regsOutside [Reg.FAB_SLUICE_CFG] s t ∧ t.fld Reg.FAB_SLUICE_CFG_ROOT = bits v.toNat 0 24 ∧ t.fld Reg.FAB_SLUICE_CFG_UP_PORT = bits v.toNat 24 5 ∧
      t.fld Reg.FAB_SLUICE_CFG_UP_EN = bits v.toNat 29 1 ∧ t.fld Reg.FAB_SLUICE_CFG_THRESH_NS = bits v.toNat 32 32) ∧
    (s.sluiceLocked = false → v.toNat < 2 ^ 17 → ∃ t, exec (.fabSluiceWrite req 1 v) s = .next t ∧ wrote t ∧ Claims.regsOutside [Reg.FAB_SLUICE_SEL] s t ∧
      t.fld Reg.FAB_SLUICE_SEL_INDEX = v.toNat) ∧
    (s.sluiceLocked = false → v.toNat < 2 ^ 6 → ∃ t, exec (.fabSluiceWrite req 2 v) s = .next t ∧ wrote t ∧ t.routes = s.routes ∧ Claims.regsOutside [Reg.FAB_SLUICE_SEL] s t ∧
      t.sluices.get (fun _ => 0) (s.fld Reg.FAB_SLUICE_SEL_INDEX) = v.toNat ∧
      (∀ k, k ≠ s.fld Reg.FAB_SLUICE_SEL_INDEX → t.sluices.get (fun _ => 0) k = s.sluices.get (fun _ => 0) k)) ∧
    (let n := bits v.toNat 0 4
     let bad := s.fld Reg.FAB_CTRL_ENABLE = 1 ∨ n = 0 ∨ 8 < n ∨ n ≤ bits v.toNat 4 3 ∨ (bits v.toNat 8 16 = 0 ∧ 1 < n)
     v.toNat < 2 ^ 24 → v.getLsbD 7 = false →
     (bad → ∃ t, exec (.fabGangWrite req v) s = .next t ∧ Claims.accessRefused s t (fabSite 0) 0x310A) ∧
     (¬ bad → ∃ t, exec (.fabGangWrite req v) s = .next t ∧ wrote t ∧ Claims.regsOutside [Reg.FAB_GANG] s t ∧ t.fld Reg.FAB_GANG_SIZE = n ∧
       t.fld Reg.FAB_GANG_INDEX = bits v.toNat 4 3 ∧ t.fld Reg.FAB_GANG_PORTS = bits v.toNat 8 16)) ∧
    (∀ port : Fin 16,
      let δ := instDelta port
      let l := 2 * port.val + s.fld Reg.LNK_ST_SEL_HALF δ
      let k := s.fld Reg.LNK_ST_SEL_INDEX δ
      let stepped := fun (t : State) => Claims.regsOutside [Reg.LNK_ST_SEL + δ] s t ∧ t.fld Reg.LNK_ST_SEL_INDEX δ = (if k + 1 < 16375 then k + 1 else 0)
      let bad := v.toNat % 4 = 3 ∨ (v.toNat % 4 = 2 ∧ 32 ≤ bits v.toNat 2 6 ∧ bits v.toNat 2 6 ≠ 63) ∨ (v.toNat % 4 ≠ 2 ∧ bits v.toNat 2 22 ≠ 0)
      (v.toNat < 2 ^ 24 → bad → ∃ t, exec (.lnkStDataAccess req port (some v)) s = .next t ∧ Claims.accessRefused s t (site 10 port) 0x2802) ∧
      (v.toNat < 2 ^ 24 → ¬ bad → ∃ t, exec (.lnkStDataAccess req port (some v)) s = .next t ∧ wrote t ∧ t.routes = s.routes ∧ t.sluices = s.sluices ∧ stepped t ∧
        (∀ j, j ≠ l → t.lport j = s.lport j) ∧ (t.lport l).active = (s.lport l).active ∧
        (t.lport l).staged.entry k = (if v.toNat % 4 = 0 then .idle else if v.toNat % 4 = 1 then .shared else .tc0 (bits v.toNat 2 6) (bits v.toNat 8 16)) ∧
        (∀ j, j ≠ k → (t.lport l).staged.entry j = (s.lport l).staged.entry j)) ∧
      (∀ src x, (s.lport l).staged.entry k = .tc0 src x → src < 64 → x < 65536 → ∃ t, exec (.lnkStDataAccess req port none) s = .next t ∧
        t = { s with regs := t.regs, out := .csr 0 (2 + 4 * src + 256 * x) :: s.out } ∧ stepped t)))

end

namespace Sys2Proof

open Sys2Proof.Machine

/-- The checks of a host's request at its region, the first failing one (R264, R323). -/
def Claims.hostChecks (s : State) (r : RoceReq) (typ len : Nat) : Option Nat :=
  let x := s.region (faRegion (roceAddr r))
  if s.fld Reg.FAB_CTRL_ENABLE = 0 then some 0x3005
  else if x.size = 0 then some 0x3009
  else if (s.qp r.qp).key ≠ x.key then some 0x300A
  else if bits r.rkey.toNat 16 8 ≠ x.epoch ∨ x.revoking = true then some 0x300B
  else if x.state ≠ 2 ∧ x.hostEn = false then some 0x300C
  else if bit x.attr (match typ with | 2 => 0 | 3 => 2 | _ => 1) = false then some 0x300D
  else if x.state = 1 ∧ typ ≠ 2 then some 0x300E
  else if x.state = 2 then some 0x300F
  else if x.size < faOffset (roceAddr r) + len then some 0x3010
  else none

/-- The port is up, its frame is none that R322 drops, and the queue pair is RTS on it (R322, R323). -/
def Claims.rts (s : State) (r : RoceReq) : Prop :=
  s.fld Reg.ETH_STATE_LINK (instDelta r.port) = 2 ∧ s.frameDrops r.port r.frame = false ∧ (s.qp r.qp).state = 1 ∧ (s.qp r.qp).port = r.port.val ∧ (s.qp r.qp).words.length = 8

/-- Frames came in on a port and a frame of a queue pair went out: counted, and marked as ECN_EN says; or it waits, while the pair's
priority is paused (R324, R325, R327). -/
def Claims.answers (s t : State) (q port came : Nat) (o : EthOut) : Prop :=
  let prio := (s.qp q).priority
  Claims.rose s t (Reg.ETH_STAT_RX_FRAMES + instDelta port) came ∧ (∀ k, k ≠ port → t.ethPort k = s.ethPort k) ∧
  if s.fld (pausedFld prio) (instDelta port) = 1 then
    t.out = s.out ∧ t.ethPort port = { s.ethPort port with waiting := (s.ethPort port).waiting ++ [⟨prio, o⟩] } ∧
    t.reg (Reg.ETH_STAT_TX_FRAMES + instDelta port) = s.reg (Reg.ETH_STAT_TX_FRAMES + instDelta port)
  else
    t.out = .eth port (decide (s.fld Reg.ETH_CFG_ECN_EN (instDelta port) = 1)) (s.tagOf port o) o :: s.out ∧ t.ethPort port = s.ethPort port ∧
    Claims.rose s t (Reg.ETH_STAT_TX_FRAMES + instDelta port) o.frames ∧ ∀ a, o.counter = some a → Claims.rose s t (a + instDelta port) 1

/-- The packets that a message of `n` bytes takes. -/
def Claims.packets (n : Nat) : Nat := max 1 ((n + 4095) / 4096)

/-- The expected PSN of the queue pair has moved on, and nothing else of any queue pair (R323). -/
def Claims.psnMoved (s t : State) (q n : Nat) : Prop :=
  (t.qp q).epsn = ((s.qp q).epsn + n) % 2 ^ 24 ∧ (∀ i, i ≠ 1 → (t.qp q).words.getD i 0 = (s.qp q).words.getD i 0) ∧ ∀ k, k ≠ q → t.qp k = s.qp k

/-- A NAK of a code went out or waits, the port raised it, and STATUS of the queue pair shows it (R323). -/
def Claims.naked (s t : State) (r : RoceReq) (came code : Nat) : Prop :=
  Claims.answers s t r.qp r.port came (.roce r.qp code r.psn.toNat []) ∧ Claims.raised s t (ethSite r.port) code ∧
  (t.qp r.qp).epsn = (s.qp r.qp).epsn ∧ qpFld (t.qp r.qp).words 6 0 16 = code ∧
  (t.qp r.qp).state = (if code = 0x2C06 then 2 else 1) ∧ (∀ k, k ≠ r.qp.val → t.qp k = s.qp k) ∧
  t = { s with regs := t.regs, log := t.log, power := t.power, qps := t.qps, sources := t.sources, ethPorts := t.ethPorts, out := t.out }

end Sys2Proof

section

open Sys2Proof Sys2Proof.Machine

/-- A RoCEv2 request of an RTS queue pair is performed and answered or NAKed; PFC, CNP, ARP and link events change their port and pair alone. (09_links_routes_topologies.md (Ethernet ports), 08_salax_memory.md (Checks at the destination), 07_memory_pans_queues.md (Near-memory units), 07_memory_pans_queues.md (Queues)) -/
def Obligations.RoceRequestsAreAnsweredAndPortsPaused : Prop :=
  (∀ (r : RoceReq) (data : Bytes) (len : BitVec 32) (x cmp : Word) (s : State), Claims.coreRuns s → Claims.rts s r →
    let q := r.qp.val
    let pa := (s.region (faRegion (roceAddr r))).base + faOffset (roceAddr r)
    let ready := r.rkey.toNat < 2 ^ 24 ∧ r.psn.toNat = (s.qp r.qp).epsn ∧ ∀ y ∈ s.pends, y.group ≠ .region (faRegion (roceAddr r))
    let framed := fun (t : State) => t = { s with regs := t.regs, mem := t.mem, scratch := t.scratch, bad := t.bad, qps := t.qps, sources := t.sources, ethPorts := t.ethPorts, out := t.out }
    let ok := fun (t : State) (came n : Nat) (d : Bytes) => framed t ∧ Claims.answers s t q r.port came (.roce q 0 r.psn.toNat d) ∧ Claims.psnMoved s t q n
    let atomic := pa % 8 = 0 ∧ Claims.clearLine s (pa / 64 * 64) ∧ s.touchesView pa 8 = false ∧ s.fld Reg.MBD_CTRL_NM_ENABLE (instDelta (bridgeOf (channelOf pa))) = 1
    let old := BitVec.ofNat 64 (s.readNat pa 8)
    (ready → Claims.hostChecks s r 1 data.length = none → (data = [] ∨ Claims.storable s pa data.length) → ∃ t, exec (.rdmaWrite r data false) s = .next t ∧
      ok t (Claims.packets data.length) (Claims.packets data.length) [] ∧ Claims.stored s t pa data) ∧
    (ready → (s.qp q).maxRead ≠ 0 → Claims.hostChecks s r 2 len.toNat = none → (len = 0 ∨ (s.readCode pa len.toNat = 0 ∧ Claims.storable s pa len.toNat ∧
        ∀ l, l % 64 = 0 → l < pa + len.toNat → pa < l + 64 → s.viewAt l = none)) →
      ∃ t, exec (.rdmaRead r len) s = .next t ∧ ok t 1 (Claims.packets len.toNat) (s.readBytes pa len.toNat) ∧ Claims.memSame s t) ∧
    (ready → (s.qp q).maxRead ≠ 0 → Claims.hostChecks s r 3 8 = none → atomic →
      (∃ t, exec (.fetchAdd r x) s = .next t ∧ ok t 1 1 (leBytes 8 old.toNat) ∧ Claims.stored s t pa (leBytes 8 (old + x).toNat)) ∧
      (∃ t, exec (.cmpSwap r x cmp) s = .next t ∧ ok t 1 1 (leBytes 8 old.toNat) ∧ Claims.stored s t pa (leBytes 8 (if old = cmp then x else old).toNat))) ∧
    ((s.qp q).maxRead ≠ 0 → ∀ c n len', (c, n, len') ∈ [(Instr.rdmaWrite r data false, Claims.packets data.length, (1, data.length)), (.rdmaRead r len, 1, (2, len.toNat)),
        (.fetchAdd r x, 1, (3, 8)), (.cmpSwap r x cmp, 1, (3, 8))] →
      (2 ^ 24 ≤ r.rkey.toNat → ∃ t, exec c s = .next t ∧ Claims.naked s t r n 0x2C04) ∧
      (r.rkey.toNat < 2 ^ 24 → r.psn.toNat ≠ (s.qp q).epsn → ∃ t, exec c s = .next t ∧ Claims.naked s t r n 0x2C05) ∧
      (ready → ∀ k, Claims.hostChecks s r len'.1 len'.2 = some k → ∃ t, exec c s = .next t ∧ Claims.naked s t r n 0x2C06)) ∧
    ((s.qp q).maxRead = 0 → ∀ c ∈ [Instr.rdmaRead r len, .fetchAdd r x, .cmpSwap r x cmp], ∃ t, exec c s = .next t ∧ Claims.naked s t r 1 0x2C04) ∧
    (∃ t, exec (.ethBadPkt r false) s = .next t ∧ Claims.naked s t r 1 0x2C04) ∧
    (∀ imm : Option (BitVec 32),
      let body := (match imm with | some v => leBytes 4 v.toNat | none => []) ++ data
      let rq := (s.qp q).rqQueue
      let open' := s.fld Reg.QUE_CFG_TYPE (queueDelta rq) ≠ 0 ∧ s.fld Reg.QUE_STATE_CLOSED (queueDelta rq) = 0
      let words := (s.queue rq).words + (1 + (body.length + 7) / 8)
      (((s.qp q).rqEn = false ∨ 16384 < body.length) → ∃ t, exec (.roceSend r imm data) s = .next t ∧ Claims.naked s t r (Claims.packets data.length) 0x2C04) ∧
      ((s.qp q).rqEn = true → body.length ≤ 16384 → r.psn.toNat ≠ (s.qp q).epsn → ∃ t, exec (.roceSend r imm data) s = .next t ∧ Claims.naked s t r (Claims.packets data.length) 0x2C05) ∧
      ((s.qp q).rqEn = true → body.length ≤ 16384 → r.psn.toNat = (s.qp q).epsn → open' → words ≤ s.fld Reg.QUE_CFG_DEPTH (queueDelta rq) →
        ∃ t, exec (.roceSend r imm data) s = .next t ∧ Claims.memSame s t ∧ Claims.otherQueues s t rq ∧ Claims.psnMoved s t q (Claims.packets data.length) ∧
          (t.queue rq).packets = (s.queue rq).packets ++ [⟨3, q + r.port.val * 4096 + (if imm.isSome then 16384 else 0), body, []⟩] ∧
          (s.fld (pausedFld (s.qp q).priority) (instDelta r.port) ≠ 1 → t.out.head? = some (.eth r.port (decide (s.fld Reg.ETH_CFG_ECN_EN (instDelta r.port) = 1)) (s.tagOf r.port (.roce q 0 r.psn.toNat []))
            (.roce q 0 r.psn.toNat []))) ∧
          (s.fld (pausedFld (s.qp q).priority) (instDelta r.port) = 1 → (t.ethPort r.port).waiting = (s.ethPort r.port).waiting ++ [⟨(s.qp q).priority, .roce q 0 r.psn.toNat []⟩])) ∧
      ((s.qp q).rqEn = true → body.length ≤ 16384 → r.psn.toNat = (s.qp q).epsn → open' → s.fld Reg.QUE_CFG_DEPTH (queueDelta rq) < words →
        ∃ t, exec (.roceSend r imm data) s = .next t ∧ t = { s with regs := t.regs, log := t.log, power := t.power, qps := t.qps, ethPorts := t.ethPorts, out := t.out } ∧
          Claims.answers s t q r.port (Claims.packets data.length) (.rnr q r.psn.toNat) ∧ Claims.raised s t (ethSite r.port) 0x2C07 ∧ (t.qp q).epsn = (s.qp q).epsn ∧ (t.qp q).state = 1))) ∧
  (∀ (r : RoceReq) (data : Bytes) (len : BitVec 32) (x cmp : Word) (imm : Option (BitVec 32)) (port : Fin 4) (ip : BitVec 128) (f : EthFrame) (en : BitVec 8)
      (quanta : List (BitVec 16)) (s : State), Claims.powered s → r.port = port →
    let up := s.fld Reg.ETH_STATE_LINK (instDelta port) = 2
    let requests := [(Instr.rdmaWrite r data false, Claims.packets data.length), (.rdmaRead r len, 1), (.fetchAdd r x, 1), (.cmpSwap r x cmp, 1),
      (.roceSend r imm data, Claims.packets data.length), (.ethBadPkt r false, 1)]
    let rx := Reg.ETH_STAT_RX_FRAMES + instDelta port
    let dropped := Reg.ETH_STAT_RX_DROPPED + instDelta port
    (¬ up → (∀ c n, (c, n) ∈ requests → exec c s = .next s) ∧
      ∀ c ∈ [Instr.ethBadPkt r true, .pfcReceived port en quanta, .pauseReceived port, .arpRequest port ⟨ip, f⟩, .ethLinkDown port], exec c s = .next s) ∧
    (up → s.frameDrops port r.frame = true → ∀ c n, (c, n) ∈ requests → ∃ t, exec c s = .next t ∧ t = { s with regs := t.regs } ∧
      Claims.regsOutside [rx, dropped] s t ∧ Claims.rose s t rx n ∧ Claims.rose s t dropped n) ∧
    (up → s.frameDrops port r.frame = false → ((s.qp r.qp).state ≠ 1 ∨ (s.qp r.qp).port ≠ port.val) → ∀ c n, (c, n) ∈ requests → ∃ t, exec c s = .next t ∧
      t = { s with regs := t.regs } ∧ Claims.regsOutside [rx] s t ∧ Claims.rose s t rx n)) ∧
  (∀ (r : RoceReq) (port : Fin 4) (ip : BitVec 128) (f : EthFrame) (s : State), Claims.powered s → s.fld Reg.ETH_STATE_LINK (instDelta port) = 2 → r.port = port →
    let δ := instDelta port
    let rx := Reg.ETH_STAT_RX_FRAMES + δ
    let v4 := (s.reg (Reg.ETH_IPV4 + δ)).toNat
    let v6 := (s.reg (Reg.ETH_IPV6_HI + δ)).toNat * 2 ^ 64 + (s.reg (Reg.ETH_IPV6_LO + δ)).toNat
    let mine := (v4 ≠ 0 ∧ ip.toNat = 0xFFFF * 2 ^ 32 + v4) ∨ (v6 ≠ 0 ∧ ip.toNat = v6)
    (∃ t, exec (.ethBadPkt r true) s = .next t ∧ t = { s with regs := t.regs } ∧ Claims.regsOutside [rx, Reg.ETH_STAT_RX_DROPPED + δ] s t ∧
      Claims.rose s t rx 1 ∧ Claims.rose s t (Reg.ETH_STAT_RX_DROPPED + δ) 1) ∧
    (∃ t, exec (.pauseReceived port) s = .next t ∧ t = { s with regs := t.regs } ∧ Claims.regsOutside [rx, Reg.ETH_STAT_PAUSE_RECV + δ] s t ∧
      Claims.rose s t rx 1 ∧ Claims.rose s t (Reg.ETH_STAT_PAUSE_RECV + δ) 1) ∧
    (s.frameDrops port f = true → ∃ t, exec (.arpRequest port ⟨ip, f⟩) s = .next t ∧ t = { s with regs := t.regs } ∧
      Claims.regsOutside [rx, Reg.ETH_STAT_RX_DROPPED + δ] s t ∧ Claims.rose s t rx 1 ∧ Claims.rose s t (Reg.ETH_STAT_RX_DROPPED + δ) 1) ∧
    (s.frameDrops port f = false → mine → ∃ t o, exec (.arpRequest port ⟨ip, f⟩) s = .next t ∧ t = { s with regs := t.regs, out := o :: s.out } ∧ Claims.rose s t rx 1 ∧
      Claims.rose s t (Reg.ETH_STAT_TX_FRAMES + δ) 1 ∧ ∃ tag, (o = .eth port false tag (.arp ip.toNat (s.reg (Reg.ETH_MAC + δ)).toNat) ∨
        o = .eth port (decide (s.fld Reg.ETH_CFG_ECN_EN δ = 1)) tag (.neighbour ip.toNat (s.reg (Reg.ETH_MAC + δ)).toNat))) ∧
    (s.frameDrops port f = false → ¬ mine → ∃ t, exec (.arpRequest port ⟨ip, f⟩) s = .next t ∧ t = { s with regs := t.regs } ∧ Claims.rose s t rx 1 ∧ Claims.regsOutside [rx] s t) ∧
    (∃ t, exec (.ethLinkDown port) s = .next t ∧ t = { s with regs := t.regs, log := t.log, power := t.power, ethPorts := t.ethPorts } ∧ t.fld Reg.ETH_STATE_LINK δ = 1 ∧
      (t.ethPort port).waiting = [] ∧ (∀ k, k ≠ port.val → t.ethPort k = s.ethPort k) ∧
      t.fld Reg.ETH_STATE_PAUSED0 δ = 0 ∧ t.fld Reg.ETH_STATE_PAUSED1 δ = 0 ∧ Claims.raised s t (ethSite port) 0x2C02) ∧
    (∀ (en : BitVec 8) (quanta : List (BitVec 16)), (s.ethPort port).pausedUntil.length = 2 → ∃ t, exec (.pfcReceived port en quanta) s = .next t ∧
      t = { s with regs := t.regs, ethPorts := t.ethPorts, out := t.out } ∧ (∀ k, k ≠ port.val → t.ethPort k = s.ethPort k) ∧ (t.ethPort port).xoffAt = (s.ethPort port).xoffAt ∧
      Claims.rose s t (Reg.ETH_STAT_PFC_RECV + δ) 1 ∧ ∀ i : Fin 2,
        let v := s.fld (prioFld i) δ
        let n := (quanta.getD v 0).toNat
        (en.getLsbD v = true → t.fld (pausedFld i) δ = (if n = 0 then 0 else 1) ∧ (t.ethPort port).pausedUntil.getD i 0 = s.tb + s.quantaNs port n) ∧
        let mine := fun (u : State) => (u.ethPort port).waiting.filter (fun x => decide (x.prio = i.val))
        (mine t = if en.getLsbD v = true ∧ n = 0 then [] else mine s) ∧
        (en.getLsbD v = false → t.fld (pausedFld i) δ = s.fld (pausedFld i) δ ∧ (t.ethPort port).pausedUntil.getD i 0 = (s.ethPort port).pausedUntil.getD i 0))) ∧
  (∀ (port : Fin 4) (i : Fin 2) (rate : Nat) (s : State), Claims.powered s →
    let δ := instDelta port
    let over' := s.fld (pausedFld i) δ = 1 ∧ (s.ethPort port).pausedUntil.getD i 0 ≤ s.tb
    let due := s.portHold port i = true ∧ (s.ethPort port).xoffAt.getD i 0 + 40000 ≤ s.tb
    let offered := rate = s.fld Reg.ETH_CFG_SPEED δ ∨ (s.fld Reg.ETH_CFG_AN_EN δ = 1 ∧ s.fld Reg.ETH_CFG_SPEED δ ≤ rate ∧ rate ≤ 2)
    let trains := s.fld Reg.ETH_CFG_ENABLE δ = 1 ∧ s.fld Reg.ETH_STATE_LINK δ = 1 ∧ offered
    (over' → ∃ t, exec (.pfcPauseExpiry port i) s = .next t ∧ t = { s with regs := t.regs, ethPorts := t.ethPorts, out := t.out } ∧ t.fld (pausedFld i) δ = 0 ∧
      Claims.regsOutside [Reg.ETH_STATE + δ, Reg.ETH_STAT_TX_FRAMES + δ, Reg.ETH_STAT_PFC_SENT + δ, Reg.ETH_STAT_NAK_SENT + δ, Reg.ETH_STAT_CNP_SENT + δ] s t ∧
      (∀ k, k ≠ port.val → t.ethPort k = s.ethPort k) ∧ (t.ethPort port).waiting = (s.ethPort port).waiting.filter (fun x => decide (x.prio ≠ i.val)) ∧
      (s.fld Reg.ETH_STATE_LINK δ = 2 → t.out = (((s.ethPort port).waiting.filter (fun x => decide (x.prio = i.val))).map
        (fun x => Out.eth port (x.frame.isIp && decide (s.fld Reg.ETH_CFG_ECN_EN δ = 1)) (s.tagOf port x.frame) x.frame)).reverse ++ s.out) ∧
      ∀ j : Fin 2, j ≠ i → t.fld (pausedFld j) δ = s.fld (pausedFld j) δ) ∧
    (¬ over' → exec (.pfcPauseExpiry port i) s = .next s) ∧
    (due → s.fld Reg.ETH_STATE_LINK δ = 2 → (s.ethPort port).xoffAt.length = 2 → ∃ t, exec (.pfcXoffRepeat port i) s = .next t ∧
      t = { s with regs := t.regs, ethPorts := t.ethPorts, out := .eth port false (s.tagOf port (.pfc i true)) (.pfc i true) :: s.out } ∧ (t.ethPort port).xoffAt.getD i 0 = s.tb ∧
      Claims.rose s t (Reg.ETH_STAT_PFC_SENT + δ) 1) ∧
    (¬ due → exec (.pfcXoffRepeat port i) s = .next s) ∧
    (trains → rate < 4 → ∃ t, exec (.ethLinkUp port rate) s = .next t ∧ t = { s with regs := t.regs } ∧ t.fld Reg.ETH_STATE_LINK δ = 2 ∧ t.fld Reg.ETH_STATE_RATE δ = rate ∧
      Claims.regsOutside [Reg.ETH_STATE + δ] s t) ∧
    (¬ trains → exec (.ethLinkUp port rate) s = .next s)) ∧
  (∀ (q : Fin 4096) (f : EthFrame) (s : State), Claims.powered s →
    let x := s.qp q
    let δ := instDelta x.port
    let kept := s.frameDrops x.port f = false
    let on := kept ∧ s.fld Reg.ETH_STATE_LINK δ = 2 ∧ x.state = 1 ∧ s.fld Reg.ETH_CFG_ECN_EN δ = 1
    let due := ∀ at', x.cnpSent = some at' → at' + 50000 ≤ s.tb
    let line := 400000 / 2 ^ s.fld Reg.ETH_STATE_RATE δ
    let others := fun (t : State) => ∀ k, k ≠ q.val → t.qp k = s.qp k
    (on → due → ∃ t, exec (.ceMarkedPacket ⟨q, f⟩) s = .next t ∧ t = { s with regs := t.regs, qps := t.qps, ethPorts := t.ethPorts, out := t.out } ∧ others t ∧
      t.qp q = { x with cnpSent := some s.tb } ∧ Claims.answers s t q x.port 0 (.cnp q)) ∧
    (¬ (on ∧ due) → exec (.ceMarkedPacket ⟨q, f⟩) s = .next s) ∧
    let counted := fun (t : State) => Claims.rose s t (Reg.ETH_STAT_CNP_RECV + δ) 1 ∧ Claims.rose s t (Reg.ETH_STAT_RX_FRAMES + δ) 1 ∧
      Claims.regsOutside [Reg.ETH_STAT_CNP_RECV + δ, Reg.ETH_STAT_RX_FRAMES + δ] s t
    (on → ∃ t, exec (.cnpReceived ⟨q, f⟩) s = .next t ∧ t = { s with regs := t.regs, qps := t.qps } ∧ others t ∧ counted t ∧
      t.qp q = { x with rate := some (max 1000 ((x.rate.getD line) / 2)), rateSince := s.tb }) ∧
    (¬ kept → s.fld Reg.ETH_STATE_LINK δ = 2 → ∃ t, exec (.cnpReceived ⟨q, f⟩) s = .next t ∧ t = { s with regs := t.regs } ∧
      Claims.rose s t (Reg.ETH_STAT_RX_DROPPED + δ) 1 ∧ Claims.rose s t (Reg.ETH_STAT_RX_FRAMES + δ) 1 ∧
      Claims.regsOutside [Reg.ETH_STAT_RX_DROPPED + δ, Reg.ETH_STAT_RX_FRAMES + δ] s t) ∧
    (kept → ¬ on → s.fld Reg.ETH_STATE_LINK δ = 2 → ∃ t, exec (.cnpReceived ⟨q, f⟩) s = .next t ∧ t = { s with regs := t.regs } ∧ counted t) ∧
    (s.fld Reg.ETH_STATE_LINK δ ≠ 2 → exec (.cnpReceived ⟨q, f⟩) s = .next s) ∧
    (∀ v, x.rate = some v → x.rateSince + 55000 ≤ s.tb → ∃ t, exec (.cnpRateRise q) s = .next t ∧ t = { s with qps := t.qps } ∧ others t ∧
      t.qp q = { x with rate := if line ≤ v + 5000 then none else some (v + 5000), rateSince := s.tb }) ∧
    ((x.rate = none ∨ s.tb < x.rateSince + 55000) → exec (.cnpRateRise q) s = .next s))

end

namespace Sys2Proof

open Sys2Proof.Machine

/-- The row of a collective command (R329). -/
def Claims.collRow (i : Issue) : Option Instr :=
  match descFld i.desc 0 0 8 with
  | 0x50 => some (.allToAll i) | 0x51 => some (.allToAllv i) | 0x52 => some (.reduceScatter i) | 0x53 => some (.allGather i)
  | 0x54 => some (.allReduce i) | 0x55 => some (.broadcast i) | 0x56 => some (.barrier i) | 0x57 => some (.fusedAllReduce i)
  | 0x58 => some (.send i) | _ => none

/-- A collective is still in the engine, changed as said. -/
def Claims.nowColl (t : State) (seq : Nat) (p : Coll → Prop) : Prop := ∃ c ∈ t.colls, c.seq = seq ∧ p c

/-- The checks of a SEND whose reserved and unused fields are zero, in their order (R314, R333). -/
def Claims.sendCode (s : State) (d : Desc) : Option Nat :=
  let src := descFld d 0x18 0 48
  let n := descFld d 8 0 40
  let q := descFld d 0x30 0 12
  if descFld d 0x30 12 16 = 0 then some 0x3106
  else if 16384 < n then some 0x3404
  else if src % 64 ≠ 0 ∨ s.inLpOrCore src (max 1 n) = false then some 0x3406
  else if s.fld Reg.QUE_CFG_TYPE (queueDelta q) ≠ 1 ∨ s.colls.any (fun c => c.active && decide (c.op ≠ 0x58) && decide (c.queue = q)) = true then some 0x340F
  else if s.fld Reg.COL_CTRL_ENABLE = 0 then some 0x3407
  else none

end Sys2Proof

section

open Sys2Proof Sys2Proof.Machine

/-- A collective is queued or refused on its counter, starts, consumes its chunks and pieces, ends on timeout, and completes once. (10_collectives.md (Collective descriptor), 10_collectives.md (Groups), 10_collectives.md (Chunks and slots), 10_collectives.md (Pipelining and backpressure), 10_collectives.md (Corruption, STEP_VOID and timeouts), 10_collectives.md (Step-end barrier and rollback), 10_collectives.md (SEND), 10_collectives.md (Teardown and fallow mode)) -/
def Obligations.CollectivesAreAcceptedMovedAndCompleted : Prop :=
  (∀ (i : Issue) (c : Instr) (s : State), Claims.engineReady s i.core → s.collRoom i.core = true → Claims.collRow i = some c →
    let ctx := s.coreContext i.core
    let part := s.ctxPartition ctx
    (∀ k, s.collCode part i.desc = some k → ∃ t, exec c s = .next t ∧ Claims.refused s t colSite (collCompletion i.desc) k) ∧
    (s.collCode part i.desc = none → ∃ t x, exec c s = .next t ∧ t = { s with regs := t.regs, colls := s.colls ++ [x], pumpSeq := s.pumpSeq + 1 } ∧
      x.seq = s.pumpSeq ∧ x.core = i.core ∧ x.context = ctx ∧ x.part = part ∧ x.desc = i.desc ∧ x.step = s.partStep part ∧ x.active = false ∧ x.ended = false ∧
      x.code = 0 ∧ x.sent = [] ∧ x.got = [] ∧ x.times = [] ∧ x.since = s.tb ∧ Claims.regsOutside [Reg.COL_STATE, Reg.COL_PART_STATEp + 8 * part] s t ∧
      ((descFld i.desc 0 0 8 = 0x56 ∧ bit (descWord i.desc 0) 40 = true ∧ s.watchError ctx ≠ 0) → t.fld Reg.COL_PART_STATEp_VOID_CUR (8 * part) = 1)) ∧
    (descFld i.desc 0 0 8 = 0x58 → collNotZero i.desc = false → s.collCode part i.desc = Claims.sendCode s i.desc)) ∧
  (∀ (i : Issue) (c : Instr) (s : State), Claims.coreRuns s → s.coreEnabled i.core = true → Claims.collRow i = some c →
    (s.collRoom i.core = false → exec c s = .next s) ∧
    (s.collRoom i.core = true → s.coreTorn i.core = true → ∃ t, exec c s = .next t ∧ Claims.refused s t colSite (collCompletion i.desc) 0x340B)) ∧
  (∀ s : State, Claims.coreRuns s →
    ((64 ≤ (s.colls.filter (fun c => c.active)).length ∨ ∀ c ∈ s.colls, c.active = true ∨ c.ended = true) → exec .collectiveStart s = .next s) ∧
    (∀ c dev, s.colls = [c] → c.active = false → c.ended = false → descFld c.desc 0 0 8 = 0x58 → s.translate c.part (descFld c.desc 0x38 0 24) = (0, some dev) →
      let src := descFld c.desc 0x18 0 48
      let n := descFld c.desc 8 0 40
      s.readCode src n = 0 → Claims.storable s src n → (∀ l, l % 64 = 0 → l < src + n → src < l + 64 → s.viewAt l = none) →
        ∃ t r, exec .collectiveStart s = .next t ∧ t = { s with regs := t.regs, bad := t.bad, colls := t.colls, nextReq := t.nextReq, outstanding := t.outstanding, injected := s.injected ++ [r] } ∧
        t.colls = [{ c with active := true, since := s.tb, moved := s.tb }] ∧ t.outstanding = s.outstanding ++ [⟨s.nextReq, .coll c.seq 0, 0x20, 0, n, s.tb⟩] ∧
        r.pkt.typ = 0x20 ∧ r.pkt.dest = dev ∧ r.pkt.addr = descFld c.desc 0x30 0 12 ∧ r.pkt.body = s.readBytes src n ∧ r.pkt.reqId = s.nextReq ∧
        r.pkt.budget = descFld c.desc 0x30 12 16) ∧
    (∀ c, s.colls = [c] → c.active = false → c.ended = false → ∃ t, exec .collectiveStart s = .next t ∧ Claims.nowColl t c.seq (fun x => x.active = true ∧ x.desc = c.desc))) ∧
  (∀ s : State, Claims.coreRuns s →
    ((∀ x ∈ s.chunkHeaders, s.headerHome x.1 = none) → exec .chunkHeaderArrive s = .next s) ∧
    (∀ x c pos k m, s.chunkHeaders = [x] → s.colls = [c] → s.headerHome x.1 = some (c, pos, k) → c.level1Move x.2 pos k = some m → m.kind = 1 →
      let n := if hdrEmpty x.2 then 0 else hdrLen x.2
      let pay := s.level1Payload c m n pos k
      let code := c.chunkCode m x.2 pay.1 pay.2
      (code = 0 → hdrPoison x.2 = false → ∃ t, exec .chunkHeaderArrive s = .next t ∧ t.chunkHeaders = [] ∧ Claims.rose s t Reg.COL_STAT_CHUNKS_RECV 1 ∧
        Claims.nowColl t c.seq (fun y => m ∈ y.got ∧
          ⟨.contribution, m.seg, m.chunk, (c.member m.frm).pos, if hdrEmpty x.2 then none else some pay.1, false⟩ ∈ y.vals)) ∧
      (code ≠ 0 → ∃ t, exec .chunkHeaderArrive s = .next t ∧ t.chunkHeaders = [] ∧ Claims.raised s t colSite code ∧ Claims.rose s t Reg.COL_STAT_CHUNKS_RECV 1 ∧
        Claims.rose s t (if code = 0x3408 then Reg.COL_STAT_CRC_FAIL else Reg.COL_STAT_MISMATCH) 1 ∧
        Claims.nowColl t c.seq (fun y => m ∈ y.got ∧ y.code ≠ 0))) ∧
    (∀ x c pos k, s.chunkHeaders = [x] → s.colls = [c] → s.headerHome x.1 = some (c, pos, k) → c.level1Move x.2 pos k = none → ∃ t, exec .chunkHeaderArrive s = .next t ∧
      t.chunkHeaders = [] ∧ Claims.raised s t colSite 0x340E ∧ Claims.rose s t Reg.COL_STAT_MISMATCH 1 ∧
      t.colls = [{ c.spoil (fun v => decide (v.what = .contribution) && decide (v.idx = pos) && decide (v.chunk % c.depth = k)) with
        code := if c.code = 0 then 0x340E else c.code }])) ∧
  (∀ (q : Fin 4096) (s : State), Claims.coreRuns s →
    ((∀ c ∈ s.colls, c.active = false ∨ c.ended = true ∨ c.queue ≠ q.val) → exec (.pieceArrive q) s = .next s) ∧
    ((s.queue q).packets = [] → exec (.pieceArrive q) s = .next s) ∧
    (∀ c p rest m, s.colls = [c] → c.active = true → c.ended = false → c.op ≠ 0x58 → c.queue = q.val → (s.queue q).packets = p :: rest →
      let h := p.payload.take 64
      let stage := (s.region c.wsRegion).base + c.slot c.stageArea m.chunk
      let at' := stage + 64 + 8192 * hdrPiece h
      p.bad = [] → c.names h = true → c.level2Move h = some m → m ∉ c.got → (∀ a ∈ c.asm, a.move ≠ m) → c.pieceBad m h h (p.payload.drop 64) [] = false → 1 < hdrPieces h →
      64 ≤ p.payload.length → Claims.storable s stage 64 → Claims.storable s at' (p.payload.length - 64) → ∃ t, exec (.pieceArrive q) s = .next t ∧ (t.queue q).packets = rest ∧ Claims.otherQueues s t q ∧
        (∀ i, i < 64 → t.readByte (stage + i) = h.getD i 0) ∧ (∀ i, i < p.payload.length - 64 → t.readByte (at' + i) = p.payload.getD (64 + i) 0) ∧
        t.colls = [{ c with asm := c.asm ++ [⟨m, h, [(hdrPiece h, p.payload.drop 64)]⟩], moved := s.tb, times := (m, s.tb) :: c.times.filter (fun x => decide (x.1 ≠ m)) }] ∧ t.counters = s.counters) ∧
    (∀ c p rest, s.colls = [c] → c.active = true → c.ended = false → c.op ≠ 0x58 → c.queue = q.val → (s.queue q).packets = p :: rest →
      let h := p.payload.take 64
      p.bad = [] →
      (c.names h = false ∨ (c.level2Move h = none ∧ c.level2Due h = none) → ∃ t, exec (.pieceArrive q) s = .next t ∧ (t.queue q).packets = rest ∧
        Claims.raised s t colSite 0x340E ∧ Claims.rose s t Reg.COL_STAT_MISMATCH 1 ∧ t.colls = [c]) ∧
      (∀ m, c.names h = true → c.level2Move h = some m → m ∈ c.got → ∃ t, exec (.pieceArrive q) s = .next t ∧ (t.queue q).packets = rest ∧
        Claims.raised s t colSite 0x340E ∧ Claims.rose s t Reg.COL_STAT_MISMATCH 1 ∧ Claims.nowColl t c.seq (fun y => y.code ≠ 0 ∧ y.got = c.got ∧
          y.vals = c.vals.map (fun v => if c.holds m v then { v with poison := true } else v))) ∧
      (∀ m, c.names h = true → c.level2Move h = none → c.level2Due h = some m →
        (c.op = 0x51 → (c.sizes.getD c.self (0, 0)).1 = (c.sizes.getD c.self (0, 0)).2) → ∃ t, exec (.pieceArrive q) s = .next t ∧ (t.queue q).packets = rest ∧
        Claims.raised s t colSite 0x340E ∧ Claims.rose s t Reg.COL_STAT_MISMATCH 1 ∧ Claims.nowColl t c.seq (fun y => m ∈ y.got ∧ y.code ≠ 0)))) ∧
  (∀ (p : Pkt) (s : State), Claims.coreRuns s →
    let h := p.body.take 64
    ((∀ c ∈ s.colls, c.active = false ∨ c.ended = true ∨ c.names h = false) → exec (.credit p) s = .next s) ∧
    (∀ c, s.colls = [c] → c.active = true → c.ended = false → c.names h = true → c.op = 0x55 → (∀ m ∈ c.sends, m ∈ c.sent) → ∃ t c', exec (.credit p) s = .next t ∧
      t = { s with regs := t.regs, colls := [c'] } ∧ c' = { c with owed := c'.owed, moved := s.tb } ∧ Claims.regsOutside [Reg.COL_STATE] s t ∧
      ∀ m, m ∈ c'.owed ↔ m ∈ c.owed ∧ ¬ (m.level = (if hdrPieces h = 0 then 1 else 2) ∧ (c.member m.dst).rank = hdrRank h ∧ m.kind = hdrKind h ∧
        m.seg = hdrSeg h ∧ m.chunk = hdrChunk h))) ∧
  (∀ (p : Pkt) (s : State), Claims.coreRuns s →
    let w := fun i => leNat ((p.body.drop (8 * i)).take 8)
    let here := fun (q : Nat) => s.rankSize q ≠ 0 ∧ s.selfRank q = bits (w 2) 0 24
    let framed := fun (t : State) => t = { s with regs := t.regs, voidNextCode := t.voidNextCode } ∧ Claims.rose s t Reg.COL_STAT_STEP_VOID_RECV 1
    let stale := ∃ t, exec (.stepVoid p) s = .next t ∧ t = { s with regs := t.regs } ∧ Claims.rose s t Reg.COL_STAT_STEP_VOID_STALE 1 ∧
      Claims.regsOutside [Reg.COL_STAT_STEP_VOID_RECV, Reg.COL_STAT_STEP_VOID_STALE] s t
    ((∀ q, q < 16 → ¬ here q) → stale) ∧
    (∀ q, q < 16 → here q → (∀ p, p < q → ¬ here p) →
      (w 0 = s.partStep q → ∃ t, exec (.stepVoid p) s = .next t ∧ framed t ∧ t.fld Reg.COL_PART_STATEp_VOID_CUR (8 * q) = 1 ∧
        (s.fld Reg.COL_PART_STATEp_VOID_CUR (8 * q) = 0 → t.fld Reg.COL_PART_STATEp_VOID_CODE (8 * q) = bits (w 1) 0 16) ∧
        Claims.regsOutside [Reg.COL_STAT_STEP_VOID_RECV, Reg.COL_PART_STATEp + 8 * q] s t) ∧
      (w 0 = s.partStep q + 1 → ∃ t, exec (.stepVoid p) s = .next t ∧ framed t ∧ t.fld Reg.COL_PART_STATEp_VOID_NEXT (8 * q) = 1 ∧
        t.fld Reg.COL_PART_STATEp_VOID_CUR (8 * q) = s.fld Reg.COL_PART_STATEp_VOID_CUR (8 * q)) ∧
      (w 0 ≠ s.partStep q → w 0 ≠ s.partStep q + 1 → stale))) ∧
  (∀ s : State, Claims.coreRuns s →
    let limit := s.fld Reg.COL_CTRL_CHUNK_TIMEOUT * 1000
    ((∀ c ∈ s.colls, c.active = false ∨ c.ended = true ∨ s.tb ≤ c.since + limit ∨ c.overdue limit s.tb = false) → exec .colTimeout s = .next s) ∧
    (∀ (c : Coll) (m : Move), c.active = true → c.ended = false → c.op ≠ 0x58 → m ∈ c.receives → m ∉ c.got → c.since + limit < s.tb → (∀ x ∈ c.times, x.2 + limit < s.tb) →
      (∀ x ∈ c.receives, x.level = m.level → x.kind = m.kind → x.earlier m = true → x ∈ c.got) → c.overdue limit s.tb = true) ∧
    (∀ c, s.colls.find? (fun c => c.overdue limit s.tb) = some c → ∃ t, exec .colTimeout s = .next t ∧ Claims.raised s t colSite 0x340A ∧
      Claims.rose s t Reg.COL_STAT_TIMEOUTS 1 ∧ Claims.nowColl t c.seq (fun x => x.ended = true ∧ x.code = (if c.code = 0 then 0x340A else c.code)) ∧
      (∀ r ∈ t.outstanding, ∀ i, r.owner ≠ .coll c.seq i) ∧ (c.part < 16 → c.step = s.partStep c.part → t.fld Reg.COL_PART_STATEp_VOID_CUR (8 * c.part) = 1))) ∧
  (∀ s : State, Claims.coreRuns s →
    ((∀ c ∈ s.colls, s.collDone c = false) → exec .collectiveComplete s = .next s) ∧
    (∀ c, s.colls.find? s.collDone = some c → c.op ≠ 0x56 → ∃ t, exec .collectiveComplete s = .next t ∧
      t = { s with regs := t.regs, colls := s.colls.filter (fun x => decide (x.seq ≠ c.seq)), counters := t.counters, free := s.free + 4 } ∧
      Claims.counted s t (collCompletion c.desc) c.code ∧ Claims.rose s t Reg.COL_STAT_OPS 1)) ∧
  (∀ (p : Fin 16) (c : Coll) (s : State), Claims.coreRuns s →
    s.colls.find? (fun c => s.collDone c && decide (c.op = 0x56) && c.stepEnd && decide (c.part = p)) = some c →
    let voided := c.ended = true ∨ ∃ v ∈ c.vals, v.what = .result ∧ v.poison = true
    let n := s.fld Reg.COL_PART_STATEp_ROLLBACKS (8 * p)
    let left := fun (t : State) => t.colls = s.colls.filter (fun x => decide (x.seq ≠ c.seq)) ∧ (∀ q : Fin 16, q ≠ p → t.partStep q = s.partStep q) ∧
      t.fld Reg.COL_PART_STATEp_VOID_NEXT (8 * p) = 0 ∧ Claims.rose s t Reg.COL_STAT_OPS 1
    (¬ voided → ∃ t, exec (.barrierOutcome p) s = .next t ∧ left t ∧ Claims.counted s t (collCompletion c.desc) 0 ∧ t.partStep p = (s.partStep p + 1) % 2 ^ 64 ∧
      t.fld Reg.COL_PART_STATEp_ROLLBACKS (8 * p) = 0 ∧ t.fld Reg.COL_PART_STATEp_VOID_CUR (8 * p) = s.fld Reg.COL_PART_STATEp_VOID_NEXT (8 * p) ∧ (t.part p).took = []) ∧
    (voided → s.fld Reg.COL_PART_CFGp_STEP_DB (8 * p) = 1 → n < s.fld Reg.COL_PART_CFGp_ROLLBACK_MAX (8 * p) → n + 1 < 2 ^ Reg.COL_PART_STATEp_ROLLBACKS.w →
      ∃ t, exec (.barrierOutcome p) s = .next t ∧ left t ∧ Claims.counted s t (collCompletion c.desc) (if c.ended then c.code else 0x3409) ∧ t.partStep p = s.partStep p ∧
      t.fld Reg.COL_PART_STATEp_ROLLBACKS (8 * p) = n + 1 ∧ t.fld Reg.COL_PART_STATEp_VOID_CUR (8 * p) = 0 ∧ Claims.rose s t Reg.COL_STAT_ROLLBACKS 1 ∧ (s.recorded p = false → Claims.memSame s t)) ∧
    (voided → s.fld Reg.COL_PART_CFGp_STEP_DB (8 * p) = 0 → (s.part p).took = [] → ∃ t, exec (.barrierOutcome p) s = .next t ∧ left t ∧ t.partStep p = s.partStep p ∧
      Claims.counted s t (collCompletion c.desc) (if c.ended then c.code else 0x3409))) ∧
  (∀ (p : Fin 16) (s : State), Claims.coreRuns s → (∀ c ∈ s.colls, c.op ≠ 0x56 ∨ c.part ≠ p.val) → exec (.barrierOutcome p) s = .next s) ∧
  (∀ (p : Pkt) (s : State), Claims.coreRuns s →
    (p.typ ≠ 0x11 → exec (.sendAck p) s = .next s) ∧
    (∀ r c, p.typ = 0x11 → s.outstanding.find? (fun x => decide (x.id = p.reqId)) = some r → r.owner = .coll c.seq 0 → s.colls = [c] → c.active = true → c.ended = false → c.op = 0x58 →
      let others := s.outstanding.filter (fun x => decide (x.id ≠ r.id))
      let mine := fun (x : Sent) => ∃ i, x.owner = .coll c.seq i
      let done := fun (t : State) (code : Nat) =>
        t = { s with regs := t.regs, colls := [], counters := t.counters, outstanding := t.outstanding, free := s.free + 4 } ∧
        Claims.counted s t (collCompletion c.desc) code ∧ Claims.rose s t Reg.COL_STAT_OPS 1 ∧ ∀ x, x ∈ t.outstanding ↔ x ∈ others ∧ ¬ mine x
      (p.code = 0 → (∃ x ∈ others, mine x) → exec (.sendAck p) s = .next { s with outstanding := others }) ∧
      (p.code = 0 → (∀ x ∈ others, ¬ mine x) → ∃ t, exec (.sendAck p) s = .next t ∧ done t c.code) ∧
      (p.code ≠ 0 → ∃ t, exec (.sendAck p) s = .next t ∧ done t (if c.code = 0 then p.code else c.code))))

end

namespace Sys2Proof

open Sys2Proof.Machine

/-- Every partition but one has the schedule and the state it had. -/
def Claims.otherParts (s t : State) (p : Nat) : Prop :=
  ∀ q : Fin 16, q.val ≠ p → t.part q = s.part q ∧ t.partState q = s.partState q ∧ t.partStep q = s.partStep q

/-- A slot start was skipped: its context is not ACTIVE in the partition (R367). -/
def Claims.slotSkipped (s t : State) (p i : Nat) : Prop :=
  t = { s with regs := t.regs, log := t.log, power := t.power, parts := t.parts } ∧ (t.part p) = { s.part p with entry := i + 1 } ∧
  Claims.raised s t (schSite p) 0x3803 ∧ Claims.rose s t (Reg.SCH_STAT_ENTRIES_SKIPPED + instDelta p) 1 ∧
  t.fld Reg.COL_PART_STATEp_VOID_CUR (8 * p) = 1

end Sys2Proof

section

open Sys2Proof Sys2Proof.Machine

/-- A frame starts when due, its RUN entries start programs and its TAKE entries copy ring entries; a context goes TEARDOWN, QUARANTINE, FREE. (11_partitions_contexts_schedule.md (Partitions), 11_partitions_contexts_schedule.md (Contexts), 11_partitions_contexts_schedule.md (The cyclic schedule table), 11_partitions_contexts_schedule.md (Slot starts and switching), 11_partitions_contexts_schedule.md (Steps, frames and the step-end barrier), 11_partitions_contexts_schedule.md (Input rings), 11_partitions_contexts_schedule.md (Context teardown)) -/
def Obligations.PartitionsRunTheirFramesAndContextsAreTornDown : Prop :=
  (∀ (req : Requester) (p : Fin 16) (v : Word) (s : State), Claims.coreRuns s → Claims.mayAccess s req →
    let quiet := fun (t : State) => t = { s with out := .csr 0 0 :: s.out }
    (s.partState p = 3 → (s.part p).stopTo = none → ∃ t, exec (.schPartStop req p 1) s = .next t ∧ t = { s with parts := t.parts, out := .csr 0 0 :: s.out } ∧
      t.part p = { s.part p with stopTo := some 1 } ∧ Claims.otherParts s t p) ∧
    ((s.partState p ≠ 3 ∨ (s.part p).stopTo ≠ none) → ∃ t, exec (.schPartStop req p 1) s = .next t ∧ quiet t) ∧
    (∃ t, exec (.schPartStop req p 0) s = .next t ∧ quiet t) ∧
    (s.partState p < 2 → ∃ t, exec (.schPartStepWrite req p v) s = .next t ∧ t = { s with regs := t.regs, pends := t.pends, out := .csr 0 0 :: s.out } ∧ t.partStep p = v.toNat ∧
      t.pends = s.pends.map (fun y => if y.via = p.val ∧ y.atStep = some v.toNat then { y with due := true } else y) ∧ Claims.regsOutside [Reg.SCH_PART_STEP + instDelta p] s t) ∧
    (2 ≤ s.partState p → ∃ t, exec (.schPartStepWrite req p v) s = .next t ∧ Claims.accessRefused s t (schSite p) 0x3810)) ∧
  (∀ (p : Fin 16) (s : State), Claims.coreRuns s →
    let x := s.part p
    let due := s.partState p = 3 ∧ s.fld Reg.MGT_BOOT_STATE ≠ 7 ∧ x.nextFrame ≤ s.tb
    let f := s.fld Reg.PWR_STATE_STRETCH
    let bar := ∃ c ∈ s.colls, c.op = 0x56 ∧ c.stepEnd = true ∧ c.part = p.val
    let begun := fun (t : State) skip => t = { s with regs := t.regs, log := t.log, power := t.power, parts := t.parts } ∧ Claims.otherParts s t p ∧
      t.part p = { x with frameAt := x.nextFrame, nextFrame := x.nextFrame + s.fld Reg.SCH_PART_FRAME_FRAME_NS (instDelta p) * f / 256, index := x.index + 1, stretch := f, entry := 0, skip := skip } ∧
      t.fld Reg.SCH_PART_STATE_FRAME (instDelta p) = x.index % 2 ^ 62 ∧ t.partState p = 3 ∧ t.partStep p = s.partStep p
    (¬ due → exec (.frameStart p) s = .next s) ∧
    (∀ st, due → s.pends = [] → x.stopTo = some st → st < 4 → ∃ t, exec (.frameStart p) s = .next t ∧ t = { s with regs := t.regs, parts := t.parts, seqs := t.seqs, free := t.free } ∧
      t.part p = { x with stopTo := none } ∧ t.partState p = st ∧ Claims.otherParts s t p ∧
      (∀ n : Fin 64, (∀ q : Fin 16, t.partState q = 0 ∨ bit (t.reg (Reg.SCH_PART_CORES + instDelta q)).toNat n = false) → t.seqActive n = false) ∧
      (∀ n : Fin 64, (∃ q : Fin 16, t.partState q ≠ 0 ∧ bit (t.reg (Reg.SCH_PART_CORES + instDelta q)).toNat n = true) → t.seq n = s.seq n ∧
        t.reg (Reg.SEQ_STATE + instDelta n) = s.reg (Reg.SEQ_STATE + instDelta n))) ∧
    (∀ y, due → s.pends = [y] → s.boundaryDue p y = true → exec (.frameStart p) s = .next ((s.applyPend y).frameBegin p)) ∧
    (due → s.pends = [] → x.stopTo = none → ¬ bar → ∃ t, exec (.frameStart p) s = .next t ∧ begun t false ∧ Claims.rose s t (Reg.SCH_STAT_FRAMES + instDelta p) 1) ∧
    (due → s.pends = [] → x.stopTo = none → bar → ∃ t, exec (.frameStart p) s = .next t ∧ begun t true ∧ Claims.raised s t (schSite p) 0x3804 ∧
      Claims.rose s t (Reg.SCH_STAT_FRAMES_SKIPPED + instDelta p) 1)) ∧
  (∀ (p : Fin 16) (s : State), Claims.coreRuns s →
    (s.dueEntry p 1 = none → exec (.slotRun p) s = .next s) ∧
    (∀ i e, s.dueEntry p 1 = some (i, e) →
      let here := s.ctxState e.ctx = 1 ∧ s.ctxPartition e.ctx = p.val
      let took := if (s.part p).took.contains e.ctx then (s.part p).took else (s.part p).took ++ [e.ctx]
      (¬ here → ∃ t, exec (.slotRun p) s = .next t ∧ Claims.slotSkipped s t p i ∧ t.seqs = s.seqs) ∧
      (here → ∃ t, exec (.slotRun p) s = .next t ∧ t = { s with regs := t.regs, log := t.log, power := t.power, parts := t.parts, seqs := t.seqs, free := t.free } ∧
        t.part p = { s.part p with entry := i + 1, took := took } ∧ Claims.rose s t (Reg.SCH_STAT_ENTRIES_RUN + instDelta p) 1 ∧
        (∀ n : Fin 64, bit e.mask n = false → t.seq n = s.seq n ∧ t.reg (Reg.SEQ_STATE + instDelta n) = s.reg (Reg.SEQ_STATE + instDelta n) ∧
          t.reg (Reg.CORE_CONTEXT + instDelta n) = s.reg (Reg.CORE_CONTEXT + instDelta n)) ∧
        (∀ n : Fin 64, bit e.mask n = true → t.coreContext n = e.ctx ∧ t.fld Reg.CORE_CONTEXT_VALID (instDelta n) = 1 ∧
          (s.seqRun n = true → t.seqPhase n = seqRunning ∧ t.seqCtx n = e.ctx ∧ t.seqPc n = e.pc ∧
            t.seq n = { seqInit with arg := e.arg, entry := e.pc, slot := i, part := p, slotStart := (s.part p).frameAt + e.offset * (s.part p).stretch / 256 } ∧
            Claims.rose s t (Reg.SEQ_STAT_PROGRAMS + instDelta n) 1) ∧
          (s.seqRun n = false → t.seqActive n = false ∧ Claims.rose s t (Reg.SEQ_STAT_NOT_RUN + instDelta n) 1 ∧ t.fld Reg.SEQ_ERR_CODE (instDelta n) = 0x100F) ∧
          (s.seqActive n = true → s.seqRun n = true → t.fld Reg.SEQ_ERR_CODE (instDelta n) = 0x100D ∧ Claims.rose s t (Reg.SEQ_STAT_OVERRUNS + instDelta n) 1))))) ∧
  (∀ (p : Fin 16) (s : State), Claims.coreRuns s →
    (s.dueEntry p 2 = none → exec (.slotTake p) s = .next s) ∧
    (∀ i e, s.dueEntry p 2 = some (i, e) →
      let here := s.ctxState e.ctx = 1 ∧ s.ctxPartition e.ctx = p.val
      let r := bits e.arg 0 4
      let m := bits e.arg 16 13
      let x := s.ring p r
      let land := x.land.toNat
      let at' := fun k => x.base.toNat + (x.take + k) % x.count * x.size
      (¬ here → ∃ t, exec (.slotTake p) s = .next t ∧ Claims.slotSkipped s t p i) ∧
      (here → x.count = 0 → s.recorded p = false → ∃ t, exec (.slotTake p) s = .next t ∧ Claims.counted s t x.counter 0x3809 ∧ Claims.raised s t (schSite p) 0x3809 ∧ Claims.memSame s t ∧
        (t.part p).entry = i + 1) ∧
      (∀ n, here → x.count ≠ 0 → s.replayed p = false → s.recorded p = false → s.readyEntries x m x.take = (n, false) → Claims.storable s land (64 + m * x.size) → x.size % 64 = 0 →
        land % 64 = 0 → (∀ k, k < n → Claims.storable s (at' k) x.size ∧ at' k % 64 = 0 ∧ Claims.disjoint (at' k) x.size land (64 + m * x.size)) → n ≤ m →
        ∃ t, exec (.slotTake p) s = .next t ∧ t = { s with regs := t.regs, mem := t.mem, scratch := t.scratch, bad := t.bad, parts := t.parts, counters := t.counters } ∧
          (∀ j, j < 64 → t.readByte (land + j) = (takeHeader (s.partStep p) ((x.take + 1) % 2 ^ 64) n i r).getD j 0) ∧
          (∀ k j, k < n → j < x.size → t.readByte (land + 64 + k * x.size + j) = s.readByte (at' k + j)) ∧
          (∀ j, n * x.size ≤ j → j < m * x.size → t.readByte (land + 64 + j) = 0) ∧
          (∀ a, (a < land ∨ land + 64 + m * x.size ≤ a) → t.readByte a = s.readByte a) ∧
          Claims.counted s t x.counter 0 ∧ (t.ring p r).take = (x.take + n) % 2 ^ 64 ∧ (t.ring p r).head = x.head ∧ (∀ q, q ≠ r → t.ring p q = s.ring p q) ∧
          Claims.rose s t (Reg.SCH_STAT_TAKEN + instDelta p) n))) ∧
  (∀ (req : Requester) (c : Fin 16384) (s : State), Claims.coreRuns s → Claims.mayAccess s req →
    let quiet := fun (t : State) => t = { s with out := .csr 0 0 :: s.out }
    (∃ t, exec (.ctxTeardown req c 0) s = .next t ∧ quiet t) ∧
    (s.ctxState c = 0 → ∃ t, exec (.ctxTeardown req c 1) s = .next t ∧ Claims.accessRefused s t (site 15 (c / 32)) 0x3C05) ∧
    (2 ≤ s.ctxState c → ∃ t, exec (.ctxTeardown req c 1) s = .next t ∧ quiet t) ∧
    (s.ctxState c = 1 → SMap.wf s.regions (fun _ => regionInit) = true → (∀ y ∈ s.pends, ∀ r, y.group ≠ .region r) → ∃ t, exec (.ctxTeardown req c 1) s = .next t ∧ t.out.head? = some (.csr 0 0) ∧ t.ctxState c = 2 ∧
      t.fld Reg.CTX_STATE_TIME (ctxDelta c) = s.tb % 2 ^ 64 / 4 ∧ t.tornOf c = ⟨s.tb, false⟩ ∧ (∀ k : Fin 16384, k ≠ c → t.ctxState k = s.ctxState k) ∧
      (∀ k, t.region k = if (s.region k).owned = true ∧ (s.region k).owner = c.val then (s.advance k).region k else s.region k) ∧
      (∀ q : Fin 4096, s.fld Reg.QUE_NOTIFY_OWNER_EN (queueDelta q) = 1 → s.fld Reg.QUE_NOTIFY_OWNER (queueDelta q) = c →
        (t.queue q).packets = [] ∧ t.fld Reg.QUE_STATE_CLOSED (queueDelta q) = 1) ∧
      (∀ n : Fin 64, s.seqCtx n = c → t.seqActive n = false) ∧ (∀ m : Fin 128, (t.mat m).queue = (s.mat m).queue.filter (fun k => decide (k.context ≠ c.val))) ∧
      (∀ n : Fin 64, (t.chain n).queue = (s.chain n).queue.filter (fun k => decide (k.context ≠ c.val))) ∧ (∀ x ∈ t.colls, x.context = c.val → x.ended = true) ∧
      t.fills = s.fills.filter (fun f => decide (f.ctx ≠ c.val)))) ∧
  (∀ (c : Fin 16384) (s : State), Claims.coreRuns s →
    let busy := (∃ x ∈ s.colls, x.context = c.val) ∨ (∃ x ∈ s.pumps, x.context = c.val ∧ x.core ≠ none ∧ x.cancelled = 0) ∨
      (∃ j : Fin 4, (∃ w, (s.router j).win = some w ∧ w.context = c.val) ∨ ∃ x ∈ (s.router j).unacked, x.2.2.2 = c.val)
    let others := fun (t : State) => ∀ k : Fin 16384, k ≠ c → t.ctxState k = s.ctxState k
    (s.ctxState c = 2 → ¬ busy → ∃ t, exec (.contextQuarantine c) s = .next t ∧ t = { s with regs := t.regs, ras := t.ras } ∧ t.ctxState c = 3 ∧ others t ∧
      ∀ e, e ∈ t.ras.escs ↔ e ∈ s.ras.escs ∧ ¬ (e.level = 1 ∧ e.cls = 15 ∧ e.inst = c.val)) ∧
    ((s.ctxState c ≠ 2 ∨ busy) → exec (.contextQuarantine c) s = .next s) ∧
    (let slow := s.ctxState c = 2 ∧ (s.tornOf c).slow = false ∧ (s.tornOf c).at_ + 20000 < s.tb
     (¬ slow → exec (.ctxTeardownSlow c) s = .next s) ∧
     (slow → ¬ busy → ∃ t, exec (.ctxTeardownSlow c) s = .next t ∧ t = { s with regs := t.regs, log := t.log, power := t.power, torn := t.torn } ∧
       t.tornOf c = { s.tornOf c with slow := true } ∧ Claims.raised s t (site 15 (c / 32)) 0x3C06) ∧
     (slow → (∀ x ∈ s.colls, x.context ≠ c.val) → (∃ x ∈ s.pumps, x.context = c.val ∧ x.core ≠ none ∧ x.cancelled = 0) →
       (∀ j : Fin 4, s.routerHolds j c = false) → SMap.find? s.ras.engineResets (12 * 1024) = none → s.merges 2 12 0 = false → ∃ t, exec (.ctxTeardownSlow c) s = .next t ∧ Claims.raised s t (site 15 (c / 32)) 0x3C06 ∧
       Claims.triggered s t 2 12 0 0x3C06 9 ∧ t.pumps = s.pumps)) ∧
    (let over' := s.ctxState c = 3 ∧ (s.tornOf c).at_ + 8388480 ≤ s.tb
     (over' → ∃ t, exec (.contextFree c) s = .next t ∧ t = { s with regs := t.regs, torn := t.torn } ∧ t.ctxState c = 0 ∧ others t) ∧
     (¬ over' → exec (.contextFree c) s = .next s)))

end

namespace Sys2Proof

open Sys2Proof.Machine

/-- The first new packet is the ACK of a LAUNCH (phase 0) or GO (phase 1) to its sender (R389). -/
def Claims.acked (s t : State) (k : Pkt) (job index phase code more : Nat) : Prop :=
  ∃ r rest, t.injected = s.injected ++ r :: rest ∧ rest.length = more ∧ r.pkt.typ = 0x30 ∧ r.pkt.dest = k.src ∧ bits r.pkt.tag 24 16 = 4 ∧
    r.pkt.body = leBytes 4 job ++ leBytes 4 index ++ leBytes 2 phase ++ leBytes 2 code ++ leBytes 4 0

/-- Only packets were sent. -/
def Claims.onlySent (s t : State) : Prop := t = { s with injected := t.injected, nextReq := t.nextReq }

/-- The launch of an instance was aborted with a code, the partition of a MEMBER ARMED before or not; one launch is counted once
(R391 to R393). -/
def Claims.launchDropped (s t : State) (p job code : Nat) : Prop :=
  t.launchPhase p = 5 ∧ t.fld Reg.SCH_LAUNCH_STATE_CODE (instDelta p) = code ∧ job ∈ (t.launch p).aborted ∧
  Claims.rose s t (Reg.SCH_STAT_ABORTS + instDelta p) (if job ≠ 0 ∧ job ∈ (s.launch p).aborted then 0 else 1) ∧
  (job ≠ 0 → (s.launch p).job = job → (t.launch p).job = 0 ∧ (t.launch p).tStart = none ∧
    t.partState p = if (s.launch p).member = true ∧ s.partState p = 2 then 1 else s.partState p) ∧
  ((job = 0 ∨ (s.launch p).job ≠ job) → (t.launch p).job = (s.launch p).job ∧ t.partState p = s.partState p) ∧
  t = { s with regs := t.regs, log := t.log, power := t.power, launches := t.launches, injected := t.injected, nextReq := t.nextReq }

/-- GO has been taken: the start time stands in the launch, and a MEMBER has its T0 and its step (R390). -/
def Claims.goTaken (s t : State) (p : Nat) (m : Manifest) (at' : Nat) : Prop :=
  (t.launch p).tStart = some at' ∧ t.launchPhase p = 3 ∧ (m.member = false → t.pends = s.pends) ∧
  (m.member = true → t.pends = s.pends.map (fun y => if y.via = p ∧ y.atStep = some m.startStep then { y with due := true } else y)) ∧ (m.member = true → t.reg (Reg.SCH_PART_T0 + instDelta p) = BitVec.ofNat 64 at' ∧
    t.partStep p = m.startStep % 2 ^ 64)

/-- What a launch changes outside registers and packets. -/
def Claims.launchFrame (s t : State) (p : Nat) : Prop :=
  t = { s with regs := t.regs, launches := t.launches, injected := t.injected, nextReq := t.nextReq, pends := t.pends } ∧ ∀ q, q ≠ p → t.launch q = s.launch q

/-- The code with which a launch is turned away at this device (R390, R415). -/
def Claims.launchRefusal (s : State) (p : Nat) (m : Manifest) : Nat :=
  if m.member = false then 0
  else if s.partState p ≠ 1 ∨ s.fld Reg.SCH_PART_CFG_START_MODE (instDelta p) ≠ 1 then 0x380C
  else if s.fld Reg.CLK_TB_STATE_LOCKED ≠ 1 then 0x5805
  else 0

end Sys2Proof

section

open Sys2Proof Sys2Proof.Machine

/-- LAUNCH arms members and is acknowledged, READY from all brings GO, GO sets T0 and step, ABORT and each timeout undo it with their codes. (11_partitions_contexts_schedule.md (Job launch), 12_reproducibility.md (The start barrier), 11_partitions_contexts_schedule.md (Partitions)) -/
def Obligations.JobsLaunchThroughTheTree : Prop :=
  (∀ (p : Fin 16) (req : Requester) (s : State), Claims.coreRuns s → Claims.mayAccess s req →
    let go := Instr.launchStart p (some req)
    let answered := fun (t u : State) => t = { u with out := .csr 0 0 :: s.out }
    (s.manifest p = none → (s.manifestJob p = 0 ∨ (s.launch p).job ≠ s.manifestJob p) → ∃ t u, exec go s = .next t ∧ answered t u ∧ u.out = s.out ∧
      Claims.raised (s.noteManifest p) u (schSite p) 0x380B ∧ Claims.launchDropped (s.noteManifest p) u p (s.manifestJob p) 0x380B) ∧
    (∀ m code, s.manifest p = some m → code = (if m.self ≠ 0 then 0x380B else if (s.launch p).aborted.contains m.job then 0x380E else Claims.launchRefusal s p m) →
      (code ≠ 0 → ((s.launch p).job ≠ m.job ∨ s.partState p ≠ 3) → ∃ t u, exec go s = .next t ∧ answered t u ∧ u.out = s.out ∧ Claims.raised s u (launchSite p code) code ∧
        Claims.launchDropped s u p m.job code) ∧
      (code = 0 →
        let all := ∀ i ∈ m.members, i = 0 ∧ m.member = true
        ∃ t u, exec go s = .next t ∧ answered t u ∧ u.out = s.out ∧ Claims.launchFrame s u p ∧ (u.launch p).job = m.job ∧
        (m.member = true → u.partState p = 2) ∧ (m.member = false → u.partState p = s.partState p) ∧
        (all → Claims.goTaken s u p m (s.tb + s.fld Reg.SCH_LAUNCH_CFG_LEAD_US (instDelta p) * 1000)) ∧
        (¬ all → (u.launch p).tStart = none ∧ u.pends = s.pends ∧ (u.launch p).waits = (m.children 0).map (fun e => ⟨e, 0, s.tb⟩) ∧
          u.launchPhase p = (if m.member then 2 else 1) ∧ u.injected.length = s.injected.length + (m.children 0).length)))) ∧
  (∀ (p : Fin 16) (s : State), Claims.coreRuns s →
    let q := s.fld Reg.SCH_LAUNCH_CFG_QUEUE (instDelta p)
    let start := Instr.launchStart p none
    let mine := fun (x : Packet) => x.bad = [] ∧ 4 ≤ x.payload.length ∧ leNat (x.payload.take 4) = s.manifestJob p
    ((s.fld Reg.SCH_LAUNCH_CFG_QUEUE_EN (instDelta p) = 0 ∨ s.manifestJob p = 0 ∨ (s.queue q).packets = []) → exec start s = .next s) ∧
    (∀ before x rest, s.fld Reg.SCH_LAUNCH_CFG_QUEUE_EN (instDelta p) = 1 → s.manifestJob p ≠ 0 → (s.queue q).packets = before ++ x :: rest → mine x →
      (∀ y ∈ before.drop (if (s.queue q).consumed = 0 then 0 else 1), y.bad = [] ∧ ¬ mine y) → (before = [] → (s.queue q).consumed = 0) → ∃ t u,
        exec start s = .next t ∧ Claims.rose s u (Reg.QUE_STAT_POPS + queueDelta q) 1 ∧ u = { s with regs := u.regs, queues := u.queues, ethPorts := u.ethPorts, out := u.out } ∧ (u.queue q).packets = before ++ rest ∧ Claims.otherQueues s u q ∧
        exec (.launchStart p (some .mc)) u = .next { t with out := .csr 0 0 :: t.out })) ∧
  (∀ (k : Pkt) (s : State), Claims.coreRuns s →
    let job := pktJob k
    (s.launchInstance job = none → ∃ t, exec (.launch k) s = .next t ∧ Claims.onlySent s t ∧ Claims.acked s t k job 0 0 0x380B 0) ∧
    (∀ p, s.launchInstance job = some p → s.manifest p = none → ∃ t, exec (.launch k) s = .next t ∧ Claims.acked s t k job 0 0 0x380B 0 ∧ Claims.raised (s.noteManifest p) t (schSite p) 0x380B ∧
      t.launches = s.launches ∧ t.parts = s.parts) ∧
    (∀ p m, s.launchInstance job = some p → s.manifest p = some m →
      let known := m.job ∈ (s.launch p).aborted
      let code := if leNat ((k.body.drop 8).take 4) ≠ m.crc then 0x380B else Claims.launchRefusal s p m
      (known → ∃ t, exec (.launch k) s = .next t ∧ Claims.onlySent s t ∧ Claims.acked s t k m.job m.self 0 0x380E 0) ∧
      (¬ known → code ≠ 0 → ∃ t, exec (.launch k) s = .next t ∧ Claims.acked s t k m.job m.self 0 code 0 ∧
        Claims.raised s t (launchSite p code) code ∧ t = { s with regs := t.regs, log := t.log, power := t.power, injected := t.injected, nextReq := t.nextReq }) ∧
      (¬ known → code = 0 → ∃ t, exec (.launch k) s = .next t ∧ Claims.launchFrame s t p ∧ t.pends = s.pends ∧
        Claims.acked s t k m.job m.self 0 0 ((m.children m.self).length + (if m.member then 1 else 0)) ∧ (t.launch p).job = m.job ∧ (t.launch p).tStart = none ∧
        (t.launch p).waits = (m.children m.self).map (fun e => ⟨e, 0, s.tb⟩) ∧ t.launchPhase p = (if m.member then 2 else 1) ∧
        t.partState p = (if m.member then 2 else s.partState p)))) ∧
  (∀ (k : Pkt) (s : State), Claims.coreRuns s →
    let job := pktJob k
    let code := leNat ((k.body.drop 8).take 2)
    (s.launchRunning job = none → exec (.launchAck k) s = .next s ∧ exec (.ready k) s = .next s) ∧
    (∀ p m, s.launchRunning job = some (p, m) →
      (∃ t, exec (.launchAck k) s = .next t ∧ t = { s with launches := t.launches } ∧ (∀ q, q ≠ p → t.launch q = s.launch q) ∧
        t.launch p = { s.launch p with waits := (s.launch p).waits.filter (fun w => decide (¬ (w.entry = pktEntry k ∧ w.phase = code))) }) ∧
      ((m.self ≠ 0 ∨ (s.launch p).tStart ≠ none) → exec (.ready k) s = .next s) ∧
      (m.self = 0 → (s.launch p).tStart = none → code ≠ 0 → s.partState p ≠ 3 → ∃ t, exec (.ready k) s = .next t ∧ Claims.launchDropped s t p m.job code ∧
        Claims.raised s t (launchSite p code) code ∧ t.injected.length = s.injected.length + (m.entries.length - 1)) ∧
      (m.self = 0 → (s.launch p).tStart = none → code = 0 → m.entries ≠ [] →
        let all := ∀ i ∈ m.members, i ∈ (s.launch p).ready ∨ i = pktEntry k
        ∃ t, exec (.ready k) s = .next t ∧ Claims.launchFrame s t p ∧ (∀ i, i ∈ (t.launch p).ready ↔ i ∈ (s.launch p).ready ∨ i = pktEntry k) ∧
          (all → Claims.goTaken s t p m (s.tb + s.fld Reg.SCH_LAUNCH_CFG_LEAD_US (instDelta p) * 1000) ∧ t.injected.length = s.injected.length + (m.children 0).length) ∧
          (¬ all → t.regs = s.regs ∧ t.pends = s.pends ∧ t.injected = s.injected ∧ (t.launch p).tStart = none)))) ∧
  (∀ (k : Pkt) (s : State), Claims.coreRuns s →
    let job := pktJob k
    let at' := leNat ((k.body.drop 8).take 8)
    (s.launchInstance job = none → ∃ t, exec (.go k) s = .next t ∧ Claims.onlySent s t ∧ Claims.acked s t k job 0 1 0x380B 0) ∧
    (∀ p m, s.launchInstance job = some p → s.manifest p = some m →
      let known := m.job ∈ (s.launch p).aborted
      let wrong := (s.launch p).job ≠ m.job ∨ (m.member = true ∧ (s.launch p).tStart = none ∧ s.partState p ≠ 2)
      (known → ∃ t, exec (.go k) s = .next t ∧ Claims.onlySent s t ∧ Claims.acked s t k m.job m.self 1 0x380E 0) ∧
      (¬ known → wrong → ∃ t, exec (.go k) s = .next t ∧ Claims.onlySent s t ∧ Claims.acked s t k m.job m.self 1 0x380C 0) ∧
      (¬ known → ¬ wrong → (s.launch p).tStart ≠ none → ∃ t, exec (.go k) s = .next t ∧ Claims.onlySent s t ∧ Claims.acked s t k m.job m.self 1 0 0) ∧
      (¬ known → ¬ wrong → (s.launch p).tStart = none → m.member = true → at' ≤ s.tb + 1000 → m.self < m.entries.length → ∃ t, exec (.go k) s = .next t ∧
        Claims.acked s t k m.job m.self 1 0 (m.entries.length - 1) ∧ Claims.raised s t detSite 0x5806 ∧ Claims.launchDropped s t p m.job 0x5806) ∧
      (¬ known → ¬ wrong → (s.launch p).tStart = none → (m.member = false ∨ s.tb + 1000 < at') → ∃ t, exec (.go k) s = .next t ∧ Claims.launchFrame s t p ∧
        Claims.acked s t k m.job m.self 1 0 (m.children m.self).length ∧ Claims.goTaken s t p m at' ∧ t.partState p = s.partState p))) ∧
  (∀ (k : Pkt) (s : State), Claims.coreRuns s →
    let job := pktJob k
    let code := leNat ((k.body.drop 8).take 2)
    (s.launchInstance job = none → exec (.abort k) s = .next s) ∧
    (∀ p, s.launchInstance job = some p → (s.partState p ≠ 3 ∨ (s.launch p).job ≠ job ∨ (s.launch p).member = false) → ∃ t, exec (.abort k) s = .next t ∧ Claims.raised s t (schSite p) 0x380E ∧
      Claims.launchDropped s t p job code) ∧
    (∀ p, s.launchInstance job = some p → s.partState p = 3 → (s.launch p).job = job → (s.launch p).member = true → (∀ st, (s.part p).stopTo = some st → st < 2) → ∃ t, exec (.abort k) s = .next t ∧
      t.partState p = (s.part p).stopTo.getD 1 ∧ (t.part p).stopTo = none ∧
      (t.launch p).job = 0 ∧ job ∈ (t.launch p).aborted ∧ ∀ c : Fin 16384, s.ctxState c = 1 → bits (s.reg (Reg.CTX_DESC0 + ctxDelta c)).toNat 32 32 = job → t.ctxState c = 2)) ∧
  (∀ (p : Fin 16) (s : State), Claims.coreRuns s →
    let x := s.launch p
    let us := fun (f : Fld) => s.fld f (instDelta p) * 1000
    ((s.launchRunning x.job = none ∨ ∀ w ∈ x.waits, s.tb ≤ w.since + us Reg.SCH_LAUNCH_CFG_CHILD_TIMEOUT_US) → exec (.childTimeout p) s = .next s) ∧
    (∀ m w, s.launchRunning x.job = some (p.val, m) → x.waits.find? (fun w => decide (w.since + us Reg.SCH_LAUNCH_CFG_CHILD_TIMEOUT_US < s.tb)) = some w →
      ((m.entry w.entry).forwarder = true → ∃ t, exec (.childTimeout p) s = .next t ∧ Claims.launchFrame s t p ∧ t.pends = s.pends ∧ t.regs = s.regs ∧
        (t.launch p).waits = x.waits.filter (fun v => decide (v ≠ w)) ++ (m.children w.entry).map (fun e => ⟨e, w.phase, s.tb⟩) ∧
        t.injected.length = s.injected.length + (m.children w.entry).length) ∧
      ((m.entry w.entry).forwarder = false → s.partState p ≠ 3 → ∃ t, exec (.childTimeout p) s = .next t ∧ Claims.raised s t (schSite p) 0x380D ∧
        Claims.launchDropped s t p m.job 0x380D)) ∧
    (∀ m, s.launchRunning x.job = some (p.val, m) → m.self = 0 → x.tStart = none → x.since + us Reg.SCH_LAUNCH_CFG_READY_TIMEOUT_US < s.tb → s.partState p ≠ 3 →
      ∃ t, exec (.readyTimeout p) s = .next t ∧ Claims.raised s t (schSite p) 0x380D ∧ Claims.launchDropped s t p m.job 0x380D) ∧
    ((s.launchRunning x.job = none ∨ x.tStart ≠ none ∨ s.tb ≤ x.since + us Reg.SCH_LAUNCH_CFG_READY_TIMEOUT_US) → exec (.readyTimeout p) s = .next s) ∧
    (let lost := s.partState p = 2 ∧ x.tStart = none ∧ x.since + 2 * us Reg.SCH_LAUNCH_CFG_READY_TIMEOUT_US < s.tb
     (lost → ∃ t, exec (.schNoGo p) s = .next t ∧ t = { s with regs := t.regs, log := t.log, power := t.power, launches := t.launches } ∧ t.partState p = 1 ∧
       t.launchPhase p = 0 ∧ (t.launch p).job = 0 ∧ Claims.raised s t (schSite p) 0x380F) ∧
     (¬ lost → exec (.schNoGo p) s = .next s)) ∧
    (∀ at', x.tStart = some at' → s.partState p = 2 → at' ≤ s.tb → ∃ t, exec (.tStartReached p) s = .next t ∧ t.partState p = 3 ∧ t.launchPhase p = 4 ∧
      (t.part p).frameAt = at' ∧ (t.part p).nextFrame = at' ∧ (t.part p).index = 0 ∧ (t.part p).stopTo = none ∧ Claims.rose s t (Reg.SCH_STAT_LAUNCHES + instDelta p) 1 ∧
      (s.recorded p = false → Claims.memSame s t)) ∧
    ((x.tStart = none ∨ s.partState p ≠ 2 ∨ ∃ at', x.tStart = some at' ∧ s.tb < at') → exec (.tStartReached p) s = .next s))

end

namespace Sys2Proof

open Sys2Proof.Machine

/-- A block has raised a code, and nothing but error and statistics registers, the log and the alert has changed. -/
def Claims.onlyRaised (s t : State) (x : Site) (code : Nat) : Prop :=
  t = { s with regs := t.regs, log := t.log, power := t.power } ∧ Claims.raised s t x code

/-- The code of the first check of a fill that fails, its descriptor `d` at `addr`, 0 where all pass (R403). -/
def Claims.fillChecks (s : State) (req : Requester) (addr : Nat) (d : Desc) : Nat :=
  let c := descFld d 8 0 14
  let dest := descFld d 0x28 0 48
  let blocks := descFld d 0x20 0 33
  if descFld d 0 0 8 ≠ 0x60 ∨ reservedClear d fillMasks 8 = false ∨ (descFld d 0 8 1 = 0 ∧ descWord d 2 ≠ 0) then 0x5801
  else if 2 ^ 32 < descFld d 0x18 0 32 + blocks then 0x5804
  else if addr % 64 ≠ 0 ∨ s.fillSpace addr 64 = false ∨ dest % 64 ≠ 0 ∨ s.fillSpace dest (64 * blocks) = false then 0x5802
  else if s.ctxState c ≠ 1 ∨ (∃ n, req = .seq n ∧ s.coreContext n ≠ c) then 0x5803
  else if s.fld Reg.DET_CTRL_RNG_EN = 0 then 0x580D
  else 0

/-- An entry of the error log that the flash does not hold yet. -/
def Claims.notFlashed (s : State) (e : LogEntry) : Prop :=
  s.log.flashed ≤ e.seq ∧ ∀ f ∈ s.flash.log, entrySeq f ≠ e.seq

end Sys2Proof

section

open Sys2Proof Sys2Proof.Machine

/-- Fills are checked, queued and write the keystream; the flash log, MGT_ALERT, MGT_LOG_DATA3 and the sensor hub do as their rules say. (12_reproducibility.md (Keyed randomness), 13_boot_management_monitor.md (The error log), 14_power_thermal_clocks.md (Sensors and measured power)) -/
def Obligations.FillsLogsAndSensorsAct : Prop :=
  (∀ (req : Requester) (v : Word) (s : State), Claims.coreRuns s → Claims.mayAccess s req →
    let d := bytesToDesc 8 (s.fetch v.toNat 64)
    let k := Claims.fillChecks s req v.toNat d
    let held := s.descriptorHeld v.toNat = true
    let f : Fill := { ctx := descFld d 8 0 14, stage := descFld d 0 32 32,
                      step := if descFld d 0 8 1 = 1 then descWord d 2 else s.partStep (s.ctxPartition (descFld d 8 0 14)),
                      first := descFld d 0x18 0 32, blocks := descFld d 0x20 0 33, dest := descFld d 0x28 0 48, completion := descFld d 0x30 0 14, since := s.tb }
    (2 ^ 48 ≤ v.toNat → ∃ t, exec (.detRngFill req v) s = .next t ∧ Claims.accessRefused s t detSite 0x0001) ∧
    (v.toNat < 2 ^ 48 → 64 ≤ s.fills.length → ∃ t, exec (.detRngFill req v) s = .next t ∧ Claims.accessRefused s t detSite 0x580C) ∧
    (v.toNat < 2 ^ 48 → s.fills.length < 64 → ¬ held →
      ∃ t, exec (.detRngFill req v) s = .next t ∧ t.out = .csr 0 0 :: s.out ∧ Claims.onlyRaised { s with out := t.out } t detSite 0x5802) ∧
    (v.toNat < 2 ^ 48 → s.fills.length < 64 → held → s.readCode v.toNat 64 ≠ 0 → ∃ t, exec (.detRngFill req v) s = .next t ∧
      t.out = .csr (s.readCode v.toNat 64) 0 :: s.out ∧ t.fills = s.fills ∧ t.counters = s.counters) ∧
    (v.toNat < 2 ^ 48 → s.fills.length < 64 → held → s.readCode v.toNat 64 = 0 → s.readSilent v.toNat 64 = true → k ≠ 0 →
      ∃ t, exec (.detRngFill req v) s = .next t ∧ t.out = .csr 0 0 :: s.out ∧ Claims.refused { s with out := t.out } t detSite (descFld d 0x30 0 14) k) ∧
    (v.toNat < 2 ^ 48 → s.fills.length < 64 → held → s.readCode v.toNat 64 = 0 → s.readSilent v.toNat 64 = true → k = 0 →
      exec (.detRngFill req v) s = .next { s with fills := s.fills ++ [f], out := .csr 0 0 :: s.out })) ∧
  (∀ s : State, Claims.coreRuns s →
    (s.fills = [] → exec .fillComplete s = .next s) ∧
    (∀ f rest, s.fills = f :: rest → f.dest % 64 = 0 → Claims.storable s f.dest (64 * f.blocks) →
      ∃ t, exec .fillComplete s = .next t ∧
        t = { s with regs := t.regs, mem := t.mem, scratch := t.scratch, bad := t.bad, counters := t.counters, fills := t.fills } ∧
        (rest = [] → t.fills = []) ∧ (∀ g r, rest = g :: r → t.fills = { g with since := s.tb } :: r) ∧
        (∀ j i, j < f.blocks → i < 64 → t.readByte (f.dest + 64 * j + i) = (keystream (s.ctxSeed f.ctx) f.ctx f.stage f.step (f.first + j)).getD i 0) ∧
        (∀ a, (a < f.dest ∨ f.dest + 64 * f.blocks ≤ a) → t.readByte a = s.readByte a) ∧
        Claims.counted s t f.completion 0 ∧ Claims.rose s t Reg.DET_STAT_FILL_BLOCKS f.blocks ∧ Claims.regsOutside [Reg.DET_STAT_FILL_BLOCKS] s t)) ∧
  (∀ (fails : Bool) (s : State), s.pins.pwrGood = true →
    let high := ∃ e ∈ s.log.entries, Claims.notFlashed s e ∧ 2 ≤ e.severity
    let late := (128 ≤ (s.unflashed.filter (fun e => decide (e.severity < 2))).length) ∨
      ∃ e ∈ s.log.entries, Claims.notFlashed s e ∧ e.severity < 2 ∧ e.time + 60000000000 ≤ s.tb
    (∀ e, e ∈ s.unflashed ↔ e ∈ s.log.entries ∧ Claims.notFlashed s e) ∧
    (¬ high → ¬ late → exec (.flashLogBatch fails) s = .next s) ∧
    ((high ∨ late) → (fails = true ∨ s.flash.good = false) → ∃ t, exec (.flashLogBatch fails) s = .next t ∧ Claims.onlyRaised s t mgtSite 0x4C11) ∧
    ((high ∨ late) → s.flash.good = true → s.flash.log.length + s.unflashed.length ≤ 393216 → ∃ t, exec (.flashLogBatch false) s = .next t ∧
      t = { s with regs := t.regs, flash := t.flash, log := t.log } ∧ (∃ n, t.flash = { s.flash with log := t.flash.log, writing := some (.log n, s.tb) }) ∧ t.log = { s.log with flashed := t.log.flashed } ∧
      Claims.rose s t Reg.MGT_STAT_FLASH_COMMITS 1 ∧ Claims.regsOutside [Reg.MGT_STAT_FLASH_COMMITS] s t ∧
      (late → t.flash.log = s.unflashed.map LogEntry.bytes ++ s.flash.log ∧ t.log.flashed = s.log.nextSeq) ∧
      (¬ late → t.flash.log = (s.unflashed.filter (fun e => decide (2 ≤ e.severity))).map LogEntry.bytes ++ s.flash.log ∧ t.log.flashed = s.log.flashed))) ∧
  (∀ (req : Requester) (s : State), s.pins.pwrGood = true → Claims.mayAccess s req →
    (∃ t, exec (.mgtAlertRead req) s = .next t ∧ t = { s with regs := t.regs, out := .csr 0 (s.reg Reg.MGT_ALERT).toNat :: s.out } ∧
      t.fld Reg.MGT_ALERT_VALID = 0 ∧ t.fld Reg.MGT_ALERT_CODE = 0 ∧ t.fld Reg.MGT_ALERT_COUNT = 0 ∧ Claims.regsOutside [Reg.MGT_ALERT] s t) ∧
    (∃ t, exec (.mgtLogData3Read req) s = .next t ∧
      t = { s with regs := t.regs, out := .csr 0 (leNat ((s.logEntry (s.fld Reg.MGT_LOG_SEL_SEQ)).drop 24)) :: s.out } ∧
      t.fld Reg.MGT_LOG_SEL_SEQ = (s.fld Reg.MGT_LOG_SEL_SEQ + 1) % 2 ^ 32 ∧ Claims.regsOutside [Reg.MGT_LOG_SEL] s t)) ∧
  (∀ (vals : List (Nat × BitVec 16)) (s : State), s.pins.pwrGood = true →
    ∃ t, exec (.sensorSample vals) s = .next t ∧
      t = { s with regs := t.regs, log := t.log, power := t.power, sensors := t.sensors, mem := t.mem, scratch := t.scratch } ∧
      (∀ i, t.sensor i = if i ∈ sensorIds then (match vals.find? (fun x => decide (x.1 = i)) with
        | some x => ⟨x.2.toNat, true, s.tb⟩ | none => { s.sensor i with ok := false }) else s.sensor i) ∧
      t.power.poweredMs = s.power.poweredMs + 1 ∧ t.log.mirrored = t.log.nextSeq ∧
      (∀ x, vals.find? (fun x => decide (x.1 = 0x2A)) = some x →
        t.power.samples = (x.2.toNat :: s.power.samples).take 1000 ∧
        t.fld Reg.PWR_STATE_AVG_W = t.power.samples.sum / (10 * t.power.samples.length) % 2 ^ 11 ∧
        t.power.usedMs = (if 11000 < x.2.toNat then s.power.usedMs + 1 else s.power.usedMs)) ∧
      (vals.find? (fun x => decide (x.1 = 0x2A)) = none → t.power.samples = s.power.samples ∧ t.power.usedMs = s.power.usedMs) ∧
      (t.atMaximum = true → t.power.sTh = 1024) ∧ (t.atMaximum = false → t.power.sTh = s.power.sTh) ∧
      (t.log.entries = s.log.entries → (∀ e ∈ s.log.entries, e.seq < s.log.mirrored) → Claims.memSame s t))

end

namespace Sys2Proof

open Sys2Proof.Machine

/-- A boot's records but for SEQ loads, CSR writes and commits are passed over, every array may be out of service, and no DET class is named:
an image with which no stage stops (R422, R425, R427, R428). -/
def Claims.plainImage (h cfg : Bytes) : Prop :=
  (∀ x ∈ sectionRecords true (cfg.length / 16 + 1) 0 0 cfg, ∃ r, x.2.2 = some r ∧ r.typ ∉ [1, 2, 5]) ∧ chunkTableGood h cfg = true ∧
  (∀ m, m < 128 → imgArrayReq h m = 2) ∧ hdrNat h 0x28 8 = 0 ∧ hdrNat h 0x14 4 = 0

/-- A boot has reached RUNNING with an image (R425): the core die is on, each channel trained but the dead ones, the image named. -/
def Claims.booted (s t : State) (cold : Bool) (h cfg : Bytes) (dead : List (Fin 384)) : Prop :=
  t.fld Reg.MGT_BOOT_STATE = 6 ∧ t.fld Reg.MGT_BOOT_CODE = 0 ∧ t.fld Reg.MGT_BOOT_WARM = (if cold then 0 else 1) ∧ t.mgmt.boot = none ∧
  t.coreOn = true ∧ t.tb = s.tb ∧ t.mgmt.header = h ∧ t.mgmt.config = cfg ∧ (t.reg Reg.DET_IMAGE_ID).toNat = hdrNat h 8 8 ∧
  t.fld Reg.SEC_SVN_IMAGE = imgSvn h % 128 ∧ t.ras.escs = s.ras.escs.filter (fun e => decide (e.level ≠ 4 ∧ e.level ≠ 5)) ∧ t.fuses = s.fuses ∧
  (∀ c : Fin 384, t.fld Reg.MCH_STATE_TRAINED (instDelta c) = (if c ∈ dead then 0 else 1) ∧ t.fld Reg.MCH_STATE_SELF_REFRESH (instDelta c) = 0 ∧
    (c ∈ dead → t.fld Reg.MCH_STATE_DEAD (instDelta c) = 1)) ∧
  (Claims.quiet s → (∀ m : Fin 128, (s.mat m).running = []) → ∀ a, a < generalSize → t.readByte a = s.readByte a)

/-- A boot has no valid image: RECOVERY with a code, every Salax port training as one port (R431, R432). -/
def Claims.recovering (s t : State) (k : Nat) : Prop :=
  t.fld Reg.MGT_BOOT_STATE = 8 ∧ t.fld Reg.MGT_BOOT_CODE = k ∧ Claims.raised s t mgtSite k ∧ t.mgmt.boot = none ∧ t.mgmt.load = [] ∧
  t.mgmt.asking = none ∧ t.coreOn = false ∧ (∀ n : Fin 16, (t.reg (Reg.LNK_CFG + instDelta n)).toNat = 1 ∧ t.lportState (2 * n) = 2)

/-- A boot is HELD with a code and a record (R426). -/
def Claims.held (s t : State) (k i : Nat) : Prop :=
  t.fld Reg.MGT_BOOT_STATE = 7 ∧ t.fld Reg.MGT_BOOT_CODE = k ∧ t.fld Reg.MGT_BOOT_RECORD = i ∧ Claims.raised s t mgtSite k ∧ t.mgmt.boot = none

/-- A control packet of some type went to the device at the other end of a link; no other port has changed (R432). -/
def Claims.toNeighbour (s t : State) (l ctype : Nat) (body : Bytes) : Prop :=
  t.nextReq = (s.nextReq + 1) % 2 ^ 24 ∧ (∀ k, k ≠ l → t.lport k = s.lport k) ∧
  ∃ ch r, (t.lport l).queues = (s.lport l).queues.set ch ((s.lport l).queues.getD ch [] ++ [⟨r, 0, r.pkt.budget⟩]) ∧
    r.pkt.typ = 0x30 ∧ r.pkt.dest = 0xFFFFFF ∧ r.pkt.tag / 2 ^ 24 = ctype ∧ r.pkt.body = body

/-- What the first stages of a cold boot leave in flash: one more cold boot is counted (R425). -/
def Claims.coldFlash (s : State) : Flash :=
  { s.flash with counts := s.flash.counts.write (s.flash.coldBoots + 1), writing := some (.counts, s.tb) }

/-- A stage of the boot exceeded its bound: HELD with 0x4C16 (R425, R426), after what the stages before it have done. -/
def Claims.timedOut (s t : State) (cold powered : Bool) (dead : List (Fin 384)) : Prop :=
  t.fld Reg.MGT_BOOT_STATE = 7 ∧ t.fld Reg.MGT_BOOT_CODE = 0x4C16 ∧ t.fld Reg.MGT_BOOT_RECORD = 0 ∧ t.mgmt.boot = none ∧ t.tb = s.tb ∧
  t.fld Reg.MGT_BOOT_WARM = (if cold then 0 else 1) ∧ t.coreOn = powered ∧ bits (t.reg (errReg mgtSite 0x4C16)).toNat 0 16 = 0x4C16 ∧
  (dead = [] → Claims.raised s t mgtSite 0x4C16) ∧
  (if cold then t.flash = Claims.coldFlash s else t.flash = s.flash ∧ t.fld Reg.MGT_BOOT_COUNT_WARM = (s.fld Reg.MGT_BOOT_COUNT_WARM + 1) % 2 ^ 32)

/-- An IMAGE_REQ for what follows the load so far went out on a port (R432). -/
def Claims.askedOn (s t : State) (l repeats : Nat) : Prop :=
  t.mgmt.asking = some ⟨l, s.tb, repeats, none⟩ ∧ Claims.toNeighbour s t l 0x10 (leBytes 8 t.mgmt.load.length ++ leBytes 2 t.loadWant)

/-- The load starts over on the first UP port at or above a number, or waits 10 s where none is left (R432). -/
def Claims.startsOver (s t : State) (l : Nat) : Prop :=
  t.mgmt.load = [] ∧ (∀ k, s.nextUp l = some k → l ≤ k ∧ s.lportUp k = true ∧ Claims.askedOn s t k 0) ∧
  (s.nextUp l = none → t.mgmt.asking = some ⟨0, s.tb, 0, some (s.tb + 10000000000)⟩ ∧ t.lports = s.lports ∧ t.nextReq = s.nextReq)

/-- The request at the head of REQ_QUEUE (R444): its operation and slot, with room for the reply. -/
def Claims.requestAt (s : State) (op slot : Nat) (k : Packet) (rest : List Packet) : Prop :=
  s.fld Reg.MGT_CTRL_REQ_EN = 1 ∧ (s.queue (s.fld Reg.MGT_CTRL_REQ_QUEUE)).packets = k :: rest ∧ k.bad = [] ∧ 64 ≤ k.payload.length ∧
  leNat (k.payload.take 4) = op ∧ leNat ((k.payload.drop 4).take 4) = slot ∧ slot < 128 ∧ s.fld Reg.MGT_REPLY_BASE_BASE ≠ 0 ∧
  s.fld Reg.MGT_REPLY_BASE_BASE % 64 = 0 ∧ s.fld Reg.MGT_REPLY_BASE_BASE + 65536 ≤ generalSize ∧
  Claims.storable s (s.fld Reg.MGT_REPLY_BASE_BASE + slot * 512) 512

/-- The head of REQ_QUEUE was taken. -/
def Claims.requestTaken (s t : State) (rest : List Packet) : Prop :=
  let q := s.fld Reg.MGT_CTRL_REQ_QUEUE
  (t.queue q).packets = rest ∧ Claims.otherQueues s t q ∧ Claims.rose s t (Reg.QUE_STAT_POPS + queueDelta q) 1

/-- The update has ended with a code, which its requester hears (R443 to R445). -/
def Claims.updateAnswered (s t : State) (by' : UpdateBy) (k : Nat) : Prop :=
  t.mgmt.update = none ∧ t.fld Reg.MGT_UPDATE_CODE = k % 65536 ∧ t.fld Reg.MGT_UPDATE_PHASE = (if k = 0 then 5 else 6) ∧
  match by' with
  | .monitor => t.out = .monitor k [] :: s.out
  | .i3c => t.out = .i3c true (if k = 0 then 0 else 2) k (leBytes 8 (t.reg Reg.MGT_UPDATE).toNat) :: s.out
  | .queue slot => t.out = s.out ∧ (let a := s.fld Reg.MGT_REPLY_BASE_BASE + slot * 512
      slot < 128 → a % 64 = 0 → s.fld Reg.MGT_REPLY_BASE_BASE + 65536 ≤ generalSize → Claims.storable s a 512 →
      Claims.stored s t a (leBytes 4 2 ++ leBytes 4 k ++ leBytes 8 s.mgmt.replies ++ leBytes 8 (t.reg Reg.MGT_UPDATE).toNat))

end Sys2Proof

section

open Sys2Proof Sys2Proof.Machine

/-- Boots reach RUNNING, HELD, RECOVERY or fallow mode; images are asked for, served, loaded and updated; the request queue is answered. (13_boot_management_monitor.md (Boot), 13_boot_management_monitor.md (Image verification), 13_boot_management_monitor.md (Recovery), 13_boot_management_monitor.md (Updates), 13_boot_management_monitor.md (Request queue)) -/
def Obligations.BootsRunHoldOrRecoverAndImagesAreLoaded : Prop :=
  (∀ (dead : List (Fin 384)) (faulty : List (Fin 128 × List Nat)) (svnFails : Bool) (s : State), s.pins.pwrGood = true →
    let h := s.flash.read 0 0x200
    let cfg := s.flash.read 0x200 (imgCfgLen h)
    let flashOk := s.flash.good = true ∧ 0x4000000 ≤ s.flash.capacity ∧ s.flash.capacity ≤ 0x80000000
    let run := exec (.coldBoot dead faulty svnFails) s
    ((s.mgmt.boot ≠ some true ∨ s.pins.resetLow = true) → run = .next s) ∧
    (s.mgmt.boot = some true → s.pins.resetLow = false →
      (¬ flashOk → ∃ t, run = .next t ∧ Claims.recovering s t 0x4C01) ∧
      (∀ k, flashOk → s.headerCode h = some k → ∃ t, run = .next t ∧ Claims.recovering s t k) ∧
      (flashOk → s.headerCode h = none → sha384 cfg ≠ (h.drop 0x60).take 48 → ∃ t, run = .next t ∧ Claims.recovering s t 0x4C07) ∧
      (flashOk → s.headerCode h = none → sha384 cfg = (h.drop 0x60).take 48 → Claims.plainImage h cfg → imgMemLen h = 0 → ∃ t, run = .next t ∧
        Claims.booted s t true h cfg dead ∧ t.flash = Claims.coldFlash s))) ∧
  (∀ (dead : List (Fin 384)) (faulty : List (Fin 128 × List Nat)) (s : State), s.pins.pwrGood = true →
    let h := s.mgmt.header
    let cfg := s.mgmt.config
    let run := exec (.warmBoot dead faulty) s
    ((s.mgmt.boot ≠ some false ∨ s.pins.resetLow = true) → run = .next s) ∧
    (s.mgmt.boot = some false → s.pins.resetLow = false →
      (sha384 cfg ≠ (h.drop 0x60).take 48 → ∃ t, run = .next t ∧ Claims.recovering s t 0x4C07) ∧
      (sha384 cfg = (h.drop 0x60).take 48 → recordAt cfg = none → imgMemLen h = 0 → s.inChipReset = false →
        ∃ t, run = .next t ∧ Claims.held s t 0x4C08 0) ∧
      (sha384 cfg = (h.drop 0x60).take 48 → Claims.plainImage h cfg → s.fld Reg.RAS_STATE_FALLOW = 0 → ∃ t, run = .next t ∧
        Claims.booted s t false h cfg dead ∧ t.ras.runningAt = some s.tb ∧ t.flash = s.flash ∧
        t.fld Reg.MGT_BOOT_COUNT_WARM = (s.fld Reg.MGT_BOOT_COUNT_WARM + 1) % 2 ^ 32) ∧
      (sha384 cfg = (h.drop 0x60).take 48 → Claims.plainImage h cfg → s.fld Reg.RAS_STATE_FALLOW = 1 → ∃ t, run = .next t ∧
        t.fld Reg.MGT_BOOT_STATE = 9 ∧ t.coreOn = false ∧ t.mgmt.boot = none ∧ (∀ e ∈ t.ras.escs, e.level ≠ 4 ∧ e.level ≠ 5) ∧ Claims.raised s t rasSite 0x5403))) ∧
  (∀ s : State, s.pins.pwrGood = true →
    let run := exec .mgtStageTimeout s
    ((s.mgmt.boot = none ∨ s.pins.resetLow = true) → run = .next s) ∧
    (s.mgmt.boot ≠ none → s.pins.resetLow = false → s.inputs.stalls = [] →
      ∃ x, run = exec .mgtStageTimeout { s with free := s.free + 1, inputs := { s.inputs with stalls := [x] } })) ∧
  (∀ (n : Fin 6) (dead : List (Fin 384)) (faulty : List (Fin 128 × List Nat)) (rest : List StageStall) (s : State), s.pins.pwrGood = true →
    s.inputs.stalls = ⟨n, dead, faulty⟩ :: rest →
    let run := exec .mgtStageTimeout s
    let u : State := { s with inputs := { s.inputs with stalls := rest } }
    (∀ cold, s.mgmt.boot = some cold → s.pins.resetLow = false → s.inChipReset = false →
      let h := if cold then s.flash.read 0 0x200 else s.mgmt.header
      let cfg := if cold then s.flash.read 0x200 (imgCfgLen h) else s.mgmt.config
      let fallow := cold = false ∧ s.fld Reg.RAS_STATE_FALLOW = 1
      let found := cold = true → s.flash.good = true ∧ 0x4000000 ≤ s.flash.capacity ∧ s.flash.capacity ≤ 0x80000000
      let verified := found ∧ (cold = true → s.headerCode h = none) ∧ sha384 cfg = (h.drop 0x60).take 48
      let plain := verified ∧ Claims.plainImage h cfg ∧ (cold = true → imgMemLen h = 0)
      let whole := if cold then exec (.coldBoot dead faulty false) u else exec (.warmBoot dead faulty) u
      ((1 ≤ n.val ∧ ¬ found) ∨ (2 ≤ n.val ∧ ¬ verified) → run = whole) ∧ (n.val = 5 → plain → fallow → run = whole) ∧
      (n.val = 0 ∨ (n.val = 1 ∧ found) ∨ (n.val = 2 ∧ verified) ∨ (3 ≤ n.val ∧ plain ∧ (n.val = 5 → ¬ fallow)) → ∃ t, run = .next t ∧
        Claims.timedOut u t cold (decide (3 ≤ n.val) && !decide fallow) (if 4 ≤ n.val then dead else [])))) ∧
  (∀ (l : Fin 32) (p : Pkt) (s : State), s.pins.pwrGood = true →
    let off := leNat (p.body.take 8)
    let len := leNat ((p.body.drop 8).take 2)
    let n := min len (imgLen (s.flash.read 0 0x200) - off)
    let serves := s.fld Reg.MGT_CTRL_SERVE_EN = 1 ∧ 1 ≤ len ∧ len ≤ 1008 ∧ s.flashValid = true
    let idle := s.mgmt.asking = none ∨ s.fld Reg.MGT_BOOT_STATE ≠ 8 ∨ (∀ a, s.mgmt.asking = some a → a.port ≠ l.val ∨ a.resumeAt ≠ none) ∨ off ≠ s.mgmt.load.length
    let all' := s.mgmt.load ++ ((p.body.drop 10).take len).take s.loadWant
    let full := 0x200 ≤ all'.length ∧ imgLen (all'.take 0x200) ≤ all'.length
    (¬ serves → exec (.imageReq l p) s = .next s) ∧
    (serves → ∃ t, exec (.imageReq l p) s = .next t ∧ t = { s with nextReq := t.nextReq, lports := t.lports } ∧
      Claims.toNeighbour s t l 0x11 (leBytes 8 off ++ (if s.serving l then leBytes 2 0 else leBytes 2 n ++ s.flash.read off n))) ∧
    (idle → exec (.imageData l p) s = .next s) ∧
    (¬ idle → ∃ t, exec (.imageData l p) s = .next t ∧
      t = { s with regs := t.regs, log := t.log, power := t.power, flash := t.flash, mgmt := t.mgmt, nextReq := t.nextReq, lports := t.lports } ∧
      (len = 0 → t.flash = s.flash ∧ t.regs = s.regs ∧ Claims.startsOver s t (l + 1)) ∧
      (∀ k, len ≠ 0 → s.loadCode s.mgmt.load all' = some k → (∀ i, i < 65536 → t.flash.image.get erased i = 0xFF) ∧ t.fld Reg.MGT_ERR_CODE = 0x4C0E ∧
        Claims.startsOver s t (l + 1)) ∧
      (len ≠ 0 → s.loadCode s.mgmt.load all' = none → (∀ i, 0x200 ≤ i → s.mgmt.load.length ≤ i → i < all'.length → t.flash.image.get erased i = all'.getD i 0) ∧
        (¬ full → t.mgmt.load = all' ∧ Claims.askedOn s t l 0 ∧ t.regs = s.regs) ∧
        (full → t.mgmt.load = [] ∧ t.mgmt.asking = none ∧ (∀ i, i < 0x200 → t.flash.image.get erased i = all'.getD i 0) ∧
          t.fld Reg.RAS_STATE_CYCLE_REQ = 1 ∧ Claims.raised s t rasSite 0x540D ∧ t.lports = s.lports)))) ∧
  (∀ s : State, s.pins.pwrGood = true →
    let framed := fun (t : State) => t = { s with mgmt := { s.mgmt with asking := t.mgmt.asking, load := t.mgmt.load }, nextReq := t.nextReq, lports := t.lports }
    let may := s.fld Reg.MGT_BOOT_STATE = 8 ∧ s.flash.usable = true ∧ s.monitorLoads = false
    (¬ may → exec .imageReqTimeout s = .next s) ∧
    (may → s.mgmt.asking = none → s.nextUp 0 = none → exec .imageReqTimeout s = .next s) ∧
    (∀ k, may → s.mgmt.asking = none → s.nextUp 0 = some k → ∃ t, exec .imageReqTimeout s = .next t ∧ framed t ∧ Claims.startsOver s t 0) ∧
    (∀ l at' n u, may → s.mgmt.asking = some ⟨l, at', n, some u⟩ → (s.tb < u → exec .imageReqTimeout s = .next s) ∧
      (u ≤ s.tb → ∃ t, exec .imageReqTimeout s = .next t ∧ framed t ∧ Claims.startsOver s t 0)) ∧
    (∀ l at' n, may → s.mgmt.asking = some ⟨l, at', n, none⟩ → (s.tb < at' + 10000000 → exec .imageReqTimeout s = .next s) ∧
      (at' + 10000000 ≤ s.tb → ∃ t, exec .imageReqTimeout s = .next t ∧ framed t ∧
        (n < 2 → t.mgmt.load = s.mgmt.load ∧ Claims.askedOn s t l (n + 1)) ∧ (2 ≤ n → Claims.startsOver s t (l + 1))))) ∧
  (∀ s : State, s.pins.pwrGood = true →
    let q := s.fld Reg.MGT_CTRL_REQ_QUEUE
    let rows := [(Instr.requestAttest, 1), (.requestUpdate, 2), (.requestStatus, 3)]
    let framed := fun (t : State) => t = { s with regs := t.regs, log := t.log, power := t.power, mem := t.mem, scratch := t.scratch, bad := t.bad, queues := t.queues, mgmt := t.mgmt, free := t.free, ethPorts := t.ethPorts, out := t.out }
    let reply := fun (t : State) (slot : Nat) (bs : Bytes) => Claims.stored s t (s.fld Reg.MGT_REPLY_BASE_BASE + slot * 512) bs ∧ t.mgmt.replies = s.mgmt.replies + 1
    (∀ c op, (c, op) ∈ rows → (s.fld Reg.MGT_CTRL_REQ_EN = 0 ∨ (s.queue q).packets = []) → exec c s = .next s) ∧
    (∀ c op k rest, (c, op) ∈ rows → s.fld Reg.MGT_CTRL_REQ_EN = 1 → (s.queue q).packets = k :: rest → k.bad = [] →
      (k.payload.length < 64 ∨ leNat (k.payload.take 4) = 0 ∨ 3 < leNat (k.payload.take 4) ∨ 127 < leNat ((k.payload.drop 4).take 4) ∨ s.fld Reg.MGT_REPLY_BASE_BASE = 0) →
      ∃ t, exec c s = .next t ∧ framed t ∧ Claims.requestTaken s t rest ∧ Claims.raised s t mgtSite 0x4C13 ∧ Claims.memSame s t) ∧
    (∀ c op k rest, (c, op) ∈ rows → s.fld Reg.MGT_CTRL_REQ_EN = 1 → (s.queue q).packets = k :: rest → 0 ∈ k.bad → ∃ t, exec c s = .next t ∧ framed t ∧
      (t.queue q).packets = [] ∧ Claims.otherQueues s t q ∧ Claims.raised s t (queueSite q) 0x2409) ∧
    (∀ c op other slot k rest, (c, op) ∈ rows → Claims.requestAt s other slot k rest → 1 ≤ other → other ≤ 3 → other ≠ op → exec c s = .next s) ∧
    (∀ slot k rest, Claims.requestAt s 3 slot k rest → ∃ t, exec .requestStatus s = .next t ∧ framed t ∧ Claims.requestTaken s t rest ∧
      reply t slot (leBytes 4 3 ++ leBytes 4 0 ++ leBytes 8 s.mgmt.replies ++ leBytes 8 (s.reg Reg.MGT_BOOT).toNat)) ∧
    (∀ slot k rest, Claims.requestAt s 1 slot k rest → ∃ t, exec .requestAttest s = .next t ∧ framed t ∧ Claims.requestTaken s t rest ∧
      reply t slot (leBytes 4 1 ++ leBytes 4 0 ++ leBytes 8 s.mgmt.replies ++ ((s.attest ((k.payload.drop 8).take 48)).1.take 496))) ∧
    (∀ slot k rest, Claims.requestAt s 2 slot k rest →
      let a := leNat ((k.payload.drop 8).take 8)
      let n := leNat ((k.payload.drop 16).take 8)
      ∃ t, exec .requestUpdate s = .next t ∧ framed t ∧ Claims.requestTaken s t rest ∧
      (s.mgmt.update ≠ none → t.mgmt.update = s.mgmt.update ∧ Claims.raised s t mgtSite 0x4C0F ∧
        reply t slot (leBytes 4 2 ++ leBytes 4 0x4C0F ++ leBytes 8 s.mgmt.replies ++ leBytes 8 (s.reg Reg.MGT_UPDATE).toNat)) ∧
      (s.mgmt.update = none → (n = 0 ∨ generalSize < a + n) → t.mgmt.update = none ∧ Claims.raised s t mgtSite 0x4C13 ∧
        reply t slot (leBytes 4 2 ++ leBytes 4 0x4C13 ++ leBytes 8 s.mgmt.replies ++ leBytes 8 (s.reg Reg.MGT_UPDATE).toNat)) ∧
      (s.mgmt.update = none → n ≠ 0 → a + n ≤ generalSize → t.mgmt.update = some (a, n, .queue slot) ∧ t.fld Reg.MGT_UPDATE_PHASE = 1 ∧ t.mgmt.replies = s.mgmt.replies ∧
        Claims.memSame s t))) ∧
  (∀ (mark : UpdateMark) (fails : Bool) (s : State), s.pins.pwrGood = true →
    let upd := fun (m : UpdateMark) (f : Bool) (x : State) => exec (.updateEnd ⟨m, f⟩) x
    let ph := s.fld Reg.MGT_UPDATE_PHASE
    (s.mgmt.update = none ∨ ph = 0 ∨ 5 ≤ ph ∨ markPhase mark ≤ ph → upd mark fails s = .next s) ∧
    (∀ u1 u2 u3 mib, upd .verified false s = .next u1 → upd .erased false u1 = .next u2 → upd (.programmed 2048) false u2 = .next u3 →
      upd .erased fails s = upd .erased fails u1 ∧ upd (.programmed mib) fails s = upd (.programmed mib) fails u2 ∧
      (u3.fld Reg.MGT_UPDATE_PHASE ≠ 3 → upd .ended fails s = upd .ended fails u3)) ∧
    (∀ a n by', s.mgmt.update = some (a, n, by') →
      let img := s.fetch a n
      let code := if s.fetchPoisoned a n then some 0x4C07 else s.imageCode img
      let size := imgLen (img.take 0x200)
      let same := s.fetchPoisoned a n = false ∧ sha384 (s.flash.read 0 size) = sha384 (img.take size) ∧ s.imageCode (s.flash.read 0 size) = none
      let u := s.noteFetch a n
      let framed := fun (v t : State) => t = { v with regs := t.regs, log := t.log, power := t.power, mem := t.mem, scratch := t.scratch, bad := t.bad, flash := { v.flash with image := t.flash.image }, mgmt := t.mgmt, free := t.free, out := t.out }
      let goesOn := fun (v t : State) (p mib : Nat) => t.mgmt = v.mgmt ∧ t.out = v.out ∧ Claims.memSame v t ∧ t.fld Reg.MGT_UPDATE_PHASE = p ∧
        t.fld Reg.MGT_UPDATE_CODE = 0 ∧ t.fld Reg.MGT_UPDATE_MIB_DONE = mib % 2 ^ 32
      let spoilt := fun (v t : State) => (∀ i, i < 65536 → t.flash.image.get erased i = 0xFF) ∧ Claims.raised v t mgtSite 0x4C10 ∧ Claims.updateAnswered v t by' 0x4C10
      (ph = 1 → ∃ t, upd .verified fails s = .next t ∧ framed u t ∧ t.flash = u.flash ∧ (code = none → goesOn u t 2 0) ∧
        (∀ k, code = some k → k ≠ 0 → k < 65536 → Claims.raised u t mgtSite k ∧ Claims.updateAnswered u t by' k)) ∧
      (ph = 2 → ∃ t, upd .erased fails s = .next t ∧ framed s t ∧
        (s.flash.usable = false → t.flash = s.flash ∧ Claims.raised s t mgtSite 0x4C01 ∧ Claims.updateAnswered s t by' 0x4C01) ∧
        (s.flash.usable = true → fails = true → spoilt s t) ∧
        (s.flash.usable = true → fails = false → (∀ i, t.flash.image.get erased i = 0xFF) ∧ goesOn s t 3 0)) ∧
      (∀ mib, ph = 3 → fails = true → ∃ t, upd (.programmed mib) fails s = .next t ∧ framed s t ∧ spoilt s t) ∧
      (∀ mib, ph = 3 → fails = false →
        let done := max (s.fld Reg.MGT_UPDATE_MIB_DONE) mib * 1048576
        ∃ t, upd (.programmed mib) fails s = .next t ∧ framed u t ∧
        (∀ i, t.flash.image.get erased i = (if (0x200 ≤ i ∨ size ≤ done) ∧ i < min size done ∧ i < img.length then img.getD i 0 else u.flash.image.get erased i)) ∧
        (if size ≤ done then goesOn u t 4 (ceilDiv size 1048576) else goesOn u t 3 (done / 1048576))) ∧
      (ph = 4 → ∃ t, upd .ended fails s = .next t ∧ framed u t ∧ (fails = true ∨ ¬ same → spoilt u t) ∧
        (fails = false → same → t.flash = u.flash ∧ Claims.rose u t Reg.MGT_STAT_UPDATES 1 ∧ t.fld Reg.MGT_UPDATE_MIB_DONE = ceilDiv size 1048576 % 2 ^ 32 ∧
          Claims.updateAnswered u t by' 0))))

end

namespace Sys2Proof

open Sys2Proof.Machine

/-- The rows of I3C that the target NACKs while it has no dynamic address (R443). -/
def Claims.i3cAddressed : Instr → Bool
  | .i3cGetpid | .i3cGetbcr | .i3cGetdcr | .i3cGetstatus | .i3cEnecDisec _ | .i3cId | .i3cSensor _ | .i3cAlert | .i3cLog _
  | .i3cAttest _ | .i3cUpdate _ _ | .i3cDumpExport _ _ => true
  | _ => false

/-- The rows of I3C that are private transfers (R443). -/
def Claims.i3cPrivateRow : Instr → Bool
  | .i3cId | .i3cSensor _ | .i3cAlert | .i3cLog _ | .i3cAttest _ | .i3cUpdate _ _ | .i3cDumpExport _ _ => true
  | _ => false

/-- What identifies the device (R443, R447): DEVICE_ID, grade, DET_CLASS, IMAGE_ID and MGT_BOOT. -/
def Claims.identity (s : State) : Bytes :=
  s.deviceId ++ leBytes 1 (if s.fuses.gradeB then 1 else 0) ++ leBytes 8 s.detClass ++ leBytes 8 (hdrNat s.mgmt.header 8 8) ++
    leBytes 8 (s.reg Reg.MGT_BOOT).toNat

/-- A sensor's value and status (R443): 2 absent or failed, 1 older than 10 ms, 0 valid. -/
def Claims.sensorBytes (s : State) (i : Nat) : Bytes :=
  leBytes 8 ((s.sensor i).value % 65536 + 65536 *
    (if i ∉ sensorIds ∨ (s.sensor i).ok = false then 2 else if (s.sensor i).time + 10000000 < s.tb then 1 else 0))

/-- The dump has been copied to memory and marked exported, and nothing else in memory has changed (R442). -/
def Claims.exported (s t : State) (a : Nat) : Prop :=
  ∀ x, t.readByte x = if a ≤ x ∧ x < a + s.dumpLength then s.readByte (dumpBase + (x - a)) else if x = dumpBase + 0x11 then 3 else s.readByte x

/-- An export is refused (R442): no dump, or a range that is misaligned, outside the general area or too short. -/
def Claims.noExport (s : State) (a n : Nat) : Prop := s.dumpState = 0 ∨ a % 4096 ≠ 0 ∨ generalSize < a + n ∨ n < s.dumpLength

/-- An export may be made: the range takes stores, and so does the dump's header. -/
def Claims.mayExport (s : State) (a n : Nat) : Prop :=
  ¬ Claims.noExport s a n ∧ Claims.storable s a s.dumpLength ∧ s.readSilent dumpBase s.dumpLength = true ∧ s.chanDead (channelOf dumpBase) = false ∧ s.poisoned dumpBase 64 = false ∧
  s.touchesView (dumpBase + 0x11) 1 = false

/-- The state in which a valid line's command runs: the watch after a change of the rate has ended (R446). -/
def Claims.lined (s : State) : State :=
  { s with mgmt := { s.mgmt with monitor := { s.mgmt.monitor with revert := none } } }

/-- A state with another monitor. -/
def Claims.monitorIs (s : State) (m : Monitor) (o : List Out) : State := { s with mgmt := { s.mgmt with monitor := m }, out := o ++ s.out }

/-- A monitor command was refused by the MC: the code is logged and answered. -/
def Claims.monRefused (s t : State) (x : Site) (code : Nat) : Prop :=
  t = { s with regs := t.regs, log := t.log, power := t.power, out := .monitor code [] :: s.out } ∧ Claims.raised s t x code

/-- RECOVERY with no usable flash: the monitor has the locked commands alone (R431). -/
def Claims.noFlash (s : State) : Prop := s.fld Reg.MGT_BOOT_STATE = 8 ∧ s.fld Reg.MGT_BOOT_CODE = 0x4C01

/-- The monitor is unlocked with a permission (R450). -/
def Claims.unlocked (s : State) (p : Nat) : Prop :=
  ¬ Claims.noFlash s ∧ (∃ u, s.mgmt.monitor.unlockedTo = some u ∧ s.tb < u) ∧ bit (s.fld Reg.SEC_MON_PERMS) p = true

/-- The monitor has locked: no permission is left, and MEAS3 is extended (R450). -/
def Claims.locked (s t : State) (o : List Out) : Prop :=
  t = { s with regs := t.regs, free := t.free, out := o ++ s.out, mgmt := { s.mgmt with meas := t.mgmt.meas, monitor := { s.mgmt.monitor with unlockedTo := none } } } ∧
  t.fld Reg.SEC_MON_UNLOCKED = 0 ∧ t.fld Reg.SEC_MON_PERMS = 0 ∧ Claims.regsOutside [Reg.SEC_MON] s t

/-- The commands of monitor lines, with the permission that each needs (R447). -/
def Claims.monRow : Instr → Option (Option Nat)
  | .monId | .monSensors | .monLog _ _ | .monAttest _ | .monChallenge | .monUnlock | .monBaud _ | .monLoad _ | .monLock => some none
  | .monUpdate _ _ => some (some 4)
  | .monCsrRead _ | .monCsrWrite _ _ => some (some 0)
  | .monMemRead _ _ | .monMemWrite _ _ => some (some 1)
  | .monDumpRead _ _ | .monDumpExport _ _ => some (some 2)
  | .monResetChip => some (some 3)
  | _ => none

/-- The commands that the I3C sideband brings (R443). -/
def Claims.i3cRow : Instr → Bool
  | .i3cEntdaa _ | .i3cSetdasa _ _ | .i3cRstdaa => true
  | c => Claims.i3cAddressed c

/-- A member of a gang that is not its leader answers nothing (R321). -/
def Claims.follower (s : State) : Prop := 2 ≤ s.fld Reg.FAB_GANG_SIZE ∧ s.fld Reg.FAB_GANG_INDEX ≠ 0

/-- The write of a 64-bit register asks for the COMMIT of a FABRIC group, which is answered once both copies have applied it (R380). -/
def Claims.commitsFabric (s : State) (a v : Nat) : Prop := s.fabricCommit a v ≠ none

end Sys2Proof

section

open Sys2Proof Sys2Proof.Machine

/-- I3C and the serial monitor answer each command with the data, effect or code of the rules; locked commands get 0x4C14. (13_boot_management_monitor.md (I3C sideband), 13_boot_management_monitor.md (Attestation), 13_boot_management_monitor.md (The crash dump), 13_boot_management_monitor.md (The serial monitor)) -/
def Obligations.SidebandAndMonitorAnswerTheirCommands : Prop :=
  (∀ s : State, s.pins.pwrGood = true →
    let ans := fun (u : State) (code : Nat) (data : Bytes) => ({ u with out := .i3c true (if code = 0 then 0 else 2) code data :: s.out } : State)
    let nack : State := { s with out := .i3c false 0 0 [] :: s.out }
    let addressed := s.mgmt.i3cAddr ≠ none
    let free' := addressed ∧ ∀ a n, s.mgmt.update ≠ some (a, n, .i3c)
    (Claims.follower s → ∀ c, Claims.i3cRow c = true → exec c s = .next s) ∧ (¬ Claims.follower s →
    (∀ c, Claims.i3cAddressed c = true → ¬ addressed → exec c s = .next nack) ∧
    (∀ c, Claims.i3cPrivateRow c = true → ¬ free' → exec c s = .next nack) ∧
    (∀ a, (¬ addressed → exec (.i3cEntdaa a) s = .next (ans { s with mgmt := { s.mgmt with i3cAddr := some a.toNat } } 0 (Config.i3cPid ++ Config.i3cBcr ++ Config.i3cDcr)) ∧
        exec (.i3cSetdasa 0x4A a) s = .next (ans { s with mgmt := { s.mgmt with i3cAddr := some a.toNat } } 0 [])) ∧
      (addressed → exec (.i3cEntdaa a) s = .next nack ∧ exec (.i3cSetdasa 0x4A a) s = .next nack) ∧
      (∀ st, st ≠ 0x4A → exec (.i3cSetdasa st a) s = .next nack)) ∧
    exec .i3cRstdaa s = .next (ans { s with mgmt := { s.mgmt with i3cAddr := none } } 0 []) ∧ exec (.i3cEnecDisec false) s = .next nack ∧
    (addressed → exec .i3cGetpid s = .next (ans s 0 Config.i3cPid) ∧ exec .i3cGetbcr s = .next (ans s 0 Config.i3cBcr) ∧
      exec .i3cGetdcr s = .next (ans s 0 Config.i3cDcr) ∧ exec (.i3cEnecDisec true) s = .next (ans s 0 []) ∧
      ∃ b, b.length = 2 ∧ exec .i3cGetstatus s = .next (ans { s with free := s.free + 1 } 0 b)) ∧
    (free' → exec .i3cId s = .next (ans s 0 (Claims.identity s)) ∧ (∀ i, exec (.i3cSensor i) s = .next (ans s 0 (Claims.sensorBytes s i.toNat))) ∧
      (∀ n : BitVec 32, exec (.i3cLog n) s = .next (ans s 0 (s.logEntry n.toNat))) ∧
      (∃ t, exec .i3cAlert s = .next t ∧ t = ans { s with regs := t.regs } 0 (leBytes 8 (s.reg Reg.MGT_ALERT).toNat) ∧ t.reg Reg.MGT_ALERT = 0 ∧ Claims.regsOutside [Reg.MGT_ALERT] s t) ∧
      (∀ nonce : Bytes, nonce.length = 48 → exec (.i3cAttest nonce) s = .next (ans { s with free := s.free + 6 } 0 (s.attest nonce).1) ∧
        ∃ sig, sig.length = 96 ∧ (s.attest nonce).1 = leBytes 4 0x41545401 ++ leBytes 2 1 ++ leBytes 2 s.attestFlags ++ s.deviceId ++ leBytes 8 s.detClass ++
          leBytes 8 (hdrNat s.mgmt.header 8 8) ++ leBytes 4 (s.fld Reg.SEC_SVN_IMAGE) ++ leBytes 4 s.fuses.minSvn ++ leBytes 8 s.flash.coldBoots ++ leBytes 8 s.tb ++
          nonce ++ s.mgmt.meas.flatten ++ p384Public s.fuses.idScalar ++ sig) ∧
      (∀ nonce : Bytes, nonce.length ≠ 48 → ∃ t, exec (.i3cAttest nonce) s = .next t ∧ t.out = .i3c true 2 0x4C13 [] :: s.out ∧ Claims.onlyRaised { s with out := t.out } t mgtSite 0x4C13) ∧
      (∀ a n : Word,
        (s.mgmt.update ≠ none → ∃ t, exec (.i3cUpdate a n) s = .next t ∧ t.out = .i3c true 2 0x4C0F [] :: s.out ∧ Claims.onlyRaised { s with out := t.out } t mgtSite 0x4C0F) ∧
        (s.mgmt.update = none → (n = 0 ∨ generalSize < a.toNat + n.toNat) →
          ∃ t, exec (.i3cUpdate a n) s = .next t ∧ t.out = .i3c true 2 0x4C13 [] :: s.out ∧ Claims.onlyRaised { s with out := t.out } t mgtSite 0x4C13) ∧
        (s.mgmt.update = none → n ≠ 0 → a.toNat + n.toNat ≤ generalSize → ∃ t, exec (.i3cUpdate a n) s = .next t ∧
          t = { s with regs := t.regs, mgmt := { s.mgmt with update := some (a.toNat, n.toNat, .i3c) }, out := .i3c true 1 0 [] :: s.out } ∧ t.reg Reg.MGT_UPDATE = 1 ∧
          Claims.regsOutside [Reg.MGT_UPDATE] s t) ∧
        (Claims.noExport s a.toNat n.toNat → ∃ t, exec (.i3cDumpExport a n) s = .next t ∧ t.out = .i3c true 2 0x4C13 [] :: s.out ∧ Claims.onlyRaised { s with out := t.out } t mgtSite 0x4C13) ∧
        (Claims.mayExport s a.toNat n.toNat → ∃ t, exec (.i3cDumpExport a n) s = .next t ∧ Claims.exported s t a.toNat ∧
          t = { s with mem := t.mem, scratch := t.scratch, bad := t.bad, out := .i3c true 0 0 [] :: s.out }))))) ∧
  (∀ s : State, s.pins.pwrGood = true →
    let u := Claims.lined s
    let m := u.mgmt.monitor
    let ok := fun (data : Bytes) => ({ u with out := .monitor 0 data :: s.out } : State)
    let ask := fun (x : XferKind) => Claims.monitorIs u { m with xfer := some ⟨x, 0, [], 0, s.tb⟩ } []
    (Claims.follower s → (∀ c p, Claims.monRow c = some p → exec c s = .next s) ∧ exec .mgtFrame s = .next s) ∧ (¬ Claims.follower s →
    (s.mgmt.monitor.xfer ≠ none → (∀ c p, Claims.monRow c = some p → exec c s = .next s) ∧ exec .mgtFrame s = .next s) ∧
    (s.mgmt.monitor.xfer = none →
      (∀ c p, Claims.monRow c = some (some p) → ¬ Claims.unlocked s p → ∃ t, exec c s = .next t ∧ Claims.monRefused u t mgtSite 0x4C14) ∧
      (∃ t, exec .mgtFrame s = .next t ∧ Claims.monRefused s t mgtSite 0x4C15) ∧
      exec .monId s = .next (ok (Claims.identity s)) ∧ exec .monSensors s = .next (ok (sensorIds.flatMap (Claims.sensorBytes s))) ∧
      (∀ (q : BitVec 32) n, (n ≤ 256 → exec (.monLog q n) s = .next (ok ((List.range n).flatMap (fun i => s.logEntry (q.toNat + i))))) ∧
        (256 < n → ∃ t, exec (.monLog q n) s = .next t ∧ Claims.monRefused u t mgtSite 0x4C15)) ∧
      (∀ nonce : Bytes, (nonce.length = 48 → exec (.monAttest nonce) s = .next { ok (s.attest nonce).1 with free := s.free + 6 }) ∧
        (nonce.length ≠ 48 → ∃ t, exec (.monAttest nonce) s = .next t ∧ Claims.monRefused u t mgtSite 0x4C15)) ∧
      (s.tb < m.backoffTo → ∃ t, exec .monChallenge s = .next t ∧ Claims.monRefused u t secSite 0x5006) ∧
      (m.backoffTo ≤ s.tb → ∃ b, b.length = 32 ∧ exec .monChallenge s = .next { Claims.monitorIs u { m with nonce := some (b, s.tb) } [.monitor 0 b] with free := s.free + 4 }) ∧
      exec .monUnlock s = .next (ask .token) ∧
      (∀ r, (9600 ≤ r → r ≤ 3000000 → exec (.monBaud r) s = .next (Claims.monitorIs u { m with newBaud := some (r, s.tb) } [.monitor 0 []])) ∧
        ((r < 9600 ∨ 3000000 < r) → ∃ t, exec (.monBaud r) s = .next t ∧ Claims.monRefused u t mgtSite 0x4C15)) ∧
      (∀ n, let may := s.fld Reg.MGT_BOOT_STATE = 7 ∨ s.fld Reg.MGT_BOOT_STATE = 8 ∨ Claims.unlocked s 4
        let fits := n ≠ 0 ∧ n ≤ s.flash.capacity - 0x1000000
        (¬ may → ∃ t, exec (.monLoad n) s = .next t ∧ Claims.monRefused u t mgtSite 0x4C14) ∧
        (may → (Claims.noFlash s ∨ s.flash.usable = false) → ∃ t, exec (.monLoad n) s = .next t ∧ Claims.monRefused u t mgtSite 0x4C01) ∧
        (may → ¬ Claims.noFlash s → s.flash.usable = true → ¬ fits → ∃ t, exec (.monLoad n) s = .next t ∧ Claims.monRefused u t mgtSite 0x4C15) ∧
        (may → ¬ Claims.noFlash s → s.flash.usable = true → fits → exec (.monLoad n) s = .next { ask (.load n) with mgmt := { (ask (.load n)).mgmt with load := [], asking := none } })) ∧
      (m.unlockedTo = none → exec .monLock s = .next (ok [])) ∧
      (m.unlockedTo ≠ none → ∃ t, exec .monLock s = .next t ∧ Claims.locked u t [.monitor 0 []]) ∧
      (Claims.unlocked s 0 → ∀ a : BitVec 32,
        (s.csrStops a.toNat = true → exec (.monCsrRead a) s = .next u ∧ ∀ v, exec (.monCsrWrite a v) s = .next u) ∧
        (s.csrStops a.toNat = false → ∀ v, ¬ Claims.commitsFabric u a.toNat v.toNat → ∃ w code rest, exec (.csrWrite ⟨.mc, a, 64⟩ v) u = .next w ∧ w.out = .csr code 0 :: rest ∧ exec (.monCsrWrite a v) s = .next { w with out := .monitor code [] :: rest }) ∧
        (s.csrStops a.toNat = false → ∀ v, Claims.commitsFabric u a.toNat v.toNat → ∃ w y, exec (.csrWrite ⟨.mc, a, 64⟩ v) u = .next w ∧ exec (.monCsrWrite a v) s = .next y ∧
          ((y = { w with pends := y.pends } ∧ y.pends.map (fun x => { x with ack := .none }) = w.pends.map (fun x => { x with ack := .none }) ∧
              ∀ x ∈ w.pends, x.ack = .csr → x ∈ s.pends ∨ { x with ack := .monitor } ∈ y.pends) ∨
            ∃ code rest, w.out = .csr code 0 :: rest ∧ y = { w with out := .monitor code [] :: rest })) ∧
        (s.csrStops a.toNat = false → let r := u.csrRead .mc a.toNat 64
         exec (.monCsrRead a) s = .next { r.2.2 with out := .monitor r.1 (if r.1 = 0 then leBytes 8 r.2.1.toNat else []) :: r.2.2.out } ∧
         (a.toNat % 8 = 0 → Claims.reachesOne u a.toNat → regAt a.toNat ≠ none → r.1 = 0 ∧ r.2.1 = u.shown .mc a.toNat))) ∧
      (Claims.unlocked s 1 → ∀ a : BitVec 48,
        let bad := fun (n : Nat) => if s.physCode a.toNat ≠ 0 then s.physCode a.toNat else if s.inEnabledSpace a.toNat n = true then 0 else 0x4C13
        (∀ n, (n = 0 ∨ 4096 < n) → ∃ t, exec (.monMemRead a n) s = .next t ∧ Claims.monRefused u t mgtSite 0x4C15) ∧
        (∀ n, 1 ≤ n → n ≤ 4096 → bad n ≠ 0 → ∃ t, exec (.monMemRead a n) s = .next t ∧ Claims.monRefused u t mgtSite (bad n)) ∧
        (∀ n, 1 ≤ n → n ≤ 4096 → a.toNat + n ≤ generalSize → (∀ x, a.toNat ≤ x → x < a.toNat + n → s.viewAt x = none) → (∀ l, l % 64 = 0 → l < a.toNat + n → a.toNat < l + 64 → s.poisoned l 64 = false) →
          (∀ l, l % 64 = 0 → l < a.toNat + n → a.toNat < l + 64 → s.chanDead (channelOf l) = false) → exec (.monMemRead a n) s = .next (ok (s.readBytes a.toNat n))) ∧
        (∀ n, 1 ≤ n → n ≤ 4096 → bad n = 0 → ∃ t, exec (.monMemRead a n) s = .next t ∧
          t.out = .monitor (s.readCode a.toNat n) (if s.readCode a.toNat n = 0 then s.fetch a.toNat n else []) :: s.out) ∧
        (∀ v, bad 8 ≠ 0 → ∃ t, exec (.monMemWrite a v) s = .next t ∧ Claims.monRefused u t mgtSite (bad 8)) ∧
        (∀ v : Word, Claims.storable s a.toNat 8 → ∃ t, exec (.monMemWrite a (some v)) s = .next t ∧ Claims.stored s t a.toNat (leBytes 8 v.toNat) ∧
          t = { ok [] with mem := t.mem, scratch := t.scratch, bad := t.bad }) ∧
        (bad 8 = 0 → exec (.monMemWrite a none) s = .next (ask (.memWrite a.toNat)))) ∧
      (Claims.unlocked s 2 → (∀ (o : BitVec 30) n, let fits := n ≠ 0 ∧ n ≤ 4096 ∧ o.toNat + n ≤ 0x40000000
          (fits → s.readSilent (dumpBase + o.toNat) n = true → s.readCode (dumpBase + o.toNat) n = 0 → exec (.monDumpRead o n) s = .next (ok (s.readBytes (dumpBase + o.toNat) n))) ∧
          (¬ fits → ∃ t, exec (.monDumpRead o n) s = .next t ∧ Claims.monRefused u t mgtSite 0x4C15)) ∧
        (∀ a n : Word, (Claims.noExport s a.toNat n.toNat → ∃ t, exec (.monDumpExport a n) s = .next t ∧ Claims.monRefused u t mgtSite 0x4C13) ∧
          (Claims.mayExport s a.toNat n.toNat → ∃ t, exec (.monDumpExport a n) s = .next t ∧ Claims.exported s t a.toNat ∧ t = { ok [] with mem := t.mem, scratch := t.scratch, bad := t.bad }))) ∧
      (Claims.unlocked s 3 → s.fld Reg.RAS_STATE_FALLOW = 0 → s.inChipWindow = false → Claims.noneFrom s 4 → ∃ t, exec .monResetChip s = .next t ∧
        Claims.triggered s t 4 21 0 0x540F 9 ∧ t = { ok [] with regs := t.regs, log := t.log, power := t.power, ras := t.ras }) ∧
      (Claims.unlocked s 4 → ∀ a n : Word,
        (s.mgmt.update ≠ none → ∃ t, exec (.monUpdate a n) s = .next t ∧ Claims.monRefused u t mgtSite 0x4C0F) ∧
        (s.mgmt.update = none → (n = 0 ∨ generalSize < a.toNat + n.toNat) → ∃ t, exec (.monUpdate a n) s = .next t ∧ Claims.monRefused u t mgtSite 0x4C13) ∧
        (s.mgmt.update = none → n ≠ 0 → a.toNat + n.toNat ≤ generalSize → ∃ t, exec (.monUpdate a n) s = .next t ∧
          t = { u with regs := t.regs, mgmt := { u.mgmt with update := some (a.toNat, n.toNat, .monitor) } } ∧ t.reg Reg.MGT_UPDATE = 1 ∧ Claims.regsOutside [Reg.MGT_UPDATE] s t))))) ∧
  (∀ s : State, s.pins.pwrGood = true →
    let m := s.mgmt.monitor
    (∀ r at', m.newBaud = some (r, at') → (s.tb < at' + 10000000 → exec .baudRateChange s = .next s) ∧
      (at' + 10000000 ≤ s.tb → exec .baudRateChange s = .next (Claims.monitorIs s { m with baud := r, newBaud := none, revert := some (m.baud, s.tb + 5000000000) } []))) ∧
    (∀ r at', m.revert = some (r, at') → (s.tb < at' → exec .baudRevert s = .next s) ∧ (at' ≤ s.tb → exec .baudRevert s = .next (Claims.monitorIs s { m with baud := r, revert := none } []))) ∧
    (m.newBaud = none → exec .baudRateChange s = .next s) ∧ (m.revert = none → exec .baudRevert s = .next s) ∧
    ((m.unlockedTo = none ∨ ∃ x, m.unlockedTo = some x ∧ s.tb < x) → exec .unlockExpiry s = .next s) ∧
    (∀ x, m.unlockedTo = some x → x ≤ s.tb → ∃ t, exec .unlockExpiry s = .next t ∧ Claims.locked s t []) ∧
    (∀ (q : BitVec 16) d (crc : BitVec 32), m.xfer = none ∨ Claims.follower s → exec (.monitorFrame q d crc) s = .next s) ∧
    (m.xfer = none → exec .frameGapTimeout s = .next s) ∧
    (∀ x, m.xfer = some x →
      let nonce' := if x.kind = .token then none else m.nonce
      let done := Claims.monitorIs s { m with xfer := none, nonce := nonce' } []
      (s.tb < x.since + 2000000000 → exec .frameGapTimeout s = .next s) ∧
      (x.since + 2000000000 ≤ s.tb → ∃ t, exec .frameGapTimeout s = .next t ∧ Claims.monRefused done t mgtSite 0x4C15) ∧
      (¬ Claims.follower s → ∀ (q : BitVec 16) d (crc : BitVec 32),
        let good := crc.toNat = crc32 (leBytes 2 q.toNat ++ leBytes 2 d.length ++ d) ∧ q.toNat = x.seq % 65536 ∧ 1 ≤ d.length ∧ d.length ≤ 4096
        let all' := x.data ++ d
        let on' := fun (kept : Bytes) => Claims.monitorIs s { m with xfer := some { x with seq := x.seq + 1, data := kept, refusals := 0, since := s.tb } } [.frame q.toNat 0]
        (¬ good → ∃ t, exec (.monitorFrame q d crc) s = .next t ∧ Claims.raised s t mgtSite 0x4C15 ∧ Claims.rose s t Reg.MGT_STAT_MON_BAD_FRAMES 1 ∧
          (x.refusals < 7 → t = { Claims.monitorIs s { m with xfer := some { x with refusals := x.refusals + 1, since := s.tb } } [.frame q.toNat 0x4C15] with regs := t.regs, log := t.log, power := t.power }) ∧
          (7 ≤ x.refusals → t = { Claims.monitorIs s { m with xfer := none, nonce := nonce' } [.monitor 0x4C15 [], .frame q.toNat 0x4C15] with regs := t.regs, log := t.log, power := t.power })) ∧
        (good → x.kind = .token → all'.length < 256 → exec (.monitorFrame q d crc) s = .next (on' all')) ∧
        (∀ a, good → x.kind = .memWrite a → all'.length < 8 → exec (.monitorFrame q d crc) s = .next (on' all')) ∧
        (∀ a, good → x.kind = .memWrite a → 8 ≤ all'.length → Claims.storable s a 8 → ∃ t, exec (.monitorFrame q d crc) s = .next t ∧ Claims.stored s t a (all'.take 8) ∧
          t = { Claims.monitorIs s { m with xfer := none } [.monitor 0 [], .frame q.toNat 0] with mem := t.mem, scratch := t.scratch, bad := t.bad }) ∧
        (∀ n, good → x.kind = .load n → x.data = s.mgmt.load → all'.length < n → s.loadCode s.mgmt.load all' = none → (all'.length < 0x200 ∨ all'.length < imgLen (all'.take 0x200)) →
          ∃ t, exec (.monitorFrame q d crc) s = .next t ∧ t.mgmt.load = all' ∧ t.mgmt.monitor = (on' all').mgmt.monitor ∧ t.out = (on' all').out ∧
          (∀ i, 0x200 ≤ i → x.data.length ≤ i → i < all'.length → t.flash.image.get erased i = all'.getD i 0) ∧ t = { s with flash := t.flash, mgmt := t.mgmt, out := t.out }) ∧
        (∀ k, good → x.kind = .token → 256 ≤ all'.length → s.tokenCode all' = some k → ∃ t, exec (.monitorFrame q d crc) s = .next t ∧
          Claims.raised s t secSite k ∧ Claims.rose s t Reg.MGT_STAT_UNLOCK_FAILS 1 ∧
          t = { Claims.monitorIs s { m with xfer := none, nonce := none, fails := if m.fails = 3 then 0 else m.fails + 1, backoffTo := if m.fails = 3 then s.tb + 600000000000 else m.backoffTo } [.monitor k [], .frame q.toNat 0] with regs := t.regs, log := t.log, power := t.power }) ∧
        (good → x.kind = .token → 256 ≤ all'.length → s.tokenCode all' = none → ∃ t, exec (.monitorFrame q d crc) s = .next t ∧
          t.mgmt.monitor = { m with xfer := none, nonce := none, fails := 0, unlockedTo := some (s.tb + hdrNat all' 0x38 4 * 1000000000) } ∧
          t.fld Reg.SEC_MON_UNLOCKED = 1 ∧ t.fld Reg.SEC_MON_PERMS = hdrNat all' 7 1 ∧ t.fld Reg.MGT_BOOT_UNLOCKED = 1 ∧ Claims.rose s t Reg.MGT_STAT_UNLOCKS 1 ∧
          t.out = .monitor 0 [] :: .frame q.toNat 0 :: s.out ∧ t = { s with regs := t.regs, free := t.free, mgmt := t.mgmt, out := t.out }))))

end

namespace Sys2Proof

open Sys2Proof.Machine

/-- One demand of the stretch controller (R462): up by 8, down by 2, within 256 and 1,024. -/
def Claims.demanded (x x' : Nat) (up down : Prop) : Prop :=
  (up → x' = min 1024 (x + 8)) ∧ (¬ up → down → x' = max 256 (x - 2)) ∧ (¬ up → ¬ down → x' = x)

/-- Every rail is off (R466, R467): registers and memory are as after power-on, fuses, the time base and what was sent remain, and of the
ledger its copies in flash with what the one in force holds (R419, R465). -/
def Claims.railsOff (s t : State) (p : Pins) (k : Kept Ledger) : Prop :=
  t.pins = { p with pwrGood := false } ∧ t.coreOn = false ∧ (∀ a, t.reg a = regReset a) ∧ (∀ a, t.readByte a = 0) ∧ t.fuses = s.fuses ∧ t.tb = s.tb ∧
  t.out = s.out ∧ t.pending = s.pending ∧ t.mgmt.boot = none ∧ t.log.entries = [] ∧ t.ras.escs = [] ∧ t.queues = [] ∧ t.regions = [] ∧ t.lports = [] ∧
  t.power.saved = k ∧ (let l := k.held ⟨0, 0, [0, 0]⟩
    t.power.usedMs = l.usedMs ∧ t.power.poweredMs = l.poweredMs ∧ t.power.highest = l.highest) ∧ t.power.profiles = [] ∧ t.power.sprintAt = none ∧
  t.flash.image = s.flash.image ∧ t.flash.good = s.flash.good ∧ t.flash.capacity = s.flash.capacity ∧ t.flash.writing = none

/-- The copies of the ledger when power is lost with nothing saved: one being written is not good (R419). -/
def Claims.lostLedger (s : State) : Kept Ledger := if s.power.saving = some s.tb then s.power.saved.cut else s.power.saved

/-- The log and persistent areas when power is lost with nothing saved: what was being written is not good, all else remains (R419, R439). -/
def Claims.lostFlash (s t : State) : Prop :=
  let cut := fun (p : FlashPart) => s.flash.writing = some (p, s.tb)
  t.flash.retired = (if cut .retirement then s.flash.retired.cut else s.flash.retired) ∧
  t.flash.certificate = (if cut .certificate then s.flash.certificate.cut else s.flash.certificate) ∧
  t.flash.counts = (if cut .counts then s.flash.counts.cut else s.flash.counts) ∧
  (∀ n, cut (.log n) → t.flash.log.drop n = s.flash.log.drop n) ∧ ((∀ n, ¬ cut (.log n)) → t.flash.log = s.flash.log)

/-- The power that a profile holds at a time of its frame, its entries at stretched times (R452, R457, R463). -/
def Claims.profileAt (ws : List Word) (stretch d w : Nat) : Prop :=
  ((∀ e ∈ profEntries ws, d < e.1 * stretch / 256) → w = 0) ∧
  (∀ l e l', profEntries ws = l ++ e :: l' → e.1 * stretch / 256 ≤ d → (∀ x ∈ l', d < x.1 * stretch / 256) → w = e.2)

end Sys2Proof

section

open Sys2Proof Sys2Proof.Machine

/-- Sprint windows close, the stretch follows its demands, loads are announced, and the supply pins bring rails up and down with what is saved. (14_power_thermal_clocks.md (Sprint windows), 14_power_thermal_clocks.md (Feed-forward), 14_power_thermal_clocks.md (Slot stretching), 14_power_thermal_clocks.md (The wear ledger), 14_power_thermal_clocks.md (Power sequencing), 14_power_thermal_clocks.md (Thermal limits)) -/
def Obligations.PowerAndSupplyPinsAct : Prop :=
  (∀ s : State, s.pins.pwrGood = true →
    let only := fun (t : State) => t = { s with regs := t.regs, log := t.log, power := t.power }
    (s.power.sprintAt = none → exec .pwrSprintEnd s = .next s) ∧
    (∀ at', s.power.sprintAt = some at' →
      let ends := at' + s.fld Reg.PWR_SPRINT_CFG_SPRINT_MAX_MS * 1000000 ≤ s.tb ∨ s.fld Reg.PWR_STATE_EXHAUSTED = 1
      (¬ ends → exec .pwrSprintEnd s = .next s) ∧
      (ends → ∃ t, exec .pwrSprintEnd s = .next t ∧ only t ∧ t.power = { s.power with sprintAt := none, sprintClosed := some s.tb } ∧
        t.fld Reg.PWR_STATE_SPRINT_OPEN = 0 ∧ Claims.raised s t pwrSite 0x440D)) ∧
    (∃ t, exec .stretchUpdate s = .next t ∧ only t ∧
      (let p := s.power
       let q := t.power
       let n := 10 * p.samples.length
       let limit := if p.sprintAt = none then 1100 else 1250
       let f := max q.sTh (max q.sPw q.sLg)
       let notes := (s.fld Reg.PWR_STATE_STRETCH = 256 ∧ f ≠ 256) ∨ (s.fld Reg.PWR_STATE_STRETCH ≠ 1024 ∧ f = 1024)
       (s.atMaximum = true → q.sTh = 1024) ∧
       (s.atMaximum = false → Claims.demanded p.sTh q.sTh (s.anyAt dieSensor 100 = true ∨ s.anyAt memSensor 95 = true) (s.anyAt dieSensor 98 = false ∧ s.anyAt memSensor 93 = false)) ∧
       Claims.demanded p.sPw q.sPw (limit * n < p.samples.sum) (p.samples.sum ≤ (limit - 20) * n) ∧
       Claims.demanded p.sLg q.sLg (s.fld Reg.PWR_STATE_EXHAUSTED = 1 ∧ 1100 * n < p.samples.sum) (p.samples.sum ≤ 1080 * n) ∧
       t.fld Reg.PWR_STATE_STRETCH = f % 2048 ∧ t.fld Reg.PWR_STATE_TH = (if 256 < q.sTh then 1 else 0) ∧ t.fld Reg.PWR_STATE_PW = (if 256 < q.sPw then 1 else 0) ∧
       t.fld Reg.PWR_STATE_LG = (if 256 < q.sLg then 1 else 0) ∧
       (s.coreOn = true → t.fld Reg.CLK_STATE_CCLK_MHZ = (if s.fuses.gradeB then 1550 else 1700) * 256 / (f % 2048) % 4096) ∧ (s.coreOn = false → t.fld Reg.CLK_STATE_CCLK_MHZ = 0) ∧
       (256 < f % 2048 → Claims.rose s t Reg.PWR_STAT_STRETCH_MS 1) ∧ (f % 2048 ≤ 256 → t.reg Reg.PWR_STAT_STRETCH_MS = s.reg Reg.PWR_STAT_STRETCH_MS) ∧
       (notes → Claims.raised s t pwrSite 0x4405) ∧ (¬ notes → t.log = s.log ∧ t.reg Reg.PWR_ERR = s.reg Reg.PWR_ERR))) ∧
    (let w := s.predictedAt (s.tb + s.fld Reg.PWR_CTRL_LEAD_NS)
     ((s.coreOn = false ∨ w = s.power.announced) → exec .feedForward s = .next s) ∧
     (s.coreOn = true → w ≠ s.power.announced → exec .feedForward s = .next { s with power := { s.power with announced := w }, out := .feed w :: s.out }) ∧
     ((∀ p : Fin 16, s.partState p ≠ 3) → w = 0) ∧
     (∀ p : Fin 16, s.partState p = 3 → (∀ q : Fin 16, q ≠ p → s.partState q ≠ 3) → let T := s.tb + s.fld Reg.PWR_CTRL_LEAD_NS
       let x := s.part p
       (T < x.frameAt → w = 0) ∧ (x.frameAt ≤ T → T < x.nextFrame → Claims.profileAt (s.selectedProfile p) x.stretch (T - x.frameAt) w) ∧
       (x.frameAt ≤ T → x.nextFrame ≤ T → x.stopTo ≠ none → w = 0) ∧
       (x.frameAt ≤ T → x.nextFrame ≤ T → x.stopTo = none → (∀ y ∈ s.pends, y.due = true → y.group ≠ .profile p (if s.sprinting p then 1 else 0)) →
         Claims.profileAt (s.selectedProfile p) s.stretch ((T - x.nextFrame) % (s.frameNs p * s.stretch / 256)) w))) ∧
    (∀ p k count words, let r := s.profileApply p k count words
      (r.1 = 0 ∨ r.1 = 0x4401 → r.2.reg Reg.PWR_STAT_REFUSED = s.reg Reg.PWR_STAT_REFUSED) ∧ (r.1 = 0x4402 ∨ r.1 = 0x4403 → Claims.rose s r.2 Reg.PWR_STAT_REFUSED 1)) ∧
    (s.power.savedAt + 3600000000000 ≤ s.tb → exec .ledgerWrite s = .next { s with power := { s.power with
      saved := s.power.saved.write ⟨s.power.usedMs, s.power.poweredMs, s.power.highest⟩, savedAt := s.tb, saving := some s.tb } }) ∧
    (∀ (k : Kept Ledger) v v', (k.write v).held v' = v ∧ (k.write v).cut.held v' = k.held v') ∧
    (s.tb < s.power.savedAt + 3600000000000 → exec .ledgerWrite s = .next s) ∧
    (∀ rail : Bool,
      let fault := s.coreOn = true ∧ (rail = true ∨ ∃ x ∈ s.power.hotSince, x.2 + 100000000 ≤ s.tb)
      (¬ fault → exec (.pwrCoreFault rail) s = .next s) ∧
      (fault → ∃ t, exec (.pwrCoreFault rail) s = .next t ∧ t.coreOn = false ∧ (s.power.sprintAt = none → Claims.raised s t pwrSite 0x440B) ∧
        (s.power.sprintAt ≠ none → t.power.sprintAt = none ∧ t.fld Reg.PWR_STATE_SPRINT_OPEN = 0 ∧ t.fld Reg.PWR_ERR_CODE = 0x440D) ∧ t.counters = [] ∧ t.seqs = [] ∧ t.arrays = [] ∧ t.parts = [] ∧
        (Claims.quiet s → (∀ m : Fin 128, (s.mat m).running = []) → t.regions = s.regions ∧ t.flash = s.flash ∧ ∀ a, a < generalSize → t.readByte a = s.readByte a) ∧
        (s.fld Reg.RAS_CTRL_FALLOW_EN = 1 → Claims.noneFrom s 5 → Claims.triggered s t 5 17 0 0x440B 0) ∧
        (s.fld Reg.RAS_CTRL_FALLOW_EN = 0 → Claims.noneFrom s 6 → Claims.triggered s t 6 17 0 0x440B 0)))) ∧
  (∀ (mv ns : Nat) (s : State),
    let present := 10400 ≤ mv ∧ mv ≤ 13800
    let u : State := if present then { s with pins := { s.pins with vinOk := true } } else s
    let outside := s.pins.pwrGood = true ∧ (mv < 10800 ∨ 13200 < mv) ∧ 100000 < ns
    let lost : Pins := { s.pins with vinOk := false, trip := s.pins.trip && decide (mv ≠ 0) }
    (outside → ∃ t, exec (.pwrVin mv ns) s = .next t ∧ Claims.onlyRaised u t pwrSite 0x440A) ∧
    (¬ outside → exec (.pwrVin mv ns) s = .next u) ∧
    (present → exec (.vinLoss mv) s = .next s) ∧
    (¬ present → s.pins.pwrGood = false → exec (.vinLoss mv) s = .next { s with pins := lost }) ∧
    (¬ present → s.pins.pwrGood = true → ∃ t, exec (.vinLoss mv) s = .next t ∧ Claims.railsOff s t lost (Claims.lostLedger s) ∧ Claims.lostFlash s t)) ∧
  (∀ (ok : Bool) (s : State),
    let up := s.pins.vinOk = true ∧ s.pins.trip = false ∧ ok = true
    let pins : Pins := { s.pins with pwrEn := true, failed := false, riseAt := s.tb }
    (s.pins.pwrEn = true → exec (.pwrEnRise ok) s = .next s) ∧
    (s.pins.pwrEn = false → up → exec (.pwrEnRise ok) s = .next { s with pins := { pins with pwrGood := true }, mgmt := { s.mgmt with boot := some true } }) ∧
    (s.pins.pwrEn = false → ¬ up → exec (.pwrEnRise ok) s = .next { s with pins := { pins with pwrGood := false } })) ∧
  (∀ s : State,
    let late := s.pins.pwrEn = true ∧ s.pins.pwrGood = false ∧ s.pins.riseAt + 50000000 ≤ s.tb
    let down : Pins := { s.pins with pwrEn := false, failed := false }
    (late → exec .pwrGoodTimeout s = .next { s with pins := { s.pins with failed := true } }) ∧ (¬ late → exec .pwrGoodTimeout s = .next s) ∧
    (s.pins.pwrGood = false → exec .pwrEnFall s = .next { s with pins := down } ∧ exec .thermalTrip s = .next s) ∧
    (s.pins.pwrGood = true →
      (∃ t, exec .pwrEnFall s = .next t ∧ Claims.railsOff s t down (s.power.saved.write ⟨s.power.usedMs, s.power.poweredMs, s.power.highest⟩) ∧
        (s.flash.log.length + s.unflashed.length ≤ 393216 → t.flash = { s.flash with log := s.unflashed.map LogEntry.bytes ++ s.flash.log, writing := none })) ∧
      (∃ t, exec .thermalTrip s = .next t ∧ Claims.railsOff s t { s.pins with trip := true } (Claims.lostLedger s) ∧ Claims.lostFlash s t)))

end

namespace Sys2Proof

open Sys2Proof.Machine

/-- The offset is taken up (R471): by rate alone while a partition is ARMED or RUNNING; else above 1 µs by a step forward or by holding. -/
def Claims.steered (s t : State) (e : Int) : Prop :=
  let started := ∃ p : Fin 16, 2 ≤ s.partState p
  (started → t.tb = s.tb ∧ t.clock.holdNs = 0 ∧ t.clock.slew = e ∧ (1000000 < e.natAbs → t.fld Reg.CLK_ERR_CODE = 0x4804)) ∧
  (¬ started → e.natAbs ≤ 1000 → t.tb = s.tb ∧ t.clock.holdNs = s.clock.holdNs ∧ t.clock.slew = e) ∧
  (¬ started → 1000 < e → t.tb = (s.tb + e.toNat) % 2 ^ 64 ∧ t.clock.holdNs = s.clock.holdNs ∧ t.clock.slew = 0) ∧
  (¬ started → e < -1000 → t.tb = s.tb ∧ t.clock.holdNs = e.natAbs ∧ t.clock.slew = 0)

/-- An offset estimate within a source's bound or not (R470): what is heard and counted, the lock, OFFSET_NS and the correction. -/
def Claims.measured (s t : State) (e : Int) (bound count : Nat) (enough : Prop) : Prop :=
  let inside := e.natAbs ≤ bound
  let was := s.fld Reg.CLK_TB_STATE_LOCKED = 1
  let now := t.fld Reg.CLK_TB_STATE_LOCKED
  t = { s with tb := t.tb, regs := t.regs, log := t.log, power := t.power, clock := t.clock } ∧ t.clock.heard = s.tb ∧ t.clock.unlocked = s.clock.unlocked ∧
  (inside → t.clock.good = count) ∧ (¬ inside → t.clock.good = 0) ∧
  (was → 4 * bound < e.natAbs → now = 0 ∧ Claims.rose s t Reg.CLK_STAT_UNLOCKS 1 ∧ (e.natAbs ≤ 1000000 → Claims.raised s t clkSite 0x4803)) ∧
  (was → e.natAbs ≤ 4 * bound → now = 1) ∧ (¬ was → inside → enough → s.fld Reg.CLK_STATE_REFCLK_OK = 1 → now = 1) ∧
  (¬ was → (¬ inside ∨ ¬ enough ∨ s.fld Reg.CLK_STATE_REFCLK_OK = 0) → now = 0) ∧
  t.fld Reg.CLK_TB_STATE_OFFSET_NS = (BitVec.ofInt 32 (max (-2147483648) (min 2147483647 e))).toNat ∧ Claims.steered s t e

/-- What an offset that PTP measures on a port does (R470): the offset itself under SOURCE 1, its whole seconds under SOURCE 2. -/
def Claims.ptpSteers (s : State) (n : Fin 4) (e : Int) (r : Result) : Prop :=
  let src := s.fld Reg.CLK_TB_CFG_SOURCE
  let here := s.fld Reg.CLK_TB_CFG_PTP_PORT = n
  let w := (e + 500000000) / 1000000000 * 1000000000
  let since := if s.clock.good = 0 then s.tb + 1 else s.clock.good
  ((¬ here ∨ (src ≠ 1 ∧ src ≠ 2) ∨ (src = 2 ∧ w = 0)) → r = .next s) ∧
  (here → src = 1 → ∃ t, r = .next t ∧ Claims.measured s t e 20 since (since + 16000000000 ≤ s.tb + 1)) ∧
  (here → src = 2 → w ≠ 0 → ∃ t, r = .next t ∧ t = { s with tb := t.tb, regs := t.regs, log := t.log, power := t.power, clock := t.clock } ∧ Claims.steered s t w)

end Sys2Proof

section

open Sys2Proof Sys2Proof.Machine

/-- PPS, Saltern and PTP measurements lock and steer the time base by their bounds; REFCLK and PLL events set their states and codes. (14_power_thermal_clocks.md (Clocks), 14_power_thermal_clocks.md (The time base), 10_link_dies.md (PTP), 15_faults_membership_insertion.md (Triggers)) -/
def Obligations.TimeBaseAndClocksFollowTheirSources : Prop :=
  (∀ s : State, s.pins.pwrGood = true →
    let src := s.fld Reg.CLK_TB_CFG_SOURCE
    let r := s.tb % 1000000000
    (src ≠ 2 → exec .ppsEdge s = .next s) ∧
    (src = 2 → ∃ t, exec .ppsEdge s = .next t ∧ Claims.measured s t (if r ≤ 500000000 then -(r : Int) else 1000000000 - (r : Int)) 20 (s.clock.good + 1) (16 ≤ s.clock.good + 1)) ∧
    (∀ x : TimeExchange, (src ≠ 3 → exec (.salternTimeExchange x) s = .next s) ∧
      (s.clockStops (9 + lportDie x.link) = true → exec (.salternTimeExchange x) s = .next s) ∧
      (src = 3 → s.clockStops (9 + lportDie x.link) = false → ∃ t, exec (.salternTimeExchange x) s = .next t ∧
        Claims.measured s t ((x.sent : Int) + x.hops.sum + s.fld (delayFld x.link) (instDelta (x.link / 2)) - s.tb) 1 (s.clock.good + 1) (1000 ≤ s.clock.good + 1))) ∧
    (∀ (n : Fin 4) (m : PtpMsg),
      let up := s.fld Reg.ETH_STATE_LINK (instDelta n) = 2 ∧ s.clockStops (ethSite n).die = false
      let drops := s.frameDrops n m.frame = true
      let p := { (s.ethPort n).ptp with transport := m.transport }
      let r := exec (.ptpMessage n m) s
      let heard := fun (u : State) (q : PtpPort) => u = { s with regs := u.regs, ethPorts := u.ethPorts } ∧ u.ethPort n = { s.ethPort n with ptp := q } ∧
        (∀ k, k ≠ n.val → u.ethPort k = s.ethPort k) ∧ Claims.rose s u (Reg.ETH_STAT_RX_FRAMES + instDelta n) 1 ∧ Claims.regsOutside [Reg.ETH_STAT_RX_FRAMES + instDelta n] s u
      (¬ up → r = .next s) ∧
      (up → drops → ∃ u, r = .next u ∧ u = { s with regs := u.regs } ∧ Claims.rose s u (Reg.ETH_STAT_RX_FRAMES + instDelta n) 1 ∧
        Claims.rose s u (Reg.ETH_STAT_RX_DROPPED + instDelta n) 1 ∧ Claims.regsOutside [Reg.ETH_STAT_RX_FRAMES + instDelta n, Reg.ETH_STAT_RX_DROPPED + instDelta n] s u) ∧
      (up → ¬ drops → s.fld Reg.ETH_CFG_PTP_EN (instDelta n) = 0 → ∃ u, r = .next u ∧ heard u (s.ethPort n).ptp) ∧
      (up → ¬ drops → s.fld Reg.ETH_CFG_PTP_EN (instDelta n) = 1 →
        (∀ q t1, m.body = .sync q (some t1) → ∃ u, heard u { p with twoStep := none, last := some (t1, s.tb) } ∧ Claims.ptpSteers u n ((t1 : Int) + p.delay - s.tb) r) ∧
        (∀ q, m.body = .sync q none → ∃ u, r = .next u ∧ heard u { p with twoStep := some (q.toNat, s.tb) }) ∧
        (∀ (q : BitVec 16) (t1 t2 : Nat), m.body = .followUp q t1 → p.twoStep = some (q.toNat, t2) →
          ∃ u, heard u { p with twoStep := none, last := some (t1, t2) } ∧ Claims.ptpSteers u n ((t1 : Int) + p.delay - t2) r) ∧
        (∀ (q : BitVec 16) (t1 : Nat), m.body = .followUp q t1 → (∀ t2 : Nat, p.twoStep ≠ some (q.toNat, t2)) → ∃ u, r = .next u ∧ heard u p) ∧
        (∀ t4 t1 t2 t3 : Nat, m.body = .delayResp t4 → p.last = some (t1, t2) → p.asked = some t3 →
          ∃ u, r = .next u ∧ heard u { p with asked := none, delay := ((((t2 : Int) - t1) + ((t4 : Int) - t3)) / 2).toNat }) ∧
        (∀ t4, m.body = .delayResp t4 → (p.last = none ∨ p.asked = none) → ∃ u, r = .next u ∧ heard u p))) ∧
    (let silent := s.fld Reg.CLK_TB_STATE_LOCKED = 1 ∧ s.clock.heard + (if src = 3 then 1000000 else 2000000000) < s.tb
     (¬ silent → exec .clkTbUnlock s = .next s) ∧
     (silent → ∃ t, exec .clkTbUnlock s = .next t ∧ t = { s with regs := t.regs, log := t.log, power := t.power, clock := { s.clock with good := 0 } } ∧
       t.fld Reg.CLK_TB_STATE_LOCKED = 0 ∧ t.fld Reg.CLK_TB_STATE_OFFSET_NS = 0 ∧ Claims.rose s t Reg.CLK_STAT_UNLOCKS 1 ∧ Claims.raised s t clkSite 0x4803)) ∧
    (∀ n : Fin 4, let may := s.fld Reg.ETH_CFG_PTP_EN (instDelta n) = 1 ∧ s.fld Reg.ETH_STATE_LINK (instDelta n) = 2 ∧ s.clockStops (ethSite n).die = false
      (¬ may → exec (.delayReqSend n) s = .next s) ∧
      (may → ∃ t, exec (.delayReqSend n) s = .next t ∧ t.ethPort n = { s.ethPort n with ptp := { (s.ethPort n).ptp with asked := some s.tb } } ∧ (∀ k, k ≠ n.val → t.ethPort k = s.ethPort k) ∧
        (let tr := (s.ethPort n).ptp.transport
         let e := decide (tr ≠ .ieee8023) && decide (s.fld Reg.ETH_CFG_ECN_EN (instDelta n) = 1)
         t = { s with regs := t.regs, ethPorts := t.ethPorts, out := .eth n e (s.tagOf n (.delayReq tr s.tb)) (.delayReq tr s.tb) :: s.out }) ∧ Claims.rose s t (Reg.ETH_STAT_TX_FRAMES + instDelta n) 1 ∧ Claims.regsOutside [Reg.ETH_STAT_TX_FRAMES + instDelta n] s t))) ∧
  (∀ s : State, s.pins.pwrGood = true →
    (s.fld Reg.CLK_STATE_REFCLK_OK = 0 → exec .refclkLoss s = .next s) ∧
    (s.fld Reg.CLK_STATE_REFCLK_OK = 1 → ∃ t, exec .refclkLoss s = .next t ∧ t.fld Reg.CLK_STATE_REFCLK_OK = 0 ∧ t.fld Reg.CLK_TB_STATE_LOCKED = 0 ∧ t.clock.good = 0 ∧
      t.fld Reg.CLK_ERR_CODE = (if s.fld Reg.CLK_TB_STATE_LOCKED = 1 then 0x4803 else 0x4801) ∧ t.tb = s.tb ∧ t.coreOn = s.coreOn ∧
      (∀ l : Fin 32, t.lportState l = if s.lportState l = 3 then 2 else s.lportState l) ∧
      (∀ n : Fin 4, t.fld Reg.ETH_STATE_LINK (instDelta n) = if s.fld Reg.ETH_STATE_LINK (instDelta n) = 2 then 1 else s.fld Reg.ETH_STATE_LINK (instDelta n)) ∧
      (s.pumps = [] → Claims.memSame s t)) ∧
    (∃ t, exec .refclkReturn s = .next t ∧ t = { s with regs := t.regs } ∧ t.fld Reg.CLK_STATE_REFCLK_OK = 1 ∧ t.fld Reg.CLK_STATE_PLL_LOCK = s.fld Reg.CLK_STATE_PLL_LOCK ∧
      Claims.regsOutside [Reg.CLK_STATE] s t) ∧
    (∀ k : Fin 11,
      let locked := fun (x : State) (j : Nat) => bit (x.fld Reg.CLK_STATE_PLL_LOCK) j
      let lostAt := fun (x : State) (j : Nat) => x.clock.unlocked.get (fun _ => 0) j
      ((s.fld Reg.CLK_STATE_REFCLK_OK = 0 ∨ locked s k = false) → exec (.pllUnlock k) s = .next s) ∧
      (s.fld Reg.CLK_STATE_REFCLK_OK = 1 → locked s k = true → ∃ t, exec (.pllUnlock k) s = .next t ∧
        t = { s with regs := t.regs, log := t.log, power := t.power, clock := { s.clock with unlocked := t.clock.unlocked } } ∧
        (∀ j : Fin 11, locked t j = if j = k then false else locked s j) ∧ (∀ j, lostAt t j = if j = k.val then s.tb + 1 else lostAt s j) ∧
        Claims.rose s t Reg.CLK_STAT_PLL_UNLOCKS 1 ∧ Claims.raised s t clkSite 0x4802) ∧
      (∀ t, exec (.pllUnlock k) s = .next t → s.fld Reg.CLK_STATE_REFCLK_OK = 1 → locked s k = true → t.clockStops k = true ∧ (k.val = 0 → t.coreRuns = false)) ∧
      (∀ t, exec (.pllRelock k) s = .next t → t.clockStops k = false) ∧
      (lostAt s k = 0 → exec (.pllRelock k) s = .next s ∧ exec (.pllRelockTimeout k) s = .next s) ∧
      (lostAt s k ≠ 0 → ∃ t, exec (.pllRelock k) s = .next t ∧ t = { s with regs := t.regs, clock := { s.clock with unlocked := t.clock.unlocked } } ∧
        (∀ j : Fin 11, locked t j = if j = k then true else locked s j) ∧ (∀ j, lostAt t j = if j = k.val then 0 else lostAt s j) ∧ Claims.regsOutside [Reg.CLK_STATE] s t) ∧
      (lostAt s k ≠ 0 → s.tb + 1 < lostAt s k + 10000000 → exec (.pllRelockTimeout k) s = .next s) ∧
      (lostAt s k ≠ 0 → lostAt s k + 10000000 ≤ s.tb + 1 → s.fld Reg.RAS_STATE_FALLOW = 0 → s.inChipWindow = false → Claims.noneFrom s 4 →
        ∃ t, exec (.pllRelockTimeout k) s = .next t ∧ t = { s with regs := t.regs, log := t.log, power := t.power, ras := t.ras } ∧ Claims.triggered s t 4 18 0 0x4802 9)))

end

namespace Sys2Proof

open Sys2Proof.Machine

/-- Membership packets of a type went to members of this saltern, each with the sender's number, state, fallow flag, a code and SW (R491). -/
def Claims.membersTold (s t : State) (ctype code : Nat) (peers : List Nat) (tail : Bytes) : Prop :=
  ∃ l, t.injected = s.injected ++ l ∧ l.map (fun r => r.pkt.dest) = peers.map (fun m => s.fld Reg.FAB_SELF_SALTERN * 256 + m) ∧
  ∀ r ∈ l, r.pkt.typ = 0x30 ∧ r.pkt.src = s.selfDev ∧ r.pkt.tag / 2 ^ 24 = ctype ∧
    r.pkt.body = leBytes 1 s.selfMember ++ leBytes 1 t.mbrState ++ leBytes 2 (s.fld Reg.RAS_STATE_FALLOW) ++ leBytes 4 code ++ leBytes 8 t.sweepCount ++ tail

/-- A member is reachable (R492): this device, or one whose last HEARTBEAT that said JOINING or NORMAL is no older than HB_TIMEOUT_US. -/
def Claims.reachable (s : State) (m : Nat) : Prop :=
  m = s.selfMember ∨ ∃ h at', SMap.find? s.ras.heard m = some h ∧ h.time = some at' ∧ s.tb ≤ at' + s.fld Reg.RAS_MBR_CFG_HB_TIMEOUT_US * 1000

/-- R follows what has been heard, and its change starts SETTLE_US (R492). -/
def Claims.reachFollows (s t : State) : Prop :=
  (∀ m, m < 256 → (m ∈ t.reach ↔ Claims.reachable t m)) ∧ (t.reach = s.reach → t.ras.changedAt = s.ras.changedAt ∧ t.regs = s.regs) ∧
  (t.reach ≠ s.reach → t.ras.changedAt = some s.tb)

/-- FAB_ADMIT holds a set. -/
def Claims.admits (t : State) (p : Nat → Prop) : Prop := ∀ m, m < 256 → (t.admitted m = true ↔ p m)

/-- The device has become NORMAL with a view (R493, R498). -/
def Claims.joined (s t : State) (v : List Nat) : Prop :=
  t.mbrState = 2 ∧ (∀ m, m < 256 → (m ∈ t.view ↔ m ∈ v)) ∧ Claims.admits t (fun m => m ∈ v ∧ m ≠ s.selfMember) ∧ t.ras.join = none ∧ t.ras.joinAfter = 0 ∧
  t.ras.changedAt = some s.tb ∧ Claims.rose s t Reg.RAS_STAT_JOINS (v.length - 1) ∧ t.fld Reg.RAS_MBR_STATE_VIEW_COUNT = ((List.range 256).filter (fun m => v.contains m)).length

/-- A sweep (R494): SW is one higher, each region that is not local to this device has been advanced, and each ACTIVE context's EPOCH is one higher. -/
def Claims.swept (s t : State) : Prop :=
  t.sweepCount = (s.sweepCount + 1) % 256 ∧ (∀ c : Fin 16384, s.ctxState c = 1 → t.ctxEpoch c = (s.ctxEpoch c + 1) % 256) ∧
  (∀ c : Fin 16384, s.ctxState c ≠ 1 → t.ctxEpoch c = s.ctxEpoch c) ∧
  (SMap.wf s.regions (fun _ => regionInit) = true → ∀ r, t.region r = if (s.region r).size ≠ 0 ∧ (s.region r).scope ≠ 1 then (s.advance r).region r else s.region r)

/-- Members have left the view (R493, R501). -/
def Claims.removed (s t : State) (lost : List Nat) : Prop :=
  t.mbrState = 2 ∧ (∀ m, m < 256 → (m ∈ t.view ↔ m ∈ s.view ∧ m ∉ lost)) ∧ Claims.admits t (fun m => m ∈ s.view ∧ m ∉ lost ∧ m ≠ s.selfMember) ∧
  Claims.swept s t ∧ Claims.rose s t Reg.RAS_STAT_REMOVED lost.length ∧ Claims.raised s t rasSite 0x5407

/-- A set of members is a quorum of a base (R493). -/
def Claims.quorate (s : State) (l base : List Nat) : Prop :=
  let w := fun (x : List Nat) => (x.map s.mbrWeight).sum
  let mine := w (l.filter base.contains)
  w base < 2 * mine ∨ (2 * mine = w base ∧ ∃ t, base.find? s.mbrTie = some t ∧ t ∈ l)

end Sys2Proof

section

open Sys2Proof Sys2Proof.Machine

/-- Heartbeats keep R, the decision admits, removes or fences by quorum, joiners catch up and become NORMAL, leavers idle. (15_faults_membership_insertion.md (Membership), 15_faults_membership_insertion.md (The decision), 15_faults_membership_insertion.md (Sweeps and fencing), 15_faults_membership_insertion.md (Joining), 15_faults_membership_insertion.md (Leaving)) -/
def Obligations.MembershipJoinsDecidesAndLeaves : Prop :=
  (∀ s : State, s.pins.pwrGood = true →
    let due := ∀ x, s.ras.lastBeat = some x → x + s.fld Reg.RAS_MBR_CFG_HB_INTERVAL_US * 1000 ≤ s.tb
    ((s.mbrState = 0 ∨ ¬ due) → exec .heartbeatSend s = .next s) ∧
    (s.mbrState ≠ 0 → due → ∃ t, exec .heartbeatSend s = .next t ∧ t = { s with injected := t.injected, nextReq := t.nextReq, ras := { s.ras with lastBeat := some s.tb } } ∧
      Claims.membersTold s t 0x20 0 ((List.range 256).filter (fun m => s.mbrConfigured m && decide (m ≠ s.selfMember))) []) ∧
    (∀ m : Fin 256, (Claims.reachable s m → exec (.heartbeatTimeout m) s = .next s) ∧
      (¬ Claims.reachable s m → ∃ t, exec (.heartbeatTimeout m) s = .next t ∧ t = { s with regs := t.regs, ras := { s.ras with changedAt := t.ras.changedAt } } ∧ Claims.reachFollows s t))) ∧
  (∀ (k : Pkt) (s : State), s.pins.pwrGood = true →
    let m := mbrBodyMember k
    let rows := [Instr.heartbeat k, .joinReq k, .joinAck k, .leave k]
    let ours := k.src / 256 = s.fld Reg.FAB_SELF_SALTERN
    let known := ours ∧ s.mbrConfigured m = true
    (∀ c ∈ rows, s.mbrState = 0 → exec c s = .next s) ∧
    (∀ c ∈ rows, s.mbrState ≠ 0 → ¬ known → (c = .joinReq k → ¬ ours) → ∃ t, exec c s = .next t ∧ t = { s with regs := t.regs } ∧ Claims.rose s t Reg.RAS_STAT_HB_FOREIGN 1 ∧
      Claims.regsOutside [Reg.RAS_STAT_HB_FOREIGN] s t) ∧
    (s.mbrState ≠ 0 → known → ∃ t, exec (.heartbeat k) s = .next t ∧ t = { s with regs := t.regs, ras := { s.ras with heard := t.ras.heard, changedAt := t.ras.changedAt } } ∧
      (∀ x, SMap.find? t.ras.heard x = if x = m then some ⟨if mbrBodyState k = 1 ∨ mbrBodyState k = 2 then some s.tb else (s.heardOf m).time, mbrBodyState k, mbrBodyFlags k⟩ else SMap.find? s.ras.heard x) ∧ Claims.reachFollows s t) ∧
    (s.mbrState ≠ 0 → ours →
      let code := if s.mbrState ≠ 2 ∨ s.mbrConfigured m = false then 0x5408 else if m ∈ s.view ∧ mbrBodyState k = 1 then 0 else if m ∈ s.reach ∧ m ≠ s.selfMember ∧ (s.heardOf m).state = 2 then 0x5409 else 0
      ∃ t, exec (.joinReq k) s = .next t ∧ t = { s with regs := t.regs, injected := t.injected, nextReq := t.nextReq } ∧
      Claims.membersTold s t 0x22 code [m] ((List.range 4).flatMap (fun n => leBytes 8 (t.reg (Reg.RAS_MBR_VIEW + 8 * n)).toNat)) ∧
      ((code ≠ 0 ∨ m ∈ s.view) → t.regs = s.regs) ∧
      (code = 0 → m ∉ s.view → (∀ x, x < 256 → (x ∈ t.view ↔ x = m ∨ x ∈ s.view)) ∧ Claims.admits t (fun x => (x = m ∨ x ∈ s.view) ∧ x ≠ s.selfMember) ∧ Claims.rose s t Reg.RAS_STAT_JOINS 1)) ∧
    (s.mbrState ≠ 0 → known → (s.mbrState ≠ 1 ∨ (s.ras.join = none ∧ mbrBodyCode k = 0)) → exec (.joinAck k) s = .next s) ∧
    (known → s.mbrState = 1 → mbrBodyCode k ≠ 0 → ∃ t, exec (.joinAck k) s = .next t ∧ Claims.onlyRaised s t rasSite (mbrBodyCode k)) ∧
    (∀ j, known → s.mbrState = 1 → s.ras.join = some j →
      let acks := if j.acks.contains m then j.acks else j.acks ++ [m]
      let v := match j.view with | some v => v | none => (List.range 256).filter (fun x => decide (x = s.selfMember) || (mbrBodyView k).contains x)
      let d := (mbrBodySw k + 256 - s.ras.sweepTo.getD s.sweepCount) % 256
      let late := j.since + 10000000 < s.tb
      (late → mbrBodyCode k = 0 → exec (.joinAck k) s = .next s) ∧
      (¬ late → mbrBodyCode k = 0 → ∃ t, exec (.joinAck k) s = .next t ∧ t = { s with regs := t.regs, regions := t.regions, ras := t.ras } ∧
        (let done := (∀ x ∈ v, x = s.selfMember ∨ x ∈ acks) ∧ t.ras.owed = [] ∧ ∀ r ∈ t.sweptRegions, (t.region r).revoking = false
         (done → Claims.joined s t v) ∧ (¬ done → t.mbrState = 1 ∧ t.ras.join = some ⟨j.since, acks, some v⟩)) ∧
        (j.view ≠ none → t.regions = s.regions ∧ t.ras.owed = s.ras.owed ∧ t.sweepCount = s.sweepCount ∧ t.ras.sweepTo = s.ras.sweepTo) ∧
        (j.view = none → (∀ x, x < 256 → (x ∈ t.view ↔ x ∈ v)) ∧ (t.mbrState = 1 → Claims.admits t (fun _ => False)) ∧
          (if t.ras.owed = [] then t.sweepCount = mbrBodySw k ∧ t.ras.sweepTo = none else t.sweepCount = s.sweepCount ∧ t.ras.sweepTo = some (mbrBodySw k)) ∧ (d = 0 → t.regions = s.regions ∧ t.ras.owed = s.ras.owed) ∧
          (SMap.wf s.regions (fun _ => regionInit) = true → ∀ r, (s.region r).size ≠ 0 → (s.region r).scope ≠ 1 → (s.region r).revoking = false → s.advanceDue r = true →
            (d = 1 → t.region r = (s.takeAdvance r).region r) ∧
            (2 ≤ d → (t.region r).epoch = ((s.region r).epoch + 1) % 256 ∧ (t.region r).revoking = true ∧ t.ras.owed.get (fun _ => 0) r = s.ras.owed.get (fun _ => 0) r + (d - 2)))))) ∧
    (s.mbrState ≠ 0 → known → (s.mbrState ≠ 2 ∨ m ∉ s.view) → exec (.leave k) s = .next s) ∧
    (known → s.mbrState = 2 → m ∈ s.view → ∃ t, exec (.leave k) s = .next t ∧ Claims.removed s t [m])) ∧
  (∀ s : State, s.pins.pwrGood = true →
    let due := ∃ x, s.ras.changedAt = some x ∧ x + s.fld Reg.RAS_MBR_CFG_SETTLE_US * 1000 ≤ s.tb
    let said := fun (n : Nat) => s.reach.filter (fun m => decide (m ≠ s.selfMember) && decide ((s.heardOf m).state = n))
    let quiet : State := { s with ras := { s.ras with changedAt := none } }
    let cand := (List.range 256).filter (fun m => decide (m = s.selfMember) || (said 1).contains m)
    let lost := s.view.filter (fun m => !s.reach.contains m)
    let asks := fun (t : State) => t = { s with injected := t.injected, nextReq := t.nextReq, ras := { s.ras with changedAt := t.ras.changedAt, join := some (s.ras.join.getD ⟨s.tb, [], none⟩), joinAfter := 0 } } ∧
      Claims.membersTold s t 0x21 0 (said 2) []
    (¬ due → exec .membershipDecision s = .next s) ∧
    (due →
      (s.mbrState ≠ 1 → s.mbrState ≠ 2 → exec .membershipDecision s = .next quiet) ∧
      (s.mbrState = 1 → said 2 ≠ [] → ∃ t, exec .membershipDecision s = .next t ∧ asks t ∧ t.ras.changedAt = none) ∧
      (s.mbrState = 1 → said 2 = [] → Claims.quorate s cand ((List.range 256).filter s.mbrConfigured) → ∃ t, exec .membershipDecision s = .next t ∧
        t = { s with regs := t.regs, ras := t.ras } ∧ Claims.joined s t cand ∧ t.sweepCount = s.sweepCount) ∧
      (s.mbrState = 1 → said 2 = [] → ¬ Claims.quorate s cand ((List.range 256).filter s.mbrConfigured) → exec .membershipDecision s = .next quiet) ∧
      (s.mbrState = 2 → lost = [] → exec .membershipDecision s = .next quiet) ∧
      (s.mbrState = 2 → lost ≠ [] → Claims.quorate s s.reach s.view → ∃ t, exec .membershipDecision s = .next t ∧ Claims.removed s t lost ∧
        t = { s with regs := t.regs, log := t.log, power := t.power, regions := t.regions, ras := { s.ras with changedAt := none } }) ∧
      (s.mbrState = 2 → lost ≠ [] → ¬ Claims.quorate s s.reach s.view → ∃ t, exec .membershipDecision s = .next t ∧ t.mbrState = 3 ∧ t.view = s.view ∧
        Claims.admits t (fun m => s.admitted m = true ∧ m ∈ s.reach ∧ m ≠ s.selfMember) ∧ t.sweepCount = (s.sweepCount + 1) % 256 ∧ Claims.raised s t rasSite 0x5406 ∧
        (∀ c : Fin 16384, s.ras.escs = [] → t.ctxState c = (if s.ctxState c = 1 ∧ s.windowSpans (s.ctxPartition c) s.reach = true then 2 else s.ctxState c)))) ∧
    (∀ j, s.ras.join = some j →
      let late := s.mbrState = 1 ∧ j.since + 10000000 < s.tb ∧ ∀ v, j.view = some v → ∃ m ∈ v, m ≠ s.selfMember ∧ m ∉ j.acks
      (¬ late → exec .rasJoinTimeout s = .next s) ∧
      (late → ∃ t, exec .rasJoinTimeout s = .next t ∧ Claims.onlyRaised { s with ras := { s.ras with join := none, joinAfter := s.tb + 100000000 } } t rasSite 0x540A)) ∧
    (s.ras.join = none →
      let again := s.mbrState = 1 ∧ s.ras.joinAfter ≠ 0 ∧ s.ras.joinAfter ≤ s.tb ∧ said 2 ≠ []
      (¬ again → exec .rasJoinTimeout s = .next s) ∧ (again → ∃ t, exec .rasJoinTimeout s = .next t ∧ asks t ∧ t.ras.changedAt = s.ras.changedAt)) ∧
    (s.ras.leftAt = none → exec .leaveIdle s = .next s) ∧
    (∀ x, s.ras.leftAt = some x → (s.tb < x + 1000000 → exec .leaveIdle s = .next s) ∧
      (x + 1000000 ≤ s.tb → ∃ t, exec .leaveIdle s = .next t ∧ t.ras = { s.ras with leftAt := none } ∧ Claims.admits t (fun _ => False) ∧ t.mbrState = s.mbrState ∧
        ((s.mbrState = 4 ∨ s.mbrState = 0) → ∀ n : Fin 16, t.lportState (2 * n) = 1 ∧ (s.split n = true → t.lportState (2 * n + 1) = 1)))) ∧
    (∀ k : Fin 64, s.csrEn (s.seqCtx k) = true → (∃ t, exec (.leaveWrite (.seq k)) s = .next t ∧ Claims.accessRefused s t rasSite 0x5401) ∧
      ∃ t, exec (.rejoin (.seq k)) s = .next t ∧ Claims.accessRefused s t rasSite 0x5401) ∧
    (s.mbrState ≠ 2 → ∃ t, exec (.leaveWrite .mc) s = .next t ∧ Claims.accessRefused s t rasSite 0x5401) ∧
    (s.mbrState ≠ 3 → ∃ t, exec (.rejoin .mc) s = .next t ∧ Claims.accessRefused s t rasSite 0x5401) ∧
    (s.mbrState = 2 → ∃ t, exec (.leaveWrite .mc) s = .next t ∧
      t = { s with regs := t.regs, injected := t.injected, nextReq := t.nextReq, ras := { s.ras with leftAt := some s.tb }, out := .csr 0 0 :: s.out } ∧ t.mbrState = 4 ∧ Claims.admits t (fun _ => False) ∧
      Claims.regsOutside [Reg.RAS_MBR_STATE, Reg.FAB_ADMIT, Reg.FAB_ADMIT + 8, Reg.FAB_ADMIT + 16, Reg.FAB_ADMIT + 24] s t ∧ Claims.membersTold s t 0x23 0 (s.view.filter (fun m => decide (m ≠ s.selfMember))) []) ∧
    (s.mbrState = 3 → ∃ t, exec (.rejoin .mc) s = .next t ∧
      t = { s with regs := t.regs, ras := { s.ras with changedAt := some s.tb, join := none, joinAfter := 0 }, out := .csr 0 0 :: s.out } ∧ t.mbrState = 1 ∧ t.view = [] ∧
      Claims.admits t (fun _ => False) ∧ (∀ m, m < 256 → (m ∈ t.reach ↔ Claims.reachable s m)) ∧ t.sweepCount = s.sweepCount))

end
end

