-- ==== Sys2Proof/Laws/SMap.lean ====
section
/-! SUPPORT. The laws of sparse tables: a read after a write, and the canonical form that every write keeps. -/

set_option Elab.async false

namespace Sys2Proof.Machine

variable {α : Type}

theorem SMap.find_insert_same (m : SMap α) (k : Nat) (v : α) : SMap.find? (SMap.insert m k v) k = some v := by
  induction m with
  | nil => simp [SMap.insert, SMap.find?]
  | cons p t ih =>
    obtain ⟨k', v'⟩ := p
    unfold SMap.insert
    split
    · simp [SMap.find?]
    · split
      · simp [SMap.find?]
      · rename_i h1 h2
        simp [SMap.find?, Ne.symm h2, ih]

theorem SMap.find_insert_other (m : SMap α) (k j : Nat) (v : α) (h : j ≠ k) :
    SMap.find? (SMap.insert m k v) j = SMap.find? m j := by
  induction m with
  | nil => simp [SMap.insert, SMap.find?, Ne.symm h]
  | cons p t ih =>
    obtain ⟨k', v'⟩ := p
    unfold SMap.insert
    split
    · simp [SMap.find?, Ne.symm h]
    · split
      · rename_i h1 h2
        subst h2
        simp [SMap.find?, Ne.symm h]
      · simp [SMap.find?, ih]

theorem SMap.find_erase_same (m : SMap α) (k : Nat) : SMap.find? (SMap.erase m k) k = none := by
  induction m with
  | nil => rfl
  | cons p t ih =>
    obtain ⟨k', v'⟩ := p
    unfold SMap.erase
    split
    · exact ih
    · rename_i h; simp [SMap.find?, h, ih]

theorem SMap.find_erase_other (m : SMap α) (k j : Nat) (h : j ≠ k) : SMap.find? (SMap.erase m k) j = SMap.find? m j := by
  induction m with
  | nil => rfl
  | cons p t ih =>
    obtain ⟨k', v'⟩ := p
    unfold SMap.erase
    split
    · rename_i hk; subst hk; simp [SMap.find?, Ne.symm h, ih]
    · simp [SMap.find?, ih]

/-- A read after a write to the same key gives the value written. -/
@[simp] theorem SMap.get_set_same [DecidableEq α] (m : SMap α) (d : Nat → α) (k : Nat) (v : α) :
    (SMap.set m d k v).get d k = v := by
  unfold SMap.set SMap.get
  split
  · rename_i h; simp [SMap.find_erase_same, h]
  · simp [SMap.find_insert_same]

/-- A write leaves every other key alone. -/
theorem SMap.get_set_other [DecidableEq α] (m : SMap α) (d : Nat → α) (k j : Nat) (v : α) (h : j ≠ k) :
    (SMap.set m d k v).get d j = m.get d j := by
  unfold SMap.set SMap.get
  split
  · simp [SMap.find_erase_other m k j h]
  · simp [SMap.find_insert_other m k j v h]

/-! ### The canonical form -/

/-- Keys above a bound stay above a smaller one. -/
theorem SMap.sorted_mono {m : SMap α} {a b : Nat} (hab : a ≤ b) (h : SMap.sorted (some b) m = true) :
    SMap.sorted (some a) m = true := by
  cases m with
  | nil => rfl
  | cons p t =>
    obtain ⟨k, v⟩ := p
    simp only [SMap.sorted, Bool.and_eq_true, decide_eq_true_eq] at h ⊢
    exact ⟨by omega, h.2⟩

/-- Keys above a bound rise. -/
theorem SMap.sorted_none {m : SMap α} {a : Nat} (h : SMap.sorted (some a) m = true) : SMap.sorted none m = true := by
  cases m with
  | nil => rfl
  | cons p t =>
    obtain ⟨k, v⟩ := p
    simp only [SMap.sorted, Bool.and_eq_true] at h ⊢
    exact ⟨trivial, h.2⟩

theorem SMap.sorted_insert {m : SMap α} {lo k : Nat} (v : α) (hlo : lo < k) (h : SMap.sorted (some lo) m = true) :
    SMap.sorted (some lo) (SMap.insert m k v) = true := by
  induction m generalizing lo with
  | nil => simp [SMap.insert, SMap.sorted, hlo]
  | cons p t ih =>
    obtain ⟨k', v'⟩ := p
    simp only [SMap.sorted, Bool.and_eq_true, decide_eq_true_eq] at h
    unfold SMap.insert
    split
    · rename_i hk; simp [SMap.sorted, hlo, hk, h.2]
    · split
      · rename_i _ hk; subst hk; simp [SMap.sorted, hlo, h.2]
      · simp [SMap.sorted, h.1, ih (by omega) h.2]

theorem SMap.sorted_erase {m : SMap α} {lo k : Nat} (h : SMap.sorted (some lo) m = true) :
    SMap.sorted (some lo) (SMap.erase m k) = true := by
  induction m generalizing lo with
  | nil => rfl
  | cons p t ih =>
    obtain ⟨k', v'⟩ := p
    simp only [SMap.sorted, Bool.and_eq_true, decide_eq_true_eq] at h
    unfold SMap.erase
    split
    · exact SMap.sorted_mono (Nat.le_of_lt h.1) (ih h.2)
    · simp [SMap.sorted, h.1, ih h.2]

theorem SMap.sorted_none_insert {m : SMap α} {k : Nat} (v : α) (h : SMap.sorted none m = true) :
    SMap.sorted none (SMap.insert m k v) = true := by
  cases m with
  | nil => rfl
  | cons p t =>
    obtain ⟨k', v'⟩ := p
    simp only [SMap.sorted, Bool.and_eq_true] at h
    unfold SMap.insert
    split
    · rename_i hk; simp [SMap.sorted, hk, h.2]
    · split
      · rename_i _ hk; subst hk; simp [SMap.sorted, h.2]
      · simp [SMap.sorted, SMap.sorted_insert v (show k' < k by omega) h.2]

theorem SMap.sorted_none_erase {m : SMap α} {k : Nat} (h : SMap.sorted none m = true) :
    SMap.sorted none (SMap.erase m k) = true := by
  induction m with
  | nil => rfl
  | cons p t ih =>
    obtain ⟨k', v'⟩ := p
    simp only [SMap.sorted, Bool.and_eq_true] at h
    unfold SMap.erase
    split
    · exact ih (SMap.sorted_none h.2)
    · simp [SMap.sorted, SMap.sorted_erase h.2]

theorem SMap.mem_insert {m : SMap α} {k : Nat} {v : α} {p : Nat × α} (h : p ∈ SMap.insert m k v) : p = (k, v) ∨ p ∈ m := by
  induction m with
  | nil => simpa [SMap.insert] using h
  | cons q t ih =>
    obtain ⟨k', v'⟩ := q
    unfold SMap.insert at h
    split at h
    · simpa using h
    · split at h
      · simp only [List.mem_cons] at h ⊢; tauto
      · simp only [List.mem_cons] at h ⊢
        rcases h with h | h
        · exact .inr (.inl h)
        · rcases ih h with h | h
          · exact .inl h
          · exact .inr (.inr h)

theorem SMap.mem_erase {m : SMap α} {k : Nat} {p : Nat × α} (h : p ∈ SMap.erase m k) : p ∈ m := by
  induction m with
  | nil => simpa [SMap.erase] using h
  | cons q t ih =>
    obtain ⟨k', v'⟩ := q
    unfold SMap.erase at h
    split at h
    · exact List.mem_cons_of_mem _ (ih h)
    · simp only [List.mem_cons] at h ⊢
      exact h.imp id ih

/-- Every write keeps the canonical form. -/
theorem SMap.wf_set [DecidableEq α] {m : SMap α} {d : Nat → α} (k : Nat) (v : α) (h : SMap.wf m d = true) :
    SMap.wf (SMap.set m d k v) d = true := by
  simp only [SMap.wf, Bool.and_eq_true, List.all_eq_true, decide_eq_true_eq] at h ⊢
  unfold SMap.set
  split
  · exact ⟨SMap.sorted_none_erase h.1, fun p hp => h.2 p (SMap.mem_erase hp)⟩
  · rename_i hv
    refine ⟨SMap.sorted_none_insert v h.1, fun p hp => ?_⟩
    rcases SMap.mem_insert hp with rfl | hp
    · exact hv
    · exact h.2 p hp

theorem SMap.sorted_filter {m : SMap α} (f : Nat × α → Bool) {lo : Nat} (h : SMap.sorted (some lo) m = true) :
    SMap.sorted (some lo) (m.filter f) = true := by
  induction m generalizing lo with
  | nil => rfl
  | cons p t ih =>
    obtain ⟨k, v⟩ := p
    simp only [SMap.sorted, Bool.and_eq_true, decide_eq_true_eq] at h
    by_cases hf : f (k, v) = true
    · simp [hf, SMap.sorted, h.1, ih h.2]
    · simp [hf, ih (SMap.sorted_mono (Nat.le_of_lt h.1) h.2)]

/-- Dropping entries keeps the canonical form. -/
theorem SMap.wf_filter [DecidableEq α] {m : SMap α} {d : Nat → α} (f : Nat × α → Bool) (h : SMap.wf m d = true) :
    SMap.wf (m.filter f) d = true := by
  simp only [SMap.wf, Bool.and_eq_true, List.all_eq_true, decide_eq_true_eq] at h ⊢
  refine ⟨?_, fun p hp => h.2 p (List.mem_filter.1 hp).1⟩
  cases m with
  | nil => rfl
  | cons p t =>
    obtain ⟨k, v⟩ := p
    have h1 := h.1
    simp only [SMap.sorted, Bool.and_eq_true] at h1
    by_cases hf : f (k, v) = true
    · simp [hf, SMap.sorted, SMap.sorted_filter f h1.2]
    · simp [hf, SMap.sorted_none (SMap.sorted_filter f h1.2)]

end Sys2Proof.Machine
end

