-- ==== Sys2Proof/Laws/State.lean ====
section
/-! SUPPORT. What each named update of the state leaves alone: one equation per field, so that no proof unfolds a record
update. -/

set_option Elab.async false

namespace Sys2Proof.Machine

variable (s : State)

@[simp] theorem State.setReg_tb (a : Nat) (v : Word) : (s.setReg a v).tb = s.tb := rfl
@[simp] theorem State.setReg_free (a : Nat) (v : Word) : (s.setReg a v).free = s.free := rfl
@[simp] theorem State.setReg_staged (a : Nat) (v : Word) : (s.setReg a v).staged = s.staged := rfl
@[simp] theorem State.setReg_rake (a : Nat) (v : Word) : (s.setReg a v).rake = s.rake := rfl
@[simp] theorem State.setReg_rakeMask (a : Nat) (v : Word) : (s.setReg a v).rakeMask = s.rakeMask := rfl
@[simp] theorem State.setReg_log (a : Nat) (v : Word) : (s.setReg a v).log = s.log := rfl
@[simp] theorem State.setReg_mem (a : Nat) (v : Word) : (s.setReg a v).mem = s.mem := rfl
@[simp] theorem State.setReg_bad (a : Nat) (v : Word) : (s.setReg a v).bad = s.bad := rfl
@[simp] theorem State.setReg_scratch (a : Nat) (v : Word) : (s.setReg a v).scratch = s.scratch := rfl
@[simp] theorem State.setReg_fuses (a : Nat) (v : Word) : (s.setReg a v).fuses = s.fuses := rfl
@[simp] theorem State.setReg_tap (a : Nat) (v : Word) : (s.setReg a v).tap = s.tap := rfl
@[simp] theorem State.setReg_counters (a : Nat) (v : Word) : (s.setReg a v).counters = s.counters := rfl
@[simp] theorem State.setReg_routers (a : Nat) (v : Word) : (s.setReg a v).routers = s.routers := rfl
@[simp] theorem State.setReg_coreOn (a : Nat) (v : Word) : (s.setReg a v).coreOn = s.coreOn := rfl
@[simp] theorem State.setReg_channels (a : Nat) (v : Word) : (s.setReg a v).channels = s.channels := rfl
@[simp] theorem State.setReg_brineScans (a : Nat) (v : Word) : (s.setReg a v).brineScans = s.brineScans := rfl
@[simp] theorem State.setReg_brineKept (a : Nat) (v : Word) : (s.setReg a v).brineKept = s.brineKept := rfl
@[simp] theorem State.setReg_pools (a : Nat) (v : Word) : (s.setReg a v).pools = s.pools := rfl
@[simp] theorem State.setReg_queues (a : Nat) (v : Word) : (s.setReg a v).queues = s.queues := rfl
@[simp] theorem State.setReg_arrays (a : Nat) (v : Word) : (s.setReg a v).arrays = s.arrays := rfl
@[simp] theorem State.setReg_spoilt (a : Nat) (v : Word) : (s.setReg a v).spoilt = s.spoilt := rfl
@[simp] theorem State.setReg_chains (a : Nat) (v : Word) : (s.setReg a v).chains = s.chains := rfl
@[simp] theorem State.setReg_regions (a : Nat) (v : Word) : (s.setReg a v).regions = s.regions := rfl
@[simp] theorem State.setReg_pumps (a : Nat) (v : Word) : (s.setReg a v).pumps = s.pumps := rfl
@[simp] theorem State.setReg_pumpSeq (a : Nat) (v : Word) : (s.setReg a v).pumpSeq = s.pumpSeq := rfl
@[simp] theorem State.setReg_outstanding (a : Nat) (v : Word) : (s.setReg a v).outstanding = s.outstanding := rfl
@[simp] theorem State.setReg_nextReq (a : Nat) (v : Word) : (s.setReg a v).nextReq = s.nextReq := rfl
@[simp] theorem State.setReg_sources (a : Nat) (v : Word) : (s.setReg a v).sources = s.sources := rfl
@[simp] theorem State.setReg_injected (a : Nat) (v : Word) : (s.setReg a v).injected = s.injected := rfl
@[simp] theorem State.setReg_lports (a : Nat) (v : Word) : (s.setReg a v).lports = s.lports := rfl
@[simp] theorem State.setReg_sending (a : Nat) (v : Word) : (s.setReg a v).sending = s.sending := rfl
@[simp] theorem State.setReg_bound (a : Nat) (v : Word) : (s.setReg a v).bound = s.bound := rfl
@[simp] theorem State.setReg_routes (a : Nat) (v : Word) : (s.setReg a v).routes = s.routes := rfl
@[simp] theorem State.setReg_sluices (a : Nat) (v : Word) : (s.setReg a v).sluices = s.sluices := rfl
@[simp] theorem State.setReg_sluiceLocked (a : Nat) (v : Word) : (s.setReg a v).sluiceLocked = s.sluiceLocked := rfl
@[simp] theorem State.setReg_ranks (a : Nat) (v : Word) : (s.setReg a v).ranks = s.ranks := rfl
@[simp] theorem State.setReg_qps (a : Nat) (v : Word) : (s.setReg a v).qps = s.qps := rfl
@[simp] theorem State.setReg_ethPorts (a : Nat) (v : Word) : (s.setReg a v).ethPorts = s.ethPorts := rfl
@[simp] theorem State.setReg_colls (a : Nat) (v : Word) : (s.setReg a v).colls = s.colls := rfl
@[simp] theorem State.setReg_chunkHeaders (a : Nat) (v : Word) : (s.setReg a v).chunkHeaders = s.chunkHeaders := rfl
@[simp] theorem State.setReg_voidNextCode (a : Nat) (v : Word) : (s.setReg a v).voidNextCode = s.voidNextCode := rfl
@[simp] theorem State.setReg_seqs (a : Nat) (v : Word) : (s.setReg a v).seqs = s.seqs := rfl
@[simp] theorem State.setReg_imem (a : Nat) (v : Word) : (s.setReg a v).imem = s.imem := rfl
@[simp] theorem State.setReg_torn (a : Nat) (v : Word) : (s.setReg a v).torn = s.torn := rfl
@[simp] theorem State.setReg_parts (a : Nat) (v : Word) : (s.setReg a v).parts = s.parts := rfl
@[simp] theorem State.setReg_launches (a : Nat) (v : Word) : (s.setReg a v).launches = s.launches := rfl
@[simp] theorem State.setReg_pends (a : Nat) (v : Word) : (s.setReg a v).pends = s.pends := rfl
@[simp] theorem State.setReg_fills (a : Nat) (v : Word) : (s.setReg a v).fills = s.fills := rfl
@[simp] theorem State.setReg_detBuffer (a : Nat) (v : Word) : (s.setReg a v).detBuffer = s.detBuffer := rfl
@[simp] theorem State.setReg_detTail (a : Nat) (v : Word) : (s.setReg a v).detTail = s.detTail := rfl
@[simp] theorem State.setReg_detTailBad (a : Nat) (v : Word) : (s.setReg a v).detTailBad = s.detTailBad := rfl
@[simp] theorem State.setReg_power (a : Nat) (v : Word) : (s.setReg a v).power = s.power := rfl
@[simp] theorem State.setReg_pins (a : Nat) (v : Word) : (s.setReg a v).pins = s.pins := rfl
@[simp] theorem State.setReg_clock (a : Nat) (v : Word) : (s.setReg a v).clock = s.clock := rfl
@[simp] theorem State.setReg_sensors (a : Nat) (v : Word) : (s.setReg a v).sensors = s.sensors := rfl
@[simp] theorem State.setReg_flash (a : Nat) (v : Word) : (s.setReg a v).flash = s.flash := rfl
@[simp] theorem State.setReg_mgmt (a : Nat) (v : Word) : (s.setReg a v).mgmt = s.mgmt := rfl
@[simp] theorem State.setReg_ras (a : Nat) (v : Word) : (s.setReg a v).ras = s.ras := rfl
@[simp] theorem State.setReg_out (a : Nat) (v : Word) : (s.setReg a v).out = s.out := rfl
@[simp] theorem State.setReg_inputs (a : Nat) (v : Word) : (s.setReg a v).inputs = s.inputs := rfl
@[simp] theorem State.setReg_pending (a : Nat) (v : Word) : (s.setReg a v).pending = s.pending := rfl

@[simp] theorem State.setFld_tb (f : Fld) (δ : Nat) (v : Nat) : (s.setFld f δ v).tb = s.tb := rfl
@[simp] theorem State.setFld_free (f : Fld) (δ : Nat) (v : Nat) : (s.setFld f δ v).free = s.free := rfl
@[simp] theorem State.setFld_staged (f : Fld) (δ : Nat) (v : Nat) : (s.setFld f δ v).staged = s.staged := rfl
@[simp] theorem State.setFld_rake (f : Fld) (δ : Nat) (v : Nat) : (s.setFld f δ v).rake = s.rake := rfl
@[simp] theorem State.setFld_rakeMask (f : Fld) (δ : Nat) (v : Nat) : (s.setFld f δ v).rakeMask = s.rakeMask := rfl
@[simp] theorem State.setFld_log (f : Fld) (δ : Nat) (v : Nat) : (s.setFld f δ v).log = s.log := rfl
@[simp] theorem State.setFld_mem (f : Fld) (δ : Nat) (v : Nat) : (s.setFld f δ v).mem = s.mem := rfl
@[simp] theorem State.setFld_bad (f : Fld) (δ : Nat) (v : Nat) : (s.setFld f δ v).bad = s.bad := rfl
@[simp] theorem State.setFld_scratch (f : Fld) (δ : Nat) (v : Nat) : (s.setFld f δ v).scratch = s.scratch := rfl
@[simp] theorem State.setFld_fuses (f : Fld) (δ : Nat) (v : Nat) : (s.setFld f δ v).fuses = s.fuses := rfl
@[simp] theorem State.setFld_tap (f : Fld) (δ : Nat) (v : Nat) : (s.setFld f δ v).tap = s.tap := rfl
@[simp] theorem State.setFld_counters (f : Fld) (δ : Nat) (v : Nat) : (s.setFld f δ v).counters = s.counters := rfl
@[simp] theorem State.setFld_routers (f : Fld) (δ : Nat) (v : Nat) : (s.setFld f δ v).routers = s.routers := rfl
@[simp] theorem State.setFld_coreOn (f : Fld) (δ : Nat) (v : Nat) : (s.setFld f δ v).coreOn = s.coreOn := rfl
@[simp] theorem State.setFld_channels (f : Fld) (δ : Nat) (v : Nat) : (s.setFld f δ v).channels = s.channels := rfl
@[simp] theorem State.setFld_brineScans (f : Fld) (δ : Nat) (v : Nat) : (s.setFld f δ v).brineScans = s.brineScans := rfl
@[simp] theorem State.setFld_brineKept (f : Fld) (δ : Nat) (v : Nat) : (s.setFld f δ v).brineKept = s.brineKept := rfl
@[simp] theorem State.setFld_pools (f : Fld) (δ : Nat) (v : Nat) : (s.setFld f δ v).pools = s.pools := rfl
@[simp] theorem State.setFld_queues (f : Fld) (δ : Nat) (v : Nat) : (s.setFld f δ v).queues = s.queues := rfl
@[simp] theorem State.setFld_arrays (f : Fld) (δ : Nat) (v : Nat) : (s.setFld f δ v).arrays = s.arrays := rfl
@[simp] theorem State.setFld_spoilt (f : Fld) (δ : Nat) (v : Nat) : (s.setFld f δ v).spoilt = s.spoilt := rfl
@[simp] theorem State.setFld_chains (f : Fld) (δ : Nat) (v : Nat) : (s.setFld f δ v).chains = s.chains := rfl
@[simp] theorem State.setFld_regions (f : Fld) (δ : Nat) (v : Nat) : (s.setFld f δ v).regions = s.regions := rfl
@[simp] theorem State.setFld_pumps (f : Fld) (δ : Nat) (v : Nat) : (s.setFld f δ v).pumps = s.pumps := rfl
@[simp] theorem State.setFld_pumpSeq (f : Fld) (δ : Nat) (v : Nat) : (s.setFld f δ v).pumpSeq = s.pumpSeq := rfl
@[simp] theorem State.setFld_outstanding (f : Fld) (δ : Nat) (v : Nat) : (s.setFld f δ v).outstanding = s.outstanding := rfl
@[simp] theorem State.setFld_nextReq (f : Fld) (δ : Nat) (v : Nat) : (s.setFld f δ v).nextReq = s.nextReq := rfl
@[simp] theorem State.setFld_sources (f : Fld) (δ : Nat) (v : Nat) : (s.setFld f δ v).sources = s.sources := rfl
@[simp] theorem State.setFld_injected (f : Fld) (δ : Nat) (v : Nat) : (s.setFld f δ v).injected = s.injected := rfl
@[simp] theorem State.setFld_lports (f : Fld) (δ : Nat) (v : Nat) : (s.setFld f δ v).lports = s.lports := rfl
@[simp] theorem State.setFld_sending (f : Fld) (δ : Nat) (v : Nat) : (s.setFld f δ v).sending = s.sending := rfl
@[simp] theorem State.setFld_bound (f : Fld) (δ : Nat) (v : Nat) : (s.setFld f δ v).bound = s.bound := rfl
@[simp] theorem State.setFld_routes (f : Fld) (δ : Nat) (v : Nat) : (s.setFld f δ v).routes = s.routes := rfl
@[simp] theorem State.setFld_sluices (f : Fld) (δ : Nat) (v : Nat) : (s.setFld f δ v).sluices = s.sluices := rfl
@[simp] theorem State.setFld_sluiceLocked (f : Fld) (δ : Nat) (v : Nat) : (s.setFld f δ v).sluiceLocked = s.sluiceLocked := rfl
@[simp] theorem State.setFld_ranks (f : Fld) (δ : Nat) (v : Nat) : (s.setFld f δ v).ranks = s.ranks := rfl
@[simp] theorem State.setFld_qps (f : Fld) (δ : Nat) (v : Nat) : (s.setFld f δ v).qps = s.qps := rfl
@[simp] theorem State.setFld_ethPorts (f : Fld) (δ : Nat) (v : Nat) : (s.setFld f δ v).ethPorts = s.ethPorts := rfl
@[simp] theorem State.setFld_colls (f : Fld) (δ : Nat) (v : Nat) : (s.setFld f δ v).colls = s.colls := rfl
@[simp] theorem State.setFld_chunkHeaders (f : Fld) (δ : Nat) (v : Nat) : (s.setFld f δ v).chunkHeaders = s.chunkHeaders := rfl
@[simp] theorem State.setFld_voidNextCode (f : Fld) (δ : Nat) (v : Nat) : (s.setFld f δ v).voidNextCode = s.voidNextCode := rfl
@[simp] theorem State.setFld_seqs (f : Fld) (δ : Nat) (v : Nat) : (s.setFld f δ v).seqs = s.seqs := rfl
@[simp] theorem State.setFld_imem (f : Fld) (δ : Nat) (v : Nat) : (s.setFld f δ v).imem = s.imem := rfl
@[simp] theorem State.setFld_torn (f : Fld) (δ : Nat) (v : Nat) : (s.setFld f δ v).torn = s.torn := rfl
@[simp] theorem State.setFld_parts (f : Fld) (δ : Nat) (v : Nat) : (s.setFld f δ v).parts = s.parts := rfl
@[simp] theorem State.setFld_launches (f : Fld) (δ : Nat) (v : Nat) : (s.setFld f δ v).launches = s.launches := rfl
@[simp] theorem State.setFld_pends (f : Fld) (δ : Nat) (v : Nat) : (s.setFld f δ v).pends = s.pends := rfl
@[simp] theorem State.setFld_fills (f : Fld) (δ : Nat) (v : Nat) : (s.setFld f δ v).fills = s.fills := rfl
@[simp] theorem State.setFld_detBuffer (f : Fld) (δ : Nat) (v : Nat) : (s.setFld f δ v).detBuffer = s.detBuffer := rfl
@[simp] theorem State.setFld_detTail (f : Fld) (δ : Nat) (v : Nat) : (s.setFld f δ v).detTail = s.detTail := rfl
@[simp] theorem State.setFld_detTailBad (f : Fld) (δ : Nat) (v : Nat) : (s.setFld f δ v).detTailBad = s.detTailBad := rfl
@[simp] theorem State.setFld_power (f : Fld) (δ : Nat) (v : Nat) : (s.setFld f δ v).power = s.power := rfl
@[simp] theorem State.setFld_pins (f : Fld) (δ : Nat) (v : Nat) : (s.setFld f δ v).pins = s.pins := rfl
@[simp] theorem State.setFld_clock (f : Fld) (δ : Nat) (v : Nat) : (s.setFld f δ v).clock = s.clock := rfl
@[simp] theorem State.setFld_sensors (f : Fld) (δ : Nat) (v : Nat) : (s.setFld f δ v).sensors = s.sensors := rfl
@[simp] theorem State.setFld_flash (f : Fld) (δ : Nat) (v : Nat) : (s.setFld f δ v).flash = s.flash := rfl
@[simp] theorem State.setFld_mgmt (f : Fld) (δ : Nat) (v : Nat) : (s.setFld f δ v).mgmt = s.mgmt := rfl
@[simp] theorem State.setFld_ras (f : Fld) (δ : Nat) (v : Nat) : (s.setFld f δ v).ras = s.ras := rfl
@[simp] theorem State.setFld_out (f : Fld) (δ : Nat) (v : Nat) : (s.setFld f δ v).out = s.out := rfl
@[simp] theorem State.setFld_inputs (f : Fld) (δ : Nat) (v : Nat) : (s.setFld f δ v).inputs = s.inputs := rfl
@[simp] theorem State.setFld_pending (f : Fld) (δ : Nat) (v : Nat) : (s.setFld f δ v).pending = s.pending := rfl

@[simp] theorem State.bump_tb (f : Fld) (δ : Nat) (n : Nat) : (s.bump f δ n).tb = s.tb := rfl
@[simp] theorem State.bump_free (f : Fld) (δ : Nat) (n : Nat) : (s.bump f δ n).free = s.free := rfl
@[simp] theorem State.bump_staged (f : Fld) (δ : Nat) (n : Nat) : (s.bump f δ n).staged = s.staged := rfl
@[simp] theorem State.bump_rake (f : Fld) (δ : Nat) (n : Nat) : (s.bump f δ n).rake = s.rake := rfl
@[simp] theorem State.bump_rakeMask (f : Fld) (δ : Nat) (n : Nat) : (s.bump f δ n).rakeMask = s.rakeMask := rfl
@[simp] theorem State.bump_log (f : Fld) (δ : Nat) (n : Nat) : (s.bump f δ n).log = s.log := rfl
@[simp] theorem State.bump_mem (f : Fld) (δ : Nat) (n : Nat) : (s.bump f δ n).mem = s.mem := rfl
@[simp] theorem State.bump_bad (f : Fld) (δ : Nat) (n : Nat) : (s.bump f δ n).bad = s.bad := rfl
@[simp] theorem State.bump_scratch (f : Fld) (δ : Nat) (n : Nat) : (s.bump f δ n).scratch = s.scratch := rfl
@[simp] theorem State.bump_fuses (f : Fld) (δ : Nat) (n : Nat) : (s.bump f δ n).fuses = s.fuses := rfl
@[simp] theorem State.bump_tap (f : Fld) (δ : Nat) (n : Nat) : (s.bump f δ n).tap = s.tap := rfl
@[simp] theorem State.bump_counters (f : Fld) (δ : Nat) (n : Nat) : (s.bump f δ n).counters = s.counters := rfl
@[simp] theorem State.bump_routers (f : Fld) (δ : Nat) (n : Nat) : (s.bump f δ n).routers = s.routers := rfl
@[simp] theorem State.bump_coreOn (f : Fld) (δ : Nat) (n : Nat) : (s.bump f δ n).coreOn = s.coreOn := rfl
@[simp] theorem State.bump_channels (f : Fld) (δ : Nat) (n : Nat) : (s.bump f δ n).channels = s.channels := rfl
@[simp] theorem State.bump_brineScans (f : Fld) (δ : Nat) (n : Nat) : (s.bump f δ n).brineScans = s.brineScans := rfl
@[simp] theorem State.bump_brineKept (f : Fld) (δ : Nat) (n : Nat) : (s.bump f δ n).brineKept = s.brineKept := rfl
@[simp] theorem State.bump_pools (f : Fld) (δ : Nat) (n : Nat) : (s.bump f δ n).pools = s.pools := rfl
@[simp] theorem State.bump_queues (f : Fld) (δ : Nat) (n : Nat) : (s.bump f δ n).queues = s.queues := rfl
@[simp] theorem State.bump_arrays (f : Fld) (δ : Nat) (n : Nat) : (s.bump f δ n).arrays = s.arrays := rfl
@[simp] theorem State.bump_spoilt (f : Fld) (δ : Nat) (n : Nat) : (s.bump f δ n).spoilt = s.spoilt := rfl
@[simp] theorem State.bump_chains (f : Fld) (δ : Nat) (n : Nat) : (s.bump f δ n).chains = s.chains := rfl
@[simp] theorem State.bump_regions (f : Fld) (δ : Nat) (n : Nat) : (s.bump f δ n).regions = s.regions := rfl
@[simp] theorem State.bump_pumps (f : Fld) (δ : Nat) (n : Nat) : (s.bump f δ n).pumps = s.pumps := rfl
@[simp] theorem State.bump_pumpSeq (f : Fld) (δ : Nat) (n : Nat) : (s.bump f δ n).pumpSeq = s.pumpSeq := rfl
@[simp] theorem State.bump_outstanding (f : Fld) (δ : Nat) (n : Nat) : (s.bump f δ n).outstanding = s.outstanding := rfl
@[simp] theorem State.bump_nextReq (f : Fld) (δ : Nat) (n : Nat) : (s.bump f δ n).nextReq = s.nextReq := rfl
@[simp] theorem State.bump_sources (f : Fld) (δ : Nat) (n : Nat) : (s.bump f δ n).sources = s.sources := rfl
@[simp] theorem State.bump_injected (f : Fld) (δ : Nat) (n : Nat) : (s.bump f δ n).injected = s.injected := rfl
@[simp] theorem State.bump_lports (f : Fld) (δ : Nat) (n : Nat) : (s.bump f δ n).lports = s.lports := rfl
@[simp] theorem State.bump_sending (f : Fld) (δ : Nat) (n : Nat) : (s.bump f δ n).sending = s.sending := rfl
@[simp] theorem State.bump_bound (f : Fld) (δ : Nat) (n : Nat) : (s.bump f δ n).bound = s.bound := rfl
@[simp] theorem State.bump_routes (f : Fld) (δ : Nat) (n : Nat) : (s.bump f δ n).routes = s.routes := rfl
@[simp] theorem State.bump_sluices (f : Fld) (δ : Nat) (n : Nat) : (s.bump f δ n).sluices = s.sluices := rfl
@[simp] theorem State.bump_sluiceLocked (f : Fld) (δ : Nat) (n : Nat) : (s.bump f δ n).sluiceLocked = s.sluiceLocked := rfl
@[simp] theorem State.bump_ranks (f : Fld) (δ : Nat) (n : Nat) : (s.bump f δ n).ranks = s.ranks := rfl
@[simp] theorem State.bump_qps (f : Fld) (δ : Nat) (n : Nat) : (s.bump f δ n).qps = s.qps := rfl
@[simp] theorem State.bump_ethPorts (f : Fld) (δ : Nat) (n : Nat) : (s.bump f δ n).ethPorts = s.ethPorts := rfl
@[simp] theorem State.bump_colls (f : Fld) (δ : Nat) (n : Nat) : (s.bump f δ n).colls = s.colls := rfl
@[simp] theorem State.bump_chunkHeaders (f : Fld) (δ : Nat) (n : Nat) : (s.bump f δ n).chunkHeaders = s.chunkHeaders := rfl
@[simp] theorem State.bump_voidNextCode (f : Fld) (δ : Nat) (n : Nat) : (s.bump f δ n).voidNextCode = s.voidNextCode := rfl
@[simp] theorem State.bump_seqs (f : Fld) (δ : Nat) (n : Nat) : (s.bump f δ n).seqs = s.seqs := rfl
@[simp] theorem State.bump_imem (f : Fld) (δ : Nat) (n : Nat) : (s.bump f δ n).imem = s.imem := rfl
@[simp] theorem State.bump_torn (f : Fld) (δ : Nat) (n : Nat) : (s.bump f δ n).torn = s.torn := rfl
@[simp] theorem State.bump_parts (f : Fld) (δ : Nat) (n : Nat) : (s.bump f δ n).parts = s.parts := rfl
@[simp] theorem State.bump_launches (f : Fld) (δ : Nat) (n : Nat) : (s.bump f δ n).launches = s.launches := rfl
@[simp] theorem State.bump_pends (f : Fld) (δ : Nat) (n : Nat) : (s.bump f δ n).pends = s.pends := rfl
@[simp] theorem State.bump_fills (f : Fld) (δ : Nat) (n : Nat) : (s.bump f δ n).fills = s.fills := rfl
@[simp] theorem State.bump_detBuffer (f : Fld) (δ : Nat) (n : Nat) : (s.bump f δ n).detBuffer = s.detBuffer := rfl
@[simp] theorem State.bump_detTail (f : Fld) (δ : Nat) (n : Nat) : (s.bump f δ n).detTail = s.detTail := rfl
@[simp] theorem State.bump_detTailBad (f : Fld) (δ : Nat) (n : Nat) : (s.bump f δ n).detTailBad = s.detTailBad := rfl
@[simp] theorem State.bump_power (f : Fld) (δ : Nat) (n : Nat) : (s.bump f δ n).power = s.power := rfl
@[simp] theorem State.bump_pins (f : Fld) (δ : Nat) (n : Nat) : (s.bump f δ n).pins = s.pins := rfl
@[simp] theorem State.bump_clock (f : Fld) (δ : Nat) (n : Nat) : (s.bump f δ n).clock = s.clock := rfl
@[simp] theorem State.bump_sensors (f : Fld) (δ : Nat) (n : Nat) : (s.bump f δ n).sensors = s.sensors := rfl
@[simp] theorem State.bump_flash (f : Fld) (δ : Nat) (n : Nat) : (s.bump f δ n).flash = s.flash := rfl
@[simp] theorem State.bump_mgmt (f : Fld) (δ : Nat) (n : Nat) : (s.bump f δ n).mgmt = s.mgmt := rfl
@[simp] theorem State.bump_ras (f : Fld) (δ : Nat) (n : Nat) : (s.bump f δ n).ras = s.ras := rfl
@[simp] theorem State.bump_out (f : Fld) (δ : Nat) (n : Nat) : (s.bump f δ n).out = s.out := rfl
@[simp] theorem State.bump_inputs (f : Fld) (δ : Nat) (n : Nat) : (s.bump f δ n).inputs = s.inputs := rfl
@[simp] theorem State.bump_pending (f : Fld) (δ : Nat) (n : Nat) : (s.bump f δ n).pending = s.pending := rfl

@[simp] theorem State.stat_tb (a : Nat) (n : Nat) : (s.stat a n).tb = s.tb := rfl
@[simp] theorem State.stat_free (a : Nat) (n : Nat) : (s.stat a n).free = s.free := rfl
@[simp] theorem State.stat_staged (a : Nat) (n : Nat) : (s.stat a n).staged = s.staged := rfl
@[simp] theorem State.stat_rake (a : Nat) (n : Nat) : (s.stat a n).rake = s.rake := rfl
@[simp] theorem State.stat_rakeMask (a : Nat) (n : Nat) : (s.stat a n).rakeMask = s.rakeMask := rfl
@[simp] theorem State.stat_log (a : Nat) (n : Nat) : (s.stat a n).log = s.log := rfl
@[simp] theorem State.stat_mem (a : Nat) (n : Nat) : (s.stat a n).mem = s.mem := rfl
@[simp] theorem State.stat_bad (a : Nat) (n : Nat) : (s.stat a n).bad = s.bad := rfl
@[simp] theorem State.stat_scratch (a : Nat) (n : Nat) : (s.stat a n).scratch = s.scratch := rfl
@[simp] theorem State.stat_fuses (a : Nat) (n : Nat) : (s.stat a n).fuses = s.fuses := rfl
@[simp] theorem State.stat_tap (a : Nat) (n : Nat) : (s.stat a n).tap = s.tap := rfl
@[simp] theorem State.stat_counters (a : Nat) (n : Nat) : (s.stat a n).counters = s.counters := rfl
@[simp] theorem State.stat_routers (a : Nat) (n : Nat) : (s.stat a n).routers = s.routers := rfl
@[simp] theorem State.stat_coreOn (a : Nat) (n : Nat) : (s.stat a n).coreOn = s.coreOn := rfl
@[simp] theorem State.stat_channels (a : Nat) (n : Nat) : (s.stat a n).channels = s.channels := rfl
@[simp] theorem State.stat_brineScans (a : Nat) (n : Nat) : (s.stat a n).brineScans = s.brineScans := rfl
@[simp] theorem State.stat_brineKept (a : Nat) (n : Nat) : (s.stat a n).brineKept = s.brineKept := rfl
@[simp] theorem State.stat_pools (a : Nat) (n : Nat) : (s.stat a n).pools = s.pools := rfl
@[simp] theorem State.stat_queues (a : Nat) (n : Nat) : (s.stat a n).queues = s.queues := rfl
@[simp] theorem State.stat_arrays (a : Nat) (n : Nat) : (s.stat a n).arrays = s.arrays := rfl
@[simp] theorem State.stat_spoilt (a : Nat) (n : Nat) : (s.stat a n).spoilt = s.spoilt := rfl
@[simp] theorem State.stat_chains (a : Nat) (n : Nat) : (s.stat a n).chains = s.chains := rfl
@[simp] theorem State.stat_regions (a : Nat) (n : Nat) : (s.stat a n).regions = s.regions := rfl
@[simp] theorem State.stat_pumps (a : Nat) (n : Nat) : (s.stat a n).pumps = s.pumps := rfl
@[simp] theorem State.stat_pumpSeq (a : Nat) (n : Nat) : (s.stat a n).pumpSeq = s.pumpSeq := rfl
@[simp] theorem State.stat_outstanding (a : Nat) (n : Nat) : (s.stat a n).outstanding = s.outstanding := rfl
@[simp] theorem State.stat_nextReq (a : Nat) (n : Nat) : (s.stat a n).nextReq = s.nextReq := rfl
@[simp] theorem State.stat_sources (a : Nat) (n : Nat) : (s.stat a n).sources = s.sources := rfl
@[simp] theorem State.stat_injected (a : Nat) (n : Nat) : (s.stat a n).injected = s.injected := rfl
@[simp] theorem State.stat_lports (a : Nat) (n : Nat) : (s.stat a n).lports = s.lports := rfl
@[simp] theorem State.stat_sending (a : Nat) (n : Nat) : (s.stat a n).sending = s.sending := rfl
@[simp] theorem State.stat_bound (a : Nat) (n : Nat) : (s.stat a n).bound = s.bound := rfl
@[simp] theorem State.stat_routes (a : Nat) (n : Nat) : (s.stat a n).routes = s.routes := rfl
@[simp] theorem State.stat_sluices (a : Nat) (n : Nat) : (s.stat a n).sluices = s.sluices := rfl
@[simp] theorem State.stat_sluiceLocked (a : Nat) (n : Nat) : (s.stat a n).sluiceLocked = s.sluiceLocked := rfl
@[simp] theorem State.stat_ranks (a : Nat) (n : Nat) : (s.stat a n).ranks = s.ranks := rfl
@[simp] theorem State.stat_qps (a : Nat) (n : Nat) : (s.stat a n).qps = s.qps := rfl
@[simp] theorem State.stat_ethPorts (a : Nat) (n : Nat) : (s.stat a n).ethPorts = s.ethPorts := rfl
@[simp] theorem State.stat_colls (a : Nat) (n : Nat) : (s.stat a n).colls = s.colls := rfl
@[simp] theorem State.stat_chunkHeaders (a : Nat) (n : Nat) : (s.stat a n).chunkHeaders = s.chunkHeaders := rfl
@[simp] theorem State.stat_voidNextCode (a : Nat) (n : Nat) : (s.stat a n).voidNextCode = s.voidNextCode := rfl
@[simp] theorem State.stat_seqs (a : Nat) (n : Nat) : (s.stat a n).seqs = s.seqs := rfl
@[simp] theorem State.stat_imem (a : Nat) (n : Nat) : (s.stat a n).imem = s.imem := rfl
@[simp] theorem State.stat_torn (a : Nat) (n : Nat) : (s.stat a n).torn = s.torn := rfl
@[simp] theorem State.stat_parts (a : Nat) (n : Nat) : (s.stat a n).parts = s.parts := rfl
@[simp] theorem State.stat_launches (a : Nat) (n : Nat) : (s.stat a n).launches = s.launches := rfl
@[simp] theorem State.stat_pends (a : Nat) (n : Nat) : (s.stat a n).pends = s.pends := rfl
@[simp] theorem State.stat_fills (a : Nat) (n : Nat) : (s.stat a n).fills = s.fills := rfl
@[simp] theorem State.stat_detBuffer (a : Nat) (n : Nat) : (s.stat a n).detBuffer = s.detBuffer := rfl
@[simp] theorem State.stat_detTail (a : Nat) (n : Nat) : (s.stat a n).detTail = s.detTail := rfl
@[simp] theorem State.stat_detTailBad (a : Nat) (n : Nat) : (s.stat a n).detTailBad = s.detTailBad := rfl
@[simp] theorem State.stat_power (a : Nat) (n : Nat) : (s.stat a n).power = s.power := rfl
@[simp] theorem State.stat_pins (a : Nat) (n : Nat) : (s.stat a n).pins = s.pins := rfl
@[simp] theorem State.stat_clock (a : Nat) (n : Nat) : (s.stat a n).clock = s.clock := rfl
@[simp] theorem State.stat_sensors (a : Nat) (n : Nat) : (s.stat a n).sensors = s.sensors := rfl
@[simp] theorem State.stat_flash (a : Nat) (n : Nat) : (s.stat a n).flash = s.flash := rfl
@[simp] theorem State.stat_mgmt (a : Nat) (n : Nat) : (s.stat a n).mgmt = s.mgmt := rfl
@[simp] theorem State.stat_ras (a : Nat) (n : Nat) : (s.stat a n).ras = s.ras := rfl
@[simp] theorem State.stat_out (a : Nat) (n : Nat) : (s.stat a n).out = s.out := rfl
@[simp] theorem State.stat_inputs (a : Nat) (n : Nat) : (s.stat a n).inputs = s.inputs := rfl
@[simp] theorem State.stat_pending (a : Nat) (n : Nat) : (s.stat a n).pending = s.pending := rfl

@[simp] theorem State.applyStaged_tb (a : Nat) : (s.applyStaged a).tb = s.tb := rfl
@[simp] theorem State.applyStaged_free (a : Nat) : (s.applyStaged a).free = s.free := rfl
@[simp] theorem State.applyStaged_staged (a : Nat) : (s.applyStaged a).staged = s.staged := rfl
@[simp] theorem State.applyStaged_rake (a : Nat) : (s.applyStaged a).rake = s.rake := rfl
@[simp] theorem State.applyStaged_rakeMask (a : Nat) : (s.applyStaged a).rakeMask = s.rakeMask := rfl
@[simp] theorem State.applyStaged_log (a : Nat) : (s.applyStaged a).log = s.log := rfl
@[simp] theorem State.applyStaged_mem (a : Nat) : (s.applyStaged a).mem = s.mem := rfl
@[simp] theorem State.applyStaged_bad (a : Nat) : (s.applyStaged a).bad = s.bad := rfl
@[simp] theorem State.applyStaged_scratch (a : Nat) : (s.applyStaged a).scratch = s.scratch := rfl
@[simp] theorem State.applyStaged_fuses (a : Nat) : (s.applyStaged a).fuses = s.fuses := rfl
@[simp] theorem State.applyStaged_tap (a : Nat) : (s.applyStaged a).tap = s.tap := rfl
@[simp] theorem State.applyStaged_counters (a : Nat) : (s.applyStaged a).counters = s.counters := rfl
@[simp] theorem State.applyStaged_routers (a : Nat) : (s.applyStaged a).routers = s.routers := rfl
@[simp] theorem State.applyStaged_coreOn (a : Nat) : (s.applyStaged a).coreOn = s.coreOn := rfl
@[simp] theorem State.applyStaged_channels (a : Nat) : (s.applyStaged a).channels = s.channels := rfl
@[simp] theorem State.applyStaged_brineScans (a : Nat) : (s.applyStaged a).brineScans = s.brineScans := rfl
@[simp] theorem State.applyStaged_brineKept (a : Nat) : (s.applyStaged a).brineKept = s.brineKept := rfl
@[simp] theorem State.applyStaged_pools (a : Nat) : (s.applyStaged a).pools = s.pools := rfl
@[simp] theorem State.applyStaged_queues (a : Nat) : (s.applyStaged a).queues = s.queues := rfl
@[simp] theorem State.applyStaged_arrays (a : Nat) : (s.applyStaged a).arrays = s.arrays := rfl
@[simp] theorem State.applyStaged_spoilt (a : Nat) : (s.applyStaged a).spoilt = s.spoilt := rfl
@[simp] theorem State.applyStaged_chains (a : Nat) : (s.applyStaged a).chains = s.chains := rfl
@[simp] theorem State.applyStaged_regions (a : Nat) : (s.applyStaged a).regions = s.regions := rfl
@[simp] theorem State.applyStaged_pumps (a : Nat) : (s.applyStaged a).pumps = s.pumps := rfl
@[simp] theorem State.applyStaged_pumpSeq (a : Nat) : (s.applyStaged a).pumpSeq = s.pumpSeq := rfl
@[simp] theorem State.applyStaged_outstanding (a : Nat) : (s.applyStaged a).outstanding = s.outstanding := rfl
@[simp] theorem State.applyStaged_nextReq (a : Nat) : (s.applyStaged a).nextReq = s.nextReq := rfl
@[simp] theorem State.applyStaged_sources (a : Nat) : (s.applyStaged a).sources = s.sources := rfl
@[simp] theorem State.applyStaged_injected (a : Nat) : (s.applyStaged a).injected = s.injected := rfl
@[simp] theorem State.applyStaged_lports (a : Nat) : (s.applyStaged a).lports = s.lports := rfl
@[simp] theorem State.applyStaged_sending (a : Nat) : (s.applyStaged a).sending = s.sending := rfl
@[simp] theorem State.applyStaged_bound (a : Nat) : (s.applyStaged a).bound = s.bound := rfl
@[simp] theorem State.applyStaged_routes (a : Nat) : (s.applyStaged a).routes = s.routes := rfl
@[simp] theorem State.applyStaged_sluices (a : Nat) : (s.applyStaged a).sluices = s.sluices := rfl
@[simp] theorem State.applyStaged_sluiceLocked (a : Nat) : (s.applyStaged a).sluiceLocked = s.sluiceLocked := rfl
@[simp] theorem State.applyStaged_ranks (a : Nat) : (s.applyStaged a).ranks = s.ranks := rfl
@[simp] theorem State.applyStaged_qps (a : Nat) : (s.applyStaged a).qps = s.qps := rfl
@[simp] theorem State.applyStaged_ethPorts (a : Nat) : (s.applyStaged a).ethPorts = s.ethPorts := rfl
@[simp] theorem State.applyStaged_colls (a : Nat) : (s.applyStaged a).colls = s.colls := rfl
@[simp] theorem State.applyStaged_chunkHeaders (a : Nat) : (s.applyStaged a).chunkHeaders = s.chunkHeaders := rfl
@[simp] theorem State.applyStaged_voidNextCode (a : Nat) : (s.applyStaged a).voidNextCode = s.voidNextCode := rfl
@[simp] theorem State.applyStaged_seqs (a : Nat) : (s.applyStaged a).seqs = s.seqs := rfl
@[simp] theorem State.applyStaged_imem (a : Nat) : (s.applyStaged a).imem = s.imem := rfl
@[simp] theorem State.applyStaged_torn (a : Nat) : (s.applyStaged a).torn = s.torn := rfl
@[simp] theorem State.applyStaged_parts (a : Nat) : (s.applyStaged a).parts = s.parts := rfl
@[simp] theorem State.applyStaged_launches (a : Nat) : (s.applyStaged a).launches = s.launches := rfl
@[simp] theorem State.applyStaged_pends (a : Nat) : (s.applyStaged a).pends = s.pends := rfl
@[simp] theorem State.applyStaged_fills (a : Nat) : (s.applyStaged a).fills = s.fills := rfl
@[simp] theorem State.applyStaged_detBuffer (a : Nat) : (s.applyStaged a).detBuffer = s.detBuffer := rfl
@[simp] theorem State.applyStaged_detTail (a : Nat) : (s.applyStaged a).detTail = s.detTail := rfl
@[simp] theorem State.applyStaged_detTailBad (a : Nat) : (s.applyStaged a).detTailBad = s.detTailBad := rfl
@[simp] theorem State.applyStaged_power (a : Nat) : (s.applyStaged a).power = s.power := rfl
@[simp] theorem State.applyStaged_pins (a : Nat) : (s.applyStaged a).pins = s.pins := rfl
@[simp] theorem State.applyStaged_clock (a : Nat) : (s.applyStaged a).clock = s.clock := rfl
@[simp] theorem State.applyStaged_sensors (a : Nat) : (s.applyStaged a).sensors = s.sensors := rfl
@[simp] theorem State.applyStaged_flash (a : Nat) : (s.applyStaged a).flash = s.flash := rfl
@[simp] theorem State.applyStaged_mgmt (a : Nat) : (s.applyStaged a).mgmt = s.mgmt := rfl
@[simp] theorem State.applyStaged_ras (a : Nat) : (s.applyStaged a).ras = s.ras := rfl
@[simp] theorem State.applyStaged_out (a : Nat) : (s.applyStaged a).out = s.out := rfl
@[simp] theorem State.applyStaged_inputs (a : Nat) : (s.applyStaged a).inputs = s.inputs := rfl
@[simp] theorem State.applyStaged_pending (a : Nat) : (s.applyStaged a).pending = s.pending := rfl

@[simp] theorem State.noteErr_tb (x : Site) (c : Nat) : (s.noteErr x c).tb = s.tb := State.setReg_tb ..
@[simp] theorem State.noteErr_free (x : Site) (c : Nat) : (s.noteErr x c).free = s.free := State.setReg_free ..
@[simp] theorem State.noteErr_staged (x : Site) (c : Nat) : (s.noteErr x c).staged = s.staged := State.setReg_staged ..
@[simp] theorem State.noteErr_rake (x : Site) (c : Nat) : (s.noteErr x c).rake = s.rake := State.setReg_rake ..
@[simp] theorem State.noteErr_rakeMask (x : Site) (c : Nat) : (s.noteErr x c).rakeMask = s.rakeMask := State.setReg_rakeMask ..
@[simp] theorem State.noteErr_log (x : Site) (c : Nat) : (s.noteErr x c).log = s.log := State.setReg_log ..
@[simp] theorem State.noteErr_mem (x : Site) (c : Nat) : (s.noteErr x c).mem = s.mem := State.setReg_mem ..
@[simp] theorem State.noteErr_bad (x : Site) (c : Nat) : (s.noteErr x c).bad = s.bad := State.setReg_bad ..
@[simp] theorem State.noteErr_scratch (x : Site) (c : Nat) : (s.noteErr x c).scratch = s.scratch := State.setReg_scratch ..
@[simp] theorem State.noteErr_fuses (x : Site) (c : Nat) : (s.noteErr x c).fuses = s.fuses := State.setReg_fuses ..
@[simp] theorem State.noteErr_tap (x : Site) (c : Nat) : (s.noteErr x c).tap = s.tap := State.setReg_tap ..
@[simp] theorem State.noteErr_counters (x : Site) (c : Nat) : (s.noteErr x c).counters = s.counters := State.setReg_counters ..
@[simp] theorem State.noteErr_routers (x : Site) (c : Nat) : (s.noteErr x c).routers = s.routers := State.setReg_routers ..
@[simp] theorem State.noteErr_coreOn (x : Site) (c : Nat) : (s.noteErr x c).coreOn = s.coreOn := State.setReg_coreOn ..
@[simp] theorem State.noteErr_channels (x : Site) (c : Nat) : (s.noteErr x c).channels = s.channels := State.setReg_channels ..
@[simp] theorem State.noteErr_brineScans (x : Site) (c : Nat) : (s.noteErr x c).brineScans = s.brineScans := State.setReg_brineScans ..
@[simp] theorem State.noteErr_brineKept (x : Site) (c : Nat) : (s.noteErr x c).brineKept = s.brineKept := State.setReg_brineKept ..
@[simp] theorem State.noteErr_pools (x : Site) (c : Nat) : (s.noteErr x c).pools = s.pools := State.setReg_pools ..
@[simp] theorem State.noteErr_queues (x : Site) (c : Nat) : (s.noteErr x c).queues = s.queues := State.setReg_queues ..
@[simp] theorem State.noteErr_arrays (x : Site) (c : Nat) : (s.noteErr x c).arrays = s.arrays := State.setReg_arrays ..
@[simp] theorem State.noteErr_spoilt (x : Site) (c : Nat) : (s.noteErr x c).spoilt = s.spoilt := State.setReg_spoilt ..
@[simp] theorem State.noteErr_chains (x : Site) (c : Nat) : (s.noteErr x c).chains = s.chains := State.setReg_chains ..
@[simp] theorem State.noteErr_regions (x : Site) (c : Nat) : (s.noteErr x c).regions = s.regions := State.setReg_regions ..
@[simp] theorem State.noteErr_pumps (x : Site) (c : Nat) : (s.noteErr x c).pumps = s.pumps := State.setReg_pumps ..
@[simp] theorem State.noteErr_pumpSeq (x : Site) (c : Nat) : (s.noteErr x c).pumpSeq = s.pumpSeq := State.setReg_pumpSeq ..
@[simp] theorem State.noteErr_outstanding (x : Site) (c : Nat) : (s.noteErr x c).outstanding = s.outstanding := State.setReg_outstanding ..
@[simp] theorem State.noteErr_nextReq (x : Site) (c : Nat) : (s.noteErr x c).nextReq = s.nextReq := State.setReg_nextReq ..
@[simp] theorem State.noteErr_sources (x : Site) (c : Nat) : (s.noteErr x c).sources = s.sources := State.setReg_sources ..
@[simp] theorem State.noteErr_injected (x : Site) (c : Nat) : (s.noteErr x c).injected = s.injected := State.setReg_injected ..
@[simp] theorem State.noteErr_lports (x : Site) (c : Nat) : (s.noteErr x c).lports = s.lports := State.setReg_lports ..
@[simp] theorem State.noteErr_sending (x : Site) (c : Nat) : (s.noteErr x c).sending = s.sending := State.setReg_sending ..
@[simp] theorem State.noteErr_bound (x : Site) (c : Nat) : (s.noteErr x c).bound = s.bound := State.setReg_bound ..
@[simp] theorem State.noteErr_routes (x : Site) (c : Nat) : (s.noteErr x c).routes = s.routes := State.setReg_routes ..
@[simp] theorem State.noteErr_sluices (x : Site) (c : Nat) : (s.noteErr x c).sluices = s.sluices := State.setReg_sluices ..
@[simp] theorem State.noteErr_sluiceLocked (x : Site) (c : Nat) : (s.noteErr x c).sluiceLocked = s.sluiceLocked := State.setReg_sluiceLocked ..
@[simp] theorem State.noteErr_ranks (x : Site) (c : Nat) : (s.noteErr x c).ranks = s.ranks := State.setReg_ranks ..
@[simp] theorem State.noteErr_qps (x : Site) (c : Nat) : (s.noteErr x c).qps = s.qps := State.setReg_qps ..
@[simp] theorem State.noteErr_ethPorts (x : Site) (c : Nat) : (s.noteErr x c).ethPorts = s.ethPorts := State.setReg_ethPorts ..
@[simp] theorem State.noteErr_colls (x : Site) (c : Nat) : (s.noteErr x c).colls = s.colls := State.setReg_colls ..
@[simp] theorem State.noteErr_chunkHeaders (x : Site) (c : Nat) : (s.noteErr x c).chunkHeaders = s.chunkHeaders := State.setReg_chunkHeaders ..
@[simp] theorem State.noteErr_voidNextCode (x : Site) (c : Nat) : (s.noteErr x c).voidNextCode = s.voidNextCode := State.setReg_voidNextCode ..
@[simp] theorem State.noteErr_seqs (x : Site) (c : Nat) : (s.noteErr x c).seqs = s.seqs := State.setReg_seqs ..
@[simp] theorem State.noteErr_imem (x : Site) (c : Nat) : (s.noteErr x c).imem = s.imem := State.setReg_imem ..
@[simp] theorem State.noteErr_torn (x : Site) (c : Nat) : (s.noteErr x c).torn = s.torn := State.setReg_torn ..
@[simp] theorem State.noteErr_parts (x : Site) (c : Nat) : (s.noteErr x c).parts = s.parts := State.setReg_parts ..
@[simp] theorem State.noteErr_launches (x : Site) (c : Nat) : (s.noteErr x c).launches = s.launches := State.setReg_launches ..
@[simp] theorem State.noteErr_pends (x : Site) (c : Nat) : (s.noteErr x c).pends = s.pends := State.setReg_pends ..
@[simp] theorem State.noteErr_fills (x : Site) (c : Nat) : (s.noteErr x c).fills = s.fills := State.setReg_fills ..
@[simp] theorem State.noteErr_detBuffer (x : Site) (c : Nat) : (s.noteErr x c).detBuffer = s.detBuffer := State.setReg_detBuffer ..
@[simp] theorem State.noteErr_detTail (x : Site) (c : Nat) : (s.noteErr x c).detTail = s.detTail := State.setReg_detTail ..
@[simp] theorem State.noteErr_detTailBad (x : Site) (c : Nat) : (s.noteErr x c).detTailBad = s.detTailBad := State.setReg_detTailBad ..
@[simp] theorem State.noteErr_power (x : Site) (c : Nat) : (s.noteErr x c).power = s.power := State.setReg_power ..
@[simp] theorem State.noteErr_pins (x : Site) (c : Nat) : (s.noteErr x c).pins = s.pins := State.setReg_pins ..
@[simp] theorem State.noteErr_clock (x : Site) (c : Nat) : (s.noteErr x c).clock = s.clock := State.setReg_clock ..
@[simp] theorem State.noteErr_sensors (x : Site) (c : Nat) : (s.noteErr x c).sensors = s.sensors := State.setReg_sensors ..
@[simp] theorem State.noteErr_flash (x : Site) (c : Nat) : (s.noteErr x c).flash = s.flash := State.setReg_flash ..
@[simp] theorem State.noteErr_mgmt (x : Site) (c : Nat) : (s.noteErr x c).mgmt = s.mgmt := State.setReg_mgmt ..
@[simp] theorem State.noteErr_ras (x : Site) (c : Nat) : (s.noteErr x c).ras = s.ras := State.setReg_ras ..
@[simp] theorem State.noteErr_out (x : Site) (c : Nat) : (s.noteErr x c).out = s.out := State.setReg_out ..
@[simp] theorem State.noteErr_inputs (x : Site) (c : Nat) : (s.noteErr x c).inputs = s.inputs := State.setReg_inputs ..
@[simp] theorem State.noteErr_pending (x : Site) (c : Nat) : (s.noteErr x c).pending = s.pending := State.setReg_pending ..

@[simp] theorem State.setSeqPhase_tb (n : Nat) (v : Nat) : (s.setSeqPhase n v).tb = s.tb := State.setFld_tb ..
@[simp] theorem State.setSeqPhase_free (n : Nat) (v : Nat) : (s.setSeqPhase n v).free = s.free := State.setFld_free ..
@[simp] theorem State.setSeqPhase_staged (n : Nat) (v : Nat) : (s.setSeqPhase n v).staged = s.staged := State.setFld_staged ..
@[simp] theorem State.setSeqPhase_rake (n : Nat) (v : Nat) : (s.setSeqPhase n v).rake = s.rake := State.setFld_rake ..
@[simp] theorem State.setSeqPhase_rakeMask (n : Nat) (v : Nat) : (s.setSeqPhase n v).rakeMask = s.rakeMask := State.setFld_rakeMask ..
@[simp] theorem State.setSeqPhase_log (n : Nat) (v : Nat) : (s.setSeqPhase n v).log = s.log := State.setFld_log ..
@[simp] theorem State.setSeqPhase_mem (n : Nat) (v : Nat) : (s.setSeqPhase n v).mem = s.mem := State.setFld_mem ..
@[simp] theorem State.setSeqPhase_bad (n : Nat) (v : Nat) : (s.setSeqPhase n v).bad = s.bad := State.setFld_bad ..
@[simp] theorem State.setSeqPhase_scratch (n : Nat) (v : Nat) : (s.setSeqPhase n v).scratch = s.scratch := State.setFld_scratch ..
@[simp] theorem State.setSeqPhase_fuses (n : Nat) (v : Nat) : (s.setSeqPhase n v).fuses = s.fuses := State.setFld_fuses ..
@[simp] theorem State.setSeqPhase_tap (n : Nat) (v : Nat) : (s.setSeqPhase n v).tap = s.tap := State.setFld_tap ..
@[simp] theorem State.setSeqPhase_counters (n : Nat) (v : Nat) : (s.setSeqPhase n v).counters = s.counters := State.setFld_counters ..
@[simp] theorem State.setSeqPhase_routers (n : Nat) (v : Nat) : (s.setSeqPhase n v).routers = s.routers := State.setFld_routers ..
@[simp] theorem State.setSeqPhase_coreOn (n : Nat) (v : Nat) : (s.setSeqPhase n v).coreOn = s.coreOn := State.setFld_coreOn ..
@[simp] theorem State.setSeqPhase_channels (n : Nat) (v : Nat) : (s.setSeqPhase n v).channels = s.channels := State.setFld_channels ..
@[simp] theorem State.setSeqPhase_brineScans (n : Nat) (v : Nat) : (s.setSeqPhase n v).brineScans = s.brineScans := State.setFld_brineScans ..
@[simp] theorem State.setSeqPhase_brineKept (n : Nat) (v : Nat) : (s.setSeqPhase n v).brineKept = s.brineKept := State.setFld_brineKept ..
@[simp] theorem State.setSeqPhase_pools (n : Nat) (v : Nat) : (s.setSeqPhase n v).pools = s.pools := State.setFld_pools ..
@[simp] theorem State.setSeqPhase_queues (n : Nat) (v : Nat) : (s.setSeqPhase n v).queues = s.queues := State.setFld_queues ..
@[simp] theorem State.setSeqPhase_arrays (n : Nat) (v : Nat) : (s.setSeqPhase n v).arrays = s.arrays := State.setFld_arrays ..
@[simp] theorem State.setSeqPhase_spoilt (n : Nat) (v : Nat) : (s.setSeqPhase n v).spoilt = s.spoilt := State.setFld_spoilt ..
@[simp] theorem State.setSeqPhase_chains (n : Nat) (v : Nat) : (s.setSeqPhase n v).chains = s.chains := State.setFld_chains ..
@[simp] theorem State.setSeqPhase_regions (n : Nat) (v : Nat) : (s.setSeqPhase n v).regions = s.regions := State.setFld_regions ..
@[simp] theorem State.setSeqPhase_pumps (n : Nat) (v : Nat) : (s.setSeqPhase n v).pumps = s.pumps := State.setFld_pumps ..
@[simp] theorem State.setSeqPhase_pumpSeq (n : Nat) (v : Nat) : (s.setSeqPhase n v).pumpSeq = s.pumpSeq := State.setFld_pumpSeq ..
@[simp] theorem State.setSeqPhase_outstanding (n : Nat) (v : Nat) : (s.setSeqPhase n v).outstanding = s.outstanding := State.setFld_outstanding ..
@[simp] theorem State.setSeqPhase_nextReq (n : Nat) (v : Nat) : (s.setSeqPhase n v).nextReq = s.nextReq := State.setFld_nextReq ..
@[simp] theorem State.setSeqPhase_sources (n : Nat) (v : Nat) : (s.setSeqPhase n v).sources = s.sources := State.setFld_sources ..
@[simp] theorem State.setSeqPhase_injected (n : Nat) (v : Nat) : (s.setSeqPhase n v).injected = s.injected := State.setFld_injected ..
@[simp] theorem State.setSeqPhase_lports (n : Nat) (v : Nat) : (s.setSeqPhase n v).lports = s.lports := State.setFld_lports ..
@[simp] theorem State.setSeqPhase_sending (n : Nat) (v : Nat) : (s.setSeqPhase n v).sending = s.sending := State.setFld_sending ..
@[simp] theorem State.setSeqPhase_bound (n : Nat) (v : Nat) : (s.setSeqPhase n v).bound = s.bound := State.setFld_bound ..
@[simp] theorem State.setSeqPhase_routes (n : Nat) (v : Nat) : (s.setSeqPhase n v).routes = s.routes := State.setFld_routes ..
@[simp] theorem State.setSeqPhase_sluices (n : Nat) (v : Nat) : (s.setSeqPhase n v).sluices = s.sluices := State.setFld_sluices ..
@[simp] theorem State.setSeqPhase_sluiceLocked (n : Nat) (v : Nat) : (s.setSeqPhase n v).sluiceLocked = s.sluiceLocked := State.setFld_sluiceLocked ..
@[simp] theorem State.setSeqPhase_ranks (n : Nat) (v : Nat) : (s.setSeqPhase n v).ranks = s.ranks := State.setFld_ranks ..
@[simp] theorem State.setSeqPhase_qps (n : Nat) (v : Nat) : (s.setSeqPhase n v).qps = s.qps := State.setFld_qps ..
@[simp] theorem State.setSeqPhase_ethPorts (n : Nat) (v : Nat) : (s.setSeqPhase n v).ethPorts = s.ethPorts := State.setFld_ethPorts ..
@[simp] theorem State.setSeqPhase_colls (n : Nat) (v : Nat) : (s.setSeqPhase n v).colls = s.colls := State.setFld_colls ..
@[simp] theorem State.setSeqPhase_chunkHeaders (n : Nat) (v : Nat) : (s.setSeqPhase n v).chunkHeaders = s.chunkHeaders := State.setFld_chunkHeaders ..
@[simp] theorem State.setSeqPhase_voidNextCode (n : Nat) (v : Nat) : (s.setSeqPhase n v).voidNextCode = s.voidNextCode := State.setFld_voidNextCode ..
@[simp] theorem State.setSeqPhase_seqs (n : Nat) (v : Nat) : (s.setSeqPhase n v).seqs = s.seqs := State.setFld_seqs ..
@[simp] theorem State.setSeqPhase_imem (n : Nat) (v : Nat) : (s.setSeqPhase n v).imem = s.imem := State.setFld_imem ..
@[simp] theorem State.setSeqPhase_torn (n : Nat) (v : Nat) : (s.setSeqPhase n v).torn = s.torn := State.setFld_torn ..
@[simp] theorem State.setSeqPhase_parts (n : Nat) (v : Nat) : (s.setSeqPhase n v).parts = s.parts := State.setFld_parts ..
@[simp] theorem State.setSeqPhase_launches (n : Nat) (v : Nat) : (s.setSeqPhase n v).launches = s.launches := State.setFld_launches ..
@[simp] theorem State.setSeqPhase_pends (n : Nat) (v : Nat) : (s.setSeqPhase n v).pends = s.pends := State.setFld_pends ..
@[simp] theorem State.setSeqPhase_fills (n : Nat) (v : Nat) : (s.setSeqPhase n v).fills = s.fills := State.setFld_fills ..
@[simp] theorem State.setSeqPhase_detBuffer (n : Nat) (v : Nat) : (s.setSeqPhase n v).detBuffer = s.detBuffer := State.setFld_detBuffer ..
@[simp] theorem State.setSeqPhase_detTail (n : Nat) (v : Nat) : (s.setSeqPhase n v).detTail = s.detTail := State.setFld_detTail ..
@[simp] theorem State.setSeqPhase_detTailBad (n : Nat) (v : Nat) : (s.setSeqPhase n v).detTailBad = s.detTailBad := State.setFld_detTailBad ..
@[simp] theorem State.setSeqPhase_power (n : Nat) (v : Nat) : (s.setSeqPhase n v).power = s.power := State.setFld_power ..
@[simp] theorem State.setSeqPhase_pins (n : Nat) (v : Nat) : (s.setSeqPhase n v).pins = s.pins := State.setFld_pins ..
@[simp] theorem State.setSeqPhase_clock (n : Nat) (v : Nat) : (s.setSeqPhase n v).clock = s.clock := State.setFld_clock ..
@[simp] theorem State.setSeqPhase_sensors (n : Nat) (v : Nat) : (s.setSeqPhase n v).sensors = s.sensors := State.setFld_sensors ..
@[simp] theorem State.setSeqPhase_flash (n : Nat) (v : Nat) : (s.setSeqPhase n v).flash = s.flash := State.setFld_flash ..
@[simp] theorem State.setSeqPhase_mgmt (n : Nat) (v : Nat) : (s.setSeqPhase n v).mgmt = s.mgmt := State.setFld_mgmt ..
@[simp] theorem State.setSeqPhase_ras (n : Nat) (v : Nat) : (s.setSeqPhase n v).ras = s.ras := State.setFld_ras ..
@[simp] theorem State.setSeqPhase_out (n : Nat) (v : Nat) : (s.setSeqPhase n v).out = s.out := State.setFld_out ..
@[simp] theorem State.setSeqPhase_inputs (n : Nat) (v : Nat) : (s.setSeqPhase n v).inputs = s.inputs := State.setFld_inputs ..
@[simp] theorem State.setSeqPhase_pending (n : Nat) (v : Nat) : (s.setSeqPhase n v).pending = s.pending := State.setFld_pending ..

@[simp] theorem State.setSeqPc_tb (n : Nat) (v : Nat) : (s.setSeqPc n v).tb = s.tb := State.setFld_tb ..
@[simp] theorem State.setSeqPc_free (n : Nat) (v : Nat) : (s.setSeqPc n v).free = s.free := State.setFld_free ..
@[simp] theorem State.setSeqPc_staged (n : Nat) (v : Nat) : (s.setSeqPc n v).staged = s.staged := State.setFld_staged ..
@[simp] theorem State.setSeqPc_rake (n : Nat) (v : Nat) : (s.setSeqPc n v).rake = s.rake := State.setFld_rake ..
@[simp] theorem State.setSeqPc_rakeMask (n : Nat) (v : Nat) : (s.setSeqPc n v).rakeMask = s.rakeMask := State.setFld_rakeMask ..
@[simp] theorem State.setSeqPc_log (n : Nat) (v : Nat) : (s.setSeqPc n v).log = s.log := State.setFld_log ..
@[simp] theorem State.setSeqPc_mem (n : Nat) (v : Nat) : (s.setSeqPc n v).mem = s.mem := State.setFld_mem ..
@[simp] theorem State.setSeqPc_bad (n : Nat) (v : Nat) : (s.setSeqPc n v).bad = s.bad := State.setFld_bad ..
@[simp] theorem State.setSeqPc_scratch (n : Nat) (v : Nat) : (s.setSeqPc n v).scratch = s.scratch := State.setFld_scratch ..
@[simp] theorem State.setSeqPc_fuses (n : Nat) (v : Nat) : (s.setSeqPc n v).fuses = s.fuses := State.setFld_fuses ..
@[simp] theorem State.setSeqPc_tap (n : Nat) (v : Nat) : (s.setSeqPc n v).tap = s.tap := State.setFld_tap ..
@[simp] theorem State.setSeqPc_counters (n : Nat) (v : Nat) : (s.setSeqPc n v).counters = s.counters := State.setFld_counters ..
@[simp] theorem State.setSeqPc_routers (n : Nat) (v : Nat) : (s.setSeqPc n v).routers = s.routers := State.setFld_routers ..
@[simp] theorem State.setSeqPc_coreOn (n : Nat) (v : Nat) : (s.setSeqPc n v).coreOn = s.coreOn := State.setFld_coreOn ..
@[simp] theorem State.setSeqPc_channels (n : Nat) (v : Nat) : (s.setSeqPc n v).channels = s.channels := State.setFld_channels ..
@[simp] theorem State.setSeqPc_brineScans (n : Nat) (v : Nat) : (s.setSeqPc n v).brineScans = s.brineScans := State.setFld_brineScans ..
@[simp] theorem State.setSeqPc_brineKept (n : Nat) (v : Nat) : (s.setSeqPc n v).brineKept = s.brineKept := State.setFld_brineKept ..
@[simp] theorem State.setSeqPc_pools (n : Nat) (v : Nat) : (s.setSeqPc n v).pools = s.pools := State.setFld_pools ..
@[simp] theorem State.setSeqPc_queues (n : Nat) (v : Nat) : (s.setSeqPc n v).queues = s.queues := State.setFld_queues ..
@[simp] theorem State.setSeqPc_arrays (n : Nat) (v : Nat) : (s.setSeqPc n v).arrays = s.arrays := State.setFld_arrays ..
@[simp] theorem State.setSeqPc_spoilt (n : Nat) (v : Nat) : (s.setSeqPc n v).spoilt = s.spoilt := State.setFld_spoilt ..
@[simp] theorem State.setSeqPc_chains (n : Nat) (v : Nat) : (s.setSeqPc n v).chains = s.chains := State.setFld_chains ..
@[simp] theorem State.setSeqPc_regions (n : Nat) (v : Nat) : (s.setSeqPc n v).regions = s.regions := State.setFld_regions ..
@[simp] theorem State.setSeqPc_pumps (n : Nat) (v : Nat) : (s.setSeqPc n v).pumps = s.pumps := State.setFld_pumps ..
@[simp] theorem State.setSeqPc_pumpSeq (n : Nat) (v : Nat) : (s.setSeqPc n v).pumpSeq = s.pumpSeq := State.setFld_pumpSeq ..
@[simp] theorem State.setSeqPc_outstanding (n : Nat) (v : Nat) : (s.setSeqPc n v).outstanding = s.outstanding := State.setFld_outstanding ..
@[simp] theorem State.setSeqPc_nextReq (n : Nat) (v : Nat) : (s.setSeqPc n v).nextReq = s.nextReq := State.setFld_nextReq ..
@[simp] theorem State.setSeqPc_sources (n : Nat) (v : Nat) : (s.setSeqPc n v).sources = s.sources := State.setFld_sources ..
@[simp] theorem State.setSeqPc_injected (n : Nat) (v : Nat) : (s.setSeqPc n v).injected = s.injected := State.setFld_injected ..
@[simp] theorem State.setSeqPc_lports (n : Nat) (v : Nat) : (s.setSeqPc n v).lports = s.lports := State.setFld_lports ..
@[simp] theorem State.setSeqPc_sending (n : Nat) (v : Nat) : (s.setSeqPc n v).sending = s.sending := State.setFld_sending ..
@[simp] theorem State.setSeqPc_bound (n : Nat) (v : Nat) : (s.setSeqPc n v).bound = s.bound := State.setFld_bound ..
@[simp] theorem State.setSeqPc_routes (n : Nat) (v : Nat) : (s.setSeqPc n v).routes = s.routes := State.setFld_routes ..
@[simp] theorem State.setSeqPc_sluices (n : Nat) (v : Nat) : (s.setSeqPc n v).sluices = s.sluices := State.setFld_sluices ..
@[simp] theorem State.setSeqPc_sluiceLocked (n : Nat) (v : Nat) : (s.setSeqPc n v).sluiceLocked = s.sluiceLocked := State.setFld_sluiceLocked ..
@[simp] theorem State.setSeqPc_ranks (n : Nat) (v : Nat) : (s.setSeqPc n v).ranks = s.ranks := State.setFld_ranks ..
@[simp] theorem State.setSeqPc_qps (n : Nat) (v : Nat) : (s.setSeqPc n v).qps = s.qps := State.setFld_qps ..
@[simp] theorem State.setSeqPc_ethPorts (n : Nat) (v : Nat) : (s.setSeqPc n v).ethPorts = s.ethPorts := State.setFld_ethPorts ..
@[simp] theorem State.setSeqPc_colls (n : Nat) (v : Nat) : (s.setSeqPc n v).colls = s.colls := State.setFld_colls ..
@[simp] theorem State.setSeqPc_chunkHeaders (n : Nat) (v : Nat) : (s.setSeqPc n v).chunkHeaders = s.chunkHeaders := State.setFld_chunkHeaders ..
@[simp] theorem State.setSeqPc_voidNextCode (n : Nat) (v : Nat) : (s.setSeqPc n v).voidNextCode = s.voidNextCode := State.setFld_voidNextCode ..
@[simp] theorem State.setSeqPc_seqs (n : Nat) (v : Nat) : (s.setSeqPc n v).seqs = s.seqs := State.setFld_seqs ..
@[simp] theorem State.setSeqPc_imem (n : Nat) (v : Nat) : (s.setSeqPc n v).imem = s.imem := State.setFld_imem ..
@[simp] theorem State.setSeqPc_torn (n : Nat) (v : Nat) : (s.setSeqPc n v).torn = s.torn := State.setFld_torn ..
@[simp] theorem State.setSeqPc_parts (n : Nat) (v : Nat) : (s.setSeqPc n v).parts = s.parts := State.setFld_parts ..
@[simp] theorem State.setSeqPc_launches (n : Nat) (v : Nat) : (s.setSeqPc n v).launches = s.launches := State.setFld_launches ..
@[simp] theorem State.setSeqPc_pends (n : Nat) (v : Nat) : (s.setSeqPc n v).pends = s.pends := State.setFld_pends ..
@[simp] theorem State.setSeqPc_fills (n : Nat) (v : Nat) : (s.setSeqPc n v).fills = s.fills := State.setFld_fills ..
@[simp] theorem State.setSeqPc_detBuffer (n : Nat) (v : Nat) : (s.setSeqPc n v).detBuffer = s.detBuffer := State.setFld_detBuffer ..
@[simp] theorem State.setSeqPc_detTail (n : Nat) (v : Nat) : (s.setSeqPc n v).detTail = s.detTail := State.setFld_detTail ..
@[simp] theorem State.setSeqPc_detTailBad (n : Nat) (v : Nat) : (s.setSeqPc n v).detTailBad = s.detTailBad := State.setFld_detTailBad ..
@[simp] theorem State.setSeqPc_power (n : Nat) (v : Nat) : (s.setSeqPc n v).power = s.power := State.setFld_power ..
@[simp] theorem State.setSeqPc_pins (n : Nat) (v : Nat) : (s.setSeqPc n v).pins = s.pins := State.setFld_pins ..
@[simp] theorem State.setSeqPc_clock (n : Nat) (v : Nat) : (s.setSeqPc n v).clock = s.clock := State.setFld_clock ..
@[simp] theorem State.setSeqPc_sensors (n : Nat) (v : Nat) : (s.setSeqPc n v).sensors = s.sensors := State.setFld_sensors ..
@[simp] theorem State.setSeqPc_flash (n : Nat) (v : Nat) : (s.setSeqPc n v).flash = s.flash := State.setFld_flash ..
@[simp] theorem State.setSeqPc_mgmt (n : Nat) (v : Nat) : (s.setSeqPc n v).mgmt = s.mgmt := State.setFld_mgmt ..
@[simp] theorem State.setSeqPc_ras (n : Nat) (v : Nat) : (s.setSeqPc n v).ras = s.ras := State.setFld_ras ..
@[simp] theorem State.setSeqPc_out (n : Nat) (v : Nat) : (s.setSeqPc n v).out = s.out := State.setFld_out ..
@[simp] theorem State.setSeqPc_inputs (n : Nat) (v : Nat) : (s.setSeqPc n v).inputs = s.inputs := State.setFld_inputs ..
@[simp] theorem State.setSeqPc_pending (n : Nat) (v : Nat) : (s.setSeqPc n v).pending = s.pending := State.setFld_pending ..

@[simp] theorem State.setLportState_tb (l : Nat) (v : Nat) : (s.setLportState l v).tb = s.tb := State.setFld_tb ..
@[simp] theorem State.setLportState_free (l : Nat) (v : Nat) : (s.setLportState l v).free = s.free := State.setFld_free ..
@[simp] theorem State.setLportState_staged (l : Nat) (v : Nat) : (s.setLportState l v).staged = s.staged := State.setFld_staged ..
@[simp] theorem State.setLportState_rake (l : Nat) (v : Nat) : (s.setLportState l v).rake = s.rake := State.setFld_rake ..
@[simp] theorem State.setLportState_rakeMask (l : Nat) (v : Nat) : (s.setLportState l v).rakeMask = s.rakeMask := State.setFld_rakeMask ..
@[simp] theorem State.setLportState_log (l : Nat) (v : Nat) : (s.setLportState l v).log = s.log := State.setFld_log ..
@[simp] theorem State.setLportState_mem (l : Nat) (v : Nat) : (s.setLportState l v).mem = s.mem := State.setFld_mem ..
@[simp] theorem State.setLportState_bad (l : Nat) (v : Nat) : (s.setLportState l v).bad = s.bad := State.setFld_bad ..
@[simp] theorem State.setLportState_scratch (l : Nat) (v : Nat) : (s.setLportState l v).scratch = s.scratch := State.setFld_scratch ..
@[simp] theorem State.setLportState_fuses (l : Nat) (v : Nat) : (s.setLportState l v).fuses = s.fuses := State.setFld_fuses ..
@[simp] theorem State.setLportState_tap (l : Nat) (v : Nat) : (s.setLportState l v).tap = s.tap := State.setFld_tap ..
@[simp] theorem State.setLportState_counters (l : Nat) (v : Nat) : (s.setLportState l v).counters = s.counters := State.setFld_counters ..
@[simp] theorem State.setLportState_routers (l : Nat) (v : Nat) : (s.setLportState l v).routers = s.routers := State.setFld_routers ..
@[simp] theorem State.setLportState_coreOn (l : Nat) (v : Nat) : (s.setLportState l v).coreOn = s.coreOn := State.setFld_coreOn ..
@[simp] theorem State.setLportState_channels (l : Nat) (v : Nat) : (s.setLportState l v).channels = s.channels := State.setFld_channels ..
@[simp] theorem State.setLportState_brineScans (l : Nat) (v : Nat) : (s.setLportState l v).brineScans = s.brineScans := State.setFld_brineScans ..
@[simp] theorem State.setLportState_brineKept (l : Nat) (v : Nat) : (s.setLportState l v).brineKept = s.brineKept := State.setFld_brineKept ..
@[simp] theorem State.setLportState_pools (l : Nat) (v : Nat) : (s.setLportState l v).pools = s.pools := State.setFld_pools ..
@[simp] theorem State.setLportState_queues (l : Nat) (v : Nat) : (s.setLportState l v).queues = s.queues := State.setFld_queues ..
@[simp] theorem State.setLportState_arrays (l : Nat) (v : Nat) : (s.setLportState l v).arrays = s.arrays := State.setFld_arrays ..
@[simp] theorem State.setLportState_spoilt (l : Nat) (v : Nat) : (s.setLportState l v).spoilt = s.spoilt := State.setFld_spoilt ..
@[simp] theorem State.setLportState_chains (l : Nat) (v : Nat) : (s.setLportState l v).chains = s.chains := State.setFld_chains ..
@[simp] theorem State.setLportState_regions (l : Nat) (v : Nat) : (s.setLportState l v).regions = s.regions := State.setFld_regions ..
@[simp] theorem State.setLportState_pumps (l : Nat) (v : Nat) : (s.setLportState l v).pumps = s.pumps := State.setFld_pumps ..
@[simp] theorem State.setLportState_pumpSeq (l : Nat) (v : Nat) : (s.setLportState l v).pumpSeq = s.pumpSeq := State.setFld_pumpSeq ..
@[simp] theorem State.setLportState_outstanding (l : Nat) (v : Nat) : (s.setLportState l v).outstanding = s.outstanding := State.setFld_outstanding ..
@[simp] theorem State.setLportState_nextReq (l : Nat) (v : Nat) : (s.setLportState l v).nextReq = s.nextReq := State.setFld_nextReq ..
@[simp] theorem State.setLportState_sources (l : Nat) (v : Nat) : (s.setLportState l v).sources = s.sources := State.setFld_sources ..
@[simp] theorem State.setLportState_injected (l : Nat) (v : Nat) : (s.setLportState l v).injected = s.injected := State.setFld_injected ..
@[simp] theorem State.setLportState_lports (l : Nat) (v : Nat) : (s.setLportState l v).lports = s.lports := State.setFld_lports ..
@[simp] theorem State.setLportState_sending (l : Nat) (v : Nat) : (s.setLportState l v).sending = s.sending := State.setFld_sending ..
@[simp] theorem State.setLportState_bound (l : Nat) (v : Nat) : (s.setLportState l v).bound = s.bound := State.setFld_bound ..
@[simp] theorem State.setLportState_routes (l : Nat) (v : Nat) : (s.setLportState l v).routes = s.routes := State.setFld_routes ..
@[simp] theorem State.setLportState_sluices (l : Nat) (v : Nat) : (s.setLportState l v).sluices = s.sluices := State.setFld_sluices ..
@[simp] theorem State.setLportState_sluiceLocked (l : Nat) (v : Nat) : (s.setLportState l v).sluiceLocked = s.sluiceLocked := State.setFld_sluiceLocked ..
@[simp] theorem State.setLportState_ranks (l : Nat) (v : Nat) : (s.setLportState l v).ranks = s.ranks := State.setFld_ranks ..
@[simp] theorem State.setLportState_qps (l : Nat) (v : Nat) : (s.setLportState l v).qps = s.qps := State.setFld_qps ..
@[simp] theorem State.setLportState_ethPorts (l : Nat) (v : Nat) : (s.setLportState l v).ethPorts = s.ethPorts := State.setFld_ethPorts ..
@[simp] theorem State.setLportState_colls (l : Nat) (v : Nat) : (s.setLportState l v).colls = s.colls := State.setFld_colls ..
@[simp] theorem State.setLportState_chunkHeaders (l : Nat) (v : Nat) : (s.setLportState l v).chunkHeaders = s.chunkHeaders := State.setFld_chunkHeaders ..
@[simp] theorem State.setLportState_voidNextCode (l : Nat) (v : Nat) : (s.setLportState l v).voidNextCode = s.voidNextCode := State.setFld_voidNextCode ..
@[simp] theorem State.setLportState_seqs (l : Nat) (v : Nat) : (s.setLportState l v).seqs = s.seqs := State.setFld_seqs ..
@[simp] theorem State.setLportState_imem (l : Nat) (v : Nat) : (s.setLportState l v).imem = s.imem := State.setFld_imem ..
@[simp] theorem State.setLportState_torn (l : Nat) (v : Nat) : (s.setLportState l v).torn = s.torn := State.setFld_torn ..
@[simp] theorem State.setLportState_parts (l : Nat) (v : Nat) : (s.setLportState l v).parts = s.parts := State.setFld_parts ..
@[simp] theorem State.setLportState_launches (l : Nat) (v : Nat) : (s.setLportState l v).launches = s.launches := State.setFld_launches ..
@[simp] theorem State.setLportState_pends (l : Nat) (v : Nat) : (s.setLportState l v).pends = s.pends := State.setFld_pends ..
@[simp] theorem State.setLportState_fills (l : Nat) (v : Nat) : (s.setLportState l v).fills = s.fills := State.setFld_fills ..
@[simp] theorem State.setLportState_detBuffer (l : Nat) (v : Nat) : (s.setLportState l v).detBuffer = s.detBuffer := State.setFld_detBuffer ..
@[simp] theorem State.setLportState_detTail (l : Nat) (v : Nat) : (s.setLportState l v).detTail = s.detTail := State.setFld_detTail ..
@[simp] theorem State.setLportState_detTailBad (l : Nat) (v : Nat) : (s.setLportState l v).detTailBad = s.detTailBad := State.setFld_detTailBad ..
@[simp] theorem State.setLportState_power (l : Nat) (v : Nat) : (s.setLportState l v).power = s.power := State.setFld_power ..
@[simp] theorem State.setLportState_pins (l : Nat) (v : Nat) : (s.setLportState l v).pins = s.pins := State.setFld_pins ..
@[simp] theorem State.setLportState_clock (l : Nat) (v : Nat) : (s.setLportState l v).clock = s.clock := State.setFld_clock ..
@[simp] theorem State.setLportState_sensors (l : Nat) (v : Nat) : (s.setLportState l v).sensors = s.sensors := State.setFld_sensors ..
@[simp] theorem State.setLportState_flash (l : Nat) (v : Nat) : (s.setLportState l v).flash = s.flash := State.setFld_flash ..
@[simp] theorem State.setLportState_mgmt (l : Nat) (v : Nat) : (s.setLportState l v).mgmt = s.mgmt := State.setFld_mgmt ..
@[simp] theorem State.setLportState_ras (l : Nat) (v : Nat) : (s.setLportState l v).ras = s.ras := State.setFld_ras ..
@[simp] theorem State.setLportState_out (l : Nat) (v : Nat) : (s.setLportState l v).out = s.out := State.setFld_out ..
@[simp] theorem State.setLportState_inputs (l : Nat) (v : Nat) : (s.setLportState l v).inputs = s.inputs := State.setFld_inputs ..
@[simp] theorem State.setLportState_pending (l : Nat) (v : Nat) : (s.setLportState l v).pending = s.pending := State.setFld_pending ..

@[simp] theorem State.setLaunchPhase_tb (p : Nat) (v : Nat) : (s.setLaunchPhase p v).tb = s.tb := State.setFld_tb ..
@[simp] theorem State.setLaunchPhase_free (p : Nat) (v : Nat) : (s.setLaunchPhase p v).free = s.free := State.setFld_free ..
@[simp] theorem State.setLaunchPhase_staged (p : Nat) (v : Nat) : (s.setLaunchPhase p v).staged = s.staged := State.setFld_staged ..
@[simp] theorem State.setLaunchPhase_rake (p : Nat) (v : Nat) : (s.setLaunchPhase p v).rake = s.rake := State.setFld_rake ..
@[simp] theorem State.setLaunchPhase_rakeMask (p : Nat) (v : Nat) : (s.setLaunchPhase p v).rakeMask = s.rakeMask := State.setFld_rakeMask ..
@[simp] theorem State.setLaunchPhase_log (p : Nat) (v : Nat) : (s.setLaunchPhase p v).log = s.log := State.setFld_log ..
@[simp] theorem State.setLaunchPhase_mem (p : Nat) (v : Nat) : (s.setLaunchPhase p v).mem = s.mem := State.setFld_mem ..
@[simp] theorem State.setLaunchPhase_bad (p : Nat) (v : Nat) : (s.setLaunchPhase p v).bad = s.bad := State.setFld_bad ..
@[simp] theorem State.setLaunchPhase_scratch (p : Nat) (v : Nat) : (s.setLaunchPhase p v).scratch = s.scratch := State.setFld_scratch ..
@[simp] theorem State.setLaunchPhase_fuses (p : Nat) (v : Nat) : (s.setLaunchPhase p v).fuses = s.fuses := State.setFld_fuses ..
@[simp] theorem State.setLaunchPhase_tap (p : Nat) (v : Nat) : (s.setLaunchPhase p v).tap = s.tap := State.setFld_tap ..
@[simp] theorem State.setLaunchPhase_counters (p : Nat) (v : Nat) : (s.setLaunchPhase p v).counters = s.counters := State.setFld_counters ..
@[simp] theorem State.setLaunchPhase_routers (p : Nat) (v : Nat) : (s.setLaunchPhase p v).routers = s.routers := State.setFld_routers ..
@[simp] theorem State.setLaunchPhase_coreOn (p : Nat) (v : Nat) : (s.setLaunchPhase p v).coreOn = s.coreOn := State.setFld_coreOn ..
@[simp] theorem State.setLaunchPhase_channels (p : Nat) (v : Nat) : (s.setLaunchPhase p v).channels = s.channels := State.setFld_channels ..
@[simp] theorem State.setLaunchPhase_brineScans (p : Nat) (v : Nat) : (s.setLaunchPhase p v).brineScans = s.brineScans := State.setFld_brineScans ..
@[simp] theorem State.setLaunchPhase_brineKept (p : Nat) (v : Nat) : (s.setLaunchPhase p v).brineKept = s.brineKept := State.setFld_brineKept ..
@[simp] theorem State.setLaunchPhase_pools (p : Nat) (v : Nat) : (s.setLaunchPhase p v).pools = s.pools := State.setFld_pools ..
@[simp] theorem State.setLaunchPhase_queues (p : Nat) (v : Nat) : (s.setLaunchPhase p v).queues = s.queues := State.setFld_queues ..
@[simp] theorem State.setLaunchPhase_arrays (p : Nat) (v : Nat) : (s.setLaunchPhase p v).arrays = s.arrays := State.setFld_arrays ..
@[simp] theorem State.setLaunchPhase_spoilt (p : Nat) (v : Nat) : (s.setLaunchPhase p v).spoilt = s.spoilt := State.setFld_spoilt ..
@[simp] theorem State.setLaunchPhase_chains (p : Nat) (v : Nat) : (s.setLaunchPhase p v).chains = s.chains := State.setFld_chains ..
@[simp] theorem State.setLaunchPhase_regions (p : Nat) (v : Nat) : (s.setLaunchPhase p v).regions = s.regions := State.setFld_regions ..
@[simp] theorem State.setLaunchPhase_pumps (p : Nat) (v : Nat) : (s.setLaunchPhase p v).pumps = s.pumps := State.setFld_pumps ..
@[simp] theorem State.setLaunchPhase_pumpSeq (p : Nat) (v : Nat) : (s.setLaunchPhase p v).pumpSeq = s.pumpSeq := State.setFld_pumpSeq ..
@[simp] theorem State.setLaunchPhase_outstanding (p : Nat) (v : Nat) : (s.setLaunchPhase p v).outstanding = s.outstanding := State.setFld_outstanding ..
@[simp] theorem State.setLaunchPhase_nextReq (p : Nat) (v : Nat) : (s.setLaunchPhase p v).nextReq = s.nextReq := State.setFld_nextReq ..
@[simp] theorem State.setLaunchPhase_sources (p : Nat) (v : Nat) : (s.setLaunchPhase p v).sources = s.sources := State.setFld_sources ..
@[simp] theorem State.setLaunchPhase_injected (p : Nat) (v : Nat) : (s.setLaunchPhase p v).injected = s.injected := State.setFld_injected ..
@[simp] theorem State.setLaunchPhase_lports (p : Nat) (v : Nat) : (s.setLaunchPhase p v).lports = s.lports := State.setFld_lports ..
@[simp] theorem State.setLaunchPhase_sending (p : Nat) (v : Nat) : (s.setLaunchPhase p v).sending = s.sending := State.setFld_sending ..
@[simp] theorem State.setLaunchPhase_bound (p : Nat) (v : Nat) : (s.setLaunchPhase p v).bound = s.bound := State.setFld_bound ..
@[simp] theorem State.setLaunchPhase_routes (p : Nat) (v : Nat) : (s.setLaunchPhase p v).routes = s.routes := State.setFld_routes ..
@[simp] theorem State.setLaunchPhase_sluices (p : Nat) (v : Nat) : (s.setLaunchPhase p v).sluices = s.sluices := State.setFld_sluices ..
@[simp] theorem State.setLaunchPhase_sluiceLocked (p : Nat) (v : Nat) : (s.setLaunchPhase p v).sluiceLocked = s.sluiceLocked := State.setFld_sluiceLocked ..
@[simp] theorem State.setLaunchPhase_ranks (p : Nat) (v : Nat) : (s.setLaunchPhase p v).ranks = s.ranks := State.setFld_ranks ..
@[simp] theorem State.setLaunchPhase_qps (p : Nat) (v : Nat) : (s.setLaunchPhase p v).qps = s.qps := State.setFld_qps ..
@[simp] theorem State.setLaunchPhase_ethPorts (p : Nat) (v : Nat) : (s.setLaunchPhase p v).ethPorts = s.ethPorts := State.setFld_ethPorts ..
@[simp] theorem State.setLaunchPhase_colls (p : Nat) (v : Nat) : (s.setLaunchPhase p v).colls = s.colls := State.setFld_colls ..
@[simp] theorem State.setLaunchPhase_chunkHeaders (p : Nat) (v : Nat) : (s.setLaunchPhase p v).chunkHeaders = s.chunkHeaders := State.setFld_chunkHeaders ..
@[simp] theorem State.setLaunchPhase_voidNextCode (p : Nat) (v : Nat) : (s.setLaunchPhase p v).voidNextCode = s.voidNextCode := State.setFld_voidNextCode ..
@[simp] theorem State.setLaunchPhase_seqs (p : Nat) (v : Nat) : (s.setLaunchPhase p v).seqs = s.seqs := State.setFld_seqs ..
@[simp] theorem State.setLaunchPhase_imem (p : Nat) (v : Nat) : (s.setLaunchPhase p v).imem = s.imem := State.setFld_imem ..
@[simp] theorem State.setLaunchPhase_torn (p : Nat) (v : Nat) : (s.setLaunchPhase p v).torn = s.torn := State.setFld_torn ..
@[simp] theorem State.setLaunchPhase_parts (p : Nat) (v : Nat) : (s.setLaunchPhase p v).parts = s.parts := State.setFld_parts ..
@[simp] theorem State.setLaunchPhase_launches (p : Nat) (v : Nat) : (s.setLaunchPhase p v).launches = s.launches := State.setFld_launches ..
@[simp] theorem State.setLaunchPhase_pends (p : Nat) (v : Nat) : (s.setLaunchPhase p v).pends = s.pends := State.setFld_pends ..
@[simp] theorem State.setLaunchPhase_fills (p : Nat) (v : Nat) : (s.setLaunchPhase p v).fills = s.fills := State.setFld_fills ..
@[simp] theorem State.setLaunchPhase_detBuffer (p : Nat) (v : Nat) : (s.setLaunchPhase p v).detBuffer = s.detBuffer := State.setFld_detBuffer ..
@[simp] theorem State.setLaunchPhase_detTail (p : Nat) (v : Nat) : (s.setLaunchPhase p v).detTail = s.detTail := State.setFld_detTail ..
@[simp] theorem State.setLaunchPhase_detTailBad (p : Nat) (v : Nat) : (s.setLaunchPhase p v).detTailBad = s.detTailBad := State.setFld_detTailBad ..
@[simp] theorem State.setLaunchPhase_power (p : Nat) (v : Nat) : (s.setLaunchPhase p v).power = s.power := State.setFld_power ..
@[simp] theorem State.setLaunchPhase_pins (p : Nat) (v : Nat) : (s.setLaunchPhase p v).pins = s.pins := State.setFld_pins ..
@[simp] theorem State.setLaunchPhase_clock (p : Nat) (v : Nat) : (s.setLaunchPhase p v).clock = s.clock := State.setFld_clock ..
@[simp] theorem State.setLaunchPhase_sensors (p : Nat) (v : Nat) : (s.setLaunchPhase p v).sensors = s.sensors := State.setFld_sensors ..
@[simp] theorem State.setLaunchPhase_flash (p : Nat) (v : Nat) : (s.setLaunchPhase p v).flash = s.flash := State.setFld_flash ..
@[simp] theorem State.setLaunchPhase_mgmt (p : Nat) (v : Nat) : (s.setLaunchPhase p v).mgmt = s.mgmt := State.setFld_mgmt ..
@[simp] theorem State.setLaunchPhase_ras (p : Nat) (v : Nat) : (s.setLaunchPhase p v).ras = s.ras := State.setFld_ras ..
@[simp] theorem State.setLaunchPhase_out (p : Nat) (v : Nat) : (s.setLaunchPhase p v).out = s.out := State.setFld_out ..
@[simp] theorem State.setLaunchPhase_inputs (p : Nat) (v : Nat) : (s.setLaunchPhase p v).inputs = s.inputs := State.setFld_inputs ..
@[simp] theorem State.setLaunchPhase_pending (p : Nat) (v : Nat) : (s.setLaunchPhase p v).pending = s.pending := State.setFld_pending ..

@[simp] theorem State.setPartState_tb (p : Nat) (v : Nat) : (s.setPartState p v).tb = s.tb := State.setFld_tb ..
@[simp] theorem State.setPartState_free (p : Nat) (v : Nat) : (s.setPartState p v).free = s.free := State.setFld_free ..
@[simp] theorem State.setPartState_staged (p : Nat) (v : Nat) : (s.setPartState p v).staged = s.staged := State.setFld_staged ..
@[simp] theorem State.setPartState_rake (p : Nat) (v : Nat) : (s.setPartState p v).rake = s.rake := State.setFld_rake ..
@[simp] theorem State.setPartState_rakeMask (p : Nat) (v : Nat) : (s.setPartState p v).rakeMask = s.rakeMask := State.setFld_rakeMask ..
@[simp] theorem State.setPartState_log (p : Nat) (v : Nat) : (s.setPartState p v).log = s.log := State.setFld_log ..
@[simp] theorem State.setPartState_mem (p : Nat) (v : Nat) : (s.setPartState p v).mem = s.mem := State.setFld_mem ..
@[simp] theorem State.setPartState_bad (p : Nat) (v : Nat) : (s.setPartState p v).bad = s.bad := State.setFld_bad ..
@[simp] theorem State.setPartState_scratch (p : Nat) (v : Nat) : (s.setPartState p v).scratch = s.scratch := State.setFld_scratch ..
@[simp] theorem State.setPartState_fuses (p : Nat) (v : Nat) : (s.setPartState p v).fuses = s.fuses := State.setFld_fuses ..
@[simp] theorem State.setPartState_tap (p : Nat) (v : Nat) : (s.setPartState p v).tap = s.tap := State.setFld_tap ..
@[simp] theorem State.setPartState_counters (p : Nat) (v : Nat) : (s.setPartState p v).counters = s.counters := State.setFld_counters ..
@[simp] theorem State.setPartState_routers (p : Nat) (v : Nat) : (s.setPartState p v).routers = s.routers := State.setFld_routers ..
@[simp] theorem State.setPartState_coreOn (p : Nat) (v : Nat) : (s.setPartState p v).coreOn = s.coreOn := State.setFld_coreOn ..
@[simp] theorem State.setPartState_channels (p : Nat) (v : Nat) : (s.setPartState p v).channels = s.channels := State.setFld_channels ..
@[simp] theorem State.setPartState_brineScans (p : Nat) (v : Nat) : (s.setPartState p v).brineScans = s.brineScans := State.setFld_brineScans ..
@[simp] theorem State.setPartState_brineKept (p : Nat) (v : Nat) : (s.setPartState p v).brineKept = s.brineKept := State.setFld_brineKept ..
@[simp] theorem State.setPartState_pools (p : Nat) (v : Nat) : (s.setPartState p v).pools = s.pools := State.setFld_pools ..
@[simp] theorem State.setPartState_queues (p : Nat) (v : Nat) : (s.setPartState p v).queues = s.queues := State.setFld_queues ..
@[simp] theorem State.setPartState_arrays (p : Nat) (v : Nat) : (s.setPartState p v).arrays = s.arrays := State.setFld_arrays ..
@[simp] theorem State.setPartState_spoilt (p : Nat) (v : Nat) : (s.setPartState p v).spoilt = s.spoilt := State.setFld_spoilt ..
@[simp] theorem State.setPartState_chains (p : Nat) (v : Nat) : (s.setPartState p v).chains = s.chains := State.setFld_chains ..
@[simp] theorem State.setPartState_regions (p : Nat) (v : Nat) : (s.setPartState p v).regions = s.regions := State.setFld_regions ..
@[simp] theorem State.setPartState_pumps (p : Nat) (v : Nat) : (s.setPartState p v).pumps = s.pumps := State.setFld_pumps ..
@[simp] theorem State.setPartState_pumpSeq (p : Nat) (v : Nat) : (s.setPartState p v).pumpSeq = s.pumpSeq := State.setFld_pumpSeq ..
@[simp] theorem State.setPartState_outstanding (p : Nat) (v : Nat) : (s.setPartState p v).outstanding = s.outstanding := State.setFld_outstanding ..
@[simp] theorem State.setPartState_nextReq (p : Nat) (v : Nat) : (s.setPartState p v).nextReq = s.nextReq := State.setFld_nextReq ..
@[simp] theorem State.setPartState_sources (p : Nat) (v : Nat) : (s.setPartState p v).sources = s.sources := State.setFld_sources ..
@[simp] theorem State.setPartState_injected (p : Nat) (v : Nat) : (s.setPartState p v).injected = s.injected := State.setFld_injected ..
@[simp] theorem State.setPartState_lports (p : Nat) (v : Nat) : (s.setPartState p v).lports = s.lports := State.setFld_lports ..
@[simp] theorem State.setPartState_sending (p : Nat) (v : Nat) : (s.setPartState p v).sending = s.sending := State.setFld_sending ..
@[simp] theorem State.setPartState_bound (p : Nat) (v : Nat) : (s.setPartState p v).bound = s.bound := State.setFld_bound ..
@[simp] theorem State.setPartState_routes (p : Nat) (v : Nat) : (s.setPartState p v).routes = s.routes := State.setFld_routes ..
@[simp] theorem State.setPartState_sluices (p : Nat) (v : Nat) : (s.setPartState p v).sluices = s.sluices := State.setFld_sluices ..
@[simp] theorem State.setPartState_sluiceLocked (p : Nat) (v : Nat) : (s.setPartState p v).sluiceLocked = s.sluiceLocked := State.setFld_sluiceLocked ..
@[simp] theorem State.setPartState_ranks (p : Nat) (v : Nat) : (s.setPartState p v).ranks = s.ranks := State.setFld_ranks ..
@[simp] theorem State.setPartState_qps (p : Nat) (v : Nat) : (s.setPartState p v).qps = s.qps := State.setFld_qps ..
@[simp] theorem State.setPartState_ethPorts (p : Nat) (v : Nat) : (s.setPartState p v).ethPorts = s.ethPorts := State.setFld_ethPorts ..
@[simp] theorem State.setPartState_colls (p : Nat) (v : Nat) : (s.setPartState p v).colls = s.colls := State.setFld_colls ..
@[simp] theorem State.setPartState_chunkHeaders (p : Nat) (v : Nat) : (s.setPartState p v).chunkHeaders = s.chunkHeaders := State.setFld_chunkHeaders ..
@[simp] theorem State.setPartState_voidNextCode (p : Nat) (v : Nat) : (s.setPartState p v).voidNextCode = s.voidNextCode := State.setFld_voidNextCode ..
@[simp] theorem State.setPartState_seqs (p : Nat) (v : Nat) : (s.setPartState p v).seqs = s.seqs := State.setFld_seqs ..
@[simp] theorem State.setPartState_imem (p : Nat) (v : Nat) : (s.setPartState p v).imem = s.imem := State.setFld_imem ..
@[simp] theorem State.setPartState_torn (p : Nat) (v : Nat) : (s.setPartState p v).torn = s.torn := State.setFld_torn ..
@[simp] theorem State.setPartState_parts (p : Nat) (v : Nat) : (s.setPartState p v).parts = s.parts := State.setFld_parts ..
@[simp] theorem State.setPartState_launches (p : Nat) (v : Nat) : (s.setPartState p v).launches = s.launches := State.setFld_launches ..
@[simp] theorem State.setPartState_pends (p : Nat) (v : Nat) : (s.setPartState p v).pends = s.pends := State.setFld_pends ..
@[simp] theorem State.setPartState_fills (p : Nat) (v : Nat) : (s.setPartState p v).fills = s.fills := State.setFld_fills ..
@[simp] theorem State.setPartState_detBuffer (p : Nat) (v : Nat) : (s.setPartState p v).detBuffer = s.detBuffer := State.setFld_detBuffer ..
@[simp] theorem State.setPartState_detTail (p : Nat) (v : Nat) : (s.setPartState p v).detTail = s.detTail := State.setFld_detTail ..
@[simp] theorem State.setPartState_detTailBad (p : Nat) (v : Nat) : (s.setPartState p v).detTailBad = s.detTailBad := State.setFld_detTailBad ..
@[simp] theorem State.setPartState_power (p : Nat) (v : Nat) : (s.setPartState p v).power = s.power := State.setFld_power ..
@[simp] theorem State.setPartState_pins (p : Nat) (v : Nat) : (s.setPartState p v).pins = s.pins := State.setFld_pins ..
@[simp] theorem State.setPartState_clock (p : Nat) (v : Nat) : (s.setPartState p v).clock = s.clock := State.setFld_clock ..
@[simp] theorem State.setPartState_sensors (p : Nat) (v : Nat) : (s.setPartState p v).sensors = s.sensors := State.setFld_sensors ..
@[simp] theorem State.setPartState_flash (p : Nat) (v : Nat) : (s.setPartState p v).flash = s.flash := State.setFld_flash ..
@[simp] theorem State.setPartState_mgmt (p : Nat) (v : Nat) : (s.setPartState p v).mgmt = s.mgmt := State.setFld_mgmt ..
@[simp] theorem State.setPartState_ras (p : Nat) (v : Nat) : (s.setPartState p v).ras = s.ras := State.setFld_ras ..
@[simp] theorem State.setPartState_out (p : Nat) (v : Nat) : (s.setPartState p v).out = s.out := State.setFld_out ..
@[simp] theorem State.setPartState_inputs (p : Nat) (v : Nat) : (s.setPartState p v).inputs = s.inputs := State.setFld_inputs ..
@[simp] theorem State.setPartState_pending (p : Nat) (v : Nat) : (s.setPartState p v).pending = s.pending := State.setFld_pending ..

@[simp] theorem State.setMbrState_tb (v : Nat) : (s.setMbrState v).tb = s.tb := State.setFld_tb ..
@[simp] theorem State.setMbrState_free (v : Nat) : (s.setMbrState v).free = s.free := State.setFld_free ..
@[simp] theorem State.setMbrState_staged (v : Nat) : (s.setMbrState v).staged = s.staged := State.setFld_staged ..
@[simp] theorem State.setMbrState_rake (v : Nat) : (s.setMbrState v).rake = s.rake := State.setFld_rake ..
@[simp] theorem State.setMbrState_rakeMask (v : Nat) : (s.setMbrState v).rakeMask = s.rakeMask := State.setFld_rakeMask ..
@[simp] theorem State.setMbrState_log (v : Nat) : (s.setMbrState v).log = s.log := State.setFld_log ..
@[simp] theorem State.setMbrState_mem (v : Nat) : (s.setMbrState v).mem = s.mem := State.setFld_mem ..
@[simp] theorem State.setMbrState_bad (v : Nat) : (s.setMbrState v).bad = s.bad := State.setFld_bad ..
@[simp] theorem State.setMbrState_scratch (v : Nat) : (s.setMbrState v).scratch = s.scratch := State.setFld_scratch ..
@[simp] theorem State.setMbrState_fuses (v : Nat) : (s.setMbrState v).fuses = s.fuses := State.setFld_fuses ..
@[simp] theorem State.setMbrState_tap (v : Nat) : (s.setMbrState v).tap = s.tap := State.setFld_tap ..
@[simp] theorem State.setMbrState_counters (v : Nat) : (s.setMbrState v).counters = s.counters := State.setFld_counters ..
@[simp] theorem State.setMbrState_routers (v : Nat) : (s.setMbrState v).routers = s.routers := State.setFld_routers ..
@[simp] theorem State.setMbrState_coreOn (v : Nat) : (s.setMbrState v).coreOn = s.coreOn := State.setFld_coreOn ..
@[simp] theorem State.setMbrState_channels (v : Nat) : (s.setMbrState v).channels = s.channels := State.setFld_channels ..
@[simp] theorem State.setMbrState_brineScans (v : Nat) : (s.setMbrState v).brineScans = s.brineScans := State.setFld_brineScans ..
@[simp] theorem State.setMbrState_brineKept (v : Nat) : (s.setMbrState v).brineKept = s.brineKept := State.setFld_brineKept ..
@[simp] theorem State.setMbrState_pools (v : Nat) : (s.setMbrState v).pools = s.pools := State.setFld_pools ..
@[simp] theorem State.setMbrState_queues (v : Nat) : (s.setMbrState v).queues = s.queues := State.setFld_queues ..
@[simp] theorem State.setMbrState_arrays (v : Nat) : (s.setMbrState v).arrays = s.arrays := State.setFld_arrays ..
@[simp] theorem State.setMbrState_spoilt (v : Nat) : (s.setMbrState v).spoilt = s.spoilt := State.setFld_spoilt ..
@[simp] theorem State.setMbrState_chains (v : Nat) : (s.setMbrState v).chains = s.chains := State.setFld_chains ..
@[simp] theorem State.setMbrState_regions (v : Nat) : (s.setMbrState v).regions = s.regions := State.setFld_regions ..
@[simp] theorem State.setMbrState_pumps (v : Nat) : (s.setMbrState v).pumps = s.pumps := State.setFld_pumps ..
@[simp] theorem State.setMbrState_pumpSeq (v : Nat) : (s.setMbrState v).pumpSeq = s.pumpSeq := State.setFld_pumpSeq ..
@[simp] theorem State.setMbrState_outstanding (v : Nat) : (s.setMbrState v).outstanding = s.outstanding := State.setFld_outstanding ..
@[simp] theorem State.setMbrState_nextReq (v : Nat) : (s.setMbrState v).nextReq = s.nextReq := State.setFld_nextReq ..
@[simp] theorem State.setMbrState_sources (v : Nat) : (s.setMbrState v).sources = s.sources := State.setFld_sources ..
@[simp] theorem State.setMbrState_injected (v : Nat) : (s.setMbrState v).injected = s.injected := State.setFld_injected ..
@[simp] theorem State.setMbrState_lports (v : Nat) : (s.setMbrState v).lports = s.lports := State.setFld_lports ..
@[simp] theorem State.setMbrState_sending (v : Nat) : (s.setMbrState v).sending = s.sending := State.setFld_sending ..
@[simp] theorem State.setMbrState_bound (v : Nat) : (s.setMbrState v).bound = s.bound := State.setFld_bound ..
@[simp] theorem State.setMbrState_routes (v : Nat) : (s.setMbrState v).routes = s.routes := State.setFld_routes ..
@[simp] theorem State.setMbrState_sluices (v : Nat) : (s.setMbrState v).sluices = s.sluices := State.setFld_sluices ..
@[simp] theorem State.setMbrState_sluiceLocked (v : Nat) : (s.setMbrState v).sluiceLocked = s.sluiceLocked := State.setFld_sluiceLocked ..
@[simp] theorem State.setMbrState_ranks (v : Nat) : (s.setMbrState v).ranks = s.ranks := State.setFld_ranks ..
@[simp] theorem State.setMbrState_qps (v : Nat) : (s.setMbrState v).qps = s.qps := State.setFld_qps ..
@[simp] theorem State.setMbrState_ethPorts (v : Nat) : (s.setMbrState v).ethPorts = s.ethPorts := State.setFld_ethPorts ..
@[simp] theorem State.setMbrState_colls (v : Nat) : (s.setMbrState v).colls = s.colls := State.setFld_colls ..
@[simp] theorem State.setMbrState_chunkHeaders (v : Nat) : (s.setMbrState v).chunkHeaders = s.chunkHeaders := State.setFld_chunkHeaders ..
@[simp] theorem State.setMbrState_voidNextCode (v : Nat) : (s.setMbrState v).voidNextCode = s.voidNextCode := State.setFld_voidNextCode ..
@[simp] theorem State.setMbrState_seqs (v : Nat) : (s.setMbrState v).seqs = s.seqs := State.setFld_seqs ..
@[simp] theorem State.setMbrState_imem (v : Nat) : (s.setMbrState v).imem = s.imem := State.setFld_imem ..
@[simp] theorem State.setMbrState_torn (v : Nat) : (s.setMbrState v).torn = s.torn := State.setFld_torn ..
@[simp] theorem State.setMbrState_parts (v : Nat) : (s.setMbrState v).parts = s.parts := State.setFld_parts ..
@[simp] theorem State.setMbrState_launches (v : Nat) : (s.setMbrState v).launches = s.launches := State.setFld_launches ..
@[simp] theorem State.setMbrState_pends (v : Nat) : (s.setMbrState v).pends = s.pends := State.setFld_pends ..
@[simp] theorem State.setMbrState_fills (v : Nat) : (s.setMbrState v).fills = s.fills := State.setFld_fills ..
@[simp] theorem State.setMbrState_detBuffer (v : Nat) : (s.setMbrState v).detBuffer = s.detBuffer := State.setFld_detBuffer ..
@[simp] theorem State.setMbrState_detTail (v : Nat) : (s.setMbrState v).detTail = s.detTail := State.setFld_detTail ..
@[simp] theorem State.setMbrState_detTailBad (v : Nat) : (s.setMbrState v).detTailBad = s.detTailBad := State.setFld_detTailBad ..
@[simp] theorem State.setMbrState_power (v : Nat) : (s.setMbrState v).power = s.power := State.setFld_power ..
@[simp] theorem State.setMbrState_pins (v : Nat) : (s.setMbrState v).pins = s.pins := State.setFld_pins ..
@[simp] theorem State.setMbrState_clock (v : Nat) : (s.setMbrState v).clock = s.clock := State.setFld_clock ..
@[simp] theorem State.setMbrState_sensors (v : Nat) : (s.setMbrState v).sensors = s.sensors := State.setFld_sensors ..
@[simp] theorem State.setMbrState_flash (v : Nat) : (s.setMbrState v).flash = s.flash := State.setFld_flash ..
@[simp] theorem State.setMbrState_mgmt (v : Nat) : (s.setMbrState v).mgmt = s.mgmt := State.setFld_mgmt ..
@[simp] theorem State.setMbrState_ras (v : Nat) : (s.setMbrState v).ras = s.ras := State.setFld_ras ..
@[simp] theorem State.setMbrState_out (v : Nat) : (s.setMbrState v).out = s.out := State.setFld_out ..
@[simp] theorem State.setMbrState_inputs (v : Nat) : (s.setMbrState v).inputs = s.inputs := State.setFld_inputs ..
@[simp] theorem State.setMbrState_pending (v : Nat) : (s.setMbrState v).pending = s.pending := State.setFld_pending ..

@[simp] theorem State.setCtxState_tb (c : Nat) (v : Nat) : (s.setCtxState c v).tb = s.tb := State.setReg_tb ..
@[simp] theorem State.setCtxState_free (c : Nat) (v : Nat) : (s.setCtxState c v).free = s.free := State.setReg_free ..
@[simp] theorem State.setCtxState_staged (c : Nat) (v : Nat) : (s.setCtxState c v).staged = s.staged := State.setReg_staged ..
@[simp] theorem State.setCtxState_rake (c : Nat) (v : Nat) : (s.setCtxState c v).rake = s.rake := State.setReg_rake ..
@[simp] theorem State.setCtxState_rakeMask (c : Nat) (v : Nat) : (s.setCtxState c v).rakeMask = s.rakeMask := State.setReg_rakeMask ..
@[simp] theorem State.setCtxState_log (c : Nat) (v : Nat) : (s.setCtxState c v).log = s.log := State.setReg_log ..
@[simp] theorem State.setCtxState_mem (c : Nat) (v : Nat) : (s.setCtxState c v).mem = s.mem := State.setReg_mem ..
@[simp] theorem State.setCtxState_bad (c : Nat) (v : Nat) : (s.setCtxState c v).bad = s.bad := State.setReg_bad ..
@[simp] theorem State.setCtxState_scratch (c : Nat) (v : Nat) : (s.setCtxState c v).scratch = s.scratch := State.setReg_scratch ..
@[simp] theorem State.setCtxState_fuses (c : Nat) (v : Nat) : (s.setCtxState c v).fuses = s.fuses := State.setReg_fuses ..
@[simp] theorem State.setCtxState_tap (c : Nat) (v : Nat) : (s.setCtxState c v).tap = s.tap := State.setReg_tap ..
@[simp] theorem State.setCtxState_counters (c : Nat) (v : Nat) : (s.setCtxState c v).counters = s.counters := State.setReg_counters ..
@[simp] theorem State.setCtxState_routers (c : Nat) (v : Nat) : (s.setCtxState c v).routers = s.routers := State.setReg_routers ..
@[simp] theorem State.setCtxState_coreOn (c : Nat) (v : Nat) : (s.setCtxState c v).coreOn = s.coreOn := State.setReg_coreOn ..
@[simp] theorem State.setCtxState_channels (c : Nat) (v : Nat) : (s.setCtxState c v).channels = s.channels := State.setReg_channels ..
@[simp] theorem State.setCtxState_brineScans (c : Nat) (v : Nat) : (s.setCtxState c v).brineScans = s.brineScans := State.setReg_brineScans ..
@[simp] theorem State.setCtxState_brineKept (c : Nat) (v : Nat) : (s.setCtxState c v).brineKept = s.brineKept := State.setReg_brineKept ..
@[simp] theorem State.setCtxState_pools (c : Nat) (v : Nat) : (s.setCtxState c v).pools = s.pools := State.setReg_pools ..
@[simp] theorem State.setCtxState_queues (c : Nat) (v : Nat) : (s.setCtxState c v).queues = s.queues := State.setReg_queues ..
@[simp] theorem State.setCtxState_arrays (c : Nat) (v : Nat) : (s.setCtxState c v).arrays = s.arrays := State.setReg_arrays ..
@[simp] theorem State.setCtxState_spoilt (c : Nat) (v : Nat) : (s.setCtxState c v).spoilt = s.spoilt := State.setReg_spoilt ..
@[simp] theorem State.setCtxState_chains (c : Nat) (v : Nat) : (s.setCtxState c v).chains = s.chains := State.setReg_chains ..
@[simp] theorem State.setCtxState_regions (c : Nat) (v : Nat) : (s.setCtxState c v).regions = s.regions := State.setReg_regions ..
@[simp] theorem State.setCtxState_pumps (c : Nat) (v : Nat) : (s.setCtxState c v).pumps = s.pumps := State.setReg_pumps ..
@[simp] theorem State.setCtxState_pumpSeq (c : Nat) (v : Nat) : (s.setCtxState c v).pumpSeq = s.pumpSeq := State.setReg_pumpSeq ..
@[simp] theorem State.setCtxState_outstanding (c : Nat) (v : Nat) : (s.setCtxState c v).outstanding = s.outstanding := State.setReg_outstanding ..
@[simp] theorem State.setCtxState_nextReq (c : Nat) (v : Nat) : (s.setCtxState c v).nextReq = s.nextReq := State.setReg_nextReq ..
@[simp] theorem State.setCtxState_sources (c : Nat) (v : Nat) : (s.setCtxState c v).sources = s.sources := State.setReg_sources ..
@[simp] theorem State.setCtxState_injected (c : Nat) (v : Nat) : (s.setCtxState c v).injected = s.injected := State.setReg_injected ..
@[simp] theorem State.setCtxState_lports (c : Nat) (v : Nat) : (s.setCtxState c v).lports = s.lports := State.setReg_lports ..
@[simp] theorem State.setCtxState_sending (c : Nat) (v : Nat) : (s.setCtxState c v).sending = s.sending := State.setReg_sending ..
@[simp] theorem State.setCtxState_bound (c : Nat) (v : Nat) : (s.setCtxState c v).bound = s.bound := State.setReg_bound ..
@[simp] theorem State.setCtxState_routes (c : Nat) (v : Nat) : (s.setCtxState c v).routes = s.routes := State.setReg_routes ..
@[simp] theorem State.setCtxState_sluices (c : Nat) (v : Nat) : (s.setCtxState c v).sluices = s.sluices := State.setReg_sluices ..
@[simp] theorem State.setCtxState_sluiceLocked (c : Nat) (v : Nat) : (s.setCtxState c v).sluiceLocked = s.sluiceLocked := State.setReg_sluiceLocked ..
@[simp] theorem State.setCtxState_ranks (c : Nat) (v : Nat) : (s.setCtxState c v).ranks = s.ranks := State.setReg_ranks ..
@[simp] theorem State.setCtxState_qps (c : Nat) (v : Nat) : (s.setCtxState c v).qps = s.qps := State.setReg_qps ..
@[simp] theorem State.setCtxState_ethPorts (c : Nat) (v : Nat) : (s.setCtxState c v).ethPorts = s.ethPorts := State.setReg_ethPorts ..
@[simp] theorem State.setCtxState_colls (c : Nat) (v : Nat) : (s.setCtxState c v).colls = s.colls := State.setReg_colls ..
@[simp] theorem State.setCtxState_chunkHeaders (c : Nat) (v : Nat) : (s.setCtxState c v).chunkHeaders = s.chunkHeaders := State.setReg_chunkHeaders ..
@[simp] theorem State.setCtxState_voidNextCode (c : Nat) (v : Nat) : (s.setCtxState c v).voidNextCode = s.voidNextCode := State.setReg_voidNextCode ..
@[simp] theorem State.setCtxState_seqs (c : Nat) (v : Nat) : (s.setCtxState c v).seqs = s.seqs := State.setReg_seqs ..
@[simp] theorem State.setCtxState_imem (c : Nat) (v : Nat) : (s.setCtxState c v).imem = s.imem := State.setReg_imem ..
@[simp] theorem State.setCtxState_torn (c : Nat) (v : Nat) : (s.setCtxState c v).torn = s.torn := State.setReg_torn ..
@[simp] theorem State.setCtxState_parts (c : Nat) (v : Nat) : (s.setCtxState c v).parts = s.parts := State.setReg_parts ..
@[simp] theorem State.setCtxState_launches (c : Nat) (v : Nat) : (s.setCtxState c v).launches = s.launches := State.setReg_launches ..
@[simp] theorem State.setCtxState_pends (c : Nat) (v : Nat) : (s.setCtxState c v).pends = s.pends := State.setReg_pends ..
@[simp] theorem State.setCtxState_fills (c : Nat) (v : Nat) : (s.setCtxState c v).fills = s.fills := State.setReg_fills ..
@[simp] theorem State.setCtxState_detBuffer (c : Nat) (v : Nat) : (s.setCtxState c v).detBuffer = s.detBuffer := State.setReg_detBuffer ..
@[simp] theorem State.setCtxState_detTail (c : Nat) (v : Nat) : (s.setCtxState c v).detTail = s.detTail := State.setReg_detTail ..
@[simp] theorem State.setCtxState_detTailBad (c : Nat) (v : Nat) : (s.setCtxState c v).detTailBad = s.detTailBad := State.setReg_detTailBad ..
@[simp] theorem State.setCtxState_power (c : Nat) (v : Nat) : (s.setCtxState c v).power = s.power := State.setReg_power ..
@[simp] theorem State.setCtxState_pins (c : Nat) (v : Nat) : (s.setCtxState c v).pins = s.pins := State.setReg_pins ..
@[simp] theorem State.setCtxState_clock (c : Nat) (v : Nat) : (s.setCtxState c v).clock = s.clock := State.setReg_clock ..
@[simp] theorem State.setCtxState_sensors (c : Nat) (v : Nat) : (s.setCtxState c v).sensors = s.sensors := State.setReg_sensors ..
@[simp] theorem State.setCtxState_flash (c : Nat) (v : Nat) : (s.setCtxState c v).flash = s.flash := State.setReg_flash ..
@[simp] theorem State.setCtxState_mgmt (c : Nat) (v : Nat) : (s.setCtxState c v).mgmt = s.mgmt := State.setReg_mgmt ..
@[simp] theorem State.setCtxState_ras (c : Nat) (v : Nat) : (s.setCtxState c v).ras = s.ras := State.setReg_ras ..
@[simp] theorem State.setCtxState_out (c : Nat) (v : Nat) : (s.setCtxState c v).out = s.out := State.setReg_out ..
@[simp] theorem State.setCtxState_inputs (c : Nat) (v : Nat) : (s.setCtxState c v).inputs = s.inputs := State.setReg_inputs ..
@[simp] theorem State.setCtxState_pending (c : Nat) (v : Nat) : (s.setCtxState c v).pending = s.pending := State.setReg_pending ..

@[simp] theorem State.emit_tb (o : Out) : (s.emit o).tb = s.tb := rfl
@[simp] theorem State.emit_free (o : Out) : (s.emit o).free = s.free := rfl
@[simp] theorem State.emit_regs (o : Out) : (s.emit o).regs = s.regs := rfl
@[simp] theorem State.emit_staged (o : Out) : (s.emit o).staged = s.staged := rfl
@[simp] theorem State.emit_rake (o : Out) : (s.emit o).rake = s.rake := rfl
@[simp] theorem State.emit_rakeMask (o : Out) : (s.emit o).rakeMask = s.rakeMask := rfl
@[simp] theorem State.emit_log (o : Out) : (s.emit o).log = s.log := rfl
@[simp] theorem State.emit_mem (o : Out) : (s.emit o).mem = s.mem := rfl
@[simp] theorem State.emit_bad (o : Out) : (s.emit o).bad = s.bad := rfl
@[simp] theorem State.emit_scratch (o : Out) : (s.emit o).scratch = s.scratch := rfl
@[simp] theorem State.emit_fuses (o : Out) : (s.emit o).fuses = s.fuses := rfl
@[simp] theorem State.emit_tap (o : Out) : (s.emit o).tap = s.tap := rfl
@[simp] theorem State.emit_counters (o : Out) : (s.emit o).counters = s.counters := rfl
@[simp] theorem State.emit_routers (o : Out) : (s.emit o).routers = s.routers := rfl
@[simp] theorem State.emit_coreOn (o : Out) : (s.emit o).coreOn = s.coreOn := rfl
@[simp] theorem State.emit_channels (o : Out) : (s.emit o).channels = s.channels := rfl
@[simp] theorem State.emit_brineScans (o : Out) : (s.emit o).brineScans = s.brineScans := rfl
@[simp] theorem State.emit_brineKept (o : Out) : (s.emit o).brineKept = s.brineKept := rfl
@[simp] theorem State.emit_pools (o : Out) : (s.emit o).pools = s.pools := rfl
@[simp] theorem State.emit_queues (o : Out) : (s.emit o).queues = s.queues := rfl
@[simp] theorem State.emit_arrays (o : Out) : (s.emit o).arrays = s.arrays := rfl
@[simp] theorem State.emit_spoilt (o : Out) : (s.emit o).spoilt = s.spoilt := rfl
@[simp] theorem State.emit_chains (o : Out) : (s.emit o).chains = s.chains := rfl
@[simp] theorem State.emit_regions (o : Out) : (s.emit o).regions = s.regions := rfl
@[simp] theorem State.emit_pumps (o : Out) : (s.emit o).pumps = s.pumps := rfl
@[simp] theorem State.emit_pumpSeq (o : Out) : (s.emit o).pumpSeq = s.pumpSeq := rfl
@[simp] theorem State.emit_outstanding (o : Out) : (s.emit o).outstanding = s.outstanding := rfl
@[simp] theorem State.emit_nextReq (o : Out) : (s.emit o).nextReq = s.nextReq := rfl
@[simp] theorem State.emit_sources (o : Out) : (s.emit o).sources = s.sources := rfl
@[simp] theorem State.emit_injected (o : Out) : (s.emit o).injected = s.injected := rfl
@[simp] theorem State.emit_lports (o : Out) : (s.emit o).lports = s.lports := rfl
@[simp] theorem State.emit_sending (o : Out) : (s.emit o).sending = s.sending := rfl
@[simp] theorem State.emit_bound (o : Out) : (s.emit o).bound = s.bound := rfl
@[simp] theorem State.emit_routes (o : Out) : (s.emit o).routes = s.routes := rfl
@[simp] theorem State.emit_sluices (o : Out) : (s.emit o).sluices = s.sluices := rfl
@[simp] theorem State.emit_sluiceLocked (o : Out) : (s.emit o).sluiceLocked = s.sluiceLocked := rfl
@[simp] theorem State.emit_ranks (o : Out) : (s.emit o).ranks = s.ranks := rfl
@[simp] theorem State.emit_qps (o : Out) : (s.emit o).qps = s.qps := rfl
@[simp] theorem State.emit_ethPorts (o : Out) : (s.emit o).ethPorts = s.ethPorts := rfl
@[simp] theorem State.emit_colls (o : Out) : (s.emit o).colls = s.colls := rfl
@[simp] theorem State.emit_chunkHeaders (o : Out) : (s.emit o).chunkHeaders = s.chunkHeaders := rfl
@[simp] theorem State.emit_voidNextCode (o : Out) : (s.emit o).voidNextCode = s.voidNextCode := rfl
@[simp] theorem State.emit_seqs (o : Out) : (s.emit o).seqs = s.seqs := rfl
@[simp] theorem State.emit_imem (o : Out) : (s.emit o).imem = s.imem := rfl
@[simp] theorem State.emit_torn (o : Out) : (s.emit o).torn = s.torn := rfl
@[simp] theorem State.emit_parts (o : Out) : (s.emit o).parts = s.parts := rfl
@[simp] theorem State.emit_launches (o : Out) : (s.emit o).launches = s.launches := rfl
@[simp] theorem State.emit_pends (o : Out) : (s.emit o).pends = s.pends := rfl
@[simp] theorem State.emit_fills (o : Out) : (s.emit o).fills = s.fills := rfl
@[simp] theorem State.emit_detBuffer (o : Out) : (s.emit o).detBuffer = s.detBuffer := rfl
@[simp] theorem State.emit_detTail (o : Out) : (s.emit o).detTail = s.detTail := rfl
@[simp] theorem State.emit_detTailBad (o : Out) : (s.emit o).detTailBad = s.detTailBad := rfl
@[simp] theorem State.emit_power (o : Out) : (s.emit o).power = s.power := rfl
@[simp] theorem State.emit_pins (o : Out) : (s.emit o).pins = s.pins := rfl
@[simp] theorem State.emit_clock (o : Out) : (s.emit o).clock = s.clock := rfl
@[simp] theorem State.emit_sensors (o : Out) : (s.emit o).sensors = s.sensors := rfl
@[simp] theorem State.emit_flash (o : Out) : (s.emit o).flash = s.flash := rfl
@[simp] theorem State.emit_mgmt (o : Out) : (s.emit o).mgmt = s.mgmt := rfl
@[simp] theorem State.emit_ras (o : Out) : (s.emit o).ras = s.ras := rfl
@[simp] theorem State.emit_inputs (o : Out) : (s.emit o).inputs = s.inputs := rfl
@[simp] theorem State.emit_pending (o : Out) : (s.emit o).pending = s.pending := rfl

@[simp] theorem State.setCounter_tb (i : Nat) (c : Counter) : (s.setCounter i c).tb = s.tb := rfl
@[simp] theorem State.setCounter_free (i : Nat) (c : Counter) : (s.setCounter i c).free = s.free := rfl
@[simp] theorem State.setCounter_regs (i : Nat) (c : Counter) : (s.setCounter i c).regs = s.regs := rfl
@[simp] theorem State.setCounter_staged (i : Nat) (c : Counter) : (s.setCounter i c).staged = s.staged := rfl
@[simp] theorem State.setCounter_rake (i : Nat) (c : Counter) : (s.setCounter i c).rake = s.rake := rfl
@[simp] theorem State.setCounter_rakeMask (i : Nat) (c : Counter) : (s.setCounter i c).rakeMask = s.rakeMask := rfl
@[simp] theorem State.setCounter_log (i : Nat) (c : Counter) : (s.setCounter i c).log = s.log := rfl
@[simp] theorem State.setCounter_mem (i : Nat) (c : Counter) : (s.setCounter i c).mem = s.mem := rfl
@[simp] theorem State.setCounter_bad (i : Nat) (c : Counter) : (s.setCounter i c).bad = s.bad := rfl
@[simp] theorem State.setCounter_scratch (i : Nat) (c : Counter) : (s.setCounter i c).scratch = s.scratch := rfl
@[simp] theorem State.setCounter_fuses (i : Nat) (c : Counter) : (s.setCounter i c).fuses = s.fuses := rfl
@[simp] theorem State.setCounter_tap (i : Nat) (c : Counter) : (s.setCounter i c).tap = s.tap := rfl
@[simp] theorem State.setCounter_routers (i : Nat) (c : Counter) : (s.setCounter i c).routers = s.routers := rfl
@[simp] theorem State.setCounter_coreOn (i : Nat) (c : Counter) : (s.setCounter i c).coreOn = s.coreOn := rfl
@[simp] theorem State.setCounter_channels (i : Nat) (c : Counter) : (s.setCounter i c).channels = s.channels := rfl
@[simp] theorem State.setCounter_brineScans (i : Nat) (c : Counter) : (s.setCounter i c).brineScans = s.brineScans := rfl
@[simp] theorem State.setCounter_brineKept (i : Nat) (c : Counter) : (s.setCounter i c).brineKept = s.brineKept := rfl
@[simp] theorem State.setCounter_pools (i : Nat) (c : Counter) : (s.setCounter i c).pools = s.pools := rfl
@[simp] theorem State.setCounter_queues (i : Nat) (c : Counter) : (s.setCounter i c).queues = s.queues := rfl
@[simp] theorem State.setCounter_arrays (i : Nat) (c : Counter) : (s.setCounter i c).arrays = s.arrays := rfl
@[simp] theorem State.setCounter_spoilt (i : Nat) (c : Counter) : (s.setCounter i c).spoilt = s.spoilt := rfl
@[simp] theorem State.setCounter_chains (i : Nat) (c : Counter) : (s.setCounter i c).chains = s.chains := rfl
@[simp] theorem State.setCounter_regions (i : Nat) (c : Counter) : (s.setCounter i c).regions = s.regions := rfl
@[simp] theorem State.setCounter_pumps (i : Nat) (c : Counter) : (s.setCounter i c).pumps = s.pumps := rfl
@[simp] theorem State.setCounter_pumpSeq (i : Nat) (c : Counter) : (s.setCounter i c).pumpSeq = s.pumpSeq := rfl
@[simp] theorem State.setCounter_outstanding (i : Nat) (c : Counter) : (s.setCounter i c).outstanding = s.outstanding := rfl
@[simp] theorem State.setCounter_nextReq (i : Nat) (c : Counter) : (s.setCounter i c).nextReq = s.nextReq := rfl
@[simp] theorem State.setCounter_sources (i : Nat) (c : Counter) : (s.setCounter i c).sources = s.sources := rfl
@[simp] theorem State.setCounter_injected (i : Nat) (c : Counter) : (s.setCounter i c).injected = s.injected := rfl
@[simp] theorem State.setCounter_lports (i : Nat) (c : Counter) : (s.setCounter i c).lports = s.lports := rfl
@[simp] theorem State.setCounter_sending (i : Nat) (c : Counter) : (s.setCounter i c).sending = s.sending := rfl
@[simp] theorem State.setCounter_bound (i : Nat) (c : Counter) : (s.setCounter i c).bound = s.bound := rfl
@[simp] theorem State.setCounter_routes (i : Nat) (c : Counter) : (s.setCounter i c).routes = s.routes := rfl
@[simp] theorem State.setCounter_sluices (i : Nat) (c : Counter) : (s.setCounter i c).sluices = s.sluices := rfl
@[simp] theorem State.setCounter_sluiceLocked (i : Nat) (c : Counter) : (s.setCounter i c).sluiceLocked = s.sluiceLocked := rfl
@[simp] theorem State.setCounter_ranks (i : Nat) (c : Counter) : (s.setCounter i c).ranks = s.ranks := rfl
@[simp] theorem State.setCounter_qps (i : Nat) (c : Counter) : (s.setCounter i c).qps = s.qps := rfl
@[simp] theorem State.setCounter_ethPorts (i : Nat) (c : Counter) : (s.setCounter i c).ethPorts = s.ethPorts := rfl
@[simp] theorem State.setCounter_colls (i : Nat) (c : Counter) : (s.setCounter i c).colls = s.colls := rfl
@[simp] theorem State.setCounter_chunkHeaders (i : Nat) (c : Counter) : (s.setCounter i c).chunkHeaders = s.chunkHeaders := rfl
@[simp] theorem State.setCounter_voidNextCode (i : Nat) (c : Counter) : (s.setCounter i c).voidNextCode = s.voidNextCode := rfl
@[simp] theorem State.setCounter_seqs (i : Nat) (c : Counter) : (s.setCounter i c).seqs = s.seqs := rfl
@[simp] theorem State.setCounter_imem (i : Nat) (c : Counter) : (s.setCounter i c).imem = s.imem := rfl
@[simp] theorem State.setCounter_torn (i : Nat) (c : Counter) : (s.setCounter i c).torn = s.torn := rfl
@[simp] theorem State.setCounter_parts (i : Nat) (c : Counter) : (s.setCounter i c).parts = s.parts := rfl
@[simp] theorem State.setCounter_launches (i : Nat) (c : Counter) : (s.setCounter i c).launches = s.launches := rfl
@[simp] theorem State.setCounter_pends (i : Nat) (c : Counter) : (s.setCounter i c).pends = s.pends := rfl
@[simp] theorem State.setCounter_fills (i : Nat) (c : Counter) : (s.setCounter i c).fills = s.fills := rfl
@[simp] theorem State.setCounter_detBuffer (i : Nat) (c : Counter) : (s.setCounter i c).detBuffer = s.detBuffer := rfl
@[simp] theorem State.setCounter_detTail (i : Nat) (c : Counter) : (s.setCounter i c).detTail = s.detTail := rfl
@[simp] theorem State.setCounter_detTailBad (i : Nat) (c : Counter) : (s.setCounter i c).detTailBad = s.detTailBad := rfl
@[simp] theorem State.setCounter_power (i : Nat) (c : Counter) : (s.setCounter i c).power = s.power := rfl
@[simp] theorem State.setCounter_pins (i : Nat) (c : Counter) : (s.setCounter i c).pins = s.pins := rfl
@[simp] theorem State.setCounter_clock (i : Nat) (c : Counter) : (s.setCounter i c).clock = s.clock := rfl
@[simp] theorem State.setCounter_sensors (i : Nat) (c : Counter) : (s.setCounter i c).sensors = s.sensors := rfl
@[simp] theorem State.setCounter_flash (i : Nat) (c : Counter) : (s.setCounter i c).flash = s.flash := rfl
@[simp] theorem State.setCounter_mgmt (i : Nat) (c : Counter) : (s.setCounter i c).mgmt = s.mgmt := rfl
@[simp] theorem State.setCounter_ras (i : Nat) (c : Counter) : (s.setCounter i c).ras = s.ras := rfl
@[simp] theorem State.setCounter_out (i : Nat) (c : Counter) : (s.setCounter i c).out = s.out := rfl
@[simp] theorem State.setCounter_inputs (i : Nat) (c : Counter) : (s.setCounter i c).inputs = s.inputs := rfl
@[simp] theorem State.setCounter_pending (i : Nat) (c : Counter) : (s.setCounter i c).pending = s.pending := rfl

@[simp] theorem State.setPart_tb (p : Nat) (x : Part) : (s.setPart p x).tb = s.tb := rfl
@[simp] theorem State.setPart_free (p : Nat) (x : Part) : (s.setPart p x).free = s.free := rfl
@[simp] theorem State.setPart_regs (p : Nat) (x : Part) : (s.setPart p x).regs = s.regs := rfl
@[simp] theorem State.setPart_staged (p : Nat) (x : Part) : (s.setPart p x).staged = s.staged := rfl
@[simp] theorem State.setPart_rake (p : Nat) (x : Part) : (s.setPart p x).rake = s.rake := rfl
@[simp] theorem State.setPart_rakeMask (p : Nat) (x : Part) : (s.setPart p x).rakeMask = s.rakeMask := rfl
@[simp] theorem State.setPart_log (p : Nat) (x : Part) : (s.setPart p x).log = s.log := rfl
@[simp] theorem State.setPart_mem (p : Nat) (x : Part) : (s.setPart p x).mem = s.mem := rfl
@[simp] theorem State.setPart_bad (p : Nat) (x : Part) : (s.setPart p x).bad = s.bad := rfl
@[simp] theorem State.setPart_scratch (p : Nat) (x : Part) : (s.setPart p x).scratch = s.scratch := rfl
@[simp] theorem State.setPart_fuses (p : Nat) (x : Part) : (s.setPart p x).fuses = s.fuses := rfl
@[simp] theorem State.setPart_tap (p : Nat) (x : Part) : (s.setPart p x).tap = s.tap := rfl
@[simp] theorem State.setPart_counters (p : Nat) (x : Part) : (s.setPart p x).counters = s.counters := rfl
@[simp] theorem State.setPart_routers (p : Nat) (x : Part) : (s.setPart p x).routers = s.routers := rfl
@[simp] theorem State.setPart_coreOn (p : Nat) (x : Part) : (s.setPart p x).coreOn = s.coreOn := rfl
@[simp] theorem State.setPart_channels (p : Nat) (x : Part) : (s.setPart p x).channels = s.channels := rfl
@[simp] theorem State.setPart_brineScans (p : Nat) (x : Part) : (s.setPart p x).brineScans = s.brineScans := rfl
@[simp] theorem State.setPart_brineKept (p : Nat) (x : Part) : (s.setPart p x).brineKept = s.brineKept := rfl
@[simp] theorem State.setPart_pools (p : Nat) (x : Part) : (s.setPart p x).pools = s.pools := rfl
@[simp] theorem State.setPart_queues (p : Nat) (x : Part) : (s.setPart p x).queues = s.queues := rfl
@[simp] theorem State.setPart_arrays (p : Nat) (x : Part) : (s.setPart p x).arrays = s.arrays := rfl
@[simp] theorem State.setPart_spoilt (p : Nat) (x : Part) : (s.setPart p x).spoilt = s.spoilt := rfl
@[simp] theorem State.setPart_chains (p : Nat) (x : Part) : (s.setPart p x).chains = s.chains := rfl
@[simp] theorem State.setPart_regions (p : Nat) (x : Part) : (s.setPart p x).regions = s.regions := rfl
@[simp] theorem State.setPart_pumps (p : Nat) (x : Part) : (s.setPart p x).pumps = s.pumps := rfl
@[simp] theorem State.setPart_pumpSeq (p : Nat) (x : Part) : (s.setPart p x).pumpSeq = s.pumpSeq := rfl
@[simp] theorem State.setPart_outstanding (p : Nat) (x : Part) : (s.setPart p x).outstanding = s.outstanding := rfl
@[simp] theorem State.setPart_nextReq (p : Nat) (x : Part) : (s.setPart p x).nextReq = s.nextReq := rfl
@[simp] theorem State.setPart_sources (p : Nat) (x : Part) : (s.setPart p x).sources = s.sources := rfl
@[simp] theorem State.setPart_injected (p : Nat) (x : Part) : (s.setPart p x).injected = s.injected := rfl
@[simp] theorem State.setPart_lports (p : Nat) (x : Part) : (s.setPart p x).lports = s.lports := rfl
@[simp] theorem State.setPart_sending (p : Nat) (x : Part) : (s.setPart p x).sending = s.sending := rfl
@[simp] theorem State.setPart_bound (p : Nat) (x : Part) : (s.setPart p x).bound = s.bound := rfl
@[simp] theorem State.setPart_routes (p : Nat) (x : Part) : (s.setPart p x).routes = s.routes := rfl
@[simp] theorem State.setPart_sluices (p : Nat) (x : Part) : (s.setPart p x).sluices = s.sluices := rfl
@[simp] theorem State.setPart_sluiceLocked (p : Nat) (x : Part) : (s.setPart p x).sluiceLocked = s.sluiceLocked := rfl
@[simp] theorem State.setPart_ranks (p : Nat) (x : Part) : (s.setPart p x).ranks = s.ranks := rfl
@[simp] theorem State.setPart_qps (p : Nat) (x : Part) : (s.setPart p x).qps = s.qps := rfl
@[simp] theorem State.setPart_ethPorts (p : Nat) (x : Part) : (s.setPart p x).ethPorts = s.ethPorts := rfl
@[simp] theorem State.setPart_colls (p : Nat) (x : Part) : (s.setPart p x).colls = s.colls := rfl
@[simp] theorem State.setPart_chunkHeaders (p : Nat) (x : Part) : (s.setPart p x).chunkHeaders = s.chunkHeaders := rfl
@[simp] theorem State.setPart_voidNextCode (p : Nat) (x : Part) : (s.setPart p x).voidNextCode = s.voidNextCode := rfl
@[simp] theorem State.setPart_seqs (p : Nat) (x : Part) : (s.setPart p x).seqs = s.seqs := rfl
@[simp] theorem State.setPart_imem (p : Nat) (x : Part) : (s.setPart p x).imem = s.imem := rfl
@[simp] theorem State.setPart_torn (p : Nat) (x : Part) : (s.setPart p x).torn = s.torn := rfl
@[simp] theorem State.setPart_launches (p : Nat) (x : Part) : (s.setPart p x).launches = s.launches := rfl
@[simp] theorem State.setPart_pends (p : Nat) (x : Part) : (s.setPart p x).pends = s.pends := rfl
@[simp] theorem State.setPart_fills (p : Nat) (x : Part) : (s.setPart p x).fills = s.fills := rfl
@[simp] theorem State.setPart_detBuffer (p : Nat) (x : Part) : (s.setPart p x).detBuffer = s.detBuffer := rfl
@[simp] theorem State.setPart_detTail (p : Nat) (x : Part) : (s.setPart p x).detTail = s.detTail := rfl
@[simp] theorem State.setPart_detTailBad (p : Nat) (x : Part) : (s.setPart p x).detTailBad = s.detTailBad := rfl
@[simp] theorem State.setPart_power (p : Nat) (x : Part) : (s.setPart p x).power = s.power := rfl
@[simp] theorem State.setPart_pins (p : Nat) (x : Part) : (s.setPart p x).pins = s.pins := rfl
@[simp] theorem State.setPart_clock (p : Nat) (x : Part) : (s.setPart p x).clock = s.clock := rfl
@[simp] theorem State.setPart_sensors (p : Nat) (x : Part) : (s.setPart p x).sensors = s.sensors := rfl
@[simp] theorem State.setPart_flash (p : Nat) (x : Part) : (s.setPart p x).flash = s.flash := rfl
@[simp] theorem State.setPart_mgmt (p : Nat) (x : Part) : (s.setPart p x).mgmt = s.mgmt := rfl
@[simp] theorem State.setPart_ras (p : Nat) (x : Part) : (s.setPart p x).ras = s.ras := rfl
@[simp] theorem State.setPart_out (p : Nat) (x : Part) : (s.setPart p x).out = s.out := rfl
@[simp] theorem State.setPart_inputs (p : Nat) (x : Part) : (s.setPart p x).inputs = s.inputs := rfl
@[simp] theorem State.setPart_pending (p : Nat) (x : Part) : (s.setPart p x).pending = s.pending := rfl

@[simp] theorem State.setRing_tb (p : Nat) (r : Nat) (x : Ring) : (s.setRing p r x).tb = s.tb := rfl
@[simp] theorem State.setRing_free (p : Nat) (r : Nat) (x : Ring) : (s.setRing p r x).free = s.free := rfl
@[simp] theorem State.setRing_regs (p : Nat) (r : Nat) (x : Ring) : (s.setRing p r x).regs = s.regs := rfl
@[simp] theorem State.setRing_staged (p : Nat) (r : Nat) (x : Ring) : (s.setRing p r x).staged = s.staged := rfl
@[simp] theorem State.setRing_rake (p : Nat) (r : Nat) (x : Ring) : (s.setRing p r x).rake = s.rake := rfl
@[simp] theorem State.setRing_rakeMask (p : Nat) (r : Nat) (x : Ring) : (s.setRing p r x).rakeMask = s.rakeMask := rfl
@[simp] theorem State.setRing_log (p : Nat) (r : Nat) (x : Ring) : (s.setRing p r x).log = s.log := rfl
@[simp] theorem State.setRing_mem (p : Nat) (r : Nat) (x : Ring) : (s.setRing p r x).mem = s.mem := rfl
@[simp] theorem State.setRing_bad (p : Nat) (r : Nat) (x : Ring) : (s.setRing p r x).bad = s.bad := rfl
@[simp] theorem State.setRing_scratch (p : Nat) (r : Nat) (x : Ring) : (s.setRing p r x).scratch = s.scratch := rfl
@[simp] theorem State.setRing_fuses (p : Nat) (r : Nat) (x : Ring) : (s.setRing p r x).fuses = s.fuses := rfl
@[simp] theorem State.setRing_tap (p : Nat) (r : Nat) (x : Ring) : (s.setRing p r x).tap = s.tap := rfl
@[simp] theorem State.setRing_counters (p : Nat) (r : Nat) (x : Ring) : (s.setRing p r x).counters = s.counters := rfl
@[simp] theorem State.setRing_routers (p : Nat) (r : Nat) (x : Ring) : (s.setRing p r x).routers = s.routers := rfl
@[simp] theorem State.setRing_coreOn (p : Nat) (r : Nat) (x : Ring) : (s.setRing p r x).coreOn = s.coreOn := rfl
@[simp] theorem State.setRing_channels (p : Nat) (r : Nat) (x : Ring) : (s.setRing p r x).channels = s.channels := rfl
@[simp] theorem State.setRing_brineScans (p : Nat) (r : Nat) (x : Ring) : (s.setRing p r x).brineScans = s.brineScans := rfl
@[simp] theorem State.setRing_brineKept (p : Nat) (r : Nat) (x : Ring) : (s.setRing p r x).brineKept = s.brineKept := rfl
@[simp] theorem State.setRing_pools (p : Nat) (r : Nat) (x : Ring) : (s.setRing p r x).pools = s.pools := rfl
@[simp] theorem State.setRing_queues (p : Nat) (r : Nat) (x : Ring) : (s.setRing p r x).queues = s.queues := rfl
@[simp] theorem State.setRing_arrays (p : Nat) (r : Nat) (x : Ring) : (s.setRing p r x).arrays = s.arrays := rfl
@[simp] theorem State.setRing_spoilt (p : Nat) (r : Nat) (x : Ring) : (s.setRing p r x).spoilt = s.spoilt := rfl
@[simp] theorem State.setRing_chains (p : Nat) (r : Nat) (x : Ring) : (s.setRing p r x).chains = s.chains := rfl
@[simp] theorem State.setRing_regions (p : Nat) (r : Nat) (x : Ring) : (s.setRing p r x).regions = s.regions := rfl
@[simp] theorem State.setRing_pumps (p : Nat) (r : Nat) (x : Ring) : (s.setRing p r x).pumps = s.pumps := rfl
@[simp] theorem State.setRing_pumpSeq (p : Nat) (r : Nat) (x : Ring) : (s.setRing p r x).pumpSeq = s.pumpSeq := rfl
@[simp] theorem State.setRing_outstanding (p : Nat) (r : Nat) (x : Ring) : (s.setRing p r x).outstanding = s.outstanding := rfl
@[simp] theorem State.setRing_nextReq (p : Nat) (r : Nat) (x : Ring) : (s.setRing p r x).nextReq = s.nextReq := rfl
@[simp] theorem State.setRing_sources (p : Nat) (r : Nat) (x : Ring) : (s.setRing p r x).sources = s.sources := rfl
@[simp] theorem State.setRing_injected (p : Nat) (r : Nat) (x : Ring) : (s.setRing p r x).injected = s.injected := rfl
@[simp] theorem State.setRing_lports (p : Nat) (r : Nat) (x : Ring) : (s.setRing p r x).lports = s.lports := rfl
@[simp] theorem State.setRing_sending (p : Nat) (r : Nat) (x : Ring) : (s.setRing p r x).sending = s.sending := rfl
@[simp] theorem State.setRing_bound (p : Nat) (r : Nat) (x : Ring) : (s.setRing p r x).bound = s.bound := rfl
@[simp] theorem State.setRing_routes (p : Nat) (r : Nat) (x : Ring) : (s.setRing p r x).routes = s.routes := rfl
@[simp] theorem State.setRing_sluices (p : Nat) (r : Nat) (x : Ring) : (s.setRing p r x).sluices = s.sluices := rfl
@[simp] theorem State.setRing_sluiceLocked (p : Nat) (r : Nat) (x : Ring) : (s.setRing p r x).sluiceLocked = s.sluiceLocked := rfl
@[simp] theorem State.setRing_ranks (p : Nat) (r : Nat) (x : Ring) : (s.setRing p r x).ranks = s.ranks := rfl
@[simp] theorem State.setRing_qps (p : Nat) (r : Nat) (x : Ring) : (s.setRing p r x).qps = s.qps := rfl
@[simp] theorem State.setRing_ethPorts (p : Nat) (r : Nat) (x : Ring) : (s.setRing p r x).ethPorts = s.ethPorts := rfl
@[simp] theorem State.setRing_colls (p : Nat) (r : Nat) (x : Ring) : (s.setRing p r x).colls = s.colls := rfl
@[simp] theorem State.setRing_chunkHeaders (p : Nat) (r : Nat) (x : Ring) : (s.setRing p r x).chunkHeaders = s.chunkHeaders := rfl
@[simp] theorem State.setRing_voidNextCode (p : Nat) (r : Nat) (x : Ring) : (s.setRing p r x).voidNextCode = s.voidNextCode := rfl
@[simp] theorem State.setRing_seqs (p : Nat) (r : Nat) (x : Ring) : (s.setRing p r x).seqs = s.seqs := rfl
@[simp] theorem State.setRing_imem (p : Nat) (r : Nat) (x : Ring) : (s.setRing p r x).imem = s.imem := rfl
@[simp] theorem State.setRing_torn (p : Nat) (r : Nat) (x : Ring) : (s.setRing p r x).torn = s.torn := rfl
@[simp] theorem State.setRing_launches (p : Nat) (r : Nat) (x : Ring) : (s.setRing p r x).launches = s.launches := rfl
@[simp] theorem State.setRing_pends (p : Nat) (r : Nat) (x : Ring) : (s.setRing p r x).pends = s.pends := rfl
@[simp] theorem State.setRing_fills (p : Nat) (r : Nat) (x : Ring) : (s.setRing p r x).fills = s.fills := rfl
@[simp] theorem State.setRing_detBuffer (p : Nat) (r : Nat) (x : Ring) : (s.setRing p r x).detBuffer = s.detBuffer := rfl
@[simp] theorem State.setRing_detTail (p : Nat) (r : Nat) (x : Ring) : (s.setRing p r x).detTail = s.detTail := rfl
@[simp] theorem State.setRing_detTailBad (p : Nat) (r : Nat) (x : Ring) : (s.setRing p r x).detTailBad = s.detTailBad := rfl
@[simp] theorem State.setRing_power (p : Nat) (r : Nat) (x : Ring) : (s.setRing p r x).power = s.power := rfl
@[simp] theorem State.setRing_pins (p : Nat) (r : Nat) (x : Ring) : (s.setRing p r x).pins = s.pins := rfl
@[simp] theorem State.setRing_clock (p : Nat) (r : Nat) (x : Ring) : (s.setRing p r x).clock = s.clock := rfl
@[simp] theorem State.setRing_sensors (p : Nat) (r : Nat) (x : Ring) : (s.setRing p r x).sensors = s.sensors := rfl
@[simp] theorem State.setRing_flash (p : Nat) (r : Nat) (x : Ring) : (s.setRing p r x).flash = s.flash := rfl
@[simp] theorem State.setRing_mgmt (p : Nat) (r : Nat) (x : Ring) : (s.setRing p r x).mgmt = s.mgmt := rfl
@[simp] theorem State.setRing_ras (p : Nat) (r : Nat) (x : Ring) : (s.setRing p r x).ras = s.ras := rfl
@[simp] theorem State.setRing_out (p : Nat) (r : Nat) (x : Ring) : (s.setRing p r x).out = s.out := rfl
@[simp] theorem State.setRing_inputs (p : Nat) (r : Nat) (x : Ring) : (s.setRing p r x).inputs = s.inputs := rfl
@[simp] theorem State.setRing_pending (p : Nat) (r : Nat) (x : Ring) : (s.setRing p r x).pending = s.pending := rfl

@[simp] theorem State.writeBytes_tb (a : Nat) (b : Bytes) : (s.writeBytes a b).tb = s.tb := rfl
@[simp] theorem State.writeBytes_free (a : Nat) (b : Bytes) : (s.writeBytes a b).free = s.free := rfl
@[simp] theorem State.writeBytes_regs (a : Nat) (b : Bytes) : (s.writeBytes a b).regs = s.regs := rfl
@[simp] theorem State.writeBytes_staged (a : Nat) (b : Bytes) : (s.writeBytes a b).staged = s.staged := rfl
@[simp] theorem State.writeBytes_rake (a : Nat) (b : Bytes) : (s.writeBytes a b).rake = s.rake := rfl
@[simp] theorem State.writeBytes_rakeMask (a : Nat) (b : Bytes) : (s.writeBytes a b).rakeMask = s.rakeMask := rfl
@[simp] theorem State.writeBytes_log (a : Nat) (b : Bytes) : (s.writeBytes a b).log = s.log := rfl
@[simp] theorem State.writeBytes_bad (a : Nat) (b : Bytes) : (s.writeBytes a b).bad = s.bad := rfl
@[simp] theorem State.writeBytes_fuses (a : Nat) (b : Bytes) : (s.writeBytes a b).fuses = s.fuses := rfl
@[simp] theorem State.writeBytes_tap (a : Nat) (b : Bytes) : (s.writeBytes a b).tap = s.tap := rfl
@[simp] theorem State.writeBytes_counters (a : Nat) (b : Bytes) : (s.writeBytes a b).counters = s.counters := rfl
@[simp] theorem State.writeBytes_routers (a : Nat) (b : Bytes) : (s.writeBytes a b).routers = s.routers := rfl
@[simp] theorem State.writeBytes_coreOn (a : Nat) (b : Bytes) : (s.writeBytes a b).coreOn = s.coreOn := rfl
@[simp] theorem State.writeBytes_channels (a : Nat) (b : Bytes) : (s.writeBytes a b).channels = s.channels := rfl
@[simp] theorem State.writeBytes_brineScans (a : Nat) (b : Bytes) : (s.writeBytes a b).brineScans = s.brineScans := rfl
@[simp] theorem State.writeBytes_brineKept (a : Nat) (b : Bytes) : (s.writeBytes a b).brineKept = s.brineKept := rfl
@[simp] theorem State.writeBytes_pools (a : Nat) (b : Bytes) : (s.writeBytes a b).pools = s.pools := rfl
@[simp] theorem State.writeBytes_queues (a : Nat) (b : Bytes) : (s.writeBytes a b).queues = s.queues := rfl
@[simp] theorem State.writeBytes_arrays (a : Nat) (b : Bytes) : (s.writeBytes a b).arrays = s.arrays := rfl
@[simp] theorem State.writeBytes_spoilt (a : Nat) (b : Bytes) : (s.writeBytes a b).spoilt = s.spoilt := rfl
@[simp] theorem State.writeBytes_chains (a : Nat) (b : Bytes) : (s.writeBytes a b).chains = s.chains := rfl
@[simp] theorem State.writeBytes_regions (a : Nat) (b : Bytes) : (s.writeBytes a b).regions = s.regions := rfl
@[simp] theorem State.writeBytes_pumps (a : Nat) (b : Bytes) : (s.writeBytes a b).pumps = s.pumps := rfl
@[simp] theorem State.writeBytes_pumpSeq (a : Nat) (b : Bytes) : (s.writeBytes a b).pumpSeq = s.pumpSeq := rfl
@[simp] theorem State.writeBytes_outstanding (a : Nat) (b : Bytes) : (s.writeBytes a b).outstanding = s.outstanding := rfl
@[simp] theorem State.writeBytes_nextReq (a : Nat) (b : Bytes) : (s.writeBytes a b).nextReq = s.nextReq := rfl
@[simp] theorem State.writeBytes_sources (a : Nat) (b : Bytes) : (s.writeBytes a b).sources = s.sources := rfl
@[simp] theorem State.writeBytes_injected (a : Nat) (b : Bytes) : (s.writeBytes a b).injected = s.injected := rfl
@[simp] theorem State.writeBytes_lports (a : Nat) (b : Bytes) : (s.writeBytes a b).lports = s.lports := rfl
@[simp] theorem State.writeBytes_sending (a : Nat) (b : Bytes) : (s.writeBytes a b).sending = s.sending := rfl
@[simp] theorem State.writeBytes_bound (a : Nat) (b : Bytes) : (s.writeBytes a b).bound = s.bound := rfl
@[simp] theorem State.writeBytes_routes (a : Nat) (b : Bytes) : (s.writeBytes a b).routes = s.routes := rfl
@[simp] theorem State.writeBytes_sluices (a : Nat) (b : Bytes) : (s.writeBytes a b).sluices = s.sluices := rfl
@[simp] theorem State.writeBytes_sluiceLocked (a : Nat) (b : Bytes) : (s.writeBytes a b).sluiceLocked = s.sluiceLocked := rfl
@[simp] theorem State.writeBytes_ranks (a : Nat) (b : Bytes) : (s.writeBytes a b).ranks = s.ranks := rfl
@[simp] theorem State.writeBytes_qps (a : Nat) (b : Bytes) : (s.writeBytes a b).qps = s.qps := rfl
@[simp] theorem State.writeBytes_ethPorts (a : Nat) (b : Bytes) : (s.writeBytes a b).ethPorts = s.ethPorts := rfl
@[simp] theorem State.writeBytes_colls (a : Nat) (b : Bytes) : (s.writeBytes a b).colls = s.colls := rfl
@[simp] theorem State.writeBytes_chunkHeaders (a : Nat) (b : Bytes) : (s.writeBytes a b).chunkHeaders = s.chunkHeaders := rfl
@[simp] theorem State.writeBytes_voidNextCode (a : Nat) (b : Bytes) : (s.writeBytes a b).voidNextCode = s.voidNextCode := rfl
@[simp] theorem State.writeBytes_seqs (a : Nat) (b : Bytes) : (s.writeBytes a b).seqs = s.seqs := rfl
@[simp] theorem State.writeBytes_imem (a : Nat) (b : Bytes) : (s.writeBytes a b).imem = s.imem := rfl
@[simp] theorem State.writeBytes_torn (a : Nat) (b : Bytes) : (s.writeBytes a b).torn = s.torn := rfl
@[simp] theorem State.writeBytes_parts (a : Nat) (b : Bytes) : (s.writeBytes a b).parts = s.parts := rfl
@[simp] theorem State.writeBytes_launches (a : Nat) (b : Bytes) : (s.writeBytes a b).launches = s.launches := rfl
@[simp] theorem State.writeBytes_pends (a : Nat) (b : Bytes) : (s.writeBytes a b).pends = s.pends := rfl
@[simp] theorem State.writeBytes_fills (a : Nat) (b : Bytes) : (s.writeBytes a b).fills = s.fills := rfl
@[simp] theorem State.writeBytes_detBuffer (a : Nat) (b : Bytes) : (s.writeBytes a b).detBuffer = s.detBuffer := rfl
@[simp] theorem State.writeBytes_detTail (a : Nat) (b : Bytes) : (s.writeBytes a b).detTail = s.detTail := rfl
@[simp] theorem State.writeBytes_detTailBad (a : Nat) (b : Bytes) : (s.writeBytes a b).detTailBad = s.detTailBad := rfl
@[simp] theorem State.writeBytes_power (a : Nat) (b : Bytes) : (s.writeBytes a b).power = s.power := rfl
@[simp] theorem State.writeBytes_pins (a : Nat) (b : Bytes) : (s.writeBytes a b).pins = s.pins := rfl
@[simp] theorem State.writeBytes_clock (a : Nat) (b : Bytes) : (s.writeBytes a b).clock = s.clock := rfl
@[simp] theorem State.writeBytes_sensors (a : Nat) (b : Bytes) : (s.writeBytes a b).sensors = s.sensors := rfl
@[simp] theorem State.writeBytes_flash (a : Nat) (b : Bytes) : (s.writeBytes a b).flash = s.flash := rfl
@[simp] theorem State.writeBytes_mgmt (a : Nat) (b : Bytes) : (s.writeBytes a b).mgmt = s.mgmt := rfl
@[simp] theorem State.writeBytes_ras (a : Nat) (b : Bytes) : (s.writeBytes a b).ras = s.ras := rfl
@[simp] theorem State.writeBytes_out (a : Nat) (b : Bytes) : (s.writeBytes a b).out = s.out := rfl
@[simp] theorem State.writeBytes_inputs (a : Nat) (b : Bytes) : (s.writeBytes a b).inputs = s.inputs := rfl
@[simp] theorem State.writeBytes_pending (a : Nat) (b : Bytes) : (s.writeBytes a b).pending = s.pending := rfl

@[simp] theorem State.writeNat_tb (a : Nat) (n : Nat) (v : Nat) : (s.writeNat a n v).tb = s.tb := rfl
@[simp] theorem State.writeNat_free (a : Nat) (n : Nat) (v : Nat) : (s.writeNat a n v).free = s.free := rfl
@[simp] theorem State.writeNat_regs (a : Nat) (n : Nat) (v : Nat) : (s.writeNat a n v).regs = s.regs := rfl
@[simp] theorem State.writeNat_staged (a : Nat) (n : Nat) (v : Nat) : (s.writeNat a n v).staged = s.staged := rfl
@[simp] theorem State.writeNat_rake (a : Nat) (n : Nat) (v : Nat) : (s.writeNat a n v).rake = s.rake := rfl
@[simp] theorem State.writeNat_rakeMask (a : Nat) (n : Nat) (v : Nat) : (s.writeNat a n v).rakeMask = s.rakeMask := rfl
@[simp] theorem State.writeNat_log (a : Nat) (n : Nat) (v : Nat) : (s.writeNat a n v).log = s.log := rfl
@[simp] theorem State.writeNat_bad (a : Nat) (n : Nat) (v : Nat) : (s.writeNat a n v).bad = s.bad := rfl
@[simp] theorem State.writeNat_fuses (a : Nat) (n : Nat) (v : Nat) : (s.writeNat a n v).fuses = s.fuses := rfl
@[simp] theorem State.writeNat_tap (a : Nat) (n : Nat) (v : Nat) : (s.writeNat a n v).tap = s.tap := rfl
@[simp] theorem State.writeNat_counters (a : Nat) (n : Nat) (v : Nat) : (s.writeNat a n v).counters = s.counters := rfl
@[simp] theorem State.writeNat_routers (a : Nat) (n : Nat) (v : Nat) : (s.writeNat a n v).routers = s.routers := rfl
@[simp] theorem State.writeNat_coreOn (a : Nat) (n : Nat) (v : Nat) : (s.writeNat a n v).coreOn = s.coreOn := rfl
@[simp] theorem State.writeNat_channels (a : Nat) (n : Nat) (v : Nat) : (s.writeNat a n v).channels = s.channels := rfl
@[simp] theorem State.writeNat_brineScans (a : Nat) (n : Nat) (v : Nat) : (s.writeNat a n v).brineScans = s.brineScans := rfl
@[simp] theorem State.writeNat_brineKept (a : Nat) (n : Nat) (v : Nat) : (s.writeNat a n v).brineKept = s.brineKept := rfl
@[simp] theorem State.writeNat_pools (a : Nat) (n : Nat) (v : Nat) : (s.writeNat a n v).pools = s.pools := rfl
@[simp] theorem State.writeNat_queues (a : Nat) (n : Nat) (v : Nat) : (s.writeNat a n v).queues = s.queues := rfl
@[simp] theorem State.writeNat_arrays (a : Nat) (n : Nat) (v : Nat) : (s.writeNat a n v).arrays = s.arrays := rfl
@[simp] theorem State.writeNat_spoilt (a : Nat) (n : Nat) (v : Nat) : (s.writeNat a n v).spoilt = s.spoilt := rfl
@[simp] theorem State.writeNat_chains (a : Nat) (n : Nat) (v : Nat) : (s.writeNat a n v).chains = s.chains := rfl
@[simp] theorem State.writeNat_regions (a : Nat) (n : Nat) (v : Nat) : (s.writeNat a n v).regions = s.regions := rfl
@[simp] theorem State.writeNat_pumps (a : Nat) (n : Nat) (v : Nat) : (s.writeNat a n v).pumps = s.pumps := rfl
@[simp] theorem State.writeNat_pumpSeq (a : Nat) (n : Nat) (v : Nat) : (s.writeNat a n v).pumpSeq = s.pumpSeq := rfl
@[simp] theorem State.writeNat_outstanding (a : Nat) (n : Nat) (v : Nat) : (s.writeNat a n v).outstanding = s.outstanding := rfl
@[simp] theorem State.writeNat_nextReq (a : Nat) (n : Nat) (v : Nat) : (s.writeNat a n v).nextReq = s.nextReq := rfl
@[simp] theorem State.writeNat_sources (a : Nat) (n : Nat) (v : Nat) : (s.writeNat a n v).sources = s.sources := rfl
@[simp] theorem State.writeNat_injected (a : Nat) (n : Nat) (v : Nat) : (s.writeNat a n v).injected = s.injected := rfl
@[simp] theorem State.writeNat_lports (a : Nat) (n : Nat) (v : Nat) : (s.writeNat a n v).lports = s.lports := rfl
@[simp] theorem State.writeNat_sending (a : Nat) (n : Nat) (v : Nat) : (s.writeNat a n v).sending = s.sending := rfl
@[simp] theorem State.writeNat_bound (a : Nat) (n : Nat) (v : Nat) : (s.writeNat a n v).bound = s.bound := rfl
@[simp] theorem State.writeNat_routes (a : Nat) (n : Nat) (v : Nat) : (s.writeNat a n v).routes = s.routes := rfl
@[simp] theorem State.writeNat_sluices (a : Nat) (n : Nat) (v : Nat) : (s.writeNat a n v).sluices = s.sluices := rfl
@[simp] theorem State.writeNat_sluiceLocked (a : Nat) (n : Nat) (v : Nat) : (s.writeNat a n v).sluiceLocked = s.sluiceLocked := rfl
@[simp] theorem State.writeNat_ranks (a : Nat) (n : Nat) (v : Nat) : (s.writeNat a n v).ranks = s.ranks := rfl
@[simp] theorem State.writeNat_qps (a : Nat) (n : Nat) (v : Nat) : (s.writeNat a n v).qps = s.qps := rfl
@[simp] theorem State.writeNat_ethPorts (a : Nat) (n : Nat) (v : Nat) : (s.writeNat a n v).ethPorts = s.ethPorts := rfl
@[simp] theorem State.writeNat_colls (a : Nat) (n : Nat) (v : Nat) : (s.writeNat a n v).colls = s.colls := rfl
@[simp] theorem State.writeNat_chunkHeaders (a : Nat) (n : Nat) (v : Nat) : (s.writeNat a n v).chunkHeaders = s.chunkHeaders := rfl
@[simp] theorem State.writeNat_voidNextCode (a : Nat) (n : Nat) (v : Nat) : (s.writeNat a n v).voidNextCode = s.voidNextCode := rfl
@[simp] theorem State.writeNat_seqs (a : Nat) (n : Nat) (v : Nat) : (s.writeNat a n v).seqs = s.seqs := rfl
@[simp] theorem State.writeNat_imem (a : Nat) (n : Nat) (v : Nat) : (s.writeNat a n v).imem = s.imem := rfl
@[simp] theorem State.writeNat_torn (a : Nat) (n : Nat) (v : Nat) : (s.writeNat a n v).torn = s.torn := rfl
@[simp] theorem State.writeNat_parts (a : Nat) (n : Nat) (v : Nat) : (s.writeNat a n v).parts = s.parts := rfl
@[simp] theorem State.writeNat_launches (a : Nat) (n : Nat) (v : Nat) : (s.writeNat a n v).launches = s.launches := rfl
@[simp] theorem State.writeNat_pends (a : Nat) (n : Nat) (v : Nat) : (s.writeNat a n v).pends = s.pends := rfl
@[simp] theorem State.writeNat_fills (a : Nat) (n : Nat) (v : Nat) : (s.writeNat a n v).fills = s.fills := rfl
@[simp] theorem State.writeNat_detBuffer (a : Nat) (n : Nat) (v : Nat) : (s.writeNat a n v).detBuffer = s.detBuffer := rfl
@[simp] theorem State.writeNat_detTail (a : Nat) (n : Nat) (v : Nat) : (s.writeNat a n v).detTail = s.detTail := rfl
@[simp] theorem State.writeNat_detTailBad (a : Nat) (n : Nat) (v : Nat) : (s.writeNat a n v).detTailBad = s.detTailBad := rfl
@[simp] theorem State.writeNat_power (a : Nat) (n : Nat) (v : Nat) : (s.writeNat a n v).power = s.power := rfl
@[simp] theorem State.writeNat_pins (a : Nat) (n : Nat) (v : Nat) : (s.writeNat a n v).pins = s.pins := rfl
@[simp] theorem State.writeNat_clock (a : Nat) (n : Nat) (v : Nat) : (s.writeNat a n v).clock = s.clock := rfl
@[simp] theorem State.writeNat_sensors (a : Nat) (n : Nat) (v : Nat) : (s.writeNat a n v).sensors = s.sensors := rfl
@[simp] theorem State.writeNat_flash (a : Nat) (n : Nat) (v : Nat) : (s.writeNat a n v).flash = s.flash := rfl
@[simp] theorem State.writeNat_mgmt (a : Nat) (n : Nat) (v : Nat) : (s.writeNat a n v).mgmt = s.mgmt := rfl
@[simp] theorem State.writeNat_ras (a : Nat) (n : Nat) (v : Nat) : (s.writeNat a n v).ras = s.ras := rfl
@[simp] theorem State.writeNat_out (a : Nat) (n : Nat) (v : Nat) : (s.writeNat a n v).out = s.out := rfl
@[simp] theorem State.writeNat_inputs (a : Nat) (n : Nat) (v : Nat) : (s.writeNat a n v).inputs = s.inputs := rfl
@[simp] theorem State.writeNat_pending (a : Nat) (n : Nat) (v : Nat) : (s.writeNat a n v).pending = s.pending := rfl

@[simp] theorem State.setBad_tb (a : Nat) (b : Bad) : (s.setBad a b).tb = s.tb := rfl
@[simp] theorem State.setBad_free (a : Nat) (b : Bad) : (s.setBad a b).free = s.free := rfl
@[simp] theorem State.setBad_regs (a : Nat) (b : Bad) : (s.setBad a b).regs = s.regs := rfl
@[simp] theorem State.setBad_staged (a : Nat) (b : Bad) : (s.setBad a b).staged = s.staged := rfl
@[simp] theorem State.setBad_rake (a : Nat) (b : Bad) : (s.setBad a b).rake = s.rake := rfl
@[simp] theorem State.setBad_rakeMask (a : Nat) (b : Bad) : (s.setBad a b).rakeMask = s.rakeMask := rfl
@[simp] theorem State.setBad_log (a : Nat) (b : Bad) : (s.setBad a b).log = s.log := rfl
@[simp] theorem State.setBad_mem (a : Nat) (b : Bad) : (s.setBad a b).mem = s.mem := rfl
@[simp] theorem State.setBad_scratch (a : Nat) (b : Bad) : (s.setBad a b).scratch = s.scratch := rfl
@[simp] theorem State.setBad_fuses (a : Nat) (b : Bad) : (s.setBad a b).fuses = s.fuses := rfl
@[simp] theorem State.setBad_tap (a : Nat) (b : Bad) : (s.setBad a b).tap = s.tap := rfl
@[simp] theorem State.setBad_counters (a : Nat) (b : Bad) : (s.setBad a b).counters = s.counters := rfl
@[simp] theorem State.setBad_routers (a : Nat) (b : Bad) : (s.setBad a b).routers = s.routers := rfl
@[simp] theorem State.setBad_coreOn (a : Nat) (b : Bad) : (s.setBad a b).coreOn = s.coreOn := rfl
@[simp] theorem State.setBad_channels (a : Nat) (b : Bad) : (s.setBad a b).channels = s.channels := rfl
@[simp] theorem State.setBad_brineScans (a : Nat) (b : Bad) : (s.setBad a b).brineScans = s.brineScans := rfl
@[simp] theorem State.setBad_brineKept (a : Nat) (b : Bad) : (s.setBad a b).brineKept = s.brineKept := rfl
@[simp] theorem State.setBad_pools (a : Nat) (b : Bad) : (s.setBad a b).pools = s.pools := rfl
@[simp] theorem State.setBad_queues (a : Nat) (b : Bad) : (s.setBad a b).queues = s.queues := rfl
@[simp] theorem State.setBad_arrays (a : Nat) (b : Bad) : (s.setBad a b).arrays = s.arrays := rfl
@[simp] theorem State.setBad_spoilt (a : Nat) (b : Bad) : (s.setBad a b).spoilt = s.spoilt := rfl
@[simp] theorem State.setBad_chains (a : Nat) (b : Bad) : (s.setBad a b).chains = s.chains := rfl
@[simp] theorem State.setBad_regions (a : Nat) (b : Bad) : (s.setBad a b).regions = s.regions := rfl
@[simp] theorem State.setBad_pumps (a : Nat) (b : Bad) : (s.setBad a b).pumps = s.pumps := rfl
@[simp] theorem State.setBad_pumpSeq (a : Nat) (b : Bad) : (s.setBad a b).pumpSeq = s.pumpSeq := rfl
@[simp] theorem State.setBad_outstanding (a : Nat) (b : Bad) : (s.setBad a b).outstanding = s.outstanding := rfl
@[simp] theorem State.setBad_nextReq (a : Nat) (b : Bad) : (s.setBad a b).nextReq = s.nextReq := rfl
@[simp] theorem State.setBad_sources (a : Nat) (b : Bad) : (s.setBad a b).sources = s.sources := rfl
@[simp] theorem State.setBad_injected (a : Nat) (b : Bad) : (s.setBad a b).injected = s.injected := rfl
@[simp] theorem State.setBad_lports (a : Nat) (b : Bad) : (s.setBad a b).lports = s.lports := rfl
@[simp] theorem State.setBad_sending (a : Nat) (b : Bad) : (s.setBad a b).sending = s.sending := rfl
@[simp] theorem State.setBad_bound (a : Nat) (b : Bad) : (s.setBad a b).bound = s.bound := rfl
@[simp] theorem State.setBad_routes (a : Nat) (b : Bad) : (s.setBad a b).routes = s.routes := rfl
@[simp] theorem State.setBad_sluices (a : Nat) (b : Bad) : (s.setBad a b).sluices = s.sluices := rfl
@[simp] theorem State.setBad_sluiceLocked (a : Nat) (b : Bad) : (s.setBad a b).sluiceLocked = s.sluiceLocked := rfl
@[simp] theorem State.setBad_ranks (a : Nat) (b : Bad) : (s.setBad a b).ranks = s.ranks := rfl
@[simp] theorem State.setBad_qps (a : Nat) (b : Bad) : (s.setBad a b).qps = s.qps := rfl
@[simp] theorem State.setBad_ethPorts (a : Nat) (b : Bad) : (s.setBad a b).ethPorts = s.ethPorts := rfl
@[simp] theorem State.setBad_colls (a : Nat) (b : Bad) : (s.setBad a b).colls = s.colls := rfl
@[simp] theorem State.setBad_chunkHeaders (a : Nat) (b : Bad) : (s.setBad a b).chunkHeaders = s.chunkHeaders := rfl
@[simp] theorem State.setBad_voidNextCode (a : Nat) (b : Bad) : (s.setBad a b).voidNextCode = s.voidNextCode := rfl
@[simp] theorem State.setBad_seqs (a : Nat) (b : Bad) : (s.setBad a b).seqs = s.seqs := rfl
@[simp] theorem State.setBad_imem (a : Nat) (b : Bad) : (s.setBad a b).imem = s.imem := rfl
@[simp] theorem State.setBad_torn (a : Nat) (b : Bad) : (s.setBad a b).torn = s.torn := rfl
@[simp] theorem State.setBad_parts (a : Nat) (b : Bad) : (s.setBad a b).parts = s.parts := rfl
@[simp] theorem State.setBad_launches (a : Nat) (b : Bad) : (s.setBad a b).launches = s.launches := rfl
@[simp] theorem State.setBad_pends (a : Nat) (b : Bad) : (s.setBad a b).pends = s.pends := rfl
@[simp] theorem State.setBad_fills (a : Nat) (b : Bad) : (s.setBad a b).fills = s.fills := rfl
@[simp] theorem State.setBad_detBuffer (a : Nat) (b : Bad) : (s.setBad a b).detBuffer = s.detBuffer := rfl
@[simp] theorem State.setBad_detTail (a : Nat) (b : Bad) : (s.setBad a b).detTail = s.detTail := rfl
@[simp] theorem State.setBad_detTailBad (a : Nat) (b : Bad) : (s.setBad a b).detTailBad = s.detTailBad := rfl
@[simp] theorem State.setBad_power (a : Nat) (b : Bad) : (s.setBad a b).power = s.power := rfl
@[simp] theorem State.setBad_pins (a : Nat) (b : Bad) : (s.setBad a b).pins = s.pins := rfl
@[simp] theorem State.setBad_clock (a : Nat) (b : Bad) : (s.setBad a b).clock = s.clock := rfl
@[simp] theorem State.setBad_sensors (a : Nat) (b : Bad) : (s.setBad a b).sensors = s.sensors := rfl
@[simp] theorem State.setBad_flash (a : Nat) (b : Bad) : (s.setBad a b).flash = s.flash := rfl
@[simp] theorem State.setBad_mgmt (a : Nat) (b : Bad) : (s.setBad a b).mgmt = s.mgmt := rfl
@[simp] theorem State.setBad_ras (a : Nat) (b : Bad) : (s.setBad a b).ras = s.ras := rfl
@[simp] theorem State.setBad_out (a : Nat) (b : Bad) : (s.setBad a b).out = s.out := rfl
@[simp] theorem State.setBad_inputs (a : Nat) (b : Bad) : (s.setBad a b).inputs = s.inputs := rfl
@[simp] theorem State.setBad_pending (a : Nat) (b : Bad) : (s.setBad a b).pending = s.pending := rfl

@[simp] theorem State.saveLedger_tb : (s.saveLedger).tb = s.tb := rfl
@[simp] theorem State.saveLedger_free : (s.saveLedger).free = s.free := rfl
@[simp] theorem State.saveLedger_regs : (s.saveLedger).regs = s.regs := rfl
@[simp] theorem State.saveLedger_staged : (s.saveLedger).staged = s.staged := rfl
@[simp] theorem State.saveLedger_rake : (s.saveLedger).rake = s.rake := rfl
@[simp] theorem State.saveLedger_rakeMask : (s.saveLedger).rakeMask = s.rakeMask := rfl
@[simp] theorem State.saveLedger_log : (s.saveLedger).log = s.log := rfl
@[simp] theorem State.saveLedger_mem : (s.saveLedger).mem = s.mem := rfl
@[simp] theorem State.saveLedger_bad : (s.saveLedger).bad = s.bad := rfl
@[simp] theorem State.saveLedger_scratch : (s.saveLedger).scratch = s.scratch := rfl
@[simp] theorem State.saveLedger_fuses : (s.saveLedger).fuses = s.fuses := rfl
@[simp] theorem State.saveLedger_tap : (s.saveLedger).tap = s.tap := rfl
@[simp] theorem State.saveLedger_counters : (s.saveLedger).counters = s.counters := rfl
@[simp] theorem State.saveLedger_routers : (s.saveLedger).routers = s.routers := rfl
@[simp] theorem State.saveLedger_coreOn : (s.saveLedger).coreOn = s.coreOn := rfl
@[simp] theorem State.saveLedger_channels : (s.saveLedger).channels = s.channels := rfl
@[simp] theorem State.saveLedger_brineScans : (s.saveLedger).brineScans = s.brineScans := rfl
@[simp] theorem State.saveLedger_brineKept : (s.saveLedger).brineKept = s.brineKept := rfl
@[simp] theorem State.saveLedger_pools : (s.saveLedger).pools = s.pools := rfl
@[simp] theorem State.saveLedger_queues : (s.saveLedger).queues = s.queues := rfl
@[simp] theorem State.saveLedger_arrays : (s.saveLedger).arrays = s.arrays := rfl
@[simp] theorem State.saveLedger_spoilt : (s.saveLedger).spoilt = s.spoilt := rfl
@[simp] theorem State.saveLedger_chains : (s.saveLedger).chains = s.chains := rfl
@[simp] theorem State.saveLedger_regions : (s.saveLedger).regions = s.regions := rfl
@[simp] theorem State.saveLedger_pumps : (s.saveLedger).pumps = s.pumps := rfl
@[simp] theorem State.saveLedger_pumpSeq : (s.saveLedger).pumpSeq = s.pumpSeq := rfl
@[simp] theorem State.saveLedger_outstanding : (s.saveLedger).outstanding = s.outstanding := rfl
@[simp] theorem State.saveLedger_nextReq : (s.saveLedger).nextReq = s.nextReq := rfl
@[simp] theorem State.saveLedger_sources : (s.saveLedger).sources = s.sources := rfl
@[simp] theorem State.saveLedger_injected : (s.saveLedger).injected = s.injected := rfl
@[simp] theorem State.saveLedger_lports : (s.saveLedger).lports = s.lports := rfl
@[simp] theorem State.saveLedger_sending : (s.saveLedger).sending = s.sending := rfl
@[simp] theorem State.saveLedger_bound : (s.saveLedger).bound = s.bound := rfl
@[simp] theorem State.saveLedger_routes : (s.saveLedger).routes = s.routes := rfl
@[simp] theorem State.saveLedger_sluices : (s.saveLedger).sluices = s.sluices := rfl
@[simp] theorem State.saveLedger_sluiceLocked : (s.saveLedger).sluiceLocked = s.sluiceLocked := rfl
@[simp] theorem State.saveLedger_ranks : (s.saveLedger).ranks = s.ranks := rfl
@[simp] theorem State.saveLedger_qps : (s.saveLedger).qps = s.qps := rfl
@[simp] theorem State.saveLedger_ethPorts : (s.saveLedger).ethPorts = s.ethPorts := rfl
@[simp] theorem State.saveLedger_colls : (s.saveLedger).colls = s.colls := rfl
@[simp] theorem State.saveLedger_chunkHeaders : (s.saveLedger).chunkHeaders = s.chunkHeaders := rfl
@[simp] theorem State.saveLedger_voidNextCode : (s.saveLedger).voidNextCode = s.voidNextCode := rfl
@[simp] theorem State.saveLedger_seqs : (s.saveLedger).seqs = s.seqs := rfl
@[simp] theorem State.saveLedger_imem : (s.saveLedger).imem = s.imem := rfl
@[simp] theorem State.saveLedger_torn : (s.saveLedger).torn = s.torn := rfl
@[simp] theorem State.saveLedger_parts : (s.saveLedger).parts = s.parts := rfl
@[simp] theorem State.saveLedger_launches : (s.saveLedger).launches = s.launches := rfl
@[simp] theorem State.saveLedger_pends : (s.saveLedger).pends = s.pends := rfl
@[simp] theorem State.saveLedger_fills : (s.saveLedger).fills = s.fills := rfl
@[simp] theorem State.saveLedger_detBuffer : (s.saveLedger).detBuffer = s.detBuffer := rfl
@[simp] theorem State.saveLedger_detTail : (s.saveLedger).detTail = s.detTail := rfl
@[simp] theorem State.saveLedger_detTailBad : (s.saveLedger).detTailBad = s.detTailBad := rfl
@[simp] theorem State.saveLedger_pins : (s.saveLedger).pins = s.pins := rfl
@[simp] theorem State.saveLedger_clock : (s.saveLedger).clock = s.clock := rfl
@[simp] theorem State.saveLedger_sensors : (s.saveLedger).sensors = s.sensors := rfl
@[simp] theorem State.saveLedger_flash : (s.saveLedger).flash = s.flash := rfl
@[simp] theorem State.saveLedger_mgmt : (s.saveLedger).mgmt = s.mgmt := rfl
@[simp] theorem State.saveLedger_ras : (s.saveLedger).ras = s.ras := rfl
@[simp] theorem State.saveLedger_out : (s.saveLedger).out = s.out := rfl
@[simp] theorem State.saveLedger_inputs : (s.saveLedger).inputs = s.inputs := rfl
@[simp] theorem State.saveLedger_pending : (s.saveLedger).pending = s.pending := rfl

@[simp] theorem State.setRouter_tb (j : Nat) (r : Router) : (s.setRouter j r).tb = s.tb := rfl
@[simp] theorem State.setRouter_free (j : Nat) (r : Router) : (s.setRouter j r).free = s.free := rfl
@[simp] theorem State.setRouter_regs (j : Nat) (r : Router) : (s.setRouter j r).regs = s.regs := rfl
@[simp] theorem State.setRouter_staged (j : Nat) (r : Router) : (s.setRouter j r).staged = s.staged := rfl
@[simp] theorem State.setRouter_rake (j : Nat) (r : Router) : (s.setRouter j r).rake = s.rake := rfl
@[simp] theorem State.setRouter_rakeMask (j : Nat) (r : Router) : (s.setRouter j r).rakeMask = s.rakeMask := rfl
@[simp] theorem State.setRouter_log (j : Nat) (r : Router) : (s.setRouter j r).log = s.log := rfl
@[simp] theorem State.setRouter_mem (j : Nat) (r : Router) : (s.setRouter j r).mem = s.mem := rfl
@[simp] theorem State.setRouter_bad (j : Nat) (r : Router) : (s.setRouter j r).bad = s.bad := rfl
@[simp] theorem State.setRouter_scratch (j : Nat) (r : Router) : (s.setRouter j r).scratch = s.scratch := rfl
@[simp] theorem State.setRouter_fuses (j : Nat) (r : Router) : (s.setRouter j r).fuses = s.fuses := rfl
@[simp] theorem State.setRouter_tap (j : Nat) (r : Router) : (s.setRouter j r).tap = s.tap := rfl
@[simp] theorem State.setRouter_counters (j : Nat) (r : Router) : (s.setRouter j r).counters = s.counters := rfl
@[simp] theorem State.setRouter_coreOn (j : Nat) (r : Router) : (s.setRouter j r).coreOn = s.coreOn := rfl
@[simp] theorem State.setRouter_channels (j : Nat) (r : Router) : (s.setRouter j r).channels = s.channels := rfl
@[simp] theorem State.setRouter_brineScans (j : Nat) (r : Router) : (s.setRouter j r).brineScans = s.brineScans := rfl
@[simp] theorem State.setRouter_brineKept (j : Nat) (r : Router) : (s.setRouter j r).brineKept = s.brineKept := rfl
@[simp] theorem State.setRouter_pools (j : Nat) (r : Router) : (s.setRouter j r).pools = s.pools := rfl
@[simp] theorem State.setRouter_queues (j : Nat) (r : Router) : (s.setRouter j r).queues = s.queues := rfl
@[simp] theorem State.setRouter_arrays (j : Nat) (r : Router) : (s.setRouter j r).arrays = s.arrays := rfl
@[simp] theorem State.setRouter_spoilt (j : Nat) (r : Router) : (s.setRouter j r).spoilt = s.spoilt := rfl
@[simp] theorem State.setRouter_chains (j : Nat) (r : Router) : (s.setRouter j r).chains = s.chains := rfl
@[simp] theorem State.setRouter_regions (j : Nat) (r : Router) : (s.setRouter j r).regions = s.regions := rfl
@[simp] theorem State.setRouter_pumps (j : Nat) (r : Router) : (s.setRouter j r).pumps = s.pumps := rfl
@[simp] theorem State.setRouter_pumpSeq (j : Nat) (r : Router) : (s.setRouter j r).pumpSeq = s.pumpSeq := rfl
@[simp] theorem State.setRouter_outstanding (j : Nat) (r : Router) : (s.setRouter j r).outstanding = s.outstanding := rfl
@[simp] theorem State.setRouter_nextReq (j : Nat) (r : Router) : (s.setRouter j r).nextReq = s.nextReq := rfl
@[simp] theorem State.setRouter_sources (j : Nat) (r : Router) : (s.setRouter j r).sources = s.sources := rfl
@[simp] theorem State.setRouter_injected (j : Nat) (r : Router) : (s.setRouter j r).injected = s.injected := rfl
@[simp] theorem State.setRouter_lports (j : Nat) (r : Router) : (s.setRouter j r).lports = s.lports := rfl
@[simp] theorem State.setRouter_sending (j : Nat) (r : Router) : (s.setRouter j r).sending = s.sending := rfl
@[simp] theorem State.setRouter_bound (j : Nat) (r : Router) : (s.setRouter j r).bound = s.bound := rfl
@[simp] theorem State.setRouter_routes (j : Nat) (r : Router) : (s.setRouter j r).routes = s.routes := rfl
@[simp] theorem State.setRouter_sluices (j : Nat) (r : Router) : (s.setRouter j r).sluices = s.sluices := rfl
@[simp] theorem State.setRouter_sluiceLocked (j : Nat) (r : Router) : (s.setRouter j r).sluiceLocked = s.sluiceLocked := rfl
@[simp] theorem State.setRouter_ranks (j : Nat) (r : Router) : (s.setRouter j r).ranks = s.ranks := rfl
@[simp] theorem State.setRouter_qps (j : Nat) (r : Router) : (s.setRouter j r).qps = s.qps := rfl
@[simp] theorem State.setRouter_ethPorts (j : Nat) (r : Router) : (s.setRouter j r).ethPorts = s.ethPorts := rfl
@[simp] theorem State.setRouter_colls (j : Nat) (r : Router) : (s.setRouter j r).colls = s.colls := rfl
@[simp] theorem State.setRouter_chunkHeaders (j : Nat) (r : Router) : (s.setRouter j r).chunkHeaders = s.chunkHeaders := rfl
@[simp] theorem State.setRouter_voidNextCode (j : Nat) (r : Router) : (s.setRouter j r).voidNextCode = s.voidNextCode := rfl
@[simp] theorem State.setRouter_seqs (j : Nat) (r : Router) : (s.setRouter j r).seqs = s.seqs := rfl
@[simp] theorem State.setRouter_imem (j : Nat) (r : Router) : (s.setRouter j r).imem = s.imem := rfl
@[simp] theorem State.setRouter_torn (j : Nat) (r : Router) : (s.setRouter j r).torn = s.torn := rfl
@[simp] theorem State.setRouter_parts (j : Nat) (r : Router) : (s.setRouter j r).parts = s.parts := rfl
@[simp] theorem State.setRouter_launches (j : Nat) (r : Router) : (s.setRouter j r).launches = s.launches := rfl
@[simp] theorem State.setRouter_pends (j : Nat) (r : Router) : (s.setRouter j r).pends = s.pends := rfl
@[simp] theorem State.setRouter_fills (j : Nat) (r : Router) : (s.setRouter j r).fills = s.fills := rfl
@[simp] theorem State.setRouter_detBuffer (j : Nat) (r : Router) : (s.setRouter j r).detBuffer = s.detBuffer := rfl
@[simp] theorem State.setRouter_detTail (j : Nat) (r : Router) : (s.setRouter j r).detTail = s.detTail := rfl
@[simp] theorem State.setRouter_detTailBad (j : Nat) (r : Router) : (s.setRouter j r).detTailBad = s.detTailBad := rfl
@[simp] theorem State.setRouter_power (j : Nat) (r : Router) : (s.setRouter j r).power = s.power := rfl
@[simp] theorem State.setRouter_pins (j : Nat) (r : Router) : (s.setRouter j r).pins = s.pins := rfl
@[simp] theorem State.setRouter_clock (j : Nat) (r : Router) : (s.setRouter j r).clock = s.clock := rfl
@[simp] theorem State.setRouter_sensors (j : Nat) (r : Router) : (s.setRouter j r).sensors = s.sensors := rfl
@[simp] theorem State.setRouter_flash (j : Nat) (r : Router) : (s.setRouter j r).flash = s.flash := rfl
@[simp] theorem State.setRouter_mgmt (j : Nat) (r : Router) : (s.setRouter j r).mgmt = s.mgmt := rfl
@[simp] theorem State.setRouter_ras (j : Nat) (r : Router) : (s.setRouter j r).ras = s.ras := rfl
@[simp] theorem State.setRouter_out (j : Nat) (r : Router) : (s.setRouter j r).out = s.out := rfl
@[simp] theorem State.setRouter_inputs (j : Nat) (r : Router) : (s.setRouter j r).inputs = s.inputs := rfl
@[simp] theorem State.setRouter_pending (j : Nat) (r : Router) : (s.setRouter j r).pending = s.pending := rfl

@[simp] theorem State.setWin_tb (j : Nat) (w : Window) : (s.setWin j w).tb = s.tb := rfl
@[simp] theorem State.setWin_free (j : Nat) (w : Window) : (s.setWin j w).free = s.free := rfl
@[simp] theorem State.setWin_regs (j : Nat) (w : Window) : (s.setWin j w).regs = s.regs := rfl
@[simp] theorem State.setWin_staged (j : Nat) (w : Window) : (s.setWin j w).staged = s.staged := rfl
@[simp] theorem State.setWin_rake (j : Nat) (w : Window) : (s.setWin j w).rake = s.rake := rfl
@[simp] theorem State.setWin_rakeMask (j : Nat) (w : Window) : (s.setWin j w).rakeMask = s.rakeMask := rfl
@[simp] theorem State.setWin_log (j : Nat) (w : Window) : (s.setWin j w).log = s.log := rfl
@[simp] theorem State.setWin_mem (j : Nat) (w : Window) : (s.setWin j w).mem = s.mem := rfl
@[simp] theorem State.setWin_bad (j : Nat) (w : Window) : (s.setWin j w).bad = s.bad := rfl
@[simp] theorem State.setWin_scratch (j : Nat) (w : Window) : (s.setWin j w).scratch = s.scratch := rfl
@[simp] theorem State.setWin_fuses (j : Nat) (w : Window) : (s.setWin j w).fuses = s.fuses := rfl
@[simp] theorem State.setWin_tap (j : Nat) (w : Window) : (s.setWin j w).tap = s.tap := rfl
@[simp] theorem State.setWin_counters (j : Nat) (w : Window) : (s.setWin j w).counters = s.counters := rfl
@[simp] theorem State.setWin_coreOn (j : Nat) (w : Window) : (s.setWin j w).coreOn = s.coreOn := rfl
@[simp] theorem State.setWin_channels (j : Nat) (w : Window) : (s.setWin j w).channels = s.channels := rfl
@[simp] theorem State.setWin_brineScans (j : Nat) (w : Window) : (s.setWin j w).brineScans = s.brineScans := rfl
@[simp] theorem State.setWin_brineKept (j : Nat) (w : Window) : (s.setWin j w).brineKept = s.brineKept := rfl
@[simp] theorem State.setWin_pools (j : Nat) (w : Window) : (s.setWin j w).pools = s.pools := rfl
@[simp] theorem State.setWin_queues (j : Nat) (w : Window) : (s.setWin j w).queues = s.queues := rfl
@[simp] theorem State.setWin_arrays (j : Nat) (w : Window) : (s.setWin j w).arrays = s.arrays := rfl
@[simp] theorem State.setWin_spoilt (j : Nat) (w : Window) : (s.setWin j w).spoilt = s.spoilt := rfl
@[simp] theorem State.setWin_chains (j : Nat) (w : Window) : (s.setWin j w).chains = s.chains := rfl
@[simp] theorem State.setWin_regions (j : Nat) (w : Window) : (s.setWin j w).regions = s.regions := rfl
@[simp] theorem State.setWin_pumps (j : Nat) (w : Window) : (s.setWin j w).pumps = s.pumps := rfl
@[simp] theorem State.setWin_pumpSeq (j : Nat) (w : Window) : (s.setWin j w).pumpSeq = s.pumpSeq := rfl
@[simp] theorem State.setWin_outstanding (j : Nat) (w : Window) : (s.setWin j w).outstanding = s.outstanding := rfl
@[simp] theorem State.setWin_nextReq (j : Nat) (w : Window) : (s.setWin j w).nextReq = s.nextReq := rfl
@[simp] theorem State.setWin_sources (j : Nat) (w : Window) : (s.setWin j w).sources = s.sources := rfl
@[simp] theorem State.setWin_injected (j : Nat) (w : Window) : (s.setWin j w).injected = s.injected := rfl
@[simp] theorem State.setWin_lports (j : Nat) (w : Window) : (s.setWin j w).lports = s.lports := rfl
@[simp] theorem State.setWin_sending (j : Nat) (w : Window) : (s.setWin j w).sending = s.sending := rfl
@[simp] theorem State.setWin_bound (j : Nat) (w : Window) : (s.setWin j w).bound = s.bound := rfl
@[simp] theorem State.setWin_routes (j : Nat) (w : Window) : (s.setWin j w).routes = s.routes := rfl
@[simp] theorem State.setWin_sluices (j : Nat) (w : Window) : (s.setWin j w).sluices = s.sluices := rfl
@[simp] theorem State.setWin_sluiceLocked (j : Nat) (w : Window) : (s.setWin j w).sluiceLocked = s.sluiceLocked := rfl
@[simp] theorem State.setWin_ranks (j : Nat) (w : Window) : (s.setWin j w).ranks = s.ranks := rfl
@[simp] theorem State.setWin_qps (j : Nat) (w : Window) : (s.setWin j w).qps = s.qps := rfl
@[simp] theorem State.setWin_ethPorts (j : Nat) (w : Window) : (s.setWin j w).ethPorts = s.ethPorts := rfl
@[simp] theorem State.setWin_colls (j : Nat) (w : Window) : (s.setWin j w).colls = s.colls := rfl
@[simp] theorem State.setWin_chunkHeaders (j : Nat) (w : Window) : (s.setWin j w).chunkHeaders = s.chunkHeaders := rfl
@[simp] theorem State.setWin_voidNextCode (j : Nat) (w : Window) : (s.setWin j w).voidNextCode = s.voidNextCode := rfl
@[simp] theorem State.setWin_seqs (j : Nat) (w : Window) : (s.setWin j w).seqs = s.seqs := rfl
@[simp] theorem State.setWin_imem (j : Nat) (w : Window) : (s.setWin j w).imem = s.imem := rfl
@[simp] theorem State.setWin_torn (j : Nat) (w : Window) : (s.setWin j w).torn = s.torn := rfl
@[simp] theorem State.setWin_parts (j : Nat) (w : Window) : (s.setWin j w).parts = s.parts := rfl
@[simp] theorem State.setWin_launches (j : Nat) (w : Window) : (s.setWin j w).launches = s.launches := rfl
@[simp] theorem State.setWin_pends (j : Nat) (w : Window) : (s.setWin j w).pends = s.pends := rfl
@[simp] theorem State.setWin_fills (j : Nat) (w : Window) : (s.setWin j w).fills = s.fills := rfl
@[simp] theorem State.setWin_detBuffer (j : Nat) (w : Window) : (s.setWin j w).detBuffer = s.detBuffer := rfl
@[simp] theorem State.setWin_detTail (j : Nat) (w : Window) : (s.setWin j w).detTail = s.detTail := rfl
@[simp] theorem State.setWin_detTailBad (j : Nat) (w : Window) : (s.setWin j w).detTailBad = s.detTailBad := rfl
@[simp] theorem State.setWin_power (j : Nat) (w : Window) : (s.setWin j w).power = s.power := rfl
@[simp] theorem State.setWin_pins (j : Nat) (w : Window) : (s.setWin j w).pins = s.pins := rfl
@[simp] theorem State.setWin_clock (j : Nat) (w : Window) : (s.setWin j w).clock = s.clock := rfl
@[simp] theorem State.setWin_sensors (j : Nat) (w : Window) : (s.setWin j w).sensors = s.sensors := rfl
@[simp] theorem State.setWin_flash (j : Nat) (w : Window) : (s.setWin j w).flash = s.flash := rfl
@[simp] theorem State.setWin_mgmt (j : Nat) (w : Window) : (s.setWin j w).mgmt = s.mgmt := rfl
@[simp] theorem State.setWin_ras (j : Nat) (w : Window) : (s.setWin j w).ras = s.ras := rfl
@[simp] theorem State.setWin_out (j : Nat) (w : Window) : (s.setWin j w).out = s.out := rfl
@[simp] theorem State.setWin_inputs (j : Nat) (w : Window) : (s.setWin j w).inputs = s.inputs := rfl
@[simp] theorem State.setWin_pending (j : Nat) (w : Window) : (s.setWin j w).pending = s.pending := rfl

@[simp] theorem State.setSeq_tb (n : Nat) (q : Seq) : (s.setSeq n q).tb = s.tb := rfl
@[simp] theorem State.setSeq_free (n : Nat) (q : Seq) : (s.setSeq n q).free = s.free := rfl
@[simp] theorem State.setSeq_regs (n : Nat) (q : Seq) : (s.setSeq n q).regs = s.regs := rfl
@[simp] theorem State.setSeq_staged (n : Nat) (q : Seq) : (s.setSeq n q).staged = s.staged := rfl
@[simp] theorem State.setSeq_rake (n : Nat) (q : Seq) : (s.setSeq n q).rake = s.rake := rfl
@[simp] theorem State.setSeq_rakeMask (n : Nat) (q : Seq) : (s.setSeq n q).rakeMask = s.rakeMask := rfl
@[simp] theorem State.setSeq_log (n : Nat) (q : Seq) : (s.setSeq n q).log = s.log := rfl
@[simp] theorem State.setSeq_mem (n : Nat) (q : Seq) : (s.setSeq n q).mem = s.mem := rfl
@[simp] theorem State.setSeq_bad (n : Nat) (q : Seq) : (s.setSeq n q).bad = s.bad := rfl
@[simp] theorem State.setSeq_scratch (n : Nat) (q : Seq) : (s.setSeq n q).scratch = s.scratch := rfl
@[simp] theorem State.setSeq_fuses (n : Nat) (q : Seq) : (s.setSeq n q).fuses = s.fuses := rfl
@[simp] theorem State.setSeq_tap (n : Nat) (q : Seq) : (s.setSeq n q).tap = s.tap := rfl
@[simp] theorem State.setSeq_counters (n : Nat) (q : Seq) : (s.setSeq n q).counters = s.counters := rfl
@[simp] theorem State.setSeq_routers (n : Nat) (q : Seq) : (s.setSeq n q).routers = s.routers := rfl
@[simp] theorem State.setSeq_coreOn (n : Nat) (q : Seq) : (s.setSeq n q).coreOn = s.coreOn := rfl
@[simp] theorem State.setSeq_channels (n : Nat) (q : Seq) : (s.setSeq n q).channels = s.channels := rfl
@[simp] theorem State.setSeq_brineScans (n : Nat) (q : Seq) : (s.setSeq n q).brineScans = s.brineScans := rfl
@[simp] theorem State.setSeq_brineKept (n : Nat) (q : Seq) : (s.setSeq n q).brineKept = s.brineKept := rfl
@[simp] theorem State.setSeq_pools (n : Nat) (q : Seq) : (s.setSeq n q).pools = s.pools := rfl
@[simp] theorem State.setSeq_queues (n : Nat) (q : Seq) : (s.setSeq n q).queues = s.queues := rfl
@[simp] theorem State.setSeq_arrays (n : Nat) (q : Seq) : (s.setSeq n q).arrays = s.arrays := rfl
@[simp] theorem State.setSeq_spoilt (n : Nat) (q : Seq) : (s.setSeq n q).spoilt = s.spoilt := rfl
@[simp] theorem State.setSeq_chains (n : Nat) (q : Seq) : (s.setSeq n q).chains = s.chains := rfl
@[simp] theorem State.setSeq_regions (n : Nat) (q : Seq) : (s.setSeq n q).regions = s.regions := rfl
@[simp] theorem State.setSeq_pumps (n : Nat) (q : Seq) : (s.setSeq n q).pumps = s.pumps := rfl
@[simp] theorem State.setSeq_pumpSeq (n : Nat) (q : Seq) : (s.setSeq n q).pumpSeq = s.pumpSeq := rfl
@[simp] theorem State.setSeq_outstanding (n : Nat) (q : Seq) : (s.setSeq n q).outstanding = s.outstanding := rfl
@[simp] theorem State.setSeq_nextReq (n : Nat) (q : Seq) : (s.setSeq n q).nextReq = s.nextReq := rfl
@[simp] theorem State.setSeq_sources (n : Nat) (q : Seq) : (s.setSeq n q).sources = s.sources := rfl
@[simp] theorem State.setSeq_injected (n : Nat) (q : Seq) : (s.setSeq n q).injected = s.injected := rfl
@[simp] theorem State.setSeq_lports (n : Nat) (q : Seq) : (s.setSeq n q).lports = s.lports := rfl
@[simp] theorem State.setSeq_sending (n : Nat) (q : Seq) : (s.setSeq n q).sending = s.sending := rfl
@[simp] theorem State.setSeq_bound (n : Nat) (q : Seq) : (s.setSeq n q).bound = s.bound := rfl
@[simp] theorem State.setSeq_routes (n : Nat) (q : Seq) : (s.setSeq n q).routes = s.routes := rfl
@[simp] theorem State.setSeq_sluices (n : Nat) (q : Seq) : (s.setSeq n q).sluices = s.sluices := rfl
@[simp] theorem State.setSeq_sluiceLocked (n : Nat) (q : Seq) : (s.setSeq n q).sluiceLocked = s.sluiceLocked := rfl
@[simp] theorem State.setSeq_ranks (n : Nat) (q : Seq) : (s.setSeq n q).ranks = s.ranks := rfl
@[simp] theorem State.setSeq_qps (n : Nat) (q : Seq) : (s.setSeq n q).qps = s.qps := rfl
@[simp] theorem State.setSeq_ethPorts (n : Nat) (q : Seq) : (s.setSeq n q).ethPorts = s.ethPorts := rfl
@[simp] theorem State.setSeq_colls (n : Nat) (q : Seq) : (s.setSeq n q).colls = s.colls := rfl
@[simp] theorem State.setSeq_chunkHeaders (n : Nat) (q : Seq) : (s.setSeq n q).chunkHeaders = s.chunkHeaders := rfl
@[simp] theorem State.setSeq_voidNextCode (n : Nat) (q : Seq) : (s.setSeq n q).voidNextCode = s.voidNextCode := rfl
@[simp] theorem State.setSeq_imem (n : Nat) (q : Seq) : (s.setSeq n q).imem = s.imem := rfl
@[simp] theorem State.setSeq_torn (n : Nat) (q : Seq) : (s.setSeq n q).torn = s.torn := rfl
@[simp] theorem State.setSeq_parts (n : Nat) (q : Seq) : (s.setSeq n q).parts = s.parts := rfl
@[simp] theorem State.setSeq_launches (n : Nat) (q : Seq) : (s.setSeq n q).launches = s.launches := rfl
@[simp] theorem State.setSeq_pends (n : Nat) (q : Seq) : (s.setSeq n q).pends = s.pends := rfl
@[simp] theorem State.setSeq_fills (n : Nat) (q : Seq) : (s.setSeq n q).fills = s.fills := rfl
@[simp] theorem State.setSeq_detBuffer (n : Nat) (q : Seq) : (s.setSeq n q).detBuffer = s.detBuffer := rfl
@[simp] theorem State.setSeq_detTail (n : Nat) (q : Seq) : (s.setSeq n q).detTail = s.detTail := rfl
@[simp] theorem State.setSeq_detTailBad (n : Nat) (q : Seq) : (s.setSeq n q).detTailBad = s.detTailBad := rfl
@[simp] theorem State.setSeq_power (n : Nat) (q : Seq) : (s.setSeq n q).power = s.power := rfl
@[simp] theorem State.setSeq_pins (n : Nat) (q : Seq) : (s.setSeq n q).pins = s.pins := rfl
@[simp] theorem State.setSeq_clock (n : Nat) (q : Seq) : (s.setSeq n q).clock = s.clock := rfl
@[simp] theorem State.setSeq_sensors (n : Nat) (q : Seq) : (s.setSeq n q).sensors = s.sensors := rfl
@[simp] theorem State.setSeq_flash (n : Nat) (q : Seq) : (s.setSeq n q).flash = s.flash := rfl
@[simp] theorem State.setSeq_mgmt (n : Nat) (q : Seq) : (s.setSeq n q).mgmt = s.mgmt := rfl
@[simp] theorem State.setSeq_ras (n : Nat) (q : Seq) : (s.setSeq n q).ras = s.ras := rfl
@[simp] theorem State.setSeq_out (n : Nat) (q : Seq) : (s.setSeq n q).out = s.out := rfl
@[simp] theorem State.setSeq_inputs (n : Nat) (q : Seq) : (s.setSeq n q).inputs = s.inputs := rfl
@[simp] theorem State.setSeq_pending (n : Nat) (q : Seq) : (s.setSeq n q).pending = s.pending := rfl

@[simp] theorem State.setImem_tb (n : Nat) (i : Nat) (w : Nat) : (s.setImem n i w).tb = s.tb := rfl
@[simp] theorem State.setImem_free (n : Nat) (i : Nat) (w : Nat) : (s.setImem n i w).free = s.free := rfl
@[simp] theorem State.setImem_regs (n : Nat) (i : Nat) (w : Nat) : (s.setImem n i w).regs = s.regs := rfl
@[simp] theorem State.setImem_staged (n : Nat) (i : Nat) (w : Nat) : (s.setImem n i w).staged = s.staged := rfl
@[simp] theorem State.setImem_rake (n : Nat) (i : Nat) (w : Nat) : (s.setImem n i w).rake = s.rake := rfl
@[simp] theorem State.setImem_rakeMask (n : Nat) (i : Nat) (w : Nat) : (s.setImem n i w).rakeMask = s.rakeMask := rfl
@[simp] theorem State.setImem_log (n : Nat) (i : Nat) (w : Nat) : (s.setImem n i w).log = s.log := rfl
@[simp] theorem State.setImem_mem (n : Nat) (i : Nat) (w : Nat) : (s.setImem n i w).mem = s.mem := rfl
@[simp] theorem State.setImem_bad (n : Nat) (i : Nat) (w : Nat) : (s.setImem n i w).bad = s.bad := rfl
@[simp] theorem State.setImem_scratch (n : Nat) (i : Nat) (w : Nat) : (s.setImem n i w).scratch = s.scratch := rfl
@[simp] theorem State.setImem_fuses (n : Nat) (i : Nat) (w : Nat) : (s.setImem n i w).fuses = s.fuses := rfl
@[simp] theorem State.setImem_tap (n : Nat) (i : Nat) (w : Nat) : (s.setImem n i w).tap = s.tap := rfl
@[simp] theorem State.setImem_counters (n : Nat) (i : Nat) (w : Nat) : (s.setImem n i w).counters = s.counters := rfl
@[simp] theorem State.setImem_routers (n : Nat) (i : Nat) (w : Nat) : (s.setImem n i w).routers = s.routers := rfl
@[simp] theorem State.setImem_coreOn (n : Nat) (i : Nat) (w : Nat) : (s.setImem n i w).coreOn = s.coreOn := rfl
@[simp] theorem State.setImem_channels (n : Nat) (i : Nat) (w : Nat) : (s.setImem n i w).channels = s.channels := rfl
@[simp] theorem State.setImem_brineScans (n : Nat) (i : Nat) (w : Nat) : (s.setImem n i w).brineScans = s.brineScans := rfl
@[simp] theorem State.setImem_brineKept (n : Nat) (i : Nat) (w : Nat) : (s.setImem n i w).brineKept = s.brineKept := rfl
@[simp] theorem State.setImem_pools (n : Nat) (i : Nat) (w : Nat) : (s.setImem n i w).pools = s.pools := rfl
@[simp] theorem State.setImem_queues (n : Nat) (i : Nat) (w : Nat) : (s.setImem n i w).queues = s.queues := rfl
@[simp] theorem State.setImem_arrays (n : Nat) (i : Nat) (w : Nat) : (s.setImem n i w).arrays = s.arrays := rfl
@[simp] theorem State.setImem_spoilt (n : Nat) (i : Nat) (w : Nat) : (s.setImem n i w).spoilt = s.spoilt := rfl
@[simp] theorem State.setImem_chains (n : Nat) (i : Nat) (w : Nat) : (s.setImem n i w).chains = s.chains := rfl
@[simp] theorem State.setImem_regions (n : Nat) (i : Nat) (w : Nat) : (s.setImem n i w).regions = s.regions := rfl
@[simp] theorem State.setImem_pumps (n : Nat) (i : Nat) (w : Nat) : (s.setImem n i w).pumps = s.pumps := rfl
@[simp] theorem State.setImem_pumpSeq (n : Nat) (i : Nat) (w : Nat) : (s.setImem n i w).pumpSeq = s.pumpSeq := rfl
@[simp] theorem State.setImem_outstanding (n : Nat) (i : Nat) (w : Nat) : (s.setImem n i w).outstanding = s.outstanding := rfl
@[simp] theorem State.setImem_nextReq (n : Nat) (i : Nat) (w : Nat) : (s.setImem n i w).nextReq = s.nextReq := rfl
@[simp] theorem State.setImem_sources (n : Nat) (i : Nat) (w : Nat) : (s.setImem n i w).sources = s.sources := rfl
@[simp] theorem State.setImem_injected (n : Nat) (i : Nat) (w : Nat) : (s.setImem n i w).injected = s.injected := rfl
@[simp] theorem State.setImem_lports (n : Nat) (i : Nat) (w : Nat) : (s.setImem n i w).lports = s.lports := rfl
@[simp] theorem State.setImem_sending (n : Nat) (i : Nat) (w : Nat) : (s.setImem n i w).sending = s.sending := rfl
@[simp] theorem State.setImem_bound (n : Nat) (i : Nat) (w : Nat) : (s.setImem n i w).bound = s.bound := rfl
@[simp] theorem State.setImem_routes (n : Nat) (i : Nat) (w : Nat) : (s.setImem n i w).routes = s.routes := rfl
@[simp] theorem State.setImem_sluices (n : Nat) (i : Nat) (w : Nat) : (s.setImem n i w).sluices = s.sluices := rfl
@[simp] theorem State.setImem_sluiceLocked (n : Nat) (i : Nat) (w : Nat) : (s.setImem n i w).sluiceLocked = s.sluiceLocked := rfl
@[simp] theorem State.setImem_ranks (n : Nat) (i : Nat) (w : Nat) : (s.setImem n i w).ranks = s.ranks := rfl
@[simp] theorem State.setImem_qps (n : Nat) (i : Nat) (w : Nat) : (s.setImem n i w).qps = s.qps := rfl
@[simp] theorem State.setImem_ethPorts (n : Nat) (i : Nat) (w : Nat) : (s.setImem n i w).ethPorts = s.ethPorts := rfl
@[simp] theorem State.setImem_colls (n : Nat) (i : Nat) (w : Nat) : (s.setImem n i w).colls = s.colls := rfl
@[simp] theorem State.setImem_chunkHeaders (n : Nat) (i : Nat) (w : Nat) : (s.setImem n i w).chunkHeaders = s.chunkHeaders := rfl
@[simp] theorem State.setImem_voidNextCode (n : Nat) (i : Nat) (w : Nat) : (s.setImem n i w).voidNextCode = s.voidNextCode := rfl
@[simp] theorem State.setImem_seqs (n : Nat) (i : Nat) (w : Nat) : (s.setImem n i w).seqs = s.seqs := rfl
@[simp] theorem State.setImem_torn (n : Nat) (i : Nat) (w : Nat) : (s.setImem n i w).torn = s.torn := rfl
@[simp] theorem State.setImem_parts (n : Nat) (i : Nat) (w : Nat) : (s.setImem n i w).parts = s.parts := rfl
@[simp] theorem State.setImem_launches (n : Nat) (i : Nat) (w : Nat) : (s.setImem n i w).launches = s.launches := rfl
@[simp] theorem State.setImem_pends (n : Nat) (i : Nat) (w : Nat) : (s.setImem n i w).pends = s.pends := rfl
@[simp] theorem State.setImem_fills (n : Nat) (i : Nat) (w : Nat) : (s.setImem n i w).fills = s.fills := rfl
@[simp] theorem State.setImem_detBuffer (n : Nat) (i : Nat) (w : Nat) : (s.setImem n i w).detBuffer = s.detBuffer := rfl
@[simp] theorem State.setImem_detTail (n : Nat) (i : Nat) (w : Nat) : (s.setImem n i w).detTail = s.detTail := rfl
@[simp] theorem State.setImem_detTailBad (n : Nat) (i : Nat) (w : Nat) : (s.setImem n i w).detTailBad = s.detTailBad := rfl
@[simp] theorem State.setImem_power (n : Nat) (i : Nat) (w : Nat) : (s.setImem n i w).power = s.power := rfl
@[simp] theorem State.setImem_pins (n : Nat) (i : Nat) (w : Nat) : (s.setImem n i w).pins = s.pins := rfl
@[simp] theorem State.setImem_clock (n : Nat) (i : Nat) (w : Nat) : (s.setImem n i w).clock = s.clock := rfl
@[simp] theorem State.setImem_sensors (n : Nat) (i : Nat) (w : Nat) : (s.setImem n i w).sensors = s.sensors := rfl
@[simp] theorem State.setImem_flash (n : Nat) (i : Nat) (w : Nat) : (s.setImem n i w).flash = s.flash := rfl
@[simp] theorem State.setImem_mgmt (n : Nat) (i : Nat) (w : Nat) : (s.setImem n i w).mgmt = s.mgmt := rfl
@[simp] theorem State.setImem_ras (n : Nat) (i : Nat) (w : Nat) : (s.setImem n i w).ras = s.ras := rfl
@[simp] theorem State.setImem_out (n : Nat) (i : Nat) (w : Nat) : (s.setImem n i w).out = s.out := rfl
@[simp] theorem State.setImem_inputs (n : Nat) (i : Nat) (w : Nat) : (s.setImem n i w).inputs = s.inputs := rfl
@[simp] theorem State.setImem_pending (n : Nat) (i : Nat) (w : Nat) : (s.setImem n i w).pending = s.pending := rfl

@[simp] theorem State.setChain_tb (n : Nat) (c : ChainEngine) : (s.setChain n c).tb = s.tb := (State.setFld_tb ..).trans ((State.setFld_tb ..).trans rfl)
@[simp] theorem State.setChain_free (n : Nat) (c : ChainEngine) : (s.setChain n c).free = s.free := (State.setFld_free ..).trans ((State.setFld_free ..).trans rfl)
@[simp] theorem State.setChain_staged (n : Nat) (c : ChainEngine) : (s.setChain n c).staged = s.staged := (State.setFld_staged ..).trans ((State.setFld_staged ..).trans rfl)
@[simp] theorem State.setChain_rake (n : Nat) (c : ChainEngine) : (s.setChain n c).rake = s.rake := (State.setFld_rake ..).trans ((State.setFld_rake ..).trans rfl)
@[simp] theorem State.setChain_rakeMask (n : Nat) (c : ChainEngine) : (s.setChain n c).rakeMask = s.rakeMask := (State.setFld_rakeMask ..).trans ((State.setFld_rakeMask ..).trans rfl)
@[simp] theorem State.setChain_log (n : Nat) (c : ChainEngine) : (s.setChain n c).log = s.log := (State.setFld_log ..).trans ((State.setFld_log ..).trans rfl)
@[simp] theorem State.setChain_mem (n : Nat) (c : ChainEngine) : (s.setChain n c).mem = s.mem := (State.setFld_mem ..).trans ((State.setFld_mem ..).trans rfl)
@[simp] theorem State.setChain_bad (n : Nat) (c : ChainEngine) : (s.setChain n c).bad = s.bad := (State.setFld_bad ..).trans ((State.setFld_bad ..).trans rfl)
@[simp] theorem State.setChain_scratch (n : Nat) (c : ChainEngine) : (s.setChain n c).scratch = s.scratch := (State.setFld_scratch ..).trans ((State.setFld_scratch ..).trans rfl)
@[simp] theorem State.setChain_fuses (n : Nat) (c : ChainEngine) : (s.setChain n c).fuses = s.fuses := (State.setFld_fuses ..).trans ((State.setFld_fuses ..).trans rfl)
@[simp] theorem State.setChain_tap (n : Nat) (c : ChainEngine) : (s.setChain n c).tap = s.tap := (State.setFld_tap ..).trans ((State.setFld_tap ..).trans rfl)
@[simp] theorem State.setChain_counters (n : Nat) (c : ChainEngine) : (s.setChain n c).counters = s.counters := (State.setFld_counters ..).trans ((State.setFld_counters ..).trans rfl)
@[simp] theorem State.setChain_routers (n : Nat) (c : ChainEngine) : (s.setChain n c).routers = s.routers := (State.setFld_routers ..).trans ((State.setFld_routers ..).trans rfl)
@[simp] theorem State.setChain_coreOn (n : Nat) (c : ChainEngine) : (s.setChain n c).coreOn = s.coreOn := (State.setFld_coreOn ..).trans ((State.setFld_coreOn ..).trans rfl)
@[simp] theorem State.setChain_channels (n : Nat) (c : ChainEngine) : (s.setChain n c).channels = s.channels := (State.setFld_channels ..).trans ((State.setFld_channels ..).trans rfl)
@[simp] theorem State.setChain_brineScans (n : Nat) (c : ChainEngine) : (s.setChain n c).brineScans = s.brineScans := (State.setFld_brineScans ..).trans ((State.setFld_brineScans ..).trans rfl)
@[simp] theorem State.setChain_brineKept (n : Nat) (c : ChainEngine) : (s.setChain n c).brineKept = s.brineKept := (State.setFld_brineKept ..).trans ((State.setFld_brineKept ..).trans rfl)
@[simp] theorem State.setChain_pools (n : Nat) (c : ChainEngine) : (s.setChain n c).pools = s.pools := (State.setFld_pools ..).trans ((State.setFld_pools ..).trans rfl)
@[simp] theorem State.setChain_queues (n : Nat) (c : ChainEngine) : (s.setChain n c).queues = s.queues := (State.setFld_queues ..).trans ((State.setFld_queues ..).trans rfl)
@[simp] theorem State.setChain_arrays (n : Nat) (c : ChainEngine) : (s.setChain n c).arrays = s.arrays := (State.setFld_arrays ..).trans ((State.setFld_arrays ..).trans rfl)
@[simp] theorem State.setChain_spoilt (n : Nat) (c : ChainEngine) : (s.setChain n c).spoilt = s.spoilt := (State.setFld_spoilt ..).trans ((State.setFld_spoilt ..).trans rfl)
@[simp] theorem State.setChain_regions (n : Nat) (c : ChainEngine) : (s.setChain n c).regions = s.regions := (State.setFld_regions ..).trans ((State.setFld_regions ..).trans rfl)
@[simp] theorem State.setChain_pumps (n : Nat) (c : ChainEngine) : (s.setChain n c).pumps = s.pumps := (State.setFld_pumps ..).trans ((State.setFld_pumps ..).trans rfl)
@[simp] theorem State.setChain_pumpSeq (n : Nat) (c : ChainEngine) : (s.setChain n c).pumpSeq = s.pumpSeq := (State.setFld_pumpSeq ..).trans ((State.setFld_pumpSeq ..).trans rfl)
@[simp] theorem State.setChain_outstanding (n : Nat) (c : ChainEngine) : (s.setChain n c).outstanding = s.outstanding := (State.setFld_outstanding ..).trans ((State.setFld_outstanding ..).trans rfl)
@[simp] theorem State.setChain_nextReq (n : Nat) (c : ChainEngine) : (s.setChain n c).nextReq = s.nextReq := (State.setFld_nextReq ..).trans ((State.setFld_nextReq ..).trans rfl)
@[simp] theorem State.setChain_sources (n : Nat) (c : ChainEngine) : (s.setChain n c).sources = s.sources := (State.setFld_sources ..).trans ((State.setFld_sources ..).trans rfl)
@[simp] theorem State.setChain_injected (n : Nat) (c : ChainEngine) : (s.setChain n c).injected = s.injected := (State.setFld_injected ..).trans ((State.setFld_injected ..).trans rfl)
@[simp] theorem State.setChain_lports (n : Nat) (c : ChainEngine) : (s.setChain n c).lports = s.lports := (State.setFld_lports ..).trans ((State.setFld_lports ..).trans rfl)
@[simp] theorem State.setChain_sending (n : Nat) (c : ChainEngine) : (s.setChain n c).sending = s.sending := (State.setFld_sending ..).trans ((State.setFld_sending ..).trans rfl)
@[simp] theorem State.setChain_bound (n : Nat) (c : ChainEngine) : (s.setChain n c).bound = s.bound := (State.setFld_bound ..).trans ((State.setFld_bound ..).trans rfl)
@[simp] theorem State.setChain_routes (n : Nat) (c : ChainEngine) : (s.setChain n c).routes = s.routes := (State.setFld_routes ..).trans ((State.setFld_routes ..).trans rfl)
@[simp] theorem State.setChain_sluices (n : Nat) (c : ChainEngine) : (s.setChain n c).sluices = s.sluices := (State.setFld_sluices ..).trans ((State.setFld_sluices ..).trans rfl)
@[simp] theorem State.setChain_sluiceLocked (n : Nat) (c : ChainEngine) : (s.setChain n c).sluiceLocked = s.sluiceLocked := (State.setFld_sluiceLocked ..).trans ((State.setFld_sluiceLocked ..).trans rfl)
@[simp] theorem State.setChain_ranks (n : Nat) (c : ChainEngine) : (s.setChain n c).ranks = s.ranks := (State.setFld_ranks ..).trans ((State.setFld_ranks ..).trans rfl)
@[simp] theorem State.setChain_qps (n : Nat) (c : ChainEngine) : (s.setChain n c).qps = s.qps := (State.setFld_qps ..).trans ((State.setFld_qps ..).trans rfl)
@[simp] theorem State.setChain_ethPorts (n : Nat) (c : ChainEngine) : (s.setChain n c).ethPorts = s.ethPorts := (State.setFld_ethPorts ..).trans ((State.setFld_ethPorts ..).trans rfl)
@[simp] theorem State.setChain_colls (n : Nat) (c : ChainEngine) : (s.setChain n c).colls = s.colls := (State.setFld_colls ..).trans ((State.setFld_colls ..).trans rfl)
@[simp] theorem State.setChain_chunkHeaders (n : Nat) (c : ChainEngine) : (s.setChain n c).chunkHeaders = s.chunkHeaders := (State.setFld_chunkHeaders ..).trans ((State.setFld_chunkHeaders ..).trans rfl)
@[simp] theorem State.setChain_voidNextCode (n : Nat) (c : ChainEngine) : (s.setChain n c).voidNextCode = s.voidNextCode := (State.setFld_voidNextCode ..).trans ((State.setFld_voidNextCode ..).trans rfl)
@[simp] theorem State.setChain_seqs (n : Nat) (c : ChainEngine) : (s.setChain n c).seqs = s.seqs := (State.setFld_seqs ..).trans ((State.setFld_seqs ..).trans rfl)
@[simp] theorem State.setChain_imem (n : Nat) (c : ChainEngine) : (s.setChain n c).imem = s.imem := (State.setFld_imem ..).trans ((State.setFld_imem ..).trans rfl)
@[simp] theorem State.setChain_torn (n : Nat) (c : ChainEngine) : (s.setChain n c).torn = s.torn := (State.setFld_torn ..).trans ((State.setFld_torn ..).trans rfl)
@[simp] theorem State.setChain_parts (n : Nat) (c : ChainEngine) : (s.setChain n c).parts = s.parts := (State.setFld_parts ..).trans ((State.setFld_parts ..).trans rfl)
@[simp] theorem State.setChain_launches (n : Nat) (c : ChainEngine) : (s.setChain n c).launches = s.launches := (State.setFld_launches ..).trans ((State.setFld_launches ..).trans rfl)
@[simp] theorem State.setChain_pends (n : Nat) (c : ChainEngine) : (s.setChain n c).pends = s.pends := (State.setFld_pends ..).trans ((State.setFld_pends ..).trans rfl)
@[simp] theorem State.setChain_fills (n : Nat) (c : ChainEngine) : (s.setChain n c).fills = s.fills := (State.setFld_fills ..).trans ((State.setFld_fills ..).trans rfl)
@[simp] theorem State.setChain_detBuffer (n : Nat) (c : ChainEngine) : (s.setChain n c).detBuffer = s.detBuffer := (State.setFld_detBuffer ..).trans ((State.setFld_detBuffer ..).trans rfl)
@[simp] theorem State.setChain_detTail (n : Nat) (c : ChainEngine) : (s.setChain n c).detTail = s.detTail := (State.setFld_detTail ..).trans ((State.setFld_detTail ..).trans rfl)
@[simp] theorem State.setChain_detTailBad (n : Nat) (c : ChainEngine) : (s.setChain n c).detTailBad = s.detTailBad := (State.setFld_detTailBad ..).trans ((State.setFld_detTailBad ..).trans rfl)
@[simp] theorem State.setChain_power (n : Nat) (c : ChainEngine) : (s.setChain n c).power = s.power := (State.setFld_power ..).trans ((State.setFld_power ..).trans rfl)
@[simp] theorem State.setChain_pins (n : Nat) (c : ChainEngine) : (s.setChain n c).pins = s.pins := (State.setFld_pins ..).trans ((State.setFld_pins ..).trans rfl)
@[simp] theorem State.setChain_clock (n : Nat) (c : ChainEngine) : (s.setChain n c).clock = s.clock := (State.setFld_clock ..).trans ((State.setFld_clock ..).trans rfl)
@[simp] theorem State.setChain_sensors (n : Nat) (c : ChainEngine) : (s.setChain n c).sensors = s.sensors := (State.setFld_sensors ..).trans ((State.setFld_sensors ..).trans rfl)
@[simp] theorem State.setChain_flash (n : Nat) (c : ChainEngine) : (s.setChain n c).flash = s.flash := (State.setFld_flash ..).trans ((State.setFld_flash ..).trans rfl)
@[simp] theorem State.setChain_mgmt (n : Nat) (c : ChainEngine) : (s.setChain n c).mgmt = s.mgmt := (State.setFld_mgmt ..).trans ((State.setFld_mgmt ..).trans rfl)
@[simp] theorem State.setChain_ras (n : Nat) (c : ChainEngine) : (s.setChain n c).ras = s.ras := (State.setFld_ras ..).trans ((State.setFld_ras ..).trans rfl)
@[simp] theorem State.setChain_out (n : Nat) (c : ChainEngine) : (s.setChain n c).out = s.out := (State.setFld_out ..).trans ((State.setFld_out ..).trans rfl)
@[simp] theorem State.setChain_inputs (n : Nat) (c : ChainEngine) : (s.setChain n c).inputs = s.inputs := (State.setFld_inputs ..).trans ((State.setFld_inputs ..).trans rfl)
@[simp] theorem State.setChain_pending (n : Nat) (c : ChainEngine) : (s.setChain n c).pending = s.pending := (State.setFld_pending ..).trans ((State.setFld_pending ..).trans rfl)

@[simp] theorem State.setMat_tb (m : Nat) (a : MatArray) : (s.setMat m a).tb = s.tb := (State.setFld_tb ..).trans ((State.setFld_tb ..).trans ((State.setFld_tb ..).trans ((State.setFld_tb ..).trans ((State.setFld_tb ..).trans (rfl)))))
@[simp] theorem State.setMat_free (m : Nat) (a : MatArray) : (s.setMat m a).free = s.free := (State.setFld_free ..).trans ((State.setFld_free ..).trans ((State.setFld_free ..).trans ((State.setFld_free ..).trans ((State.setFld_free ..).trans (rfl)))))
@[simp] theorem State.setMat_staged (m : Nat) (a : MatArray) : (s.setMat m a).staged = s.staged := (State.setFld_staged ..).trans ((State.setFld_staged ..).trans ((State.setFld_staged ..).trans ((State.setFld_staged ..).trans ((State.setFld_staged ..).trans (rfl)))))
@[simp] theorem State.setMat_rake (m : Nat) (a : MatArray) : (s.setMat m a).rake = s.rake := (State.setFld_rake ..).trans ((State.setFld_rake ..).trans ((State.setFld_rake ..).trans ((State.setFld_rake ..).trans ((State.setFld_rake ..).trans (rfl)))))
@[simp] theorem State.setMat_rakeMask (m : Nat) (a : MatArray) : (s.setMat m a).rakeMask = s.rakeMask := (State.setFld_rakeMask ..).trans ((State.setFld_rakeMask ..).trans ((State.setFld_rakeMask ..).trans ((State.setFld_rakeMask ..).trans ((State.setFld_rakeMask ..).trans (rfl)))))
@[simp] theorem State.setMat_log (m : Nat) (a : MatArray) : (s.setMat m a).log = s.log := (State.setFld_log ..).trans ((State.setFld_log ..).trans ((State.setFld_log ..).trans ((State.setFld_log ..).trans ((State.setFld_log ..).trans (rfl)))))
@[simp] theorem State.setMat_mem (m : Nat) (a : MatArray) : (s.setMat m a).mem = s.mem := (State.setFld_mem ..).trans ((State.setFld_mem ..).trans ((State.setFld_mem ..).trans ((State.setFld_mem ..).trans ((State.setFld_mem ..).trans (rfl)))))
@[simp] theorem State.setMat_bad (m : Nat) (a : MatArray) : (s.setMat m a).bad = s.bad := (State.setFld_bad ..).trans ((State.setFld_bad ..).trans ((State.setFld_bad ..).trans ((State.setFld_bad ..).trans ((State.setFld_bad ..).trans (rfl)))))
@[simp] theorem State.setMat_scratch (m : Nat) (a : MatArray) : (s.setMat m a).scratch = s.scratch := (State.setFld_scratch ..).trans ((State.setFld_scratch ..).trans ((State.setFld_scratch ..).trans ((State.setFld_scratch ..).trans ((State.setFld_scratch ..).trans (rfl)))))
@[simp] theorem State.setMat_fuses (m : Nat) (a : MatArray) : (s.setMat m a).fuses = s.fuses := (State.setFld_fuses ..).trans ((State.setFld_fuses ..).trans ((State.setFld_fuses ..).trans ((State.setFld_fuses ..).trans ((State.setFld_fuses ..).trans (rfl)))))
@[simp] theorem State.setMat_tap (m : Nat) (a : MatArray) : (s.setMat m a).tap = s.tap := (State.setFld_tap ..).trans ((State.setFld_tap ..).trans ((State.setFld_tap ..).trans ((State.setFld_tap ..).trans ((State.setFld_tap ..).trans (rfl)))))
@[simp] theorem State.setMat_counters (m : Nat) (a : MatArray) : (s.setMat m a).counters = s.counters := (State.setFld_counters ..).trans ((State.setFld_counters ..).trans ((State.setFld_counters ..).trans ((State.setFld_counters ..).trans ((State.setFld_counters ..).trans (rfl)))))
@[simp] theorem State.setMat_routers (m : Nat) (a : MatArray) : (s.setMat m a).routers = s.routers := (State.setFld_routers ..).trans ((State.setFld_routers ..).trans ((State.setFld_routers ..).trans ((State.setFld_routers ..).trans ((State.setFld_routers ..).trans (rfl)))))
@[simp] theorem State.setMat_coreOn (m : Nat) (a : MatArray) : (s.setMat m a).coreOn = s.coreOn := (State.setFld_coreOn ..).trans ((State.setFld_coreOn ..).trans ((State.setFld_coreOn ..).trans ((State.setFld_coreOn ..).trans ((State.setFld_coreOn ..).trans (rfl)))))
@[simp] theorem State.setMat_channels (m : Nat) (a : MatArray) : (s.setMat m a).channels = s.channels := (State.setFld_channels ..).trans ((State.setFld_channels ..).trans ((State.setFld_channels ..).trans ((State.setFld_channels ..).trans ((State.setFld_channels ..).trans (rfl)))))
@[simp] theorem State.setMat_brineScans (m : Nat) (a : MatArray) : (s.setMat m a).brineScans = s.brineScans := (State.setFld_brineScans ..).trans ((State.setFld_brineScans ..).trans ((State.setFld_brineScans ..).trans ((State.setFld_brineScans ..).trans ((State.setFld_brineScans ..).trans (rfl)))))
@[simp] theorem State.setMat_brineKept (m : Nat) (a : MatArray) : (s.setMat m a).brineKept = s.brineKept := (State.setFld_brineKept ..).trans ((State.setFld_brineKept ..).trans ((State.setFld_brineKept ..).trans ((State.setFld_brineKept ..).trans ((State.setFld_brineKept ..).trans (rfl)))))
@[simp] theorem State.setMat_pools (m : Nat) (a : MatArray) : (s.setMat m a).pools = s.pools := (State.setFld_pools ..).trans ((State.setFld_pools ..).trans ((State.setFld_pools ..).trans ((State.setFld_pools ..).trans ((State.setFld_pools ..).trans (rfl)))))
@[simp] theorem State.setMat_queues (m : Nat) (a : MatArray) : (s.setMat m a).queues = s.queues := (State.setFld_queues ..).trans ((State.setFld_queues ..).trans ((State.setFld_queues ..).trans ((State.setFld_queues ..).trans ((State.setFld_queues ..).trans (rfl)))))
@[simp] theorem State.setMat_spoilt (m : Nat) (a : MatArray) : (s.setMat m a).spoilt = s.spoilt := (State.setFld_spoilt ..).trans ((State.setFld_spoilt ..).trans ((State.setFld_spoilt ..).trans ((State.setFld_spoilt ..).trans ((State.setFld_spoilt ..).trans (rfl)))))
@[simp] theorem State.setMat_chains (m : Nat) (a : MatArray) : (s.setMat m a).chains = s.chains := (State.setFld_chains ..).trans ((State.setFld_chains ..).trans ((State.setFld_chains ..).trans ((State.setFld_chains ..).trans ((State.setFld_chains ..).trans (rfl)))))
@[simp] theorem State.setMat_regions (m : Nat) (a : MatArray) : (s.setMat m a).regions = s.regions := (State.setFld_regions ..).trans ((State.setFld_regions ..).trans ((State.setFld_regions ..).trans ((State.setFld_regions ..).trans ((State.setFld_regions ..).trans (rfl)))))
@[simp] theorem State.setMat_pumps (m : Nat) (a : MatArray) : (s.setMat m a).pumps = s.pumps := (State.setFld_pumps ..).trans ((State.setFld_pumps ..).trans ((State.setFld_pumps ..).trans ((State.setFld_pumps ..).trans ((State.setFld_pumps ..).trans (rfl)))))
@[simp] theorem State.setMat_pumpSeq (m : Nat) (a : MatArray) : (s.setMat m a).pumpSeq = s.pumpSeq := (State.setFld_pumpSeq ..).trans ((State.setFld_pumpSeq ..).trans ((State.setFld_pumpSeq ..).trans ((State.setFld_pumpSeq ..).trans ((State.setFld_pumpSeq ..).trans (rfl)))))
@[simp] theorem State.setMat_outstanding (m : Nat) (a : MatArray) : (s.setMat m a).outstanding = s.outstanding := (State.setFld_outstanding ..).trans ((State.setFld_outstanding ..).trans ((State.setFld_outstanding ..).trans ((State.setFld_outstanding ..).trans ((State.setFld_outstanding ..).trans (rfl)))))
@[simp] theorem State.setMat_nextReq (m : Nat) (a : MatArray) : (s.setMat m a).nextReq = s.nextReq := (State.setFld_nextReq ..).trans ((State.setFld_nextReq ..).trans ((State.setFld_nextReq ..).trans ((State.setFld_nextReq ..).trans ((State.setFld_nextReq ..).trans (rfl)))))
@[simp] theorem State.setMat_sources (m : Nat) (a : MatArray) : (s.setMat m a).sources = s.sources := (State.setFld_sources ..).trans ((State.setFld_sources ..).trans ((State.setFld_sources ..).trans ((State.setFld_sources ..).trans ((State.setFld_sources ..).trans (rfl)))))
@[simp] theorem State.setMat_injected (m : Nat) (a : MatArray) : (s.setMat m a).injected = s.injected := (State.setFld_injected ..).trans ((State.setFld_injected ..).trans ((State.setFld_injected ..).trans ((State.setFld_injected ..).trans ((State.setFld_injected ..).trans (rfl)))))
@[simp] theorem State.setMat_lports (m : Nat) (a : MatArray) : (s.setMat m a).lports = s.lports := (State.setFld_lports ..).trans ((State.setFld_lports ..).trans ((State.setFld_lports ..).trans ((State.setFld_lports ..).trans ((State.setFld_lports ..).trans (rfl)))))
@[simp] theorem State.setMat_sending (m : Nat) (a : MatArray) : (s.setMat m a).sending = s.sending := (State.setFld_sending ..).trans ((State.setFld_sending ..).trans ((State.setFld_sending ..).trans ((State.setFld_sending ..).trans ((State.setFld_sending ..).trans (rfl)))))
@[simp] theorem State.setMat_bound (m : Nat) (a : MatArray) : (s.setMat m a).bound = s.bound := (State.setFld_bound ..).trans ((State.setFld_bound ..).trans ((State.setFld_bound ..).trans ((State.setFld_bound ..).trans ((State.setFld_bound ..).trans (rfl)))))
@[simp] theorem State.setMat_routes (m : Nat) (a : MatArray) : (s.setMat m a).routes = s.routes := (State.setFld_routes ..).trans ((State.setFld_routes ..).trans ((State.setFld_routes ..).trans ((State.setFld_routes ..).trans ((State.setFld_routes ..).trans (rfl)))))
@[simp] theorem State.setMat_sluices (m : Nat) (a : MatArray) : (s.setMat m a).sluices = s.sluices := (State.setFld_sluices ..).trans ((State.setFld_sluices ..).trans ((State.setFld_sluices ..).trans ((State.setFld_sluices ..).trans ((State.setFld_sluices ..).trans (rfl)))))
@[simp] theorem State.setMat_sluiceLocked (m : Nat) (a : MatArray) : (s.setMat m a).sluiceLocked = s.sluiceLocked := (State.setFld_sluiceLocked ..).trans ((State.setFld_sluiceLocked ..).trans ((State.setFld_sluiceLocked ..).trans ((State.setFld_sluiceLocked ..).trans ((State.setFld_sluiceLocked ..).trans (rfl)))))
@[simp] theorem State.setMat_ranks (m : Nat) (a : MatArray) : (s.setMat m a).ranks = s.ranks := (State.setFld_ranks ..).trans ((State.setFld_ranks ..).trans ((State.setFld_ranks ..).trans ((State.setFld_ranks ..).trans ((State.setFld_ranks ..).trans (rfl)))))
@[simp] theorem State.setMat_qps (m : Nat) (a : MatArray) : (s.setMat m a).qps = s.qps := (State.setFld_qps ..).trans ((State.setFld_qps ..).trans ((State.setFld_qps ..).trans ((State.setFld_qps ..).trans ((State.setFld_qps ..).trans (rfl)))))
@[simp] theorem State.setMat_ethPorts (m : Nat) (a : MatArray) : (s.setMat m a).ethPorts = s.ethPorts := (State.setFld_ethPorts ..).trans ((State.setFld_ethPorts ..).trans ((State.setFld_ethPorts ..).trans ((State.setFld_ethPorts ..).trans ((State.setFld_ethPorts ..).trans (rfl)))))
@[simp] theorem State.setMat_colls (m : Nat) (a : MatArray) : (s.setMat m a).colls = s.colls := (State.setFld_colls ..).trans ((State.setFld_colls ..).trans ((State.setFld_colls ..).trans ((State.setFld_colls ..).trans ((State.setFld_colls ..).trans (rfl)))))
@[simp] theorem State.setMat_chunkHeaders (m : Nat) (a : MatArray) : (s.setMat m a).chunkHeaders = s.chunkHeaders := (State.setFld_chunkHeaders ..).trans ((State.setFld_chunkHeaders ..).trans ((State.setFld_chunkHeaders ..).trans ((State.setFld_chunkHeaders ..).trans ((State.setFld_chunkHeaders ..).trans (rfl)))))
@[simp] theorem State.setMat_voidNextCode (m : Nat) (a : MatArray) : (s.setMat m a).voidNextCode = s.voidNextCode := (State.setFld_voidNextCode ..).trans ((State.setFld_voidNextCode ..).trans ((State.setFld_voidNextCode ..).trans ((State.setFld_voidNextCode ..).trans ((State.setFld_voidNextCode ..).trans (rfl)))))
@[simp] theorem State.setMat_seqs (m : Nat) (a : MatArray) : (s.setMat m a).seqs = s.seqs := (State.setFld_seqs ..).trans ((State.setFld_seqs ..).trans ((State.setFld_seqs ..).trans ((State.setFld_seqs ..).trans ((State.setFld_seqs ..).trans (rfl)))))
@[simp] theorem State.setMat_imem (m : Nat) (a : MatArray) : (s.setMat m a).imem = s.imem := (State.setFld_imem ..).trans ((State.setFld_imem ..).trans ((State.setFld_imem ..).trans ((State.setFld_imem ..).trans ((State.setFld_imem ..).trans (rfl)))))
@[simp] theorem State.setMat_torn (m : Nat) (a : MatArray) : (s.setMat m a).torn = s.torn := (State.setFld_torn ..).trans ((State.setFld_torn ..).trans ((State.setFld_torn ..).trans ((State.setFld_torn ..).trans ((State.setFld_torn ..).trans (rfl)))))
@[simp] theorem State.setMat_parts (m : Nat) (a : MatArray) : (s.setMat m a).parts = s.parts := (State.setFld_parts ..).trans ((State.setFld_parts ..).trans ((State.setFld_parts ..).trans ((State.setFld_parts ..).trans ((State.setFld_parts ..).trans (rfl)))))
@[simp] theorem State.setMat_launches (m : Nat) (a : MatArray) : (s.setMat m a).launches = s.launches := (State.setFld_launches ..).trans ((State.setFld_launches ..).trans ((State.setFld_launches ..).trans ((State.setFld_launches ..).trans ((State.setFld_launches ..).trans (rfl)))))
@[simp] theorem State.setMat_pends (m : Nat) (a : MatArray) : (s.setMat m a).pends = s.pends := (State.setFld_pends ..).trans ((State.setFld_pends ..).trans ((State.setFld_pends ..).trans ((State.setFld_pends ..).trans ((State.setFld_pends ..).trans (rfl)))))
@[simp] theorem State.setMat_fills (m : Nat) (a : MatArray) : (s.setMat m a).fills = s.fills := (State.setFld_fills ..).trans ((State.setFld_fills ..).trans ((State.setFld_fills ..).trans ((State.setFld_fills ..).trans ((State.setFld_fills ..).trans (rfl)))))
@[simp] theorem State.setMat_detBuffer (m : Nat) (a : MatArray) : (s.setMat m a).detBuffer = s.detBuffer := (State.setFld_detBuffer ..).trans ((State.setFld_detBuffer ..).trans ((State.setFld_detBuffer ..).trans ((State.setFld_detBuffer ..).trans ((State.setFld_detBuffer ..).trans (rfl)))))
@[simp] theorem State.setMat_detTail (m : Nat) (a : MatArray) : (s.setMat m a).detTail = s.detTail := (State.setFld_detTail ..).trans ((State.setFld_detTail ..).trans ((State.setFld_detTail ..).trans ((State.setFld_detTail ..).trans ((State.setFld_detTail ..).trans (rfl)))))
@[simp] theorem State.setMat_detTailBad (m : Nat) (a : MatArray) : (s.setMat m a).detTailBad = s.detTailBad := (State.setFld_detTailBad ..).trans ((State.setFld_detTailBad ..).trans ((State.setFld_detTailBad ..).trans ((State.setFld_detTailBad ..).trans ((State.setFld_detTailBad ..).trans (rfl)))))
@[simp] theorem State.setMat_power (m : Nat) (a : MatArray) : (s.setMat m a).power = s.power := (State.setFld_power ..).trans ((State.setFld_power ..).trans ((State.setFld_power ..).trans ((State.setFld_power ..).trans ((State.setFld_power ..).trans (rfl)))))
@[simp] theorem State.setMat_pins (m : Nat) (a : MatArray) : (s.setMat m a).pins = s.pins := (State.setFld_pins ..).trans ((State.setFld_pins ..).trans ((State.setFld_pins ..).trans ((State.setFld_pins ..).trans ((State.setFld_pins ..).trans (rfl)))))
@[simp] theorem State.setMat_clock (m : Nat) (a : MatArray) : (s.setMat m a).clock = s.clock := (State.setFld_clock ..).trans ((State.setFld_clock ..).trans ((State.setFld_clock ..).trans ((State.setFld_clock ..).trans ((State.setFld_clock ..).trans (rfl)))))
@[simp] theorem State.setMat_sensors (m : Nat) (a : MatArray) : (s.setMat m a).sensors = s.sensors := (State.setFld_sensors ..).trans ((State.setFld_sensors ..).trans ((State.setFld_sensors ..).trans ((State.setFld_sensors ..).trans ((State.setFld_sensors ..).trans (rfl)))))
@[simp] theorem State.setMat_flash (m : Nat) (a : MatArray) : (s.setMat m a).flash = s.flash := (State.setFld_flash ..).trans ((State.setFld_flash ..).trans ((State.setFld_flash ..).trans ((State.setFld_flash ..).trans ((State.setFld_flash ..).trans (rfl)))))
@[simp] theorem State.setMat_mgmt (m : Nat) (a : MatArray) : (s.setMat m a).mgmt = s.mgmt := (State.setFld_mgmt ..).trans ((State.setFld_mgmt ..).trans ((State.setFld_mgmt ..).trans ((State.setFld_mgmt ..).trans ((State.setFld_mgmt ..).trans (rfl)))))
@[simp] theorem State.setMat_ras (m : Nat) (a : MatArray) : (s.setMat m a).ras = s.ras := (State.setFld_ras ..).trans ((State.setFld_ras ..).trans ((State.setFld_ras ..).trans ((State.setFld_ras ..).trans ((State.setFld_ras ..).trans (rfl)))))
@[simp] theorem State.setMat_out (m : Nat) (a : MatArray) : (s.setMat m a).out = s.out := (State.setFld_out ..).trans ((State.setFld_out ..).trans ((State.setFld_out ..).trans ((State.setFld_out ..).trans ((State.setFld_out ..).trans (rfl)))))
@[simp] theorem State.setMat_inputs (m : Nat) (a : MatArray) : (s.setMat m a).inputs = s.inputs := (State.setFld_inputs ..).trans ((State.setFld_inputs ..).trans ((State.setFld_inputs ..).trans ((State.setFld_inputs ..).trans ((State.setFld_inputs ..).trans (rfl)))))
@[simp] theorem State.setMat_pending (m : Nat) (a : MatArray) : (s.setMat m a).pending = s.pending := (State.setFld_pending ..).trans ((State.setFld_pending ..).trans ((State.setFld_pending ..).trans ((State.setFld_pending ..).trans ((State.setFld_pending ..).trans (rfl)))))

@[simp] theorem State.setColls_tb (l : List Coll) : (s.setColls l).tb = s.tb := (State.setFld_tb ..).trans rfl
@[simp] theorem State.setColls_free (l : List Coll) : (s.setColls l).free = s.free := (State.setFld_free ..).trans rfl
@[simp] theorem State.setColls_staged (l : List Coll) : (s.setColls l).staged = s.staged := (State.setFld_staged ..).trans rfl
@[simp] theorem State.setColls_rake (l : List Coll) : (s.setColls l).rake = s.rake := (State.setFld_rake ..).trans rfl
@[simp] theorem State.setColls_rakeMask (l : List Coll) : (s.setColls l).rakeMask = s.rakeMask := (State.setFld_rakeMask ..).trans rfl
@[simp] theorem State.setColls_log (l : List Coll) : (s.setColls l).log = s.log := (State.setFld_log ..).trans rfl
@[simp] theorem State.setColls_mem (l : List Coll) : (s.setColls l).mem = s.mem := (State.setFld_mem ..).trans rfl
@[simp] theorem State.setColls_bad (l : List Coll) : (s.setColls l).bad = s.bad := (State.setFld_bad ..).trans rfl
@[simp] theorem State.setColls_scratch (l : List Coll) : (s.setColls l).scratch = s.scratch := (State.setFld_scratch ..).trans rfl
@[simp] theorem State.setColls_fuses (l : List Coll) : (s.setColls l).fuses = s.fuses := (State.setFld_fuses ..).trans rfl
@[simp] theorem State.setColls_tap (l : List Coll) : (s.setColls l).tap = s.tap := (State.setFld_tap ..).trans rfl
@[simp] theorem State.setColls_counters (l : List Coll) : (s.setColls l).counters = s.counters := (State.setFld_counters ..).trans rfl
@[simp] theorem State.setColls_routers (l : List Coll) : (s.setColls l).routers = s.routers := (State.setFld_routers ..).trans rfl
@[simp] theorem State.setColls_coreOn (l : List Coll) : (s.setColls l).coreOn = s.coreOn := (State.setFld_coreOn ..).trans rfl
@[simp] theorem State.setColls_channels (l : List Coll) : (s.setColls l).channels = s.channels := (State.setFld_channels ..).trans rfl
@[simp] theorem State.setColls_brineScans (l : List Coll) : (s.setColls l).brineScans = s.brineScans := (State.setFld_brineScans ..).trans rfl
@[simp] theorem State.setColls_brineKept (l : List Coll) : (s.setColls l).brineKept = s.brineKept := (State.setFld_brineKept ..).trans rfl
@[simp] theorem State.setColls_pools (l : List Coll) : (s.setColls l).pools = s.pools := (State.setFld_pools ..).trans rfl
@[simp] theorem State.setColls_queues (l : List Coll) : (s.setColls l).queues = s.queues := (State.setFld_queues ..).trans rfl
@[simp] theorem State.setColls_arrays (l : List Coll) : (s.setColls l).arrays = s.arrays := (State.setFld_arrays ..).trans rfl
@[simp] theorem State.setColls_spoilt (l : List Coll) : (s.setColls l).spoilt = s.spoilt := (State.setFld_spoilt ..).trans rfl
@[simp] theorem State.setColls_chains (l : List Coll) : (s.setColls l).chains = s.chains := (State.setFld_chains ..).trans rfl
@[simp] theorem State.setColls_regions (l : List Coll) : (s.setColls l).regions = s.regions := (State.setFld_regions ..).trans rfl
@[simp] theorem State.setColls_pumps (l : List Coll) : (s.setColls l).pumps = s.pumps := (State.setFld_pumps ..).trans rfl
@[simp] theorem State.setColls_pumpSeq (l : List Coll) : (s.setColls l).pumpSeq = s.pumpSeq := (State.setFld_pumpSeq ..).trans rfl
@[simp] theorem State.setColls_outstanding (l : List Coll) : (s.setColls l).outstanding = s.outstanding := (State.setFld_outstanding ..).trans rfl
@[simp] theorem State.setColls_nextReq (l : List Coll) : (s.setColls l).nextReq = s.nextReq := (State.setFld_nextReq ..).trans rfl
@[simp] theorem State.setColls_sources (l : List Coll) : (s.setColls l).sources = s.sources := (State.setFld_sources ..).trans rfl
@[simp] theorem State.setColls_injected (l : List Coll) : (s.setColls l).injected = s.injected := (State.setFld_injected ..).trans rfl
@[simp] theorem State.setColls_lports (l : List Coll) : (s.setColls l).lports = s.lports := (State.setFld_lports ..).trans rfl
@[simp] theorem State.setColls_sending (l : List Coll) : (s.setColls l).sending = s.sending := (State.setFld_sending ..).trans rfl
@[simp] theorem State.setColls_bound (l : List Coll) : (s.setColls l).bound = s.bound := (State.setFld_bound ..).trans rfl
@[simp] theorem State.setColls_routes (l : List Coll) : (s.setColls l).routes = s.routes := (State.setFld_routes ..).trans rfl
@[simp] theorem State.setColls_sluices (l : List Coll) : (s.setColls l).sluices = s.sluices := (State.setFld_sluices ..).trans rfl
@[simp] theorem State.setColls_sluiceLocked (l : List Coll) : (s.setColls l).sluiceLocked = s.sluiceLocked := (State.setFld_sluiceLocked ..).trans rfl
@[simp] theorem State.setColls_ranks (l : List Coll) : (s.setColls l).ranks = s.ranks := (State.setFld_ranks ..).trans rfl
@[simp] theorem State.setColls_qps (l : List Coll) : (s.setColls l).qps = s.qps := (State.setFld_qps ..).trans rfl
@[simp] theorem State.setColls_ethPorts (l : List Coll) : (s.setColls l).ethPorts = s.ethPorts := (State.setFld_ethPorts ..).trans rfl
@[simp] theorem State.setColls_chunkHeaders (l : List Coll) : (s.setColls l).chunkHeaders = s.chunkHeaders := (State.setFld_chunkHeaders ..).trans rfl
@[simp] theorem State.setColls_voidNextCode (l : List Coll) : (s.setColls l).voidNextCode = s.voidNextCode := (State.setFld_voidNextCode ..).trans rfl
@[simp] theorem State.setColls_seqs (l : List Coll) : (s.setColls l).seqs = s.seqs := (State.setFld_seqs ..).trans rfl
@[simp] theorem State.setColls_imem (l : List Coll) : (s.setColls l).imem = s.imem := (State.setFld_imem ..).trans rfl
@[simp] theorem State.setColls_torn (l : List Coll) : (s.setColls l).torn = s.torn := (State.setFld_torn ..).trans rfl
@[simp] theorem State.setColls_parts (l : List Coll) : (s.setColls l).parts = s.parts := (State.setFld_parts ..).trans rfl
@[simp] theorem State.setColls_launches (l : List Coll) : (s.setColls l).launches = s.launches := (State.setFld_launches ..).trans rfl
@[simp] theorem State.setColls_pends (l : List Coll) : (s.setColls l).pends = s.pends := (State.setFld_pends ..).trans rfl
@[simp] theorem State.setColls_fills (l : List Coll) : (s.setColls l).fills = s.fills := (State.setFld_fills ..).trans rfl
@[simp] theorem State.setColls_detBuffer (l : List Coll) : (s.setColls l).detBuffer = s.detBuffer := (State.setFld_detBuffer ..).trans rfl
@[simp] theorem State.setColls_detTail (l : List Coll) : (s.setColls l).detTail = s.detTail := (State.setFld_detTail ..).trans rfl
@[simp] theorem State.setColls_detTailBad (l : List Coll) : (s.setColls l).detTailBad = s.detTailBad := (State.setFld_detTailBad ..).trans rfl
@[simp] theorem State.setColls_power (l : List Coll) : (s.setColls l).power = s.power := (State.setFld_power ..).trans rfl
@[simp] theorem State.setColls_pins (l : List Coll) : (s.setColls l).pins = s.pins := (State.setFld_pins ..).trans rfl
@[simp] theorem State.setColls_clock (l : List Coll) : (s.setColls l).clock = s.clock := (State.setFld_clock ..).trans rfl
@[simp] theorem State.setColls_sensors (l : List Coll) : (s.setColls l).sensors = s.sensors := (State.setFld_sensors ..).trans rfl
@[simp] theorem State.setColls_flash (l : List Coll) : (s.setColls l).flash = s.flash := (State.setFld_flash ..).trans rfl
@[simp] theorem State.setColls_mgmt (l : List Coll) : (s.setColls l).mgmt = s.mgmt := (State.setFld_mgmt ..).trans rfl
@[simp] theorem State.setColls_ras (l : List Coll) : (s.setColls l).ras = s.ras := (State.setFld_ras ..).trans rfl
@[simp] theorem State.setColls_out (l : List Coll) : (s.setColls l).out = s.out := (State.setFld_out ..).trans rfl
@[simp] theorem State.setColls_inputs (l : List Coll) : (s.setColls l).inputs = s.inputs := (State.setFld_inputs ..).trans rfl
@[simp] theorem State.setColls_pending (l : List Coll) : (s.setColls l).pending = s.pending := (State.setFld_pending ..).trans rfl

@[simp] theorem State.updColl_tb (q : Nat) (f : Coll → Coll) : (s.updColl q f).tb = s.tb := State.setColls_tb ..
@[simp] theorem State.updColl_free (q : Nat) (f : Coll → Coll) : (s.updColl q f).free = s.free := State.setColls_free ..
@[simp] theorem State.updColl_staged (q : Nat) (f : Coll → Coll) : (s.updColl q f).staged = s.staged := State.setColls_staged ..
@[simp] theorem State.updColl_rake (q : Nat) (f : Coll → Coll) : (s.updColl q f).rake = s.rake := State.setColls_rake ..
@[simp] theorem State.updColl_rakeMask (q : Nat) (f : Coll → Coll) : (s.updColl q f).rakeMask = s.rakeMask := State.setColls_rakeMask ..
@[simp] theorem State.updColl_log (q : Nat) (f : Coll → Coll) : (s.updColl q f).log = s.log := State.setColls_log ..
@[simp] theorem State.updColl_mem (q : Nat) (f : Coll → Coll) : (s.updColl q f).mem = s.mem := State.setColls_mem ..
@[simp] theorem State.updColl_bad (q : Nat) (f : Coll → Coll) : (s.updColl q f).bad = s.bad := State.setColls_bad ..
@[simp] theorem State.updColl_scratch (q : Nat) (f : Coll → Coll) : (s.updColl q f).scratch = s.scratch := State.setColls_scratch ..
@[simp] theorem State.updColl_fuses (q : Nat) (f : Coll → Coll) : (s.updColl q f).fuses = s.fuses := State.setColls_fuses ..
@[simp] theorem State.updColl_tap (q : Nat) (f : Coll → Coll) : (s.updColl q f).tap = s.tap := State.setColls_tap ..
@[simp] theorem State.updColl_counters (q : Nat) (f : Coll → Coll) : (s.updColl q f).counters = s.counters := State.setColls_counters ..
@[simp] theorem State.updColl_routers (q : Nat) (f : Coll → Coll) : (s.updColl q f).routers = s.routers := State.setColls_routers ..
@[simp] theorem State.updColl_coreOn (q : Nat) (f : Coll → Coll) : (s.updColl q f).coreOn = s.coreOn := State.setColls_coreOn ..
@[simp] theorem State.updColl_channels (q : Nat) (f : Coll → Coll) : (s.updColl q f).channels = s.channels := State.setColls_channels ..
@[simp] theorem State.updColl_brineScans (q : Nat) (f : Coll → Coll) : (s.updColl q f).brineScans = s.brineScans := State.setColls_brineScans ..
@[simp] theorem State.updColl_brineKept (q : Nat) (f : Coll → Coll) : (s.updColl q f).brineKept = s.brineKept := State.setColls_brineKept ..
@[simp] theorem State.updColl_pools (q : Nat) (f : Coll → Coll) : (s.updColl q f).pools = s.pools := State.setColls_pools ..
@[simp] theorem State.updColl_queues (q : Nat) (f : Coll → Coll) : (s.updColl q f).queues = s.queues := State.setColls_queues ..
@[simp] theorem State.updColl_arrays (q : Nat) (f : Coll → Coll) : (s.updColl q f).arrays = s.arrays := State.setColls_arrays ..
@[simp] theorem State.updColl_spoilt (q : Nat) (f : Coll → Coll) : (s.updColl q f).spoilt = s.spoilt := State.setColls_spoilt ..
@[simp] theorem State.updColl_chains (q : Nat) (f : Coll → Coll) : (s.updColl q f).chains = s.chains := State.setColls_chains ..
@[simp] theorem State.updColl_regions (q : Nat) (f : Coll → Coll) : (s.updColl q f).regions = s.regions := State.setColls_regions ..
@[simp] theorem State.updColl_pumps (q : Nat) (f : Coll → Coll) : (s.updColl q f).pumps = s.pumps := State.setColls_pumps ..
@[simp] theorem State.updColl_pumpSeq (q : Nat) (f : Coll → Coll) : (s.updColl q f).pumpSeq = s.pumpSeq := State.setColls_pumpSeq ..
@[simp] theorem State.updColl_outstanding (q : Nat) (f : Coll → Coll) : (s.updColl q f).outstanding = s.outstanding := State.setColls_outstanding ..
@[simp] theorem State.updColl_nextReq (q : Nat) (f : Coll → Coll) : (s.updColl q f).nextReq = s.nextReq := State.setColls_nextReq ..
@[simp] theorem State.updColl_sources (q : Nat) (f : Coll → Coll) : (s.updColl q f).sources = s.sources := State.setColls_sources ..
@[simp] theorem State.updColl_injected (q : Nat) (f : Coll → Coll) : (s.updColl q f).injected = s.injected := State.setColls_injected ..
@[simp] theorem State.updColl_lports (q : Nat) (f : Coll → Coll) : (s.updColl q f).lports = s.lports := State.setColls_lports ..
@[simp] theorem State.updColl_sending (q : Nat) (f : Coll → Coll) : (s.updColl q f).sending = s.sending := State.setColls_sending ..
@[simp] theorem State.updColl_bound (q : Nat) (f : Coll → Coll) : (s.updColl q f).bound = s.bound := State.setColls_bound ..
@[simp] theorem State.updColl_routes (q : Nat) (f : Coll → Coll) : (s.updColl q f).routes = s.routes := State.setColls_routes ..
@[simp] theorem State.updColl_sluices (q : Nat) (f : Coll → Coll) : (s.updColl q f).sluices = s.sluices := State.setColls_sluices ..
@[simp] theorem State.updColl_sluiceLocked (q : Nat) (f : Coll → Coll) : (s.updColl q f).sluiceLocked = s.sluiceLocked := State.setColls_sluiceLocked ..
@[simp] theorem State.updColl_ranks (q : Nat) (f : Coll → Coll) : (s.updColl q f).ranks = s.ranks := State.setColls_ranks ..
@[simp] theorem State.updColl_qps (q : Nat) (f : Coll → Coll) : (s.updColl q f).qps = s.qps := State.setColls_qps ..
@[simp] theorem State.updColl_ethPorts (q : Nat) (f : Coll → Coll) : (s.updColl q f).ethPorts = s.ethPorts := State.setColls_ethPorts ..
@[simp] theorem State.updColl_chunkHeaders (q : Nat) (f : Coll → Coll) : (s.updColl q f).chunkHeaders = s.chunkHeaders := State.setColls_chunkHeaders ..
@[simp] theorem State.updColl_voidNextCode (q : Nat) (f : Coll → Coll) : (s.updColl q f).voidNextCode = s.voidNextCode := State.setColls_voidNextCode ..
@[simp] theorem State.updColl_seqs (q : Nat) (f : Coll → Coll) : (s.updColl q f).seqs = s.seqs := State.setColls_seqs ..
@[simp] theorem State.updColl_imem (q : Nat) (f : Coll → Coll) : (s.updColl q f).imem = s.imem := State.setColls_imem ..
@[simp] theorem State.updColl_torn (q : Nat) (f : Coll → Coll) : (s.updColl q f).torn = s.torn := State.setColls_torn ..
@[simp] theorem State.updColl_parts (q : Nat) (f : Coll → Coll) : (s.updColl q f).parts = s.parts := State.setColls_parts ..
@[simp] theorem State.updColl_launches (q : Nat) (f : Coll → Coll) : (s.updColl q f).launches = s.launches := State.setColls_launches ..
@[simp] theorem State.updColl_pends (q : Nat) (f : Coll → Coll) : (s.updColl q f).pends = s.pends := State.setColls_pends ..
@[simp] theorem State.updColl_fills (q : Nat) (f : Coll → Coll) : (s.updColl q f).fills = s.fills := State.setColls_fills ..
@[simp] theorem State.updColl_detBuffer (q : Nat) (f : Coll → Coll) : (s.updColl q f).detBuffer = s.detBuffer := State.setColls_detBuffer ..
@[simp] theorem State.updColl_detTail (q : Nat) (f : Coll → Coll) : (s.updColl q f).detTail = s.detTail := State.setColls_detTail ..
@[simp] theorem State.updColl_detTailBad (q : Nat) (f : Coll → Coll) : (s.updColl q f).detTailBad = s.detTailBad := State.setColls_detTailBad ..
@[simp] theorem State.updColl_power (q : Nat) (f : Coll → Coll) : (s.updColl q f).power = s.power := State.setColls_power ..
@[simp] theorem State.updColl_pins (q : Nat) (f : Coll → Coll) : (s.updColl q f).pins = s.pins := State.setColls_pins ..
@[simp] theorem State.updColl_clock (q : Nat) (f : Coll → Coll) : (s.updColl q f).clock = s.clock := State.setColls_clock ..
@[simp] theorem State.updColl_sensors (q : Nat) (f : Coll → Coll) : (s.updColl q f).sensors = s.sensors := State.setColls_sensors ..
@[simp] theorem State.updColl_flash (q : Nat) (f : Coll → Coll) : (s.updColl q f).flash = s.flash := State.setColls_flash ..
@[simp] theorem State.updColl_mgmt (q : Nat) (f : Coll → Coll) : (s.updColl q f).mgmt = s.mgmt := State.setColls_mgmt ..
@[simp] theorem State.updColl_ras (q : Nat) (f : Coll → Coll) : (s.updColl q f).ras = s.ras := State.setColls_ras ..
@[simp] theorem State.updColl_out (q : Nat) (f : Coll → Coll) : (s.updColl q f).out = s.out := State.setColls_out ..
@[simp] theorem State.updColl_inputs (q : Nat) (f : Coll → Coll) : (s.updColl q f).inputs = s.inputs := State.setColls_inputs ..
@[simp] theorem State.updColl_pending (q : Nat) (f : Coll → Coll) : (s.updColl q f).pending = s.pending := State.setColls_pending ..

@[simp] theorem State.setEscs_tb (l : List Esc) : (s.setEscs l).tb = s.tb := (State.setFld_tb ..).trans rfl
@[simp] theorem State.setEscs_free (l : List Esc) : (s.setEscs l).free = s.free := (State.setFld_free ..).trans rfl
@[simp] theorem State.setEscs_staged (l : List Esc) : (s.setEscs l).staged = s.staged := (State.setFld_staged ..).trans rfl
@[simp] theorem State.setEscs_rake (l : List Esc) : (s.setEscs l).rake = s.rake := (State.setFld_rake ..).trans rfl
@[simp] theorem State.setEscs_rakeMask (l : List Esc) : (s.setEscs l).rakeMask = s.rakeMask := (State.setFld_rakeMask ..).trans rfl
@[simp] theorem State.setEscs_log (l : List Esc) : (s.setEscs l).log = s.log := (State.setFld_log ..).trans rfl
@[simp] theorem State.setEscs_mem (l : List Esc) : (s.setEscs l).mem = s.mem := (State.setFld_mem ..).trans rfl
@[simp] theorem State.setEscs_bad (l : List Esc) : (s.setEscs l).bad = s.bad := (State.setFld_bad ..).trans rfl
@[simp] theorem State.setEscs_scratch (l : List Esc) : (s.setEscs l).scratch = s.scratch := (State.setFld_scratch ..).trans rfl
@[simp] theorem State.setEscs_fuses (l : List Esc) : (s.setEscs l).fuses = s.fuses := (State.setFld_fuses ..).trans rfl
@[simp] theorem State.setEscs_tap (l : List Esc) : (s.setEscs l).tap = s.tap := (State.setFld_tap ..).trans rfl
@[simp] theorem State.setEscs_counters (l : List Esc) : (s.setEscs l).counters = s.counters := (State.setFld_counters ..).trans rfl
@[simp] theorem State.setEscs_routers (l : List Esc) : (s.setEscs l).routers = s.routers := (State.setFld_routers ..).trans rfl
@[simp] theorem State.setEscs_coreOn (l : List Esc) : (s.setEscs l).coreOn = s.coreOn := (State.setFld_coreOn ..).trans rfl
@[simp] theorem State.setEscs_channels (l : List Esc) : (s.setEscs l).channels = s.channels := (State.setFld_channels ..).trans rfl
@[simp] theorem State.setEscs_brineScans (l : List Esc) : (s.setEscs l).brineScans = s.brineScans := (State.setFld_brineScans ..).trans rfl
@[simp] theorem State.setEscs_brineKept (l : List Esc) : (s.setEscs l).brineKept = s.brineKept := (State.setFld_brineKept ..).trans rfl
@[simp] theorem State.setEscs_pools (l : List Esc) : (s.setEscs l).pools = s.pools := (State.setFld_pools ..).trans rfl
@[simp] theorem State.setEscs_queues (l : List Esc) : (s.setEscs l).queues = s.queues := (State.setFld_queues ..).trans rfl
@[simp] theorem State.setEscs_arrays (l : List Esc) : (s.setEscs l).arrays = s.arrays := (State.setFld_arrays ..).trans rfl
@[simp] theorem State.setEscs_spoilt (l : List Esc) : (s.setEscs l).spoilt = s.spoilt := (State.setFld_spoilt ..).trans rfl
@[simp] theorem State.setEscs_chains (l : List Esc) : (s.setEscs l).chains = s.chains := (State.setFld_chains ..).trans rfl
@[simp] theorem State.setEscs_regions (l : List Esc) : (s.setEscs l).regions = s.regions := (State.setFld_regions ..).trans rfl
@[simp] theorem State.setEscs_pumps (l : List Esc) : (s.setEscs l).pumps = s.pumps := (State.setFld_pumps ..).trans rfl
@[simp] theorem State.setEscs_pumpSeq (l : List Esc) : (s.setEscs l).pumpSeq = s.pumpSeq := (State.setFld_pumpSeq ..).trans rfl
@[simp] theorem State.setEscs_outstanding (l : List Esc) : (s.setEscs l).outstanding = s.outstanding := (State.setFld_outstanding ..).trans rfl
@[simp] theorem State.setEscs_nextReq (l : List Esc) : (s.setEscs l).nextReq = s.nextReq := (State.setFld_nextReq ..).trans rfl
@[simp] theorem State.setEscs_sources (l : List Esc) : (s.setEscs l).sources = s.sources := (State.setFld_sources ..).trans rfl
@[simp] theorem State.setEscs_injected (l : List Esc) : (s.setEscs l).injected = s.injected := (State.setFld_injected ..).trans rfl
@[simp] theorem State.setEscs_lports (l : List Esc) : (s.setEscs l).lports = s.lports := (State.setFld_lports ..).trans rfl
@[simp] theorem State.setEscs_sending (l : List Esc) : (s.setEscs l).sending = s.sending := (State.setFld_sending ..).trans rfl
@[simp] theorem State.setEscs_bound (l : List Esc) : (s.setEscs l).bound = s.bound := (State.setFld_bound ..).trans rfl
@[simp] theorem State.setEscs_routes (l : List Esc) : (s.setEscs l).routes = s.routes := (State.setFld_routes ..).trans rfl
@[simp] theorem State.setEscs_sluices (l : List Esc) : (s.setEscs l).sluices = s.sluices := (State.setFld_sluices ..).trans rfl
@[simp] theorem State.setEscs_sluiceLocked (l : List Esc) : (s.setEscs l).sluiceLocked = s.sluiceLocked := (State.setFld_sluiceLocked ..).trans rfl
@[simp] theorem State.setEscs_ranks (l : List Esc) : (s.setEscs l).ranks = s.ranks := (State.setFld_ranks ..).trans rfl
@[simp] theorem State.setEscs_qps (l : List Esc) : (s.setEscs l).qps = s.qps := (State.setFld_qps ..).trans rfl
@[simp] theorem State.setEscs_ethPorts (l : List Esc) : (s.setEscs l).ethPorts = s.ethPorts := (State.setFld_ethPorts ..).trans rfl
@[simp] theorem State.setEscs_colls (l : List Esc) : (s.setEscs l).colls = s.colls := (State.setFld_colls ..).trans rfl
@[simp] theorem State.setEscs_chunkHeaders (l : List Esc) : (s.setEscs l).chunkHeaders = s.chunkHeaders := (State.setFld_chunkHeaders ..).trans rfl
@[simp] theorem State.setEscs_voidNextCode (l : List Esc) : (s.setEscs l).voidNextCode = s.voidNextCode := (State.setFld_voidNextCode ..).trans rfl
@[simp] theorem State.setEscs_seqs (l : List Esc) : (s.setEscs l).seqs = s.seqs := (State.setFld_seqs ..).trans rfl
@[simp] theorem State.setEscs_imem (l : List Esc) : (s.setEscs l).imem = s.imem := (State.setFld_imem ..).trans rfl
@[simp] theorem State.setEscs_torn (l : List Esc) : (s.setEscs l).torn = s.torn := (State.setFld_torn ..).trans rfl
@[simp] theorem State.setEscs_parts (l : List Esc) : (s.setEscs l).parts = s.parts := (State.setFld_parts ..).trans rfl
@[simp] theorem State.setEscs_launches (l : List Esc) : (s.setEscs l).launches = s.launches := (State.setFld_launches ..).trans rfl
@[simp] theorem State.setEscs_pends (l : List Esc) : (s.setEscs l).pends = s.pends := (State.setFld_pends ..).trans rfl
@[simp] theorem State.setEscs_fills (l : List Esc) : (s.setEscs l).fills = s.fills := (State.setFld_fills ..).trans rfl
@[simp] theorem State.setEscs_detBuffer (l : List Esc) : (s.setEscs l).detBuffer = s.detBuffer := (State.setFld_detBuffer ..).trans rfl
@[simp] theorem State.setEscs_detTail (l : List Esc) : (s.setEscs l).detTail = s.detTail := (State.setFld_detTail ..).trans rfl
@[simp] theorem State.setEscs_detTailBad (l : List Esc) : (s.setEscs l).detTailBad = s.detTailBad := (State.setFld_detTailBad ..).trans rfl
@[simp] theorem State.setEscs_power (l : List Esc) : (s.setEscs l).power = s.power := (State.setFld_power ..).trans rfl
@[simp] theorem State.setEscs_pins (l : List Esc) : (s.setEscs l).pins = s.pins := (State.setFld_pins ..).trans rfl
@[simp] theorem State.setEscs_clock (l : List Esc) : (s.setEscs l).clock = s.clock := (State.setFld_clock ..).trans rfl
@[simp] theorem State.setEscs_sensors (l : List Esc) : (s.setEscs l).sensors = s.sensors := (State.setFld_sensors ..).trans rfl
@[simp] theorem State.setEscs_flash (l : List Esc) : (s.setEscs l).flash = s.flash := (State.setFld_flash ..).trans rfl
@[simp] theorem State.setEscs_mgmt (l : List Esc) : (s.setEscs l).mgmt = s.mgmt := (State.setFld_mgmt ..).trans rfl
@[simp] theorem State.setEscs_out (l : List Esc) : (s.setEscs l).out = s.out := (State.setFld_out ..).trans rfl
@[simp] theorem State.setEscs_inputs (l : List Esc) : (s.setEscs l).inputs = s.inputs := (State.setFld_inputs ..).trans rfl
@[simp] theorem State.setEscs_pending (l : List Esc) : (s.setEscs l).pending = s.pending := (State.setFld_pending ..).trans rfl

@[simp] theorem State.setRake_tb (r : Requester) (x : RakeReq) : (s.setRake r x).tb = s.tb := rfl
@[simp] theorem State.setRake_free (r : Requester) (x : RakeReq) : (s.setRake r x).free = s.free := rfl
@[simp] theorem State.setRake_regs (r : Requester) (x : RakeReq) : (s.setRake r x).regs = s.regs := rfl
@[simp] theorem State.setRake_staged (r : Requester) (x : RakeReq) : (s.setRake r x).staged = s.staged := rfl
@[simp] theorem State.setRake_rakeMask (r : Requester) (x : RakeReq) : (s.setRake r x).rakeMask = s.rakeMask := rfl
@[simp] theorem State.setRake_log (r : Requester) (x : RakeReq) : (s.setRake r x).log = s.log := rfl
@[simp] theorem State.setRake_mem (r : Requester) (x : RakeReq) : (s.setRake r x).mem = s.mem := rfl
@[simp] theorem State.setRake_bad (r : Requester) (x : RakeReq) : (s.setRake r x).bad = s.bad := rfl
@[simp] theorem State.setRake_scratch (r : Requester) (x : RakeReq) : (s.setRake r x).scratch = s.scratch := rfl
@[simp] theorem State.setRake_fuses (r : Requester) (x : RakeReq) : (s.setRake r x).fuses = s.fuses := rfl
@[simp] theorem State.setRake_tap (r : Requester) (x : RakeReq) : (s.setRake r x).tap = s.tap := rfl
@[simp] theorem State.setRake_counters (r : Requester) (x : RakeReq) : (s.setRake r x).counters = s.counters := rfl
@[simp] theorem State.setRake_routers (r : Requester) (x : RakeReq) : (s.setRake r x).routers = s.routers := rfl
@[simp] theorem State.setRake_coreOn (r : Requester) (x : RakeReq) : (s.setRake r x).coreOn = s.coreOn := rfl
@[simp] theorem State.setRake_channels (r : Requester) (x : RakeReq) : (s.setRake r x).channels = s.channels := rfl
@[simp] theorem State.setRake_brineScans (r : Requester) (x : RakeReq) : (s.setRake r x).brineScans = s.brineScans := rfl
@[simp] theorem State.setRake_brineKept (r : Requester) (x : RakeReq) : (s.setRake r x).brineKept = s.brineKept := rfl
@[simp] theorem State.setRake_pools (r : Requester) (x : RakeReq) : (s.setRake r x).pools = s.pools := rfl
@[simp] theorem State.setRake_queues (r : Requester) (x : RakeReq) : (s.setRake r x).queues = s.queues := rfl
@[simp] theorem State.setRake_arrays (r : Requester) (x : RakeReq) : (s.setRake r x).arrays = s.arrays := rfl
@[simp] theorem State.setRake_spoilt (r : Requester) (x : RakeReq) : (s.setRake r x).spoilt = s.spoilt := rfl
@[simp] theorem State.setRake_chains (r : Requester) (x : RakeReq) : (s.setRake r x).chains = s.chains := rfl
@[simp] theorem State.setRake_regions (r : Requester) (x : RakeReq) : (s.setRake r x).regions = s.regions := rfl
@[simp] theorem State.setRake_pumps (r : Requester) (x : RakeReq) : (s.setRake r x).pumps = s.pumps := rfl
@[simp] theorem State.setRake_pumpSeq (r : Requester) (x : RakeReq) : (s.setRake r x).pumpSeq = s.pumpSeq := rfl
@[simp] theorem State.setRake_outstanding (r : Requester) (x : RakeReq) : (s.setRake r x).outstanding = s.outstanding := rfl
@[simp] theorem State.setRake_nextReq (r : Requester) (x : RakeReq) : (s.setRake r x).nextReq = s.nextReq := rfl
@[simp] theorem State.setRake_sources (r : Requester) (x : RakeReq) : (s.setRake r x).sources = s.sources := rfl
@[simp] theorem State.setRake_injected (r : Requester) (x : RakeReq) : (s.setRake r x).injected = s.injected := rfl
@[simp] theorem State.setRake_lports (r : Requester) (x : RakeReq) : (s.setRake r x).lports = s.lports := rfl
@[simp] theorem State.setRake_sending (r : Requester) (x : RakeReq) : (s.setRake r x).sending = s.sending := rfl
@[simp] theorem State.setRake_bound (r : Requester) (x : RakeReq) : (s.setRake r x).bound = s.bound := rfl
@[simp] theorem State.setRake_routes (r : Requester) (x : RakeReq) : (s.setRake r x).routes = s.routes := rfl
@[simp] theorem State.setRake_sluices (r : Requester) (x : RakeReq) : (s.setRake r x).sluices = s.sluices := rfl
@[simp] theorem State.setRake_sluiceLocked (r : Requester) (x : RakeReq) : (s.setRake r x).sluiceLocked = s.sluiceLocked := rfl
@[simp] theorem State.setRake_ranks (r : Requester) (x : RakeReq) : (s.setRake r x).ranks = s.ranks := rfl
@[simp] theorem State.setRake_qps (r : Requester) (x : RakeReq) : (s.setRake r x).qps = s.qps := rfl
@[simp] theorem State.setRake_ethPorts (r : Requester) (x : RakeReq) : (s.setRake r x).ethPorts = s.ethPorts := rfl
@[simp] theorem State.setRake_colls (r : Requester) (x : RakeReq) : (s.setRake r x).colls = s.colls := rfl
@[simp] theorem State.setRake_chunkHeaders (r : Requester) (x : RakeReq) : (s.setRake r x).chunkHeaders = s.chunkHeaders := rfl
@[simp] theorem State.setRake_voidNextCode (r : Requester) (x : RakeReq) : (s.setRake r x).voidNextCode = s.voidNextCode := rfl
@[simp] theorem State.setRake_seqs (r : Requester) (x : RakeReq) : (s.setRake r x).seqs = s.seqs := rfl
@[simp] theorem State.setRake_imem (r : Requester) (x : RakeReq) : (s.setRake r x).imem = s.imem := rfl
@[simp] theorem State.setRake_torn (r : Requester) (x : RakeReq) : (s.setRake r x).torn = s.torn := rfl
@[simp] theorem State.setRake_parts (r : Requester) (x : RakeReq) : (s.setRake r x).parts = s.parts := rfl
@[simp] theorem State.setRake_launches (r : Requester) (x : RakeReq) : (s.setRake r x).launches = s.launches := rfl
@[simp] theorem State.setRake_pends (r : Requester) (x : RakeReq) : (s.setRake r x).pends = s.pends := rfl
@[simp] theorem State.setRake_fills (r : Requester) (x : RakeReq) : (s.setRake r x).fills = s.fills := rfl
@[simp] theorem State.setRake_detBuffer (r : Requester) (x : RakeReq) : (s.setRake r x).detBuffer = s.detBuffer := rfl
@[simp] theorem State.setRake_detTail (r : Requester) (x : RakeReq) : (s.setRake r x).detTail = s.detTail := rfl
@[simp] theorem State.setRake_detTailBad (r : Requester) (x : RakeReq) : (s.setRake r x).detTailBad = s.detTailBad := rfl
@[simp] theorem State.setRake_power (r : Requester) (x : RakeReq) : (s.setRake r x).power = s.power := rfl
@[simp] theorem State.setRake_pins (r : Requester) (x : RakeReq) : (s.setRake r x).pins = s.pins := rfl
@[simp] theorem State.setRake_clock (r : Requester) (x : RakeReq) : (s.setRake r x).clock = s.clock := rfl
@[simp] theorem State.setRake_sensors (r : Requester) (x : RakeReq) : (s.setRake r x).sensors = s.sensors := rfl
@[simp] theorem State.setRake_flash (r : Requester) (x : RakeReq) : (s.setRake r x).flash = s.flash := rfl
@[simp] theorem State.setRake_mgmt (r : Requester) (x : RakeReq) : (s.setRake r x).mgmt = s.mgmt := rfl
@[simp] theorem State.setRake_ras (r : Requester) (x : RakeReq) : (s.setRake r x).ras = s.ras := rfl
@[simp] theorem State.setRake_out (r : Requester) (x : RakeReq) : (s.setRake r x).out = s.out := rfl
@[simp] theorem State.setRake_inputs (r : Requester) (x : RakeReq) : (s.setRake r x).inputs = s.inputs := rfl
@[simp] theorem State.setRake_pending (r : Requester) (x : RakeReq) : (s.setRake r x).pending = s.pending := rfl

@[simp] theorem State.setEthPort_tb (n : Nat) (x : EthPort) : (s.setEthPort n x).tb = s.tb := rfl
@[simp] theorem State.setEthPort_free (n : Nat) (x : EthPort) : (s.setEthPort n x).free = s.free := rfl
@[simp] theorem State.setEthPort_regs (n : Nat) (x : EthPort) : (s.setEthPort n x).regs = s.regs := rfl
@[simp] theorem State.setEthPort_staged (n : Nat) (x : EthPort) : (s.setEthPort n x).staged = s.staged := rfl
@[simp] theorem State.setEthPort_rake (n : Nat) (x : EthPort) : (s.setEthPort n x).rake = s.rake := rfl
@[simp] theorem State.setEthPort_rakeMask (n : Nat) (x : EthPort) : (s.setEthPort n x).rakeMask = s.rakeMask := rfl
@[simp] theorem State.setEthPort_log (n : Nat) (x : EthPort) : (s.setEthPort n x).log = s.log := rfl
@[simp] theorem State.setEthPort_mem (n : Nat) (x : EthPort) : (s.setEthPort n x).mem = s.mem := rfl
@[simp] theorem State.setEthPort_bad (n : Nat) (x : EthPort) : (s.setEthPort n x).bad = s.bad := rfl
@[simp] theorem State.setEthPort_scratch (n : Nat) (x : EthPort) : (s.setEthPort n x).scratch = s.scratch := rfl
@[simp] theorem State.setEthPort_fuses (n : Nat) (x : EthPort) : (s.setEthPort n x).fuses = s.fuses := rfl
@[simp] theorem State.setEthPort_tap (n : Nat) (x : EthPort) : (s.setEthPort n x).tap = s.tap := rfl
@[simp] theorem State.setEthPort_counters (n : Nat) (x : EthPort) : (s.setEthPort n x).counters = s.counters := rfl
@[simp] theorem State.setEthPort_routers (n : Nat) (x : EthPort) : (s.setEthPort n x).routers = s.routers := rfl
@[simp] theorem State.setEthPort_coreOn (n : Nat) (x : EthPort) : (s.setEthPort n x).coreOn = s.coreOn := rfl
@[simp] theorem State.setEthPort_channels (n : Nat) (x : EthPort) : (s.setEthPort n x).channels = s.channels := rfl
@[simp] theorem State.setEthPort_brineScans (n : Nat) (x : EthPort) : (s.setEthPort n x).brineScans = s.brineScans := rfl
@[simp] theorem State.setEthPort_brineKept (n : Nat) (x : EthPort) : (s.setEthPort n x).brineKept = s.brineKept := rfl
@[simp] theorem State.setEthPort_pools (n : Nat) (x : EthPort) : (s.setEthPort n x).pools = s.pools := rfl
@[simp] theorem State.setEthPort_queues (n : Nat) (x : EthPort) : (s.setEthPort n x).queues = s.queues := rfl
@[simp] theorem State.setEthPort_arrays (n : Nat) (x : EthPort) : (s.setEthPort n x).arrays = s.arrays := rfl
@[simp] theorem State.setEthPort_spoilt (n : Nat) (x : EthPort) : (s.setEthPort n x).spoilt = s.spoilt := rfl
@[simp] theorem State.setEthPort_chains (n : Nat) (x : EthPort) : (s.setEthPort n x).chains = s.chains := rfl
@[simp] theorem State.setEthPort_regions (n : Nat) (x : EthPort) : (s.setEthPort n x).regions = s.regions := rfl
@[simp] theorem State.setEthPort_pumps (n : Nat) (x : EthPort) : (s.setEthPort n x).pumps = s.pumps := rfl
@[simp] theorem State.setEthPort_pumpSeq (n : Nat) (x : EthPort) : (s.setEthPort n x).pumpSeq = s.pumpSeq := rfl
@[simp] theorem State.setEthPort_outstanding (n : Nat) (x : EthPort) : (s.setEthPort n x).outstanding = s.outstanding := rfl
@[simp] theorem State.setEthPort_nextReq (n : Nat) (x : EthPort) : (s.setEthPort n x).nextReq = s.nextReq := rfl
@[simp] theorem State.setEthPort_sources (n : Nat) (x : EthPort) : (s.setEthPort n x).sources = s.sources := rfl
@[simp] theorem State.setEthPort_injected (n : Nat) (x : EthPort) : (s.setEthPort n x).injected = s.injected := rfl
@[simp] theorem State.setEthPort_lports (n : Nat) (x : EthPort) : (s.setEthPort n x).lports = s.lports := rfl
@[simp] theorem State.setEthPort_sending (n : Nat) (x : EthPort) : (s.setEthPort n x).sending = s.sending := rfl
@[simp] theorem State.setEthPort_bound (n : Nat) (x : EthPort) : (s.setEthPort n x).bound = s.bound := rfl
@[simp] theorem State.setEthPort_routes (n : Nat) (x : EthPort) : (s.setEthPort n x).routes = s.routes := rfl
@[simp] theorem State.setEthPort_sluices (n : Nat) (x : EthPort) : (s.setEthPort n x).sluices = s.sluices := rfl
@[simp] theorem State.setEthPort_sluiceLocked (n : Nat) (x : EthPort) : (s.setEthPort n x).sluiceLocked = s.sluiceLocked := rfl
@[simp] theorem State.setEthPort_ranks (n : Nat) (x : EthPort) : (s.setEthPort n x).ranks = s.ranks := rfl
@[simp] theorem State.setEthPort_qps (n : Nat) (x : EthPort) : (s.setEthPort n x).qps = s.qps := rfl
@[simp] theorem State.setEthPort_colls (n : Nat) (x : EthPort) : (s.setEthPort n x).colls = s.colls := rfl
@[simp] theorem State.setEthPort_chunkHeaders (n : Nat) (x : EthPort) : (s.setEthPort n x).chunkHeaders = s.chunkHeaders := rfl
@[simp] theorem State.setEthPort_voidNextCode (n : Nat) (x : EthPort) : (s.setEthPort n x).voidNextCode = s.voidNextCode := rfl
@[simp] theorem State.setEthPort_seqs (n : Nat) (x : EthPort) : (s.setEthPort n x).seqs = s.seqs := rfl
@[simp] theorem State.setEthPort_imem (n : Nat) (x : EthPort) : (s.setEthPort n x).imem = s.imem := rfl
@[simp] theorem State.setEthPort_torn (n : Nat) (x : EthPort) : (s.setEthPort n x).torn = s.torn := rfl
@[simp] theorem State.setEthPort_parts (n : Nat) (x : EthPort) : (s.setEthPort n x).parts = s.parts := rfl
@[simp] theorem State.setEthPort_launches (n : Nat) (x : EthPort) : (s.setEthPort n x).launches = s.launches := rfl
@[simp] theorem State.setEthPort_pends (n : Nat) (x : EthPort) : (s.setEthPort n x).pends = s.pends := rfl
@[simp] theorem State.setEthPort_fills (n : Nat) (x : EthPort) : (s.setEthPort n x).fills = s.fills := rfl
@[simp] theorem State.setEthPort_detBuffer (n : Nat) (x : EthPort) : (s.setEthPort n x).detBuffer = s.detBuffer := rfl
@[simp] theorem State.setEthPort_detTail (n : Nat) (x : EthPort) : (s.setEthPort n x).detTail = s.detTail := rfl
@[simp] theorem State.setEthPort_detTailBad (n : Nat) (x : EthPort) : (s.setEthPort n x).detTailBad = s.detTailBad := rfl
@[simp] theorem State.setEthPort_power (n : Nat) (x : EthPort) : (s.setEthPort n x).power = s.power := rfl
@[simp] theorem State.setEthPort_pins (n : Nat) (x : EthPort) : (s.setEthPort n x).pins = s.pins := rfl
@[simp] theorem State.setEthPort_clock (n : Nat) (x : EthPort) : (s.setEthPort n x).clock = s.clock := rfl
@[simp] theorem State.setEthPort_sensors (n : Nat) (x : EthPort) : (s.setEthPort n x).sensors = s.sensors := rfl
@[simp] theorem State.setEthPort_flash (n : Nat) (x : EthPort) : (s.setEthPort n x).flash = s.flash := rfl
@[simp] theorem State.setEthPort_mgmt (n : Nat) (x : EthPort) : (s.setEthPort n x).mgmt = s.mgmt := rfl
@[simp] theorem State.setEthPort_ras (n : Nat) (x : EthPort) : (s.setEthPort n x).ras = s.ras := rfl
@[simp] theorem State.setEthPort_out (n : Nat) (x : EthPort) : (s.setEthPort n x).out = s.out := rfl
@[simp] theorem State.setEthPort_inputs (n : Nat) (x : EthPort) : (s.setEthPort n x).inputs = s.inputs := rfl
@[simp] theorem State.setEthPort_pending (n : Nat) (x : EthPort) : (s.setEthPort n x).pending = s.pending := rfl

@[simp] theorem State.setQp_tb (q : Nat) (x : Qp) : (s.setQp q x).tb = s.tb := rfl
@[simp] theorem State.setQp_free (q : Nat) (x : Qp) : (s.setQp q x).free = s.free := rfl
@[simp] theorem State.setQp_regs (q : Nat) (x : Qp) : (s.setQp q x).regs = s.regs := rfl
@[simp] theorem State.setQp_staged (q : Nat) (x : Qp) : (s.setQp q x).staged = s.staged := rfl
@[simp] theorem State.setQp_rake (q : Nat) (x : Qp) : (s.setQp q x).rake = s.rake := rfl
@[simp] theorem State.setQp_rakeMask (q : Nat) (x : Qp) : (s.setQp q x).rakeMask = s.rakeMask := rfl
@[simp] theorem State.setQp_log (q : Nat) (x : Qp) : (s.setQp q x).log = s.log := rfl
@[simp] theorem State.setQp_mem (q : Nat) (x : Qp) : (s.setQp q x).mem = s.mem := rfl
@[simp] theorem State.setQp_bad (q : Nat) (x : Qp) : (s.setQp q x).bad = s.bad := rfl
@[simp] theorem State.setQp_scratch (q : Nat) (x : Qp) : (s.setQp q x).scratch = s.scratch := rfl
@[simp] theorem State.setQp_fuses (q : Nat) (x : Qp) : (s.setQp q x).fuses = s.fuses := rfl
@[simp] theorem State.setQp_tap (q : Nat) (x : Qp) : (s.setQp q x).tap = s.tap := rfl
@[simp] theorem State.setQp_counters (q : Nat) (x : Qp) : (s.setQp q x).counters = s.counters := rfl
@[simp] theorem State.setQp_routers (q : Nat) (x : Qp) : (s.setQp q x).routers = s.routers := rfl
@[simp] theorem State.setQp_coreOn (q : Nat) (x : Qp) : (s.setQp q x).coreOn = s.coreOn := rfl
@[simp] theorem State.setQp_channels (q : Nat) (x : Qp) : (s.setQp q x).channels = s.channels := rfl
@[simp] theorem State.setQp_brineScans (q : Nat) (x : Qp) : (s.setQp q x).brineScans = s.brineScans := rfl
@[simp] theorem State.setQp_brineKept (q : Nat) (x : Qp) : (s.setQp q x).brineKept = s.brineKept := rfl
@[simp] theorem State.setQp_pools (q : Nat) (x : Qp) : (s.setQp q x).pools = s.pools := rfl
@[simp] theorem State.setQp_queues (q : Nat) (x : Qp) : (s.setQp q x).queues = s.queues := rfl
@[simp] theorem State.setQp_arrays (q : Nat) (x : Qp) : (s.setQp q x).arrays = s.arrays := rfl
@[simp] theorem State.setQp_spoilt (q : Nat) (x : Qp) : (s.setQp q x).spoilt = s.spoilt := rfl
@[simp] theorem State.setQp_chains (q : Nat) (x : Qp) : (s.setQp q x).chains = s.chains := rfl
@[simp] theorem State.setQp_regions (q : Nat) (x : Qp) : (s.setQp q x).regions = s.regions := rfl
@[simp] theorem State.setQp_pumps (q : Nat) (x : Qp) : (s.setQp q x).pumps = s.pumps := rfl
@[simp] theorem State.setQp_pumpSeq (q : Nat) (x : Qp) : (s.setQp q x).pumpSeq = s.pumpSeq := rfl
@[simp] theorem State.setQp_outstanding (q : Nat) (x : Qp) : (s.setQp q x).outstanding = s.outstanding := rfl
@[simp] theorem State.setQp_nextReq (q : Nat) (x : Qp) : (s.setQp q x).nextReq = s.nextReq := rfl
@[simp] theorem State.setQp_sources (q : Nat) (x : Qp) : (s.setQp q x).sources = s.sources := rfl
@[simp] theorem State.setQp_injected (q : Nat) (x : Qp) : (s.setQp q x).injected = s.injected := rfl
@[simp] theorem State.setQp_lports (q : Nat) (x : Qp) : (s.setQp q x).lports = s.lports := rfl
@[simp] theorem State.setQp_sending (q : Nat) (x : Qp) : (s.setQp q x).sending = s.sending := rfl
@[simp] theorem State.setQp_bound (q : Nat) (x : Qp) : (s.setQp q x).bound = s.bound := rfl
@[simp] theorem State.setQp_routes (q : Nat) (x : Qp) : (s.setQp q x).routes = s.routes := rfl
@[simp] theorem State.setQp_sluices (q : Nat) (x : Qp) : (s.setQp q x).sluices = s.sluices := rfl
@[simp] theorem State.setQp_sluiceLocked (q : Nat) (x : Qp) : (s.setQp q x).sluiceLocked = s.sluiceLocked := rfl
@[simp] theorem State.setQp_ranks (q : Nat) (x : Qp) : (s.setQp q x).ranks = s.ranks := rfl
@[simp] theorem State.setQp_ethPorts (q : Nat) (x : Qp) : (s.setQp q x).ethPorts = s.ethPorts := rfl
@[simp] theorem State.setQp_colls (q : Nat) (x : Qp) : (s.setQp q x).colls = s.colls := rfl
@[simp] theorem State.setQp_chunkHeaders (q : Nat) (x : Qp) : (s.setQp q x).chunkHeaders = s.chunkHeaders := rfl
@[simp] theorem State.setQp_voidNextCode (q : Nat) (x : Qp) : (s.setQp q x).voidNextCode = s.voidNextCode := rfl
@[simp] theorem State.setQp_seqs (q : Nat) (x : Qp) : (s.setQp q x).seqs = s.seqs := rfl
@[simp] theorem State.setQp_imem (q : Nat) (x : Qp) : (s.setQp q x).imem = s.imem := rfl
@[simp] theorem State.setQp_torn (q : Nat) (x : Qp) : (s.setQp q x).torn = s.torn := rfl
@[simp] theorem State.setQp_parts (q : Nat) (x : Qp) : (s.setQp q x).parts = s.parts := rfl
@[simp] theorem State.setQp_launches (q : Nat) (x : Qp) : (s.setQp q x).launches = s.launches := rfl
@[simp] theorem State.setQp_pends (q : Nat) (x : Qp) : (s.setQp q x).pends = s.pends := rfl
@[simp] theorem State.setQp_fills (q : Nat) (x : Qp) : (s.setQp q x).fills = s.fills := rfl
@[simp] theorem State.setQp_detBuffer (q : Nat) (x : Qp) : (s.setQp q x).detBuffer = s.detBuffer := rfl
@[simp] theorem State.setQp_detTail (q : Nat) (x : Qp) : (s.setQp q x).detTail = s.detTail := rfl
@[simp] theorem State.setQp_detTailBad (q : Nat) (x : Qp) : (s.setQp q x).detTailBad = s.detTailBad := rfl
@[simp] theorem State.setQp_power (q : Nat) (x : Qp) : (s.setQp q x).power = s.power := rfl
@[simp] theorem State.setQp_pins (q : Nat) (x : Qp) : (s.setQp q x).pins = s.pins := rfl
@[simp] theorem State.setQp_clock (q : Nat) (x : Qp) : (s.setQp q x).clock = s.clock := rfl
@[simp] theorem State.setQp_sensors (q : Nat) (x : Qp) : (s.setQp q x).sensors = s.sensors := rfl
@[simp] theorem State.setQp_flash (q : Nat) (x : Qp) : (s.setQp q x).flash = s.flash := rfl
@[simp] theorem State.setQp_mgmt (q : Nat) (x : Qp) : (s.setQp q x).mgmt = s.mgmt := rfl
@[simp] theorem State.setQp_ras (q : Nat) (x : Qp) : (s.setQp q x).ras = s.ras := rfl
@[simp] theorem State.setQp_out (q : Nat) (x : Qp) : (s.setQp q x).out = s.out := rfl
@[simp] theorem State.setQp_inputs (q : Nat) (x : Qp) : (s.setQp q x).inputs = s.inputs := rfl
@[simp] theorem State.setQp_pending (q : Nat) (x : Qp) : (s.setQp q x).pending = s.pending := rfl

@[simp] theorem State.setRegion_tb (r : Nat) (x : Region) : (s.setRegion r x).tb = s.tb := rfl
@[simp] theorem State.setRegion_free (r : Nat) (x : Region) : (s.setRegion r x).free = s.free := rfl
@[simp] theorem State.setRegion_regs (r : Nat) (x : Region) : (s.setRegion r x).regs = s.regs := rfl
@[simp] theorem State.setRegion_staged (r : Nat) (x : Region) : (s.setRegion r x).staged = s.staged := rfl
@[simp] theorem State.setRegion_rake (r : Nat) (x : Region) : (s.setRegion r x).rake = s.rake := rfl
@[simp] theorem State.setRegion_rakeMask (r : Nat) (x : Region) : (s.setRegion r x).rakeMask = s.rakeMask := rfl
@[simp] theorem State.setRegion_log (r : Nat) (x : Region) : (s.setRegion r x).log = s.log := rfl
@[simp] theorem State.setRegion_mem (r : Nat) (x : Region) : (s.setRegion r x).mem = s.mem := rfl
@[simp] theorem State.setRegion_bad (r : Nat) (x : Region) : (s.setRegion r x).bad = s.bad := rfl
@[simp] theorem State.setRegion_scratch (r : Nat) (x : Region) : (s.setRegion r x).scratch = s.scratch := rfl
@[simp] theorem State.setRegion_fuses (r : Nat) (x : Region) : (s.setRegion r x).fuses = s.fuses := rfl
@[simp] theorem State.setRegion_tap (r : Nat) (x : Region) : (s.setRegion r x).tap = s.tap := rfl
@[simp] theorem State.setRegion_counters (r : Nat) (x : Region) : (s.setRegion r x).counters = s.counters := rfl
@[simp] theorem State.setRegion_routers (r : Nat) (x : Region) : (s.setRegion r x).routers = s.routers := rfl
@[simp] theorem State.setRegion_coreOn (r : Nat) (x : Region) : (s.setRegion r x).coreOn = s.coreOn := rfl
@[simp] theorem State.setRegion_channels (r : Nat) (x : Region) : (s.setRegion r x).channels = s.channels := rfl
@[simp] theorem State.setRegion_brineScans (r : Nat) (x : Region) : (s.setRegion r x).brineScans = s.brineScans := rfl
@[simp] theorem State.setRegion_brineKept (r : Nat) (x : Region) : (s.setRegion r x).brineKept = s.brineKept := rfl
@[simp] theorem State.setRegion_pools (r : Nat) (x : Region) : (s.setRegion r x).pools = s.pools := rfl
@[simp] theorem State.setRegion_queues (r : Nat) (x : Region) : (s.setRegion r x).queues = s.queues := rfl
@[simp] theorem State.setRegion_arrays (r : Nat) (x : Region) : (s.setRegion r x).arrays = s.arrays := rfl
@[simp] theorem State.setRegion_spoilt (r : Nat) (x : Region) : (s.setRegion r x).spoilt = s.spoilt := rfl
@[simp] theorem State.setRegion_chains (r : Nat) (x : Region) : (s.setRegion r x).chains = s.chains := rfl
@[simp] theorem State.setRegion_pumps (r : Nat) (x : Region) : (s.setRegion r x).pumps = s.pumps := rfl
@[simp] theorem State.setRegion_pumpSeq (r : Nat) (x : Region) : (s.setRegion r x).pumpSeq = s.pumpSeq := rfl
@[simp] theorem State.setRegion_outstanding (r : Nat) (x : Region) : (s.setRegion r x).outstanding = s.outstanding := rfl
@[simp] theorem State.setRegion_nextReq (r : Nat) (x : Region) : (s.setRegion r x).nextReq = s.nextReq := rfl
@[simp] theorem State.setRegion_sources (r : Nat) (x : Region) : (s.setRegion r x).sources = s.sources := rfl
@[simp] theorem State.setRegion_injected (r : Nat) (x : Region) : (s.setRegion r x).injected = s.injected := rfl
@[simp] theorem State.setRegion_lports (r : Nat) (x : Region) : (s.setRegion r x).lports = s.lports := rfl
@[simp] theorem State.setRegion_sending (r : Nat) (x : Region) : (s.setRegion r x).sending = s.sending := rfl
@[simp] theorem State.setRegion_bound (r : Nat) (x : Region) : (s.setRegion r x).bound = s.bound := rfl
@[simp] theorem State.setRegion_routes (r : Nat) (x : Region) : (s.setRegion r x).routes = s.routes := rfl
@[simp] theorem State.setRegion_sluices (r : Nat) (x : Region) : (s.setRegion r x).sluices = s.sluices := rfl
@[simp] theorem State.setRegion_sluiceLocked (r : Nat) (x : Region) : (s.setRegion r x).sluiceLocked = s.sluiceLocked := rfl
@[simp] theorem State.setRegion_ranks (r : Nat) (x : Region) : (s.setRegion r x).ranks = s.ranks := rfl
@[simp] theorem State.setRegion_qps (r : Nat) (x : Region) : (s.setRegion r x).qps = s.qps := rfl
@[simp] theorem State.setRegion_ethPorts (r : Nat) (x : Region) : (s.setRegion r x).ethPorts = s.ethPorts := rfl
@[simp] theorem State.setRegion_colls (r : Nat) (x : Region) : (s.setRegion r x).colls = s.colls := rfl
@[simp] theorem State.setRegion_chunkHeaders (r : Nat) (x : Region) : (s.setRegion r x).chunkHeaders = s.chunkHeaders := rfl
@[simp] theorem State.setRegion_voidNextCode (r : Nat) (x : Region) : (s.setRegion r x).voidNextCode = s.voidNextCode := rfl
@[simp] theorem State.setRegion_seqs (r : Nat) (x : Region) : (s.setRegion r x).seqs = s.seqs := rfl
@[simp] theorem State.setRegion_imem (r : Nat) (x : Region) : (s.setRegion r x).imem = s.imem := rfl
@[simp] theorem State.setRegion_torn (r : Nat) (x : Region) : (s.setRegion r x).torn = s.torn := rfl
@[simp] theorem State.setRegion_parts (r : Nat) (x : Region) : (s.setRegion r x).parts = s.parts := rfl
@[simp] theorem State.setRegion_launches (r : Nat) (x : Region) : (s.setRegion r x).launches = s.launches := rfl
@[simp] theorem State.setRegion_pends (r : Nat) (x : Region) : (s.setRegion r x).pends = s.pends := rfl
@[simp] theorem State.setRegion_fills (r : Nat) (x : Region) : (s.setRegion r x).fills = s.fills := rfl
@[simp] theorem State.setRegion_detBuffer (r : Nat) (x : Region) : (s.setRegion r x).detBuffer = s.detBuffer := rfl
@[simp] theorem State.setRegion_detTail (r : Nat) (x : Region) : (s.setRegion r x).detTail = s.detTail := rfl
@[simp] theorem State.setRegion_detTailBad (r : Nat) (x : Region) : (s.setRegion r x).detTailBad = s.detTailBad := rfl
@[simp] theorem State.setRegion_power (r : Nat) (x : Region) : (s.setRegion r x).power = s.power := rfl
@[simp] theorem State.setRegion_pins (r : Nat) (x : Region) : (s.setRegion r x).pins = s.pins := rfl
@[simp] theorem State.setRegion_clock (r : Nat) (x : Region) : (s.setRegion r x).clock = s.clock := rfl
@[simp] theorem State.setRegion_sensors (r : Nat) (x : Region) : (s.setRegion r x).sensors = s.sensors := rfl
@[simp] theorem State.setRegion_flash (r : Nat) (x : Region) : (s.setRegion r x).flash = s.flash := rfl
@[simp] theorem State.setRegion_mgmt (r : Nat) (x : Region) : (s.setRegion r x).mgmt = s.mgmt := rfl
@[simp] theorem State.setRegion_ras (r : Nat) (x : Region) : (s.setRegion r x).ras = s.ras := rfl
@[simp] theorem State.setRegion_out (r : Nat) (x : Region) : (s.setRegion r x).out = s.out := rfl
@[simp] theorem State.setRegion_inputs (r : Nat) (x : Region) : (s.setRegion r x).inputs = s.inputs := rfl
@[simp] theorem State.setRegion_pending (r : Nat) (x : Region) : (s.setRegion r x).pending = s.pending := rfl

@[simp] theorem State.setLaunch_tb (p : Nat) (x : Launch) : (s.setLaunch p x).tb = s.tb := rfl
@[simp] theorem State.setLaunch_free (p : Nat) (x : Launch) : (s.setLaunch p x).free = s.free := rfl
@[simp] theorem State.setLaunch_regs (p : Nat) (x : Launch) : (s.setLaunch p x).regs = s.regs := rfl
@[simp] theorem State.setLaunch_staged (p : Nat) (x : Launch) : (s.setLaunch p x).staged = s.staged := rfl
@[simp] theorem State.setLaunch_rake (p : Nat) (x : Launch) : (s.setLaunch p x).rake = s.rake := rfl
@[simp] theorem State.setLaunch_rakeMask (p : Nat) (x : Launch) : (s.setLaunch p x).rakeMask = s.rakeMask := rfl
@[simp] theorem State.setLaunch_log (p : Nat) (x : Launch) : (s.setLaunch p x).log = s.log := rfl
@[simp] theorem State.setLaunch_mem (p : Nat) (x : Launch) : (s.setLaunch p x).mem = s.mem := rfl
@[simp] theorem State.setLaunch_bad (p : Nat) (x : Launch) : (s.setLaunch p x).bad = s.bad := rfl
@[simp] theorem State.setLaunch_scratch (p : Nat) (x : Launch) : (s.setLaunch p x).scratch = s.scratch := rfl
@[simp] theorem State.setLaunch_fuses (p : Nat) (x : Launch) : (s.setLaunch p x).fuses = s.fuses := rfl
@[simp] theorem State.setLaunch_tap (p : Nat) (x : Launch) : (s.setLaunch p x).tap = s.tap := rfl
@[simp] theorem State.setLaunch_counters (p : Nat) (x : Launch) : (s.setLaunch p x).counters = s.counters := rfl
@[simp] theorem State.setLaunch_routers (p : Nat) (x : Launch) : (s.setLaunch p x).routers = s.routers := rfl
@[simp] theorem State.setLaunch_coreOn (p : Nat) (x : Launch) : (s.setLaunch p x).coreOn = s.coreOn := rfl
@[simp] theorem State.setLaunch_channels (p : Nat) (x : Launch) : (s.setLaunch p x).channels = s.channels := rfl
@[simp] theorem State.setLaunch_brineScans (p : Nat) (x : Launch) : (s.setLaunch p x).brineScans = s.brineScans := rfl
@[simp] theorem State.setLaunch_brineKept (p : Nat) (x : Launch) : (s.setLaunch p x).brineKept = s.brineKept := rfl
@[simp] theorem State.setLaunch_pools (p : Nat) (x : Launch) : (s.setLaunch p x).pools = s.pools := rfl
@[simp] theorem State.setLaunch_queues (p : Nat) (x : Launch) : (s.setLaunch p x).queues = s.queues := rfl
@[simp] theorem State.setLaunch_arrays (p : Nat) (x : Launch) : (s.setLaunch p x).arrays = s.arrays := rfl
@[simp] theorem State.setLaunch_spoilt (p : Nat) (x : Launch) : (s.setLaunch p x).spoilt = s.spoilt := rfl
@[simp] theorem State.setLaunch_chains (p : Nat) (x : Launch) : (s.setLaunch p x).chains = s.chains := rfl
@[simp] theorem State.setLaunch_regions (p : Nat) (x : Launch) : (s.setLaunch p x).regions = s.regions := rfl
@[simp] theorem State.setLaunch_pumps (p : Nat) (x : Launch) : (s.setLaunch p x).pumps = s.pumps := rfl
@[simp] theorem State.setLaunch_pumpSeq (p : Nat) (x : Launch) : (s.setLaunch p x).pumpSeq = s.pumpSeq := rfl
@[simp] theorem State.setLaunch_outstanding (p : Nat) (x : Launch) : (s.setLaunch p x).outstanding = s.outstanding := rfl
@[simp] theorem State.setLaunch_nextReq (p : Nat) (x : Launch) : (s.setLaunch p x).nextReq = s.nextReq := rfl
@[simp] theorem State.setLaunch_sources (p : Nat) (x : Launch) : (s.setLaunch p x).sources = s.sources := rfl
@[simp] theorem State.setLaunch_injected (p : Nat) (x : Launch) : (s.setLaunch p x).injected = s.injected := rfl
@[simp] theorem State.setLaunch_lports (p : Nat) (x : Launch) : (s.setLaunch p x).lports = s.lports := rfl
@[simp] theorem State.setLaunch_sending (p : Nat) (x : Launch) : (s.setLaunch p x).sending = s.sending := rfl
@[simp] theorem State.setLaunch_bound (p : Nat) (x : Launch) : (s.setLaunch p x).bound = s.bound := rfl
@[simp] theorem State.setLaunch_routes (p : Nat) (x : Launch) : (s.setLaunch p x).routes = s.routes := rfl
@[simp] theorem State.setLaunch_sluices (p : Nat) (x : Launch) : (s.setLaunch p x).sluices = s.sluices := rfl
@[simp] theorem State.setLaunch_sluiceLocked (p : Nat) (x : Launch) : (s.setLaunch p x).sluiceLocked = s.sluiceLocked := rfl
@[simp] theorem State.setLaunch_ranks (p : Nat) (x : Launch) : (s.setLaunch p x).ranks = s.ranks := rfl
@[simp] theorem State.setLaunch_qps (p : Nat) (x : Launch) : (s.setLaunch p x).qps = s.qps := rfl
@[simp] theorem State.setLaunch_ethPorts (p : Nat) (x : Launch) : (s.setLaunch p x).ethPorts = s.ethPorts := rfl
@[simp] theorem State.setLaunch_colls (p : Nat) (x : Launch) : (s.setLaunch p x).colls = s.colls := rfl
@[simp] theorem State.setLaunch_chunkHeaders (p : Nat) (x : Launch) : (s.setLaunch p x).chunkHeaders = s.chunkHeaders := rfl
@[simp] theorem State.setLaunch_voidNextCode (p : Nat) (x : Launch) : (s.setLaunch p x).voidNextCode = s.voidNextCode := rfl
@[simp] theorem State.setLaunch_seqs (p : Nat) (x : Launch) : (s.setLaunch p x).seqs = s.seqs := rfl
@[simp] theorem State.setLaunch_imem (p : Nat) (x : Launch) : (s.setLaunch p x).imem = s.imem := rfl
@[simp] theorem State.setLaunch_torn (p : Nat) (x : Launch) : (s.setLaunch p x).torn = s.torn := rfl
@[simp] theorem State.setLaunch_parts (p : Nat) (x : Launch) : (s.setLaunch p x).parts = s.parts := rfl
@[simp] theorem State.setLaunch_pends (p : Nat) (x : Launch) : (s.setLaunch p x).pends = s.pends := rfl
@[simp] theorem State.setLaunch_fills (p : Nat) (x : Launch) : (s.setLaunch p x).fills = s.fills := rfl
@[simp] theorem State.setLaunch_detBuffer (p : Nat) (x : Launch) : (s.setLaunch p x).detBuffer = s.detBuffer := rfl
@[simp] theorem State.setLaunch_detTail (p : Nat) (x : Launch) : (s.setLaunch p x).detTail = s.detTail := rfl
@[simp] theorem State.setLaunch_detTailBad (p : Nat) (x : Launch) : (s.setLaunch p x).detTailBad = s.detTailBad := rfl
@[simp] theorem State.setLaunch_power (p : Nat) (x : Launch) : (s.setLaunch p x).power = s.power := rfl
@[simp] theorem State.setLaunch_pins (p : Nat) (x : Launch) : (s.setLaunch p x).pins = s.pins := rfl
@[simp] theorem State.setLaunch_clock (p : Nat) (x : Launch) : (s.setLaunch p x).clock = s.clock := rfl
@[simp] theorem State.setLaunch_sensors (p : Nat) (x : Launch) : (s.setLaunch p x).sensors = s.sensors := rfl
@[simp] theorem State.setLaunch_flash (p : Nat) (x : Launch) : (s.setLaunch p x).flash = s.flash := rfl
@[simp] theorem State.setLaunch_mgmt (p : Nat) (x : Launch) : (s.setLaunch p x).mgmt = s.mgmt := rfl
@[simp] theorem State.setLaunch_ras (p : Nat) (x : Launch) : (s.setLaunch p x).ras = s.ras := rfl
@[simp] theorem State.setLaunch_out (p : Nat) (x : Launch) : (s.setLaunch p x).out = s.out := rfl
@[simp] theorem State.setLaunch_inputs (p : Nat) (x : Launch) : (s.setLaunch p x).inputs = s.inputs := rfl
@[simp] theorem State.setLaunch_pending (p : Nat) (x : Launch) : (s.setLaunch p x).pending = s.pending := rfl

@[simp] theorem State.setLport_tb (l : Nat) (p : LPort) : (s.setLport l p).tb = s.tb := rfl
@[simp] theorem State.setLport_free (l : Nat) (p : LPort) : (s.setLport l p).free = s.free := rfl
@[simp] theorem State.setLport_regs (l : Nat) (p : LPort) : (s.setLport l p).regs = s.regs := rfl
@[simp] theorem State.setLport_staged (l : Nat) (p : LPort) : (s.setLport l p).staged = s.staged := rfl
@[simp] theorem State.setLport_rake (l : Nat) (p : LPort) : (s.setLport l p).rake = s.rake := rfl
@[simp] theorem State.setLport_rakeMask (l : Nat) (p : LPort) : (s.setLport l p).rakeMask = s.rakeMask := rfl
@[simp] theorem State.setLport_log (l : Nat) (p : LPort) : (s.setLport l p).log = s.log := rfl
@[simp] theorem State.setLport_mem (l : Nat) (p : LPort) : (s.setLport l p).mem = s.mem := rfl
@[simp] theorem State.setLport_bad (l : Nat) (p : LPort) : (s.setLport l p).bad = s.bad := rfl
@[simp] theorem State.setLport_scratch (l : Nat) (p : LPort) : (s.setLport l p).scratch = s.scratch := rfl
@[simp] theorem State.setLport_fuses (l : Nat) (p : LPort) : (s.setLport l p).fuses = s.fuses := rfl
@[simp] theorem State.setLport_tap (l : Nat) (p : LPort) : (s.setLport l p).tap = s.tap := rfl
@[simp] theorem State.setLport_counters (l : Nat) (p : LPort) : (s.setLport l p).counters = s.counters := rfl
@[simp] theorem State.setLport_routers (l : Nat) (p : LPort) : (s.setLport l p).routers = s.routers := rfl
@[simp] theorem State.setLport_coreOn (l : Nat) (p : LPort) : (s.setLport l p).coreOn = s.coreOn := rfl
@[simp] theorem State.setLport_channels (l : Nat) (p : LPort) : (s.setLport l p).channels = s.channels := rfl
@[simp] theorem State.setLport_brineScans (l : Nat) (p : LPort) : (s.setLport l p).brineScans = s.brineScans := rfl
@[simp] theorem State.setLport_brineKept (l : Nat) (p : LPort) : (s.setLport l p).brineKept = s.brineKept := rfl
@[simp] theorem State.setLport_pools (l : Nat) (p : LPort) : (s.setLport l p).pools = s.pools := rfl
@[simp] theorem State.setLport_queues (l : Nat) (p : LPort) : (s.setLport l p).queues = s.queues := rfl
@[simp] theorem State.setLport_arrays (l : Nat) (p : LPort) : (s.setLport l p).arrays = s.arrays := rfl
@[simp] theorem State.setLport_spoilt (l : Nat) (p : LPort) : (s.setLport l p).spoilt = s.spoilt := rfl
@[simp] theorem State.setLport_chains (l : Nat) (p : LPort) : (s.setLport l p).chains = s.chains := rfl
@[simp] theorem State.setLport_regions (l : Nat) (p : LPort) : (s.setLport l p).regions = s.regions := rfl
@[simp] theorem State.setLport_pumps (l : Nat) (p : LPort) : (s.setLport l p).pumps = s.pumps := rfl
@[simp] theorem State.setLport_pumpSeq (l : Nat) (p : LPort) : (s.setLport l p).pumpSeq = s.pumpSeq := rfl
@[simp] theorem State.setLport_outstanding (l : Nat) (p : LPort) : (s.setLport l p).outstanding = s.outstanding := rfl
@[simp] theorem State.setLport_nextReq (l : Nat) (p : LPort) : (s.setLport l p).nextReq = s.nextReq := rfl
@[simp] theorem State.setLport_sources (l : Nat) (p : LPort) : (s.setLport l p).sources = s.sources := rfl
@[simp] theorem State.setLport_injected (l : Nat) (p : LPort) : (s.setLport l p).injected = s.injected := rfl
@[simp] theorem State.setLport_sending (l : Nat) (p : LPort) : (s.setLport l p).sending = s.sending := rfl
@[simp] theorem State.setLport_bound (l : Nat) (p : LPort) : (s.setLport l p).bound = s.bound := rfl
@[simp] theorem State.setLport_routes (l : Nat) (p : LPort) : (s.setLport l p).routes = s.routes := rfl
@[simp] theorem State.setLport_sluices (l : Nat) (p : LPort) : (s.setLport l p).sluices = s.sluices := rfl
@[simp] theorem State.setLport_sluiceLocked (l : Nat) (p : LPort) : (s.setLport l p).sluiceLocked = s.sluiceLocked := rfl
@[simp] theorem State.setLport_ranks (l : Nat) (p : LPort) : (s.setLport l p).ranks = s.ranks := rfl
@[simp] theorem State.setLport_qps (l : Nat) (p : LPort) : (s.setLport l p).qps = s.qps := rfl
@[simp] theorem State.setLport_ethPorts (l : Nat) (p : LPort) : (s.setLport l p).ethPorts = s.ethPorts := rfl
@[simp] theorem State.setLport_colls (l : Nat) (p : LPort) : (s.setLport l p).colls = s.colls := rfl
@[simp] theorem State.setLport_chunkHeaders (l : Nat) (p : LPort) : (s.setLport l p).chunkHeaders = s.chunkHeaders := rfl
@[simp] theorem State.setLport_voidNextCode (l : Nat) (p : LPort) : (s.setLport l p).voidNextCode = s.voidNextCode := rfl
@[simp] theorem State.setLport_seqs (l : Nat) (p : LPort) : (s.setLport l p).seqs = s.seqs := rfl
@[simp] theorem State.setLport_imem (l : Nat) (p : LPort) : (s.setLport l p).imem = s.imem := rfl
@[simp] theorem State.setLport_torn (l : Nat) (p : LPort) : (s.setLport l p).torn = s.torn := rfl
@[simp] theorem State.setLport_parts (l : Nat) (p : LPort) : (s.setLport l p).parts = s.parts := rfl
@[simp] theorem State.setLport_launches (l : Nat) (p : LPort) : (s.setLport l p).launches = s.launches := rfl
@[simp] theorem State.setLport_pends (l : Nat) (p : LPort) : (s.setLport l p).pends = s.pends := rfl
@[simp] theorem State.setLport_fills (l : Nat) (p : LPort) : (s.setLport l p).fills = s.fills := rfl
@[simp] theorem State.setLport_detBuffer (l : Nat) (p : LPort) : (s.setLport l p).detBuffer = s.detBuffer := rfl
@[simp] theorem State.setLport_detTail (l : Nat) (p : LPort) : (s.setLport l p).detTail = s.detTail := rfl
@[simp] theorem State.setLport_detTailBad (l : Nat) (p : LPort) : (s.setLport l p).detTailBad = s.detTailBad := rfl
@[simp] theorem State.setLport_power (l : Nat) (p : LPort) : (s.setLport l p).power = s.power := rfl
@[simp] theorem State.setLport_pins (l : Nat) (p : LPort) : (s.setLport l p).pins = s.pins := rfl
@[simp] theorem State.setLport_clock (l : Nat) (p : LPort) : (s.setLport l p).clock = s.clock := rfl
@[simp] theorem State.setLport_sensors (l : Nat) (p : LPort) : (s.setLport l p).sensors = s.sensors := rfl
@[simp] theorem State.setLport_flash (l : Nat) (p : LPort) : (s.setLport l p).flash = s.flash := rfl
@[simp] theorem State.setLport_mgmt (l : Nat) (p : LPort) : (s.setLport l p).mgmt = s.mgmt := rfl
@[simp] theorem State.setLport_ras (l : Nat) (p : LPort) : (s.setLport l p).ras = s.ras := rfl
@[simp] theorem State.setLport_out (l : Nat) (p : LPort) : (s.setLport l p).out = s.out := rfl
@[simp] theorem State.setLport_inputs (l : Nat) (p : LPort) : (s.setLport l p).inputs = s.inputs := rfl
@[simp] theorem State.setLport_pending (l : Nat) (p : LPort) : (s.setLport l p).pending = s.pending := rfl

@[simp] theorem State.updPump_tb (q : Nat) (f : PumpCmd → PumpCmd) : (s.updPump q f).tb = s.tb := rfl
@[simp] theorem State.updPump_free (q : Nat) (f : PumpCmd → PumpCmd) : (s.updPump q f).free = s.free := rfl
@[simp] theorem State.updPump_regs (q : Nat) (f : PumpCmd → PumpCmd) : (s.updPump q f).regs = s.regs := rfl
@[simp] theorem State.updPump_staged (q : Nat) (f : PumpCmd → PumpCmd) : (s.updPump q f).staged = s.staged := rfl
@[simp] theorem State.updPump_rake (q : Nat) (f : PumpCmd → PumpCmd) : (s.updPump q f).rake = s.rake := rfl
@[simp] theorem State.updPump_rakeMask (q : Nat) (f : PumpCmd → PumpCmd) : (s.updPump q f).rakeMask = s.rakeMask := rfl
@[simp] theorem State.updPump_log (q : Nat) (f : PumpCmd → PumpCmd) : (s.updPump q f).log = s.log := rfl
@[simp] theorem State.updPump_mem (q : Nat) (f : PumpCmd → PumpCmd) : (s.updPump q f).mem = s.mem := rfl
@[simp] theorem State.updPump_bad (q : Nat) (f : PumpCmd → PumpCmd) : (s.updPump q f).bad = s.bad := rfl
@[simp] theorem State.updPump_scratch (q : Nat) (f : PumpCmd → PumpCmd) : (s.updPump q f).scratch = s.scratch := rfl
@[simp] theorem State.updPump_fuses (q : Nat) (f : PumpCmd → PumpCmd) : (s.updPump q f).fuses = s.fuses := rfl
@[simp] theorem State.updPump_tap (q : Nat) (f : PumpCmd → PumpCmd) : (s.updPump q f).tap = s.tap := rfl
@[simp] theorem State.updPump_counters (q : Nat) (f : PumpCmd → PumpCmd) : (s.updPump q f).counters = s.counters := rfl
@[simp] theorem State.updPump_routers (q : Nat) (f : PumpCmd → PumpCmd) : (s.updPump q f).routers = s.routers := rfl
@[simp] theorem State.updPump_coreOn (q : Nat) (f : PumpCmd → PumpCmd) : (s.updPump q f).coreOn = s.coreOn := rfl
@[simp] theorem State.updPump_channels (q : Nat) (f : PumpCmd → PumpCmd) : (s.updPump q f).channels = s.channels := rfl
@[simp] theorem State.updPump_brineScans (q : Nat) (f : PumpCmd → PumpCmd) : (s.updPump q f).brineScans = s.brineScans := rfl
@[simp] theorem State.updPump_brineKept (q : Nat) (f : PumpCmd → PumpCmd) : (s.updPump q f).brineKept = s.brineKept := rfl
@[simp] theorem State.updPump_pools (q : Nat) (f : PumpCmd → PumpCmd) : (s.updPump q f).pools = s.pools := rfl
@[simp] theorem State.updPump_queues (q : Nat) (f : PumpCmd → PumpCmd) : (s.updPump q f).queues = s.queues := rfl
@[simp] theorem State.updPump_arrays (q : Nat) (f : PumpCmd → PumpCmd) : (s.updPump q f).arrays = s.arrays := rfl
@[simp] theorem State.updPump_spoilt (q : Nat) (f : PumpCmd → PumpCmd) : (s.updPump q f).spoilt = s.spoilt := rfl
@[simp] theorem State.updPump_chains (q : Nat) (f : PumpCmd → PumpCmd) : (s.updPump q f).chains = s.chains := rfl
@[simp] theorem State.updPump_regions (q : Nat) (f : PumpCmd → PumpCmd) : (s.updPump q f).regions = s.regions := rfl
@[simp] theorem State.updPump_pumpSeq (q : Nat) (f : PumpCmd → PumpCmd) : (s.updPump q f).pumpSeq = s.pumpSeq := rfl
@[simp] theorem State.updPump_outstanding (q : Nat) (f : PumpCmd → PumpCmd) : (s.updPump q f).outstanding = s.outstanding := rfl
@[simp] theorem State.updPump_nextReq (q : Nat) (f : PumpCmd → PumpCmd) : (s.updPump q f).nextReq = s.nextReq := rfl
@[simp] theorem State.updPump_sources (q : Nat) (f : PumpCmd → PumpCmd) : (s.updPump q f).sources = s.sources := rfl
@[simp] theorem State.updPump_injected (q : Nat) (f : PumpCmd → PumpCmd) : (s.updPump q f).injected = s.injected := rfl
@[simp] theorem State.updPump_lports (q : Nat) (f : PumpCmd → PumpCmd) : (s.updPump q f).lports = s.lports := rfl
@[simp] theorem State.updPump_sending (q : Nat) (f : PumpCmd → PumpCmd) : (s.updPump q f).sending = s.sending := rfl
@[simp] theorem State.updPump_bound (q : Nat) (f : PumpCmd → PumpCmd) : (s.updPump q f).bound = s.bound := rfl
@[simp] theorem State.updPump_routes (q : Nat) (f : PumpCmd → PumpCmd) : (s.updPump q f).routes = s.routes := rfl
@[simp] theorem State.updPump_sluices (q : Nat) (f : PumpCmd → PumpCmd) : (s.updPump q f).sluices = s.sluices := rfl
@[simp] theorem State.updPump_sluiceLocked (q : Nat) (f : PumpCmd → PumpCmd) : (s.updPump q f).sluiceLocked = s.sluiceLocked := rfl
@[simp] theorem State.updPump_ranks (q : Nat) (f : PumpCmd → PumpCmd) : (s.updPump q f).ranks = s.ranks := rfl
@[simp] theorem State.updPump_qps (q : Nat) (f : PumpCmd → PumpCmd) : (s.updPump q f).qps = s.qps := rfl
@[simp] theorem State.updPump_ethPorts (q : Nat) (f : PumpCmd → PumpCmd) : (s.updPump q f).ethPorts = s.ethPorts := rfl
@[simp] theorem State.updPump_colls (q : Nat) (f : PumpCmd → PumpCmd) : (s.updPump q f).colls = s.colls := rfl
@[simp] theorem State.updPump_chunkHeaders (q : Nat) (f : PumpCmd → PumpCmd) : (s.updPump q f).chunkHeaders = s.chunkHeaders := rfl
@[simp] theorem State.updPump_voidNextCode (q : Nat) (f : PumpCmd → PumpCmd) : (s.updPump q f).voidNextCode = s.voidNextCode := rfl
@[simp] theorem State.updPump_seqs (q : Nat) (f : PumpCmd → PumpCmd) : (s.updPump q f).seqs = s.seqs := rfl
@[simp] theorem State.updPump_imem (q : Nat) (f : PumpCmd → PumpCmd) : (s.updPump q f).imem = s.imem := rfl
@[simp] theorem State.updPump_torn (q : Nat) (f : PumpCmd → PumpCmd) : (s.updPump q f).torn = s.torn := rfl
@[simp] theorem State.updPump_parts (q : Nat) (f : PumpCmd → PumpCmd) : (s.updPump q f).parts = s.parts := rfl
@[simp] theorem State.updPump_launches (q : Nat) (f : PumpCmd → PumpCmd) : (s.updPump q f).launches = s.launches := rfl
@[simp] theorem State.updPump_pends (q : Nat) (f : PumpCmd → PumpCmd) : (s.updPump q f).pends = s.pends := rfl
@[simp] theorem State.updPump_fills (q : Nat) (f : PumpCmd → PumpCmd) : (s.updPump q f).fills = s.fills := rfl
@[simp] theorem State.updPump_detBuffer (q : Nat) (f : PumpCmd → PumpCmd) : (s.updPump q f).detBuffer = s.detBuffer := rfl
@[simp] theorem State.updPump_detTail (q : Nat) (f : PumpCmd → PumpCmd) : (s.updPump q f).detTail = s.detTail := rfl
@[simp] theorem State.updPump_detTailBad (q : Nat) (f : PumpCmd → PumpCmd) : (s.updPump q f).detTailBad = s.detTailBad := rfl
@[simp] theorem State.updPump_power (q : Nat) (f : PumpCmd → PumpCmd) : (s.updPump q f).power = s.power := rfl
@[simp] theorem State.updPump_pins (q : Nat) (f : PumpCmd → PumpCmd) : (s.updPump q f).pins = s.pins := rfl
@[simp] theorem State.updPump_clock (q : Nat) (f : PumpCmd → PumpCmd) : (s.updPump q f).clock = s.clock := rfl
@[simp] theorem State.updPump_sensors (q : Nat) (f : PumpCmd → PumpCmd) : (s.updPump q f).sensors = s.sensors := rfl
@[simp] theorem State.updPump_flash (q : Nat) (f : PumpCmd → PumpCmd) : (s.updPump q f).flash = s.flash := rfl
@[simp] theorem State.updPump_mgmt (q : Nat) (f : PumpCmd → PumpCmd) : (s.updPump q f).mgmt = s.mgmt := rfl
@[simp] theorem State.updPump_ras (q : Nat) (f : PumpCmd → PumpCmd) : (s.updPump q f).ras = s.ras := rfl
@[simp] theorem State.updPump_out (q : Nat) (f : PumpCmd → PumpCmd) : (s.updPump q f).out = s.out := rfl
@[simp] theorem State.updPump_inputs (q : Nat) (f : PumpCmd → PumpCmd) : (s.updPump q f).inputs = s.inputs := rfl
@[simp] theorem State.updPump_pending (q : Nat) (f : PumpCmd → PumpCmd) : (s.updPump q f).pending = s.pending := rfl

@[simp] theorem State.updMonitor_tb (f : Monitor → Monitor) : (s.updMonitor f).tb = s.tb := rfl
@[simp] theorem State.updMonitor_free (f : Monitor → Monitor) : (s.updMonitor f).free = s.free := rfl
@[simp] theorem State.updMonitor_regs (f : Monitor → Monitor) : (s.updMonitor f).regs = s.regs := rfl
@[simp] theorem State.updMonitor_staged (f : Monitor → Monitor) : (s.updMonitor f).staged = s.staged := rfl
@[simp] theorem State.updMonitor_rake (f : Monitor → Monitor) : (s.updMonitor f).rake = s.rake := rfl
@[simp] theorem State.updMonitor_rakeMask (f : Monitor → Monitor) : (s.updMonitor f).rakeMask = s.rakeMask := rfl
@[simp] theorem State.updMonitor_log (f : Monitor → Monitor) : (s.updMonitor f).log = s.log := rfl
@[simp] theorem State.updMonitor_mem (f : Monitor → Monitor) : (s.updMonitor f).mem = s.mem := rfl
@[simp] theorem State.updMonitor_bad (f : Monitor → Monitor) : (s.updMonitor f).bad = s.bad := rfl
@[simp] theorem State.updMonitor_scratch (f : Monitor → Monitor) : (s.updMonitor f).scratch = s.scratch := rfl
@[simp] theorem State.updMonitor_fuses (f : Monitor → Monitor) : (s.updMonitor f).fuses = s.fuses := rfl
@[simp] theorem State.updMonitor_tap (f : Monitor → Monitor) : (s.updMonitor f).tap = s.tap := rfl
@[simp] theorem State.updMonitor_counters (f : Monitor → Monitor) : (s.updMonitor f).counters = s.counters := rfl
@[simp] theorem State.updMonitor_routers (f : Monitor → Monitor) : (s.updMonitor f).routers = s.routers := rfl
@[simp] theorem State.updMonitor_coreOn (f : Monitor → Monitor) : (s.updMonitor f).coreOn = s.coreOn := rfl
@[simp] theorem State.updMonitor_channels (f : Monitor → Monitor) : (s.updMonitor f).channels = s.channels := rfl
@[simp] theorem State.updMonitor_brineScans (f : Monitor → Monitor) : (s.updMonitor f).brineScans = s.brineScans := rfl
@[simp] theorem State.updMonitor_brineKept (f : Monitor → Monitor) : (s.updMonitor f).brineKept = s.brineKept := rfl
@[simp] theorem State.updMonitor_pools (f : Monitor → Monitor) : (s.updMonitor f).pools = s.pools := rfl
@[simp] theorem State.updMonitor_queues (f : Monitor → Monitor) : (s.updMonitor f).queues = s.queues := rfl
@[simp] theorem State.updMonitor_arrays (f : Monitor → Monitor) : (s.updMonitor f).arrays = s.arrays := rfl
@[simp] theorem State.updMonitor_spoilt (f : Monitor → Monitor) : (s.updMonitor f).spoilt = s.spoilt := rfl
@[simp] theorem State.updMonitor_chains (f : Monitor → Monitor) : (s.updMonitor f).chains = s.chains := rfl
@[simp] theorem State.updMonitor_regions (f : Monitor → Monitor) : (s.updMonitor f).regions = s.regions := rfl
@[simp] theorem State.updMonitor_pumps (f : Monitor → Monitor) : (s.updMonitor f).pumps = s.pumps := rfl
@[simp] theorem State.updMonitor_pumpSeq (f : Monitor → Monitor) : (s.updMonitor f).pumpSeq = s.pumpSeq := rfl
@[simp] theorem State.updMonitor_outstanding (f : Monitor → Monitor) : (s.updMonitor f).outstanding = s.outstanding := rfl
@[simp] theorem State.updMonitor_nextReq (f : Monitor → Monitor) : (s.updMonitor f).nextReq = s.nextReq := rfl
@[simp] theorem State.updMonitor_sources (f : Monitor → Monitor) : (s.updMonitor f).sources = s.sources := rfl
@[simp] theorem State.updMonitor_injected (f : Monitor → Monitor) : (s.updMonitor f).injected = s.injected := rfl
@[simp] theorem State.updMonitor_lports (f : Monitor → Monitor) : (s.updMonitor f).lports = s.lports := rfl
@[simp] theorem State.updMonitor_sending (f : Monitor → Monitor) : (s.updMonitor f).sending = s.sending := rfl
@[simp] theorem State.updMonitor_bound (f : Monitor → Monitor) : (s.updMonitor f).bound = s.bound := rfl
@[simp] theorem State.updMonitor_routes (f : Monitor → Monitor) : (s.updMonitor f).routes = s.routes := rfl
@[simp] theorem State.updMonitor_sluices (f : Monitor → Monitor) : (s.updMonitor f).sluices = s.sluices := rfl
@[simp] theorem State.updMonitor_sluiceLocked (f : Monitor → Monitor) : (s.updMonitor f).sluiceLocked = s.sluiceLocked := rfl
@[simp] theorem State.updMonitor_ranks (f : Monitor → Monitor) : (s.updMonitor f).ranks = s.ranks := rfl
@[simp] theorem State.updMonitor_qps (f : Monitor → Monitor) : (s.updMonitor f).qps = s.qps := rfl
@[simp] theorem State.updMonitor_ethPorts (f : Monitor → Monitor) : (s.updMonitor f).ethPorts = s.ethPorts := rfl
@[simp] theorem State.updMonitor_colls (f : Monitor → Monitor) : (s.updMonitor f).colls = s.colls := rfl
@[simp] theorem State.updMonitor_chunkHeaders (f : Monitor → Monitor) : (s.updMonitor f).chunkHeaders = s.chunkHeaders := rfl
@[simp] theorem State.updMonitor_voidNextCode (f : Monitor → Monitor) : (s.updMonitor f).voidNextCode = s.voidNextCode := rfl
@[simp] theorem State.updMonitor_seqs (f : Monitor → Monitor) : (s.updMonitor f).seqs = s.seqs := rfl
@[simp] theorem State.updMonitor_imem (f : Monitor → Monitor) : (s.updMonitor f).imem = s.imem := rfl
@[simp] theorem State.updMonitor_torn (f : Monitor → Monitor) : (s.updMonitor f).torn = s.torn := rfl
@[simp] theorem State.updMonitor_parts (f : Monitor → Monitor) : (s.updMonitor f).parts = s.parts := rfl
@[simp] theorem State.updMonitor_launches (f : Monitor → Monitor) : (s.updMonitor f).launches = s.launches := rfl
@[simp] theorem State.updMonitor_pends (f : Monitor → Monitor) : (s.updMonitor f).pends = s.pends := rfl
@[simp] theorem State.updMonitor_fills (f : Monitor → Monitor) : (s.updMonitor f).fills = s.fills := rfl
@[simp] theorem State.updMonitor_detBuffer (f : Monitor → Monitor) : (s.updMonitor f).detBuffer = s.detBuffer := rfl
@[simp] theorem State.updMonitor_detTail (f : Monitor → Monitor) : (s.updMonitor f).detTail = s.detTail := rfl
@[simp] theorem State.updMonitor_detTailBad (f : Monitor → Monitor) : (s.updMonitor f).detTailBad = s.detTailBad := rfl
@[simp] theorem State.updMonitor_power (f : Monitor → Monitor) : (s.updMonitor f).power = s.power := rfl
@[simp] theorem State.updMonitor_pins (f : Monitor → Monitor) : (s.updMonitor f).pins = s.pins := rfl
@[simp] theorem State.updMonitor_clock (f : Monitor → Monitor) : (s.updMonitor f).clock = s.clock := rfl
@[simp] theorem State.updMonitor_sensors (f : Monitor → Monitor) : (s.updMonitor f).sensors = s.sensors := rfl
@[simp] theorem State.updMonitor_flash (f : Monitor → Monitor) : (s.updMonitor f).flash = s.flash := rfl
@[simp] theorem State.updMonitor_ras (f : Monitor → Monitor) : (s.updMonitor f).ras = s.ras := rfl
@[simp] theorem State.updMonitor_out (f : Monitor → Monitor) : (s.updMonitor f).out = s.out := rfl
@[simp] theorem State.updMonitor_inputs (f : Monitor → Monitor) : (s.updMonitor f).inputs = s.inputs := rfl
@[simp] theorem State.updMonitor_pending (f : Monitor → Monitor) : (s.updMonitor f).pending = s.pending := rfl

@[simp] theorem State.tapLoad_tb (i : Nat) (b : Bool) : (s.tapLoad i b).tb = s.tb := rfl
@[simp] theorem State.tapLoad_free (i : Nat) (b : Bool) : (s.tapLoad i b).free = s.free := rfl
@[simp] theorem State.tapLoad_regs (i : Nat) (b : Bool) : (s.tapLoad i b).regs = s.regs := rfl
@[simp] theorem State.tapLoad_staged (i : Nat) (b : Bool) : (s.tapLoad i b).staged = s.staged := rfl
@[simp] theorem State.tapLoad_rake (i : Nat) (b : Bool) : (s.tapLoad i b).rake = s.rake := rfl
@[simp] theorem State.tapLoad_rakeMask (i : Nat) (b : Bool) : (s.tapLoad i b).rakeMask = s.rakeMask := rfl
@[simp] theorem State.tapLoad_log (i : Nat) (b : Bool) : (s.tapLoad i b).log = s.log := rfl
@[simp] theorem State.tapLoad_mem (i : Nat) (b : Bool) : (s.tapLoad i b).mem = s.mem := rfl
@[simp] theorem State.tapLoad_bad (i : Nat) (b : Bool) : (s.tapLoad i b).bad = s.bad := rfl
@[simp] theorem State.tapLoad_scratch (i : Nat) (b : Bool) : (s.tapLoad i b).scratch = s.scratch := rfl
@[simp] theorem State.tapLoad_fuses (i : Nat) (b : Bool) : (s.tapLoad i b).fuses = s.fuses := rfl
@[simp] theorem State.tapLoad_counters (i : Nat) (b : Bool) : (s.tapLoad i b).counters = s.counters := rfl
@[simp] theorem State.tapLoad_routers (i : Nat) (b : Bool) : (s.tapLoad i b).routers = s.routers := rfl
@[simp] theorem State.tapLoad_coreOn (i : Nat) (b : Bool) : (s.tapLoad i b).coreOn = s.coreOn := rfl
@[simp] theorem State.tapLoad_channels (i : Nat) (b : Bool) : (s.tapLoad i b).channels = s.channels := rfl
@[simp] theorem State.tapLoad_brineScans (i : Nat) (b : Bool) : (s.tapLoad i b).brineScans = s.brineScans := rfl
@[simp] theorem State.tapLoad_brineKept (i : Nat) (b : Bool) : (s.tapLoad i b).brineKept = s.brineKept := rfl
@[simp] theorem State.tapLoad_pools (i : Nat) (b : Bool) : (s.tapLoad i b).pools = s.pools := rfl
@[simp] theorem State.tapLoad_queues (i : Nat) (b : Bool) : (s.tapLoad i b).queues = s.queues := rfl
@[simp] theorem State.tapLoad_arrays (i : Nat) (b : Bool) : (s.tapLoad i b).arrays = s.arrays := rfl
@[simp] theorem State.tapLoad_spoilt (i : Nat) (b : Bool) : (s.tapLoad i b).spoilt = s.spoilt := rfl
@[simp] theorem State.tapLoad_chains (i : Nat) (b : Bool) : (s.tapLoad i b).chains = s.chains := rfl
@[simp] theorem State.tapLoad_regions (i : Nat) (b : Bool) : (s.tapLoad i b).regions = s.regions := rfl
@[simp] theorem State.tapLoad_pumps (i : Nat) (b : Bool) : (s.tapLoad i b).pumps = s.pumps := rfl
@[simp] theorem State.tapLoad_pumpSeq (i : Nat) (b : Bool) : (s.tapLoad i b).pumpSeq = s.pumpSeq := rfl
@[simp] theorem State.tapLoad_outstanding (i : Nat) (b : Bool) : (s.tapLoad i b).outstanding = s.outstanding := rfl
@[simp] theorem State.tapLoad_nextReq (i : Nat) (b : Bool) : (s.tapLoad i b).nextReq = s.nextReq := rfl
@[simp] theorem State.tapLoad_sources (i : Nat) (b : Bool) : (s.tapLoad i b).sources = s.sources := rfl
@[simp] theorem State.tapLoad_injected (i : Nat) (b : Bool) : (s.tapLoad i b).injected = s.injected := rfl
@[simp] theorem State.tapLoad_lports (i : Nat) (b : Bool) : (s.tapLoad i b).lports = s.lports := rfl
@[simp] theorem State.tapLoad_sending (i : Nat) (b : Bool) : (s.tapLoad i b).sending = s.sending := rfl
@[simp] theorem State.tapLoad_bound (i : Nat) (b : Bool) : (s.tapLoad i b).bound = s.bound := rfl
@[simp] theorem State.tapLoad_routes (i : Nat) (b : Bool) : (s.tapLoad i b).routes = s.routes := rfl
@[simp] theorem State.tapLoad_sluices (i : Nat) (b : Bool) : (s.tapLoad i b).sluices = s.sluices := rfl
@[simp] theorem State.tapLoad_sluiceLocked (i : Nat) (b : Bool) : (s.tapLoad i b).sluiceLocked = s.sluiceLocked := rfl
@[simp] theorem State.tapLoad_ranks (i : Nat) (b : Bool) : (s.tapLoad i b).ranks = s.ranks := rfl
@[simp] theorem State.tapLoad_qps (i : Nat) (b : Bool) : (s.tapLoad i b).qps = s.qps := rfl
@[simp] theorem State.tapLoad_ethPorts (i : Nat) (b : Bool) : (s.tapLoad i b).ethPorts = s.ethPorts := rfl
@[simp] theorem State.tapLoad_colls (i : Nat) (b : Bool) : (s.tapLoad i b).colls = s.colls := rfl
@[simp] theorem State.tapLoad_chunkHeaders (i : Nat) (b : Bool) : (s.tapLoad i b).chunkHeaders = s.chunkHeaders := rfl
@[simp] theorem State.tapLoad_voidNextCode (i : Nat) (b : Bool) : (s.tapLoad i b).voidNextCode = s.voidNextCode := rfl
@[simp] theorem State.tapLoad_seqs (i : Nat) (b : Bool) : (s.tapLoad i b).seqs = s.seqs := rfl
@[simp] theorem State.tapLoad_imem (i : Nat) (b : Bool) : (s.tapLoad i b).imem = s.imem := rfl
@[simp] theorem State.tapLoad_torn (i : Nat) (b : Bool) : (s.tapLoad i b).torn = s.torn := rfl
@[simp] theorem State.tapLoad_parts (i : Nat) (b : Bool) : (s.tapLoad i b).parts = s.parts := rfl
@[simp] theorem State.tapLoad_launches (i : Nat) (b : Bool) : (s.tapLoad i b).launches = s.launches := rfl
@[simp] theorem State.tapLoad_pends (i : Nat) (b : Bool) : (s.tapLoad i b).pends = s.pends := rfl
@[simp] theorem State.tapLoad_fills (i : Nat) (b : Bool) : (s.tapLoad i b).fills = s.fills := rfl
@[simp] theorem State.tapLoad_detBuffer (i : Nat) (b : Bool) : (s.tapLoad i b).detBuffer = s.detBuffer := rfl
@[simp] theorem State.tapLoad_detTail (i : Nat) (b : Bool) : (s.tapLoad i b).detTail = s.detTail := rfl
@[simp] theorem State.tapLoad_detTailBad (i : Nat) (b : Bool) : (s.tapLoad i b).detTailBad = s.detTailBad := rfl
@[simp] theorem State.tapLoad_power (i : Nat) (b : Bool) : (s.tapLoad i b).power = s.power := rfl
@[simp] theorem State.tapLoad_pins (i : Nat) (b : Bool) : (s.tapLoad i b).pins = s.pins := rfl
@[simp] theorem State.tapLoad_clock (i : Nat) (b : Bool) : (s.tapLoad i b).clock = s.clock := rfl
@[simp] theorem State.tapLoad_sensors (i : Nat) (b : Bool) : (s.tapLoad i b).sensors = s.sensors := rfl
@[simp] theorem State.tapLoad_flash (i : Nat) (b : Bool) : (s.tapLoad i b).flash = s.flash := rfl
@[simp] theorem State.tapLoad_mgmt (i : Nat) (b : Bool) : (s.tapLoad i b).mgmt = s.mgmt := rfl
@[simp] theorem State.tapLoad_ras (i : Nat) (b : Bool) : (s.tapLoad i b).ras = s.ras := rfl
@[simp] theorem State.tapLoad_out (i : Nat) (b : Bool) : (s.tapLoad i b).out = s.out := rfl
@[simp] theorem State.tapLoad_inputs (i : Nat) (b : Bool) : (s.tapLoad i b).inputs = s.inputs := rfl
@[simp] theorem State.tapLoad_pending (i : Nat) (b : Bool) : (s.tapLoad i b).pending = s.pending := rfl

@[simp] theorem State.setSpoilt_tb (ranges : List (Nat × Nat)) (code : Nat) : (s.setSpoilt ranges code).tb = s.tb := rfl
@[simp] theorem State.setSpoilt_free (ranges : List (Nat × Nat)) (code : Nat) : (s.setSpoilt ranges code).free = s.free := rfl
@[simp] theorem State.setSpoilt_regs (ranges : List (Nat × Nat)) (code : Nat) : (s.setSpoilt ranges code).regs = s.regs := rfl
@[simp] theorem State.setSpoilt_staged (ranges : List (Nat × Nat)) (code : Nat) : (s.setSpoilt ranges code).staged = s.staged := rfl
@[simp] theorem State.setSpoilt_rake (ranges : List (Nat × Nat)) (code : Nat) : (s.setSpoilt ranges code).rake = s.rake := rfl
@[simp] theorem State.setSpoilt_rakeMask (ranges : List (Nat × Nat)) (code : Nat) : (s.setSpoilt ranges code).rakeMask = s.rakeMask := rfl
@[simp] theorem State.setSpoilt_log (ranges : List (Nat × Nat)) (code : Nat) : (s.setSpoilt ranges code).log = s.log := rfl
@[simp] theorem State.setSpoilt_mem (ranges : List (Nat × Nat)) (code : Nat) : (s.setSpoilt ranges code).mem = s.mem := rfl
@[simp] theorem State.setSpoilt_bad (ranges : List (Nat × Nat)) (code : Nat) : (s.setSpoilt ranges code).bad = s.bad := rfl
@[simp] theorem State.setSpoilt_scratch (ranges : List (Nat × Nat)) (code : Nat) : (s.setSpoilt ranges code).scratch = s.scratch := rfl
@[simp] theorem State.setSpoilt_fuses (ranges : List (Nat × Nat)) (code : Nat) : (s.setSpoilt ranges code).fuses = s.fuses := rfl
@[simp] theorem State.setSpoilt_tap (ranges : List (Nat × Nat)) (code : Nat) : (s.setSpoilt ranges code).tap = s.tap := rfl
@[simp] theorem State.setSpoilt_counters (ranges : List (Nat × Nat)) (code : Nat) : (s.setSpoilt ranges code).counters = s.counters := rfl
@[simp] theorem State.setSpoilt_routers (ranges : List (Nat × Nat)) (code : Nat) : (s.setSpoilt ranges code).routers = s.routers := rfl
@[simp] theorem State.setSpoilt_coreOn (ranges : List (Nat × Nat)) (code : Nat) : (s.setSpoilt ranges code).coreOn = s.coreOn := rfl
@[simp] theorem State.setSpoilt_channels (ranges : List (Nat × Nat)) (code : Nat) : (s.setSpoilt ranges code).channels = s.channels := rfl
@[simp] theorem State.setSpoilt_brineScans (ranges : List (Nat × Nat)) (code : Nat) : (s.setSpoilt ranges code).brineScans = s.brineScans := rfl
@[simp] theorem State.setSpoilt_brineKept (ranges : List (Nat × Nat)) (code : Nat) : (s.setSpoilt ranges code).brineKept = s.brineKept := rfl
@[simp] theorem State.setSpoilt_pools (ranges : List (Nat × Nat)) (code : Nat) : (s.setSpoilt ranges code).pools = s.pools := rfl
@[simp] theorem State.setSpoilt_queues (ranges : List (Nat × Nat)) (code : Nat) : (s.setSpoilt ranges code).queues = s.queues := rfl
@[simp] theorem State.setSpoilt_arrays (ranges : List (Nat × Nat)) (code : Nat) : (s.setSpoilt ranges code).arrays = s.arrays := rfl
@[simp] theorem State.setSpoilt_chains (ranges : List (Nat × Nat)) (code : Nat) : (s.setSpoilt ranges code).chains = s.chains := rfl
@[simp] theorem State.setSpoilt_regions (ranges : List (Nat × Nat)) (code : Nat) : (s.setSpoilt ranges code).regions = s.regions := rfl
@[simp] theorem State.setSpoilt_pumps (ranges : List (Nat × Nat)) (code : Nat) : (s.setSpoilt ranges code).pumps = s.pumps := rfl
@[simp] theorem State.setSpoilt_pumpSeq (ranges : List (Nat × Nat)) (code : Nat) : (s.setSpoilt ranges code).pumpSeq = s.pumpSeq := rfl
@[simp] theorem State.setSpoilt_outstanding (ranges : List (Nat × Nat)) (code : Nat) : (s.setSpoilt ranges code).outstanding = s.outstanding := rfl
@[simp] theorem State.setSpoilt_nextReq (ranges : List (Nat × Nat)) (code : Nat) : (s.setSpoilt ranges code).nextReq = s.nextReq := rfl
@[simp] theorem State.setSpoilt_sources (ranges : List (Nat × Nat)) (code : Nat) : (s.setSpoilt ranges code).sources = s.sources := rfl
@[simp] theorem State.setSpoilt_injected (ranges : List (Nat × Nat)) (code : Nat) : (s.setSpoilt ranges code).injected = s.injected := rfl
@[simp] theorem State.setSpoilt_lports (ranges : List (Nat × Nat)) (code : Nat) : (s.setSpoilt ranges code).lports = s.lports := rfl
@[simp] theorem State.setSpoilt_sending (ranges : List (Nat × Nat)) (code : Nat) : (s.setSpoilt ranges code).sending = s.sending := rfl
@[simp] theorem State.setSpoilt_bound (ranges : List (Nat × Nat)) (code : Nat) : (s.setSpoilt ranges code).bound = s.bound := rfl
@[simp] theorem State.setSpoilt_routes (ranges : List (Nat × Nat)) (code : Nat) : (s.setSpoilt ranges code).routes = s.routes := rfl
@[simp] theorem State.setSpoilt_sluices (ranges : List (Nat × Nat)) (code : Nat) : (s.setSpoilt ranges code).sluices = s.sluices := rfl
@[simp] theorem State.setSpoilt_sluiceLocked (ranges : List (Nat × Nat)) (code : Nat) : (s.setSpoilt ranges code).sluiceLocked = s.sluiceLocked := rfl
@[simp] theorem State.setSpoilt_ranks (ranges : List (Nat × Nat)) (code : Nat) : (s.setSpoilt ranges code).ranks = s.ranks := rfl
@[simp] theorem State.setSpoilt_qps (ranges : List (Nat × Nat)) (code : Nat) : (s.setSpoilt ranges code).qps = s.qps := rfl
@[simp] theorem State.setSpoilt_ethPorts (ranges : List (Nat × Nat)) (code : Nat) : (s.setSpoilt ranges code).ethPorts = s.ethPorts := rfl
@[simp] theorem State.setSpoilt_colls (ranges : List (Nat × Nat)) (code : Nat) : (s.setSpoilt ranges code).colls = s.colls := rfl
@[simp] theorem State.setSpoilt_chunkHeaders (ranges : List (Nat × Nat)) (code : Nat) : (s.setSpoilt ranges code).chunkHeaders = s.chunkHeaders := rfl
@[simp] theorem State.setSpoilt_voidNextCode (ranges : List (Nat × Nat)) (code : Nat) : (s.setSpoilt ranges code).voidNextCode = s.voidNextCode := rfl
@[simp] theorem State.setSpoilt_seqs (ranges : List (Nat × Nat)) (code : Nat) : (s.setSpoilt ranges code).seqs = s.seqs := rfl
@[simp] theorem State.setSpoilt_imem (ranges : List (Nat × Nat)) (code : Nat) : (s.setSpoilt ranges code).imem = s.imem := rfl
@[simp] theorem State.setSpoilt_torn (ranges : List (Nat × Nat)) (code : Nat) : (s.setSpoilt ranges code).torn = s.torn := rfl
@[simp] theorem State.setSpoilt_parts (ranges : List (Nat × Nat)) (code : Nat) : (s.setSpoilt ranges code).parts = s.parts := rfl
@[simp] theorem State.setSpoilt_launches (ranges : List (Nat × Nat)) (code : Nat) : (s.setSpoilt ranges code).launches = s.launches := rfl
@[simp] theorem State.setSpoilt_pends (ranges : List (Nat × Nat)) (code : Nat) : (s.setSpoilt ranges code).pends = s.pends := rfl
@[simp] theorem State.setSpoilt_fills (ranges : List (Nat × Nat)) (code : Nat) : (s.setSpoilt ranges code).fills = s.fills := rfl
@[simp] theorem State.setSpoilt_detBuffer (ranges : List (Nat × Nat)) (code : Nat) : (s.setSpoilt ranges code).detBuffer = s.detBuffer := rfl
@[simp] theorem State.setSpoilt_detTail (ranges : List (Nat × Nat)) (code : Nat) : (s.setSpoilt ranges code).detTail = s.detTail := rfl
@[simp] theorem State.setSpoilt_detTailBad (ranges : List (Nat × Nat)) (code : Nat) : (s.setSpoilt ranges code).detTailBad = s.detTailBad := rfl
@[simp] theorem State.setSpoilt_power (ranges : List (Nat × Nat)) (code : Nat) : (s.setSpoilt ranges code).power = s.power := rfl
@[simp] theorem State.setSpoilt_pins (ranges : List (Nat × Nat)) (code : Nat) : (s.setSpoilt ranges code).pins = s.pins := rfl
@[simp] theorem State.setSpoilt_clock (ranges : List (Nat × Nat)) (code : Nat) : (s.setSpoilt ranges code).clock = s.clock := rfl
@[simp] theorem State.setSpoilt_sensors (ranges : List (Nat × Nat)) (code : Nat) : (s.setSpoilt ranges code).sensors = s.sensors := rfl
@[simp] theorem State.setSpoilt_flash (ranges : List (Nat × Nat)) (code : Nat) : (s.setSpoilt ranges code).flash = s.flash := rfl
@[simp] theorem State.setSpoilt_mgmt (ranges : List (Nat × Nat)) (code : Nat) : (s.setSpoilt ranges code).mgmt = s.mgmt := rfl
@[simp] theorem State.setSpoilt_ras (ranges : List (Nat × Nat)) (code : Nat) : (s.setSpoilt ranges code).ras = s.ras := rfl
@[simp] theorem State.setSpoilt_out (ranges : List (Nat × Nat)) (code : Nat) : (s.setSpoilt ranges code).out = s.out := rfl
@[simp] theorem State.setSpoilt_inputs (ranges : List (Nat × Nat)) (code : Nat) : (s.setSpoilt ranges code).inputs = s.inputs := rfl
@[simp] theorem State.setSpoilt_pending (ranges : List (Nat × Nat)) (code : Nat) : (s.setSpoilt ranges code).pending = s.pending := rfl

@[simp] theorem State.copySpoilt_tb (src : Nat) (dst : Nat) (n : Nat) : (s.copySpoilt src dst n).tb = s.tb := rfl
@[simp] theorem State.copySpoilt_free (src : Nat) (dst : Nat) (n : Nat) : (s.copySpoilt src dst n).free = s.free := rfl
@[simp] theorem State.copySpoilt_regs (src : Nat) (dst : Nat) (n : Nat) : (s.copySpoilt src dst n).regs = s.regs := rfl
@[simp] theorem State.copySpoilt_staged (src : Nat) (dst : Nat) (n : Nat) : (s.copySpoilt src dst n).staged = s.staged := rfl
@[simp] theorem State.copySpoilt_rake (src : Nat) (dst : Nat) (n : Nat) : (s.copySpoilt src dst n).rake = s.rake := rfl
@[simp] theorem State.copySpoilt_rakeMask (src : Nat) (dst : Nat) (n : Nat) : (s.copySpoilt src dst n).rakeMask = s.rakeMask := rfl
@[simp] theorem State.copySpoilt_log (src : Nat) (dst : Nat) (n : Nat) : (s.copySpoilt src dst n).log = s.log := rfl
@[simp] theorem State.copySpoilt_mem (src : Nat) (dst : Nat) (n : Nat) : (s.copySpoilt src dst n).mem = s.mem := rfl
@[simp] theorem State.copySpoilt_bad (src : Nat) (dst : Nat) (n : Nat) : (s.copySpoilt src dst n).bad = s.bad := rfl
@[simp] theorem State.copySpoilt_scratch (src : Nat) (dst : Nat) (n : Nat) : (s.copySpoilt src dst n).scratch = s.scratch := rfl
@[simp] theorem State.copySpoilt_fuses (src : Nat) (dst : Nat) (n : Nat) : (s.copySpoilt src dst n).fuses = s.fuses := rfl
@[simp] theorem State.copySpoilt_tap (src : Nat) (dst : Nat) (n : Nat) : (s.copySpoilt src dst n).tap = s.tap := rfl
@[simp] theorem State.copySpoilt_counters (src : Nat) (dst : Nat) (n : Nat) : (s.copySpoilt src dst n).counters = s.counters := rfl
@[simp] theorem State.copySpoilt_routers (src : Nat) (dst : Nat) (n : Nat) : (s.copySpoilt src dst n).routers = s.routers := rfl
@[simp] theorem State.copySpoilt_coreOn (src : Nat) (dst : Nat) (n : Nat) : (s.copySpoilt src dst n).coreOn = s.coreOn := rfl
@[simp] theorem State.copySpoilt_channels (src : Nat) (dst : Nat) (n : Nat) : (s.copySpoilt src dst n).channels = s.channels := rfl
@[simp] theorem State.copySpoilt_brineScans (src : Nat) (dst : Nat) (n : Nat) : (s.copySpoilt src dst n).brineScans = s.brineScans := rfl
@[simp] theorem State.copySpoilt_brineKept (src : Nat) (dst : Nat) (n : Nat) : (s.copySpoilt src dst n).brineKept = s.brineKept := rfl
@[simp] theorem State.copySpoilt_pools (src : Nat) (dst : Nat) (n : Nat) : (s.copySpoilt src dst n).pools = s.pools := rfl
@[simp] theorem State.copySpoilt_queues (src : Nat) (dst : Nat) (n : Nat) : (s.copySpoilt src dst n).queues = s.queues := rfl
@[simp] theorem State.copySpoilt_arrays (src : Nat) (dst : Nat) (n : Nat) : (s.copySpoilt src dst n).arrays = s.arrays := rfl
@[simp] theorem State.copySpoilt_chains (src : Nat) (dst : Nat) (n : Nat) : (s.copySpoilt src dst n).chains = s.chains := rfl
@[simp] theorem State.copySpoilt_regions (src : Nat) (dst : Nat) (n : Nat) : (s.copySpoilt src dst n).regions = s.regions := rfl
@[simp] theorem State.copySpoilt_pumps (src : Nat) (dst : Nat) (n : Nat) : (s.copySpoilt src dst n).pumps = s.pumps := rfl
@[simp] theorem State.copySpoilt_pumpSeq (src : Nat) (dst : Nat) (n : Nat) : (s.copySpoilt src dst n).pumpSeq = s.pumpSeq := rfl
@[simp] theorem State.copySpoilt_outstanding (src : Nat) (dst : Nat) (n : Nat) : (s.copySpoilt src dst n).outstanding = s.outstanding := rfl
@[simp] theorem State.copySpoilt_nextReq (src : Nat) (dst : Nat) (n : Nat) : (s.copySpoilt src dst n).nextReq = s.nextReq := rfl
@[simp] theorem State.copySpoilt_sources (src : Nat) (dst : Nat) (n : Nat) : (s.copySpoilt src dst n).sources = s.sources := rfl
@[simp] theorem State.copySpoilt_injected (src : Nat) (dst : Nat) (n : Nat) : (s.copySpoilt src dst n).injected = s.injected := rfl
@[simp] theorem State.copySpoilt_lports (src : Nat) (dst : Nat) (n : Nat) : (s.copySpoilt src dst n).lports = s.lports := rfl
@[simp] theorem State.copySpoilt_sending (src : Nat) (dst : Nat) (n : Nat) : (s.copySpoilt src dst n).sending = s.sending := rfl
@[simp] theorem State.copySpoilt_bound (src : Nat) (dst : Nat) (n : Nat) : (s.copySpoilt src dst n).bound = s.bound := rfl
@[simp] theorem State.copySpoilt_routes (src : Nat) (dst : Nat) (n : Nat) : (s.copySpoilt src dst n).routes = s.routes := rfl
@[simp] theorem State.copySpoilt_sluices (src : Nat) (dst : Nat) (n : Nat) : (s.copySpoilt src dst n).sluices = s.sluices := rfl
@[simp] theorem State.copySpoilt_sluiceLocked (src : Nat) (dst : Nat) (n : Nat) : (s.copySpoilt src dst n).sluiceLocked = s.sluiceLocked := rfl
@[simp] theorem State.copySpoilt_ranks (src : Nat) (dst : Nat) (n : Nat) : (s.copySpoilt src dst n).ranks = s.ranks := rfl
@[simp] theorem State.copySpoilt_qps (src : Nat) (dst : Nat) (n : Nat) : (s.copySpoilt src dst n).qps = s.qps := rfl
@[simp] theorem State.copySpoilt_ethPorts (src : Nat) (dst : Nat) (n : Nat) : (s.copySpoilt src dst n).ethPorts = s.ethPorts := rfl
@[simp] theorem State.copySpoilt_colls (src : Nat) (dst : Nat) (n : Nat) : (s.copySpoilt src dst n).colls = s.colls := rfl
@[simp] theorem State.copySpoilt_chunkHeaders (src : Nat) (dst : Nat) (n : Nat) : (s.copySpoilt src dst n).chunkHeaders = s.chunkHeaders := rfl
@[simp] theorem State.copySpoilt_voidNextCode (src : Nat) (dst : Nat) (n : Nat) : (s.copySpoilt src dst n).voidNextCode = s.voidNextCode := rfl
@[simp] theorem State.copySpoilt_seqs (src : Nat) (dst : Nat) (n : Nat) : (s.copySpoilt src dst n).seqs = s.seqs := rfl
@[simp] theorem State.copySpoilt_imem (src : Nat) (dst : Nat) (n : Nat) : (s.copySpoilt src dst n).imem = s.imem := rfl
@[simp] theorem State.copySpoilt_torn (src : Nat) (dst : Nat) (n : Nat) : (s.copySpoilt src dst n).torn = s.torn := rfl
@[simp] theorem State.copySpoilt_parts (src : Nat) (dst : Nat) (n : Nat) : (s.copySpoilt src dst n).parts = s.parts := rfl
@[simp] theorem State.copySpoilt_launches (src : Nat) (dst : Nat) (n : Nat) : (s.copySpoilt src dst n).launches = s.launches := rfl
@[simp] theorem State.copySpoilt_pends (src : Nat) (dst : Nat) (n : Nat) : (s.copySpoilt src dst n).pends = s.pends := rfl
@[simp] theorem State.copySpoilt_fills (src : Nat) (dst : Nat) (n : Nat) : (s.copySpoilt src dst n).fills = s.fills := rfl
@[simp] theorem State.copySpoilt_detBuffer (src : Nat) (dst : Nat) (n : Nat) : (s.copySpoilt src dst n).detBuffer = s.detBuffer := rfl
@[simp] theorem State.copySpoilt_detTail (src : Nat) (dst : Nat) (n : Nat) : (s.copySpoilt src dst n).detTail = s.detTail := rfl
@[simp] theorem State.copySpoilt_detTailBad (src : Nat) (dst : Nat) (n : Nat) : (s.copySpoilt src dst n).detTailBad = s.detTailBad := rfl
@[simp] theorem State.copySpoilt_power (src : Nat) (dst : Nat) (n : Nat) : (s.copySpoilt src dst n).power = s.power := rfl
@[simp] theorem State.copySpoilt_pins (src : Nat) (dst : Nat) (n : Nat) : (s.copySpoilt src dst n).pins = s.pins := rfl
@[simp] theorem State.copySpoilt_clock (src : Nat) (dst : Nat) (n : Nat) : (s.copySpoilt src dst n).clock = s.clock := rfl
@[simp] theorem State.copySpoilt_sensors (src : Nat) (dst : Nat) (n : Nat) : (s.copySpoilt src dst n).sensors = s.sensors := rfl
@[simp] theorem State.copySpoilt_flash (src : Nat) (dst : Nat) (n : Nat) : (s.copySpoilt src dst n).flash = s.flash := rfl
@[simp] theorem State.copySpoilt_mgmt (src : Nat) (dst : Nat) (n : Nat) : (s.copySpoilt src dst n).mgmt = s.mgmt := rfl
@[simp] theorem State.copySpoilt_ras (src : Nat) (dst : Nat) (n : Nat) : (s.copySpoilt src dst n).ras = s.ras := rfl
@[simp] theorem State.copySpoilt_out (src : Nat) (dst : Nat) (n : Nat) : (s.copySpoilt src dst n).out = s.out := rfl
@[simp] theorem State.copySpoilt_inputs (src : Nat) (dst : Nat) (n : Nat) : (s.copySpoilt src dst n).inputs = s.inputs := rfl
@[simp] theorem State.copySpoilt_pending (src : Nat) (dst : Nat) (n : Nat) : (s.copySpoilt src dst n).pending = s.pending := rfl

@[simp] theorem State.setSlew_tb (e : Int) : (s.setSlew e).tb = s.tb := rfl
@[simp] theorem State.setSlew_free (e : Int) : (s.setSlew e).free = s.free := rfl
@[simp] theorem State.setSlew_regs (e : Int) : (s.setSlew e).regs = s.regs := rfl
@[simp] theorem State.setSlew_staged (e : Int) : (s.setSlew e).staged = s.staged := rfl
@[simp] theorem State.setSlew_rake (e : Int) : (s.setSlew e).rake = s.rake := rfl
@[simp] theorem State.setSlew_rakeMask (e : Int) : (s.setSlew e).rakeMask = s.rakeMask := rfl
@[simp] theorem State.setSlew_log (e : Int) : (s.setSlew e).log = s.log := rfl
@[simp] theorem State.setSlew_mem (e : Int) : (s.setSlew e).mem = s.mem := rfl
@[simp] theorem State.setSlew_bad (e : Int) : (s.setSlew e).bad = s.bad := rfl
@[simp] theorem State.setSlew_scratch (e : Int) : (s.setSlew e).scratch = s.scratch := rfl
@[simp] theorem State.setSlew_fuses (e : Int) : (s.setSlew e).fuses = s.fuses := rfl
@[simp] theorem State.setSlew_tap (e : Int) : (s.setSlew e).tap = s.tap := rfl
@[simp] theorem State.setSlew_counters (e : Int) : (s.setSlew e).counters = s.counters := rfl
@[simp] theorem State.setSlew_routers (e : Int) : (s.setSlew e).routers = s.routers := rfl
@[simp] theorem State.setSlew_coreOn (e : Int) : (s.setSlew e).coreOn = s.coreOn := rfl
@[simp] theorem State.setSlew_channels (e : Int) : (s.setSlew e).channels = s.channels := rfl
@[simp] theorem State.setSlew_brineScans (e : Int) : (s.setSlew e).brineScans = s.brineScans := rfl
@[simp] theorem State.setSlew_brineKept (e : Int) : (s.setSlew e).brineKept = s.brineKept := rfl
@[simp] theorem State.setSlew_pools (e : Int) : (s.setSlew e).pools = s.pools := rfl
@[simp] theorem State.setSlew_queues (e : Int) : (s.setSlew e).queues = s.queues := rfl
@[simp] theorem State.setSlew_arrays (e : Int) : (s.setSlew e).arrays = s.arrays := rfl
@[simp] theorem State.setSlew_spoilt (e : Int) : (s.setSlew e).spoilt = s.spoilt := rfl
@[simp] theorem State.setSlew_chains (e : Int) : (s.setSlew e).chains = s.chains := rfl
@[simp] theorem State.setSlew_regions (e : Int) : (s.setSlew e).regions = s.regions := rfl
@[simp] theorem State.setSlew_pumps (e : Int) : (s.setSlew e).pumps = s.pumps := rfl
@[simp] theorem State.setSlew_pumpSeq (e : Int) : (s.setSlew e).pumpSeq = s.pumpSeq := rfl
@[simp] theorem State.setSlew_outstanding (e : Int) : (s.setSlew e).outstanding = s.outstanding := rfl
@[simp] theorem State.setSlew_nextReq (e : Int) : (s.setSlew e).nextReq = s.nextReq := rfl
@[simp] theorem State.setSlew_sources (e : Int) : (s.setSlew e).sources = s.sources := rfl
@[simp] theorem State.setSlew_injected (e : Int) : (s.setSlew e).injected = s.injected := rfl
@[simp] theorem State.setSlew_lports (e : Int) : (s.setSlew e).lports = s.lports := rfl
@[simp] theorem State.setSlew_sending (e : Int) : (s.setSlew e).sending = s.sending := rfl
@[simp] theorem State.setSlew_bound (e : Int) : (s.setSlew e).bound = s.bound := rfl
@[simp] theorem State.setSlew_routes (e : Int) : (s.setSlew e).routes = s.routes := rfl
@[simp] theorem State.setSlew_sluices (e : Int) : (s.setSlew e).sluices = s.sluices := rfl
@[simp] theorem State.setSlew_sluiceLocked (e : Int) : (s.setSlew e).sluiceLocked = s.sluiceLocked := rfl
@[simp] theorem State.setSlew_ranks (e : Int) : (s.setSlew e).ranks = s.ranks := rfl
@[simp] theorem State.setSlew_qps (e : Int) : (s.setSlew e).qps = s.qps := rfl
@[simp] theorem State.setSlew_ethPorts (e : Int) : (s.setSlew e).ethPorts = s.ethPorts := rfl
@[simp] theorem State.setSlew_colls (e : Int) : (s.setSlew e).colls = s.colls := rfl
@[simp] theorem State.setSlew_chunkHeaders (e : Int) : (s.setSlew e).chunkHeaders = s.chunkHeaders := rfl
@[simp] theorem State.setSlew_voidNextCode (e : Int) : (s.setSlew e).voidNextCode = s.voidNextCode := rfl
@[simp] theorem State.setSlew_seqs (e : Int) : (s.setSlew e).seqs = s.seqs := rfl
@[simp] theorem State.setSlew_imem (e : Int) : (s.setSlew e).imem = s.imem := rfl
@[simp] theorem State.setSlew_torn (e : Int) : (s.setSlew e).torn = s.torn := rfl
@[simp] theorem State.setSlew_parts (e : Int) : (s.setSlew e).parts = s.parts := rfl
@[simp] theorem State.setSlew_launches (e : Int) : (s.setSlew e).launches = s.launches := rfl
@[simp] theorem State.setSlew_pends (e : Int) : (s.setSlew e).pends = s.pends := rfl
@[simp] theorem State.setSlew_fills (e : Int) : (s.setSlew e).fills = s.fills := rfl
@[simp] theorem State.setSlew_detBuffer (e : Int) : (s.setSlew e).detBuffer = s.detBuffer := rfl
@[simp] theorem State.setSlew_detTail (e : Int) : (s.setSlew e).detTail = s.detTail := rfl
@[simp] theorem State.setSlew_detTailBad (e : Int) : (s.setSlew e).detTailBad = s.detTailBad := rfl
@[simp] theorem State.setSlew_power (e : Int) : (s.setSlew e).power = s.power := rfl
@[simp] theorem State.setSlew_pins (e : Int) : (s.setSlew e).pins = s.pins := rfl
@[simp] theorem State.setSlew_sensors (e : Int) : (s.setSlew e).sensors = s.sensors := rfl
@[simp] theorem State.setSlew_flash (e : Int) : (s.setSlew e).flash = s.flash := rfl
@[simp] theorem State.setSlew_mgmt (e : Int) : (s.setSlew e).mgmt = s.mgmt := rfl
@[simp] theorem State.setSlew_ras (e : Int) : (s.setSlew e).ras = s.ras := rfl
@[simp] theorem State.setSlew_out (e : Int) : (s.setSlew e).out = s.out := rfl
@[simp] theorem State.setSlew_inputs (e : Int) : (s.setSlew e).inputs = s.inputs := rfl
@[simp] theorem State.setSlew_pending (e : Int) : (s.setSlew e).pending = s.pending := rfl

@[simp] theorem State.passNs_free (n : Nat) (left : Int) (counts : Nat) : (s.passNs n left counts).free = s.free := rfl
@[simp] theorem State.passNs_regs (n : Nat) (left : Int) (counts : Nat) : (s.passNs n left counts).regs = s.regs := rfl
@[simp] theorem State.passNs_staged (n : Nat) (left : Int) (counts : Nat) : (s.passNs n left counts).staged = s.staged := rfl
@[simp] theorem State.passNs_rake (n : Nat) (left : Int) (counts : Nat) : (s.passNs n left counts).rake = s.rake := rfl
@[simp] theorem State.passNs_rakeMask (n : Nat) (left : Int) (counts : Nat) : (s.passNs n left counts).rakeMask = s.rakeMask := rfl
@[simp] theorem State.passNs_log (n : Nat) (left : Int) (counts : Nat) : (s.passNs n left counts).log = s.log := rfl
@[simp] theorem State.passNs_mem (n : Nat) (left : Int) (counts : Nat) : (s.passNs n left counts).mem = s.mem := rfl
@[simp] theorem State.passNs_bad (n : Nat) (left : Int) (counts : Nat) : (s.passNs n left counts).bad = s.bad := rfl
@[simp] theorem State.passNs_scratch (n : Nat) (left : Int) (counts : Nat) : (s.passNs n left counts).scratch = s.scratch := rfl
@[simp] theorem State.passNs_fuses (n : Nat) (left : Int) (counts : Nat) : (s.passNs n left counts).fuses = s.fuses := rfl
@[simp] theorem State.passNs_tap (n : Nat) (left : Int) (counts : Nat) : (s.passNs n left counts).tap = s.tap := rfl
@[simp] theorem State.passNs_counters (n : Nat) (left : Int) (counts : Nat) : (s.passNs n left counts).counters = s.counters := rfl
@[simp] theorem State.passNs_routers (n : Nat) (left : Int) (counts : Nat) : (s.passNs n left counts).routers = s.routers := rfl
@[simp] theorem State.passNs_coreOn (n : Nat) (left : Int) (counts : Nat) : (s.passNs n left counts).coreOn = s.coreOn := rfl
@[simp] theorem State.passNs_channels (n : Nat) (left : Int) (counts : Nat) : (s.passNs n left counts).channels = s.channels := rfl
@[simp] theorem State.passNs_brineScans (n : Nat) (left : Int) (counts : Nat) : (s.passNs n left counts).brineScans = s.brineScans := rfl
@[simp] theorem State.passNs_brineKept (n : Nat) (left : Int) (counts : Nat) : (s.passNs n left counts).brineKept = s.brineKept := rfl
@[simp] theorem State.passNs_pools (n : Nat) (left : Int) (counts : Nat) : (s.passNs n left counts).pools = s.pools := rfl
@[simp] theorem State.passNs_queues (n : Nat) (left : Int) (counts : Nat) : (s.passNs n left counts).queues = s.queues := rfl
@[simp] theorem State.passNs_arrays (n : Nat) (left : Int) (counts : Nat) : (s.passNs n left counts).arrays = s.arrays := rfl
@[simp] theorem State.passNs_spoilt (n : Nat) (left : Int) (counts : Nat) : (s.passNs n left counts).spoilt = s.spoilt := rfl
@[simp] theorem State.passNs_chains (n : Nat) (left : Int) (counts : Nat) : (s.passNs n left counts).chains = s.chains := rfl
@[simp] theorem State.passNs_regions (n : Nat) (left : Int) (counts : Nat) : (s.passNs n left counts).regions = s.regions := rfl
@[simp] theorem State.passNs_pumps (n : Nat) (left : Int) (counts : Nat) : (s.passNs n left counts).pumps = s.pumps := rfl
@[simp] theorem State.passNs_pumpSeq (n : Nat) (left : Int) (counts : Nat) : (s.passNs n left counts).pumpSeq = s.pumpSeq := rfl
@[simp] theorem State.passNs_outstanding (n : Nat) (left : Int) (counts : Nat) : (s.passNs n left counts).outstanding = s.outstanding := rfl
@[simp] theorem State.passNs_nextReq (n : Nat) (left : Int) (counts : Nat) : (s.passNs n left counts).nextReq = s.nextReq := rfl
@[simp] theorem State.passNs_sources (n : Nat) (left : Int) (counts : Nat) : (s.passNs n left counts).sources = s.sources := rfl
@[simp] theorem State.passNs_injected (n : Nat) (left : Int) (counts : Nat) : (s.passNs n left counts).injected = s.injected := rfl
@[simp] theorem State.passNs_lports (n : Nat) (left : Int) (counts : Nat) : (s.passNs n left counts).lports = s.lports := rfl
@[simp] theorem State.passNs_sending (n : Nat) (left : Int) (counts : Nat) : (s.passNs n left counts).sending = s.sending := rfl
@[simp] theorem State.passNs_bound (n : Nat) (left : Int) (counts : Nat) : (s.passNs n left counts).bound = s.bound := rfl
@[simp] theorem State.passNs_routes (n : Nat) (left : Int) (counts : Nat) : (s.passNs n left counts).routes = s.routes := rfl
@[simp] theorem State.passNs_sluices (n : Nat) (left : Int) (counts : Nat) : (s.passNs n left counts).sluices = s.sluices := rfl
@[simp] theorem State.passNs_sluiceLocked (n : Nat) (left : Int) (counts : Nat) : (s.passNs n left counts).sluiceLocked = s.sluiceLocked := rfl
@[simp] theorem State.passNs_ranks (n : Nat) (left : Int) (counts : Nat) : (s.passNs n left counts).ranks = s.ranks := rfl
@[simp] theorem State.passNs_qps (n : Nat) (left : Int) (counts : Nat) : (s.passNs n left counts).qps = s.qps := rfl
@[simp] theorem State.passNs_ethPorts (n : Nat) (left : Int) (counts : Nat) : (s.passNs n left counts).ethPorts = s.ethPorts := rfl
@[simp] theorem State.passNs_colls (n : Nat) (left : Int) (counts : Nat) : (s.passNs n left counts).colls = s.colls := rfl
@[simp] theorem State.passNs_chunkHeaders (n : Nat) (left : Int) (counts : Nat) : (s.passNs n left counts).chunkHeaders = s.chunkHeaders := rfl
@[simp] theorem State.passNs_voidNextCode (n : Nat) (left : Int) (counts : Nat) : (s.passNs n left counts).voidNextCode = s.voidNextCode := rfl
@[simp] theorem State.passNs_seqs (n : Nat) (left : Int) (counts : Nat) : (s.passNs n left counts).seqs = s.seqs := rfl
@[simp] theorem State.passNs_imem (n : Nat) (left : Int) (counts : Nat) : (s.passNs n left counts).imem = s.imem := rfl
@[simp] theorem State.passNs_torn (n : Nat) (left : Int) (counts : Nat) : (s.passNs n left counts).torn = s.torn := rfl
@[simp] theorem State.passNs_parts (n : Nat) (left : Int) (counts : Nat) : (s.passNs n left counts).parts = s.parts := rfl
@[simp] theorem State.passNs_launches (n : Nat) (left : Int) (counts : Nat) : (s.passNs n left counts).launches = s.launches := rfl
@[simp] theorem State.passNs_pends (n : Nat) (left : Int) (counts : Nat) : (s.passNs n left counts).pends = s.pends := rfl
@[simp] theorem State.passNs_fills (n : Nat) (left : Int) (counts : Nat) : (s.passNs n left counts).fills = s.fills := rfl
@[simp] theorem State.passNs_detBuffer (n : Nat) (left : Int) (counts : Nat) : (s.passNs n left counts).detBuffer = s.detBuffer := rfl
@[simp] theorem State.passNs_detTail (n : Nat) (left : Int) (counts : Nat) : (s.passNs n left counts).detTail = s.detTail := rfl
@[simp] theorem State.passNs_detTailBad (n : Nat) (left : Int) (counts : Nat) : (s.passNs n left counts).detTailBad = s.detTailBad := rfl
@[simp] theorem State.passNs_power (n : Nat) (left : Int) (counts : Nat) : (s.passNs n left counts).power = s.power := rfl
@[simp] theorem State.passNs_pins (n : Nat) (left : Int) (counts : Nat) : (s.passNs n left counts).pins = s.pins := rfl
@[simp] theorem State.passNs_sensors (n : Nat) (left : Int) (counts : Nat) : (s.passNs n left counts).sensors = s.sensors := rfl
@[simp] theorem State.passNs_flash (n : Nat) (left : Int) (counts : Nat) : (s.passNs n left counts).flash = s.flash := rfl
@[simp] theorem State.passNs_mgmt (n : Nat) (left : Int) (counts : Nat) : (s.passNs n left counts).mgmt = s.mgmt := rfl
@[simp] theorem State.passNs_ras (n : Nat) (left : Int) (counts : Nat) : (s.passNs n left counts).ras = s.ras := rfl
@[simp] theorem State.passNs_out (n : Nat) (left : Int) (counts : Nat) : (s.passNs n left counts).out = s.out := rfl
@[simp] theorem State.passNs_inputs (n : Nat) (left : Int) (counts : Nat) : (s.passNs n left counts).inputs = s.inputs := rfl
@[simp] theorem State.passNs_pending (n : Nat) (left : Int) (counts : Nat) : (s.passNs n left counts).pending = s.pending := rfl

@[simp] theorem State.fresh_value : s.fresh.1 = Config.freeWord s.free := rfl
@[simp] theorem State.fresh_free : s.fresh.2.free = s.free + 1 := rfl
@[simp] theorem State.fresh_tb : s.fresh.2.tb = s.tb := rfl
@[simp] theorem State.fresh_regs : s.fresh.2.regs = s.regs := rfl
@[simp] theorem State.fresh_staged : s.fresh.2.staged = s.staged := rfl
@[simp] theorem State.fresh_rake : s.fresh.2.rake = s.rake := rfl
@[simp] theorem State.fresh_rakeMask : s.fresh.2.rakeMask = s.rakeMask := rfl
@[simp] theorem State.fresh_log : s.fresh.2.log = s.log := rfl
@[simp] theorem State.fresh_mem : s.fresh.2.mem = s.mem := rfl
@[simp] theorem State.fresh_bad : s.fresh.2.bad = s.bad := rfl
@[simp] theorem State.fresh_scratch : s.fresh.2.scratch = s.scratch := rfl
@[simp] theorem State.fresh_fuses : s.fresh.2.fuses = s.fuses := rfl
@[simp] theorem State.fresh_tap : s.fresh.2.tap = s.tap := rfl
@[simp] theorem State.fresh_counters : s.fresh.2.counters = s.counters := rfl
@[simp] theorem State.fresh_routers : s.fresh.2.routers = s.routers := rfl
@[simp] theorem State.fresh_coreOn : s.fresh.2.coreOn = s.coreOn := rfl
@[simp] theorem State.fresh_channels : s.fresh.2.channels = s.channels := rfl
@[simp] theorem State.fresh_brineScans : s.fresh.2.brineScans = s.brineScans := rfl
@[simp] theorem State.fresh_brineKept : s.fresh.2.brineKept = s.brineKept := rfl
@[simp] theorem State.fresh_pools : s.fresh.2.pools = s.pools := rfl
@[simp] theorem State.fresh_queues : s.fresh.2.queues = s.queues := rfl
@[simp] theorem State.fresh_arrays : s.fresh.2.arrays = s.arrays := rfl
@[simp] theorem State.fresh_spoilt : s.fresh.2.spoilt = s.spoilt := rfl
@[simp] theorem State.fresh_chains : s.fresh.2.chains = s.chains := rfl
@[simp] theorem State.fresh_regions : s.fresh.2.regions = s.regions := rfl
@[simp] theorem State.fresh_pumps : s.fresh.2.pumps = s.pumps := rfl
@[simp] theorem State.fresh_pumpSeq : s.fresh.2.pumpSeq = s.pumpSeq := rfl
@[simp] theorem State.fresh_outstanding : s.fresh.2.outstanding = s.outstanding := rfl
@[simp] theorem State.fresh_nextReq : s.fresh.2.nextReq = s.nextReq := rfl
@[simp] theorem State.fresh_sources : s.fresh.2.sources = s.sources := rfl
@[simp] theorem State.fresh_injected : s.fresh.2.injected = s.injected := rfl
@[simp] theorem State.fresh_lports : s.fresh.2.lports = s.lports := rfl
@[simp] theorem State.fresh_sending : s.fresh.2.sending = s.sending := rfl
@[simp] theorem State.fresh_bound : s.fresh.2.bound = s.bound := rfl
@[simp] theorem State.fresh_routes : s.fresh.2.routes = s.routes := rfl
@[simp] theorem State.fresh_sluices : s.fresh.2.sluices = s.sluices := rfl
@[simp] theorem State.fresh_sluiceLocked : s.fresh.2.sluiceLocked = s.sluiceLocked := rfl
@[simp] theorem State.fresh_ranks : s.fresh.2.ranks = s.ranks := rfl
@[simp] theorem State.fresh_qps : s.fresh.2.qps = s.qps := rfl
@[simp] theorem State.fresh_ethPorts : s.fresh.2.ethPorts = s.ethPorts := rfl
@[simp] theorem State.fresh_colls : s.fresh.2.colls = s.colls := rfl
@[simp] theorem State.fresh_chunkHeaders : s.fresh.2.chunkHeaders = s.chunkHeaders := rfl
@[simp] theorem State.fresh_voidNextCode : s.fresh.2.voidNextCode = s.voidNextCode := rfl
@[simp] theorem State.fresh_seqs : s.fresh.2.seqs = s.seqs := rfl
@[simp] theorem State.fresh_imem : s.fresh.2.imem = s.imem := rfl
@[simp] theorem State.fresh_torn : s.fresh.2.torn = s.torn := rfl
@[simp] theorem State.fresh_parts : s.fresh.2.parts = s.parts := rfl
@[simp] theorem State.fresh_launches : s.fresh.2.launches = s.launches := rfl
@[simp] theorem State.fresh_pends : s.fresh.2.pends = s.pends := rfl
@[simp] theorem State.fresh_fills : s.fresh.2.fills = s.fills := rfl
@[simp] theorem State.fresh_detBuffer : s.fresh.2.detBuffer = s.detBuffer := rfl
@[simp] theorem State.fresh_detTail : s.fresh.2.detTail = s.detTail := rfl
@[simp] theorem State.fresh_detTailBad : s.fresh.2.detTailBad = s.detTailBad := rfl
@[simp] theorem State.fresh_power : s.fresh.2.power = s.power := rfl
@[simp] theorem State.fresh_pins : s.fresh.2.pins = s.pins := rfl
@[simp] theorem State.fresh_clock : s.fresh.2.clock = s.clock := rfl
@[simp] theorem State.fresh_sensors : s.fresh.2.sensors = s.sensors := rfl
@[simp] theorem State.fresh_flash : s.fresh.2.flash = s.flash := rfl
@[simp] theorem State.fresh_mgmt : s.fresh.2.mgmt = s.mgmt := rfl
@[simp] theorem State.fresh_ras : s.fresh.2.ras = s.ras := rfl
@[simp] theorem State.fresh_out : s.fresh.2.out = s.out := rfl
@[simp] theorem State.fresh_inputs : s.fresh.2.inputs = s.inputs := rfl
@[simp] theorem State.fresh_pending : s.fresh.2.pending = s.pending := rfl

end Sys2Proof.Machine
end

