-- ==== Sys2Proof/Laws/Ops.lean ====
section
/-! SUPPORT. What the shared operations can do: registers and fields read back, a raised code touches the registers, the
log and the ledger only, a completion its counter only, and every memory operation keeps the canonical form. -/

set_option Elab.async false

namespace Sys2Proof.Machine

variable (s : State)

/-! ### Registers -/

@[simp] theorem State.reg_setReg_same (a : Nat) (v : Word) : (s.setReg a v).reg a = v := SMap.get_set_same ..

theorem State.reg_setReg_other (a b : Nat) (v : Word) (h : b ≠ a) : (s.setReg a v).reg b = s.reg b :=
  SMap.get_set_other _ _ _ _ _ h

/-- Writing a field leaves every register at another address alone. -/
theorem State.reg_setFld_other (f : Fld) (δ v b : Nat) (h : b ≠ f.base + δ) : (s.setFld f δ v).reg b = s.reg b :=
  State.reg_setReg_other s _ _ _ h

@[simp] theorem State.reg_setFld_same (f : Fld) (δ v : Nat) :
    (s.setFld f δ v).reg (f.base + δ) = BitVec.ofNat 64 (setBits (s.reg (f.base + δ)).toNat f.lo f.w v) :=
  State.reg_setReg_same ..

theorem State.reg_bump_other (f : Fld) (δ n b : Nat) (h : b ≠ f.base + δ) : (s.bump f δ n).reg b = s.reg b :=
  State.reg_setFld_other s _ _ _ _ h

theorem State.reg_stat_other (a n b : Nat) (h : b ≠ a) : (s.stat a n).reg b = s.reg b :=
  State.reg_setReg_other s _ _ _ h

@[simp] theorem State.reg_stat_same (a n : Nat) :
    (s.stat a n).reg a = BitVec.ofNat 64 (satAdd (s.reg a).toNat n (2 ^ 64 - 1)) := State.reg_setReg_same ..

/-- A field of another register reads as before. -/
theorem State.fld_setReg_other (a : Nat) (v : Word) (f : Fld) (δ : Nat) (h : f.base + δ ≠ a) :
    (s.setReg a v).fld f δ = s.fld f δ := by
  simp only [State.fld, State.reg_setReg_other s a _ v h]

theorem State.fld_setFld_other (g : Fld) (d v : Nat) (f : Fld) (δ : Nat) (h : f.base + δ ≠ g.base + d) :
    (s.setFld g d v).fld f δ = s.fld f δ := State.fld_setReg_other s _ _ f δ h

/-- The registers read from the register file only. -/
theorem State.reg_congr {t : State} (h : t.regs = s.regs) (a : Nat) : t.reg a = s.reg a := by
  simp only [State.reg, h]

theorem State.fld_congr {t : State} (h : t.regs = s.regs) (f : Fld) (δ : Nat) : t.fld f δ = s.fld f δ := by
  simp only [State.fld, State.reg_congr s h]

/-! ### The error log -/

/-- A field written after a change of the registers is a change of the registers. -/
theorem State.setFld_of {s u : State} (f : Fld) (δ v : Nat) (h : ∃ r, u = { s with regs := r }) :
    ∃ r, u.setFld f δ v = { s with regs := r } := by
  obtain ⟨r, rfl⟩ := h
  exact ⟨_, rfl⟩

/-- Noting an alert touches the registers only. -/
theorem State.noteAlert_regs (c : Nat) : ∃ r, s.noteAlert c = { s with regs := r } := by
  unfold State.noteAlert
  have h : ∃ r, s = { s with regs := r } := ⟨_, rfl⟩
  split
  · exact State.setFld_of _ _ _ h
  · exact State.setFld_of _ _ _ (State.setFld_of _ _ _ (State.setFld_of _ _ _ h))

/-- An alert touches the registers and the ledger only (R440, R465). -/
theorem State.alert_frame (c : Nat) : ∃ r p, s.alert c = { s with regs := r, power := p } := by
  obtain ⟨r, h⟩ := State.noteAlert_regs s.saveLedger c
  exact ⟨r, s.saveLedger.power, h⟩

/-- An alert after a change of the registers, the log and the ledger is such a change. -/
theorem State.alert_of {s u : State} (c : Nat) (h : ∃ r l p, u = { s with regs := r, log := l, power := p }) :
    ∃ r l p, u.alert c = { s with regs := r, log := l, power := p } := by
  obtain ⟨r, l, p, rfl⟩ := h
  obtain ⟨r', p', h⟩ := State.alert_frame { s with regs := r, log := l, power := p } c
  exact ⟨r', l, p', h⟩

/-- Taking an alert back touches the registers only (R440). -/
theorem State.unalert_frame (b : Bool) : ∃ r, s.unalert b = { s with regs := r } := by
  have h : ∃ r, s = { s with regs := r } := ⟨_, rfl⟩
  unfold State.unalert
  dsimp only
  split
  · exact State.setFld_of _ _ _ (State.setFld_of _ _ _ (State.setFld_of _ _ _ h))
  · exact State.setFld_of _ _ _ h

/-- An alert that takes another's place touches the registers and the ledger only. -/
theorem State.moveAlert_frame (q : LogPass) (c sev : Nat) :
    ∃ r p, s.moveAlert q c sev = { s with regs := r, power := p } := by
  unfold State.moveAlert
  split
  · split
    · split
      · exact ⟨_, _, rfl⟩
      · exact ⟨_, _, rfl⟩
    · obtain ⟨r, h⟩ := State.unalert_frame s q.first
      exact ⟨r, s.power, h⟩
  · split
    · exact State.alert_frame s c
    · exact ⟨_, _, rfl⟩

/-- An occurrence that takes another's place touches the registers, the log and the ledger only (R438). -/
theorem State.lowerPass_frame (t : Site) (q : LogPass) (c sev d : Nat) :
    ∃ r l p, s.lowerPass t q c sev d = { s with regs := r, log := l, power := p } := by
  unfold State.lowerPass
  dsimp only
  split
  · obtain ⟨r, p, h⟩ := State.moveAlert_frame
      { s.stat Reg.MGT_STAT_LOG_ENTRIES 1 with log := _ } q c sev
    exact ⟨r, _, p, h⟩
  · obtain ⟨r, p, h⟩ := State.moveAlert_frame { s with log := _ } q c sev
    exact ⟨r, _, p, h⟩

/-- An occurrence touches the registers, the log and the ledger only (R437, R438). -/
theorem State.occur_frame (t : Site) (c sev d : Nat) :
    ∃ r l p, s.occur t c sev d = { s with regs := r, log := l, power := p } := by
  unfold State.occur
  dsimp only
  split
  · split
    · split
      · obtain ⟨r, l, p, h⟩ := State.lowerPass_frame
          { s.stat Reg.MGT_STAT_LOG_DROPPED 1 with log := _ } t.instance_ _ c sev d
        exact ⟨r, l, p, h⟩
      · exact ⟨_, _, _, rfl⟩
    · exact ⟨_, _, _, rfl⟩
  · split
    · refine State.alert_of c ?_
      repeat' split
      all_goals exact ⟨_, _, _, rfl⟩
    · repeat' split
      all_goals exact ⟨_, _, _, rfl⟩

/-- A raised code touches the registers, the log and the ledger only (R16, R437). -/
theorem State.raise_frame (t : Site) (c d : Nat) : ∃ r l p, s.raise t c d = { s with regs := r, log := l, power := p } :=
  State.occur_frame (s.noteErr t c) t c _ d

theorem State.raiseOpt_frame (t : Site) (c d : Nat) :
    ∃ r l p, s.raiseOpt t c d = { s with regs := r, log := l, power := p } := by
  unfold State.raiseOpt
  split
  · exact ⟨_, _, _, rfl⟩
  · exact State.raise_frame ..

/-! ### Completion counters -/

/-- A completion touches its counter only (R272, R275). -/
theorem State.complete_frame (i c : Nat) : ∃ k, s.complete i c = { s with counters := k } := by
  unfold State.complete
  split <;> exact ⟨_, rfl⟩

@[simp] theorem State.counter_setCounter_same (i : Nat) (c : Counter) : (s.setCounter i c).counter i = c :=
  SMap.get_set_same s.counters (fun _ => counterInit) i c

theorem State.counter_setCounter_other (i j : Nat) (c : Counter) (h : j ≠ i) : (s.setCounter i c).counter j = s.counter j :=
  SMap.get_set_other s.counters (fun _ => counterInit) i j c h

/-- A completion adds one to its counter while the core die is on. -/
theorem State.counter_complete_same (i c : Nat) (h : s.coreOn = true) : (s.complete i c).counter i = (s.counter i).inc c := by
  simp [State.complete, h]

theorem State.counter_complete_other (i j c : Nat) (h : j ≠ i) : (s.complete i c).counter j = s.counter j := by
  unfold State.complete
  split
  · exact State.counter_setCounter_other s _ _ _ h
  · rfl

/-! ### Memory -/

/-- Storing bytes keeps the canonical form. -/
theorem memPut_wf {m : SMap Byte} (a : Nat) (bs : Bytes) (h : Memory.wf m = true) : Memory.wf (memPut m a bs) = true := by
  induction bs generalizing m a with
  | nil => exact h
  | cons b t ih => exact ih (a + 1) (SMap.wf_set a b h)

theorem State.writeBytes_wf (a : Nat) (bs : Bytes) (h : Memory.wf s.mem = true) :
    Memory.wf (s.writeBytes a bs).mem = true := memPut_wf a bs h

theorem State.writeNat_wf (a n v : Nat) (h : Memory.wf s.mem = true) : Memory.wf (s.writeNat a n v).mem = true :=
  memPut_wf a _ h

theorem State.scratchArea_wf (a n : Nat) (h : Memory.wf s.mem = true) : Memory.wf (s.scratchArea a n).mem = true := by
  unfold State.scratchArea
  split
  · exact h
  · exact SMap.wf_filter _ h

/-- Setting the state of a word keeps the canonical form of the words' states. -/
theorem State.setBad_wf (a : Nat) (b : Bad) (h : SMap.wf s.bad (fun _ => Bad.ok) = true) :
    SMap.wf (s.setBad a b).bad (fun _ => Bad.ok) = true := SMap.wf_set _ _ h

/-- A property that every step of a fold keeps holds after the fold. -/
theorem foldl_keeps {α : Type} (p : State → Prop) (f : State → α → State) (l : List α) (hf : ∀ s x, p s → p (f s x))
    (h : p s) : p (l.foldl f s) := by
  induction l generalizing s with
  | nil => exact h
  | cons x t ih => exact ih _ (hf _ _ h)

theorem State.setBadRange_wf (a n : Nat) (b : Bad) (h : SMap.wf s.bad (fun _ => Bad.ok) = true) :
    SMap.wf (s.setBadRange a n b).bad (fun _ => Bad.ok) = true :=
  foldl_keeps s (fun t => SMap.wf t.bad (fun _ => Bad.ok) = true) _ _ (fun t w ht => State.setBad_wf t w b ht) h

@[simp] theorem State.setBadRange_mem (a n : Nat) (b : Bad) : (s.setBadRange a n b).mem = s.mem :=
  foldl_keeps s (fun t => t.mem = s.mem) _ _ (fun _ _ ht => ht) rfl

/-- The stores of a write under SECDED: the words' states change word by word. -/
theorem State.storeBytes_mem (a : Nat) (bs : Bytes) (p : Bool) : (s.storeBytes a bs p).mem = memPut s.mem a bs := by
  unfold State.storeBytes
  refine foldl_keeps (s.writeBytes a bs) (fun t => t.mem = memPut s.mem a bs) _ _ (fun t w ht => ?_) rfl
  split
  · exact ht
  · split <;> exact ht

theorem State.storeBytes_wf (a : Nat) (bs : Bytes) (p : Bool) (h : Memory.wf s.mem = true) :
    Memory.wf (s.storeBytes a bs p).mem = true := by
  rw [State.storeBytes_mem]; exact memPut_wf a bs h

theorem State.storeBytes_bad_wf (a : Nat) (bs : Bytes) (p : Bool) (h : SMap.wf s.bad (fun _ => Bad.ok) = true) :
    SMap.wf (s.storeBytes a bs p).bad (fun _ => Bad.ok) = true := by
  unfold State.storeBytes
  refine foldl_keeps (s.writeBytes a bs) (fun t => SMap.wf t.bad (fun _ => Bad.ok) = true) _ _ (fun t w ht => ?_) h
  split
  · exact State.setBad_wf _ _ _ ht
  · split
    · exact State.setBad_wf _ _ _ ht
    · exact ht

/-! ### Steps -/

@[simp] theorem State.run_on (f : State → State) (h : s.pins.pwrGood = true) : s.run f = .next (f s) := by
  simp [State.run, h]

@[simp] theorem State.run_off (f : State → State) (h : s.pins.pwrGood = false) : s.run f = .next s := by
  simp [State.run, h]

@[simp] theorem State.runCore_on (f : State → State) (h : s.pins.pwrGood = true) (hc : s.coreRuns = true) :
    s.runCore f = .next (f s) := by
  simp [State.runCore, h, hc]

@[simp] theorem State.runOn_on (k : Nat) (f : State → State) (h : s.pins.pwrGood = true) (hc : s.clockStops k = false) :
    s.runOn k f = .next (f s) := by
  simp [State.runOn, h, hc]

@[simp] theorem State.runOn_stopped (k : Nat) (f : State → State) (hc : s.clockStops k = true) : s.runOn k f = .next s := by
  simp [State.runOn, hc]

/-! ### What a raised code and a completion leave alone, field by field -/

@[simp] theorem State.alert_tb (c : Nat) : (s.alert c).tb = s.tb := by
  obtain ⟨_, _, h⟩ := State.alert_frame s c; rw [h]
@[simp] theorem State.alert_free (c : Nat) : (s.alert c).free = s.free := by
  obtain ⟨_, _, h⟩ := State.alert_frame s c; rw [h]
@[simp] theorem State.alert_staged (c : Nat) : (s.alert c).staged = s.staged := by
  obtain ⟨_, _, h⟩ := State.alert_frame s c; rw [h]
@[simp] theorem State.alert_rake (c : Nat) : (s.alert c).rake = s.rake := by
  obtain ⟨_, _, h⟩ := State.alert_frame s c; rw [h]
@[simp] theorem State.alert_rakeMask (c : Nat) : (s.alert c).rakeMask = s.rakeMask := by
  obtain ⟨_, _, h⟩ := State.alert_frame s c; rw [h]
@[simp] theorem State.alert_log (c : Nat) : (s.alert c).log = s.log := by
  obtain ⟨_, _, h⟩ := State.alert_frame s c; rw [h]
@[simp] theorem State.alert_mem (c : Nat) : (s.alert c).mem = s.mem := by
  obtain ⟨_, _, h⟩ := State.alert_frame s c; rw [h]
@[simp] theorem State.alert_bad (c : Nat) : (s.alert c).bad = s.bad := by
  obtain ⟨_, _, h⟩ := State.alert_frame s c; rw [h]
@[simp] theorem State.alert_scratch (c : Nat) : (s.alert c).scratch = s.scratch := by
  obtain ⟨_, _, h⟩ := State.alert_frame s c; rw [h]
@[simp] theorem State.alert_fuses (c : Nat) : (s.alert c).fuses = s.fuses := by
  obtain ⟨_, _, h⟩ := State.alert_frame s c; rw [h]
@[simp] theorem State.alert_tap (c : Nat) : (s.alert c).tap = s.tap := by
  obtain ⟨_, _, h⟩ := State.alert_frame s c; rw [h]
@[simp] theorem State.alert_counters (c : Nat) : (s.alert c).counters = s.counters := by
  obtain ⟨_, _, h⟩ := State.alert_frame s c; rw [h]
@[simp] theorem State.alert_routers (c : Nat) : (s.alert c).routers = s.routers := by
  obtain ⟨_, _, h⟩ := State.alert_frame s c; rw [h]
@[simp] theorem State.alert_coreOn (c : Nat) : (s.alert c).coreOn = s.coreOn := by
  obtain ⟨_, _, h⟩ := State.alert_frame s c; rw [h]
@[simp] theorem State.alert_channels (c : Nat) : (s.alert c).channels = s.channels := by
  obtain ⟨_, _, h⟩ := State.alert_frame s c; rw [h]
@[simp] theorem State.alert_brineScans (c : Nat) : (s.alert c).brineScans = s.brineScans := by
  obtain ⟨_, _, h⟩ := State.alert_frame s c; rw [h]
@[simp] theorem State.alert_brineKept (c : Nat) : (s.alert c).brineKept = s.brineKept := by
  obtain ⟨_, _, h⟩ := State.alert_frame s c; rw [h]
@[simp] theorem State.alert_pools (c : Nat) : (s.alert c).pools = s.pools := by
  obtain ⟨_, _, h⟩ := State.alert_frame s c; rw [h]
@[simp] theorem State.alert_queues (c : Nat) : (s.alert c).queues = s.queues := by
  obtain ⟨_, _, h⟩ := State.alert_frame s c; rw [h]
@[simp] theorem State.alert_arrays (c : Nat) : (s.alert c).arrays = s.arrays := by
  obtain ⟨_, _, h⟩ := State.alert_frame s c; rw [h]
@[simp] theorem State.alert_spoilt (c : Nat) : (s.alert c).spoilt = s.spoilt := by
  obtain ⟨_, _, h⟩ := State.alert_frame s c; rw [h]
@[simp] theorem State.alert_chains (c : Nat) : (s.alert c).chains = s.chains := by
  obtain ⟨_, _, h⟩ := State.alert_frame s c; rw [h]
@[simp] theorem State.alert_regions (c : Nat) : (s.alert c).regions = s.regions := by
  obtain ⟨_, _, h⟩ := State.alert_frame s c; rw [h]
@[simp] theorem State.alert_pumps (c : Nat) : (s.alert c).pumps = s.pumps := by
  obtain ⟨_, _, h⟩ := State.alert_frame s c; rw [h]
@[simp] theorem State.alert_pumpSeq (c : Nat) : (s.alert c).pumpSeq = s.pumpSeq := by
  obtain ⟨_, _, h⟩ := State.alert_frame s c; rw [h]
@[simp] theorem State.alert_outstanding (c : Nat) : (s.alert c).outstanding = s.outstanding := by
  obtain ⟨_, _, h⟩ := State.alert_frame s c; rw [h]
@[simp] theorem State.alert_nextReq (c : Nat) : (s.alert c).nextReq = s.nextReq := by
  obtain ⟨_, _, h⟩ := State.alert_frame s c; rw [h]
@[simp] theorem State.alert_sources (c : Nat) : (s.alert c).sources = s.sources := by
  obtain ⟨_, _, h⟩ := State.alert_frame s c; rw [h]
@[simp] theorem State.alert_injected (c : Nat) : (s.alert c).injected = s.injected := by
  obtain ⟨_, _, h⟩ := State.alert_frame s c; rw [h]
@[simp] theorem State.alert_lports (c : Nat) : (s.alert c).lports = s.lports := by
  obtain ⟨_, _, h⟩ := State.alert_frame s c; rw [h]
@[simp] theorem State.alert_sending (c : Nat) : (s.alert c).sending = s.sending := by
  obtain ⟨_, _, h⟩ := State.alert_frame s c; rw [h]
@[simp] theorem State.alert_bound (c : Nat) : (s.alert c).bound = s.bound := by
  obtain ⟨_, _, h⟩ := State.alert_frame s c; rw [h]
@[simp] theorem State.alert_routes (c : Nat) : (s.alert c).routes = s.routes := by
  obtain ⟨_, _, h⟩ := State.alert_frame s c; rw [h]
@[simp] theorem State.alert_sluices (c : Nat) : (s.alert c).sluices = s.sluices := by
  obtain ⟨_, _, h⟩ := State.alert_frame s c; rw [h]
@[simp] theorem State.alert_sluiceLocked (c : Nat) : (s.alert c).sluiceLocked = s.sluiceLocked := by
  obtain ⟨_, _, h⟩ := State.alert_frame s c; rw [h]
@[simp] theorem State.alert_ranks (c : Nat) : (s.alert c).ranks = s.ranks := by
  obtain ⟨_, _, h⟩ := State.alert_frame s c; rw [h]
@[simp] theorem State.alert_qps (c : Nat) : (s.alert c).qps = s.qps := by
  obtain ⟨_, _, h⟩ := State.alert_frame s c; rw [h]
@[simp] theorem State.alert_ethPorts (c : Nat) : (s.alert c).ethPorts = s.ethPorts := by
  obtain ⟨_, _, h⟩ := State.alert_frame s c; rw [h]
@[simp] theorem State.alert_colls (c : Nat) : (s.alert c).colls = s.colls := by
  obtain ⟨_, _, h⟩ := State.alert_frame s c; rw [h]
@[simp] theorem State.alert_chunkHeaders (c : Nat) : (s.alert c).chunkHeaders = s.chunkHeaders := by
  obtain ⟨_, _, h⟩ := State.alert_frame s c; rw [h]
@[simp] theorem State.alert_voidNextCode (c : Nat) : (s.alert c).voidNextCode = s.voidNextCode := by
  obtain ⟨_, _, h⟩ := State.alert_frame s c; rw [h]
@[simp] theorem State.alert_seqs (c : Nat) : (s.alert c).seqs = s.seqs := by
  obtain ⟨_, _, h⟩ := State.alert_frame s c; rw [h]
@[simp] theorem State.alert_imem (c : Nat) : (s.alert c).imem = s.imem := by
  obtain ⟨_, _, h⟩ := State.alert_frame s c; rw [h]
@[simp] theorem State.alert_torn (c : Nat) : (s.alert c).torn = s.torn := by
  obtain ⟨_, _, h⟩ := State.alert_frame s c; rw [h]
@[simp] theorem State.alert_parts (c : Nat) : (s.alert c).parts = s.parts := by
  obtain ⟨_, _, h⟩ := State.alert_frame s c; rw [h]
@[simp] theorem State.alert_launches (c : Nat) : (s.alert c).launches = s.launches := by
  obtain ⟨_, _, h⟩ := State.alert_frame s c; rw [h]
@[simp] theorem State.alert_pends (c : Nat) : (s.alert c).pends = s.pends := by
  obtain ⟨_, _, h⟩ := State.alert_frame s c; rw [h]
@[simp] theorem State.alert_fills (c : Nat) : (s.alert c).fills = s.fills := by
  obtain ⟨_, _, h⟩ := State.alert_frame s c; rw [h]
@[simp] theorem State.alert_detBuffer (c : Nat) : (s.alert c).detBuffer = s.detBuffer := by
  obtain ⟨_, _, h⟩ := State.alert_frame s c; rw [h]
@[simp] theorem State.alert_detTail (c : Nat) : (s.alert c).detTail = s.detTail := by
  obtain ⟨_, _, h⟩ := State.alert_frame s c; rw [h]
@[simp] theorem State.alert_detTailBad (c : Nat) : (s.alert c).detTailBad = s.detTailBad := by
  obtain ⟨_, _, h⟩ := State.alert_frame s c; rw [h]
@[simp] theorem State.alert_pins (c : Nat) : (s.alert c).pins = s.pins := by
  obtain ⟨_, _, h⟩ := State.alert_frame s c; rw [h]
@[simp] theorem State.alert_clock (c : Nat) : (s.alert c).clock = s.clock := by
  obtain ⟨_, _, h⟩ := State.alert_frame s c; rw [h]
@[simp] theorem State.alert_sensors (c : Nat) : (s.alert c).sensors = s.sensors := by
  obtain ⟨_, _, h⟩ := State.alert_frame s c; rw [h]
@[simp] theorem State.alert_flash (c : Nat) : (s.alert c).flash = s.flash := by
  obtain ⟨_, _, h⟩ := State.alert_frame s c; rw [h]
@[simp] theorem State.alert_mgmt (c : Nat) : (s.alert c).mgmt = s.mgmt := by
  obtain ⟨_, _, h⟩ := State.alert_frame s c; rw [h]
@[simp] theorem State.alert_ras (c : Nat) : (s.alert c).ras = s.ras := by
  obtain ⟨_, _, h⟩ := State.alert_frame s c; rw [h]
@[simp] theorem State.alert_out (c : Nat) : (s.alert c).out = s.out := by
  obtain ⟨_, _, h⟩ := State.alert_frame s c; rw [h]
@[simp] theorem State.alert_inputs (c : Nat) : (s.alert c).inputs = s.inputs := by
  obtain ⟨_, _, h⟩ := State.alert_frame s c; rw [h]
@[simp] theorem State.alert_pending (c : Nat) : (s.alert c).pending = s.pending := by
  obtain ⟨_, _, h⟩ := State.alert_frame s c; rw [h]

@[simp] theorem State.raise_tb (t : Site) (c d : Nat) : (s.raise t c d).tb = s.tb := by
  obtain ⟨_, _, _, h⟩ := State.raise_frame s t c d; rw [h]
@[simp] theorem State.raise_free (t : Site) (c d : Nat) : (s.raise t c d).free = s.free := by
  obtain ⟨_, _, _, h⟩ := State.raise_frame s t c d; rw [h]
@[simp] theorem State.raise_staged (t : Site) (c d : Nat) : (s.raise t c d).staged = s.staged := by
  obtain ⟨_, _, _, h⟩ := State.raise_frame s t c d; rw [h]
@[simp] theorem State.raise_rake (t : Site) (c d : Nat) : (s.raise t c d).rake = s.rake := by
  obtain ⟨_, _, _, h⟩ := State.raise_frame s t c d; rw [h]
@[simp] theorem State.raise_rakeMask (t : Site) (c d : Nat) : (s.raise t c d).rakeMask = s.rakeMask := by
  obtain ⟨_, _, _, h⟩ := State.raise_frame s t c d; rw [h]
@[simp] theorem State.raise_mem (t : Site) (c d : Nat) : (s.raise t c d).mem = s.mem := by
  obtain ⟨_, _, _, h⟩ := State.raise_frame s t c d; rw [h]
@[simp] theorem State.raise_bad (t : Site) (c d : Nat) : (s.raise t c d).bad = s.bad := by
  obtain ⟨_, _, _, h⟩ := State.raise_frame s t c d; rw [h]
@[simp] theorem State.raise_scratch (t : Site) (c d : Nat) : (s.raise t c d).scratch = s.scratch := by
  obtain ⟨_, _, _, h⟩ := State.raise_frame s t c d; rw [h]
@[simp] theorem State.raise_fuses (t : Site) (c d : Nat) : (s.raise t c d).fuses = s.fuses := by
  obtain ⟨_, _, _, h⟩ := State.raise_frame s t c d; rw [h]
@[simp] theorem State.raise_tap (t : Site) (c d : Nat) : (s.raise t c d).tap = s.tap := by
  obtain ⟨_, _, _, h⟩ := State.raise_frame s t c d; rw [h]
@[simp] theorem State.raise_counters (t : Site) (c d : Nat) : (s.raise t c d).counters = s.counters := by
  obtain ⟨_, _, _, h⟩ := State.raise_frame s t c d; rw [h]
@[simp] theorem State.raise_routers (t : Site) (c d : Nat) : (s.raise t c d).routers = s.routers := by
  obtain ⟨_, _, _, h⟩ := State.raise_frame s t c d; rw [h]
@[simp] theorem State.raise_coreOn (t : Site) (c d : Nat) : (s.raise t c d).coreOn = s.coreOn := by
  obtain ⟨_, _, _, h⟩ := State.raise_frame s t c d; rw [h]
@[simp] theorem State.raise_channels (t : Site) (c d : Nat) : (s.raise t c d).channels = s.channels := by
  obtain ⟨_, _, _, h⟩ := State.raise_frame s t c d; rw [h]
@[simp] theorem State.raise_brineScans (t : Site) (c d : Nat) : (s.raise t c d).brineScans = s.brineScans := by
  obtain ⟨_, _, _, h⟩ := State.raise_frame s t c d; rw [h]
@[simp] theorem State.raise_brineKept (t : Site) (c d : Nat) : (s.raise t c d).brineKept = s.brineKept := by
  obtain ⟨_, _, _, h⟩ := State.raise_frame s t c d; rw [h]
@[simp] theorem State.raise_pools (t : Site) (c d : Nat) : (s.raise t c d).pools = s.pools := by
  obtain ⟨_, _, _, h⟩ := State.raise_frame s t c d; rw [h]
@[simp] theorem State.raise_queues (t : Site) (c d : Nat) : (s.raise t c d).queues = s.queues := by
  obtain ⟨_, _, _, h⟩ := State.raise_frame s t c d; rw [h]
@[simp] theorem State.raise_arrays (t : Site) (c d : Nat) : (s.raise t c d).arrays = s.arrays := by
  obtain ⟨_, _, _, h⟩ := State.raise_frame s t c d; rw [h]
@[simp] theorem State.raise_spoilt (t : Site) (c d : Nat) : (s.raise t c d).spoilt = s.spoilt := by
  obtain ⟨_, _, _, h⟩ := State.raise_frame s t c d; rw [h]
@[simp] theorem State.raise_chains (t : Site) (c d : Nat) : (s.raise t c d).chains = s.chains := by
  obtain ⟨_, _, _, h⟩ := State.raise_frame s t c d; rw [h]
@[simp] theorem State.raise_regions (t : Site) (c d : Nat) : (s.raise t c d).regions = s.regions := by
  obtain ⟨_, _, _, h⟩ := State.raise_frame s t c d; rw [h]
@[simp] theorem State.raise_pumps (t : Site) (c d : Nat) : (s.raise t c d).pumps = s.pumps := by
  obtain ⟨_, _, _, h⟩ := State.raise_frame s t c d; rw [h]
@[simp] theorem State.raise_pumpSeq (t : Site) (c d : Nat) : (s.raise t c d).pumpSeq = s.pumpSeq := by
  obtain ⟨_, _, _, h⟩ := State.raise_frame s t c d; rw [h]
@[simp] theorem State.raise_outstanding (t : Site) (c d : Nat) : (s.raise t c d).outstanding = s.outstanding := by
  obtain ⟨_, _, _, h⟩ := State.raise_frame s t c d; rw [h]
@[simp] theorem State.raise_nextReq (t : Site) (c d : Nat) : (s.raise t c d).nextReq = s.nextReq := by
  obtain ⟨_, _, _, h⟩ := State.raise_frame s t c d; rw [h]
@[simp] theorem State.raise_sources (t : Site) (c d : Nat) : (s.raise t c d).sources = s.sources := by
  obtain ⟨_, _, _, h⟩ := State.raise_frame s t c d; rw [h]
@[simp] theorem State.raise_injected (t : Site) (c d : Nat) : (s.raise t c d).injected = s.injected := by
  obtain ⟨_, _, _, h⟩ := State.raise_frame s t c d; rw [h]
@[simp] theorem State.raise_lports (t : Site) (c d : Nat) : (s.raise t c d).lports = s.lports := by
  obtain ⟨_, _, _, h⟩ := State.raise_frame s t c d; rw [h]
@[simp] theorem State.raise_sending (t : Site) (c d : Nat) : (s.raise t c d).sending = s.sending := by
  obtain ⟨_, _, _, h⟩ := State.raise_frame s t c d; rw [h]
@[simp] theorem State.raise_bound (t : Site) (c d : Nat) : (s.raise t c d).bound = s.bound := by
  obtain ⟨_, _, _, h⟩ := State.raise_frame s t c d; rw [h]
@[simp] theorem State.raise_routes (t : Site) (c d : Nat) : (s.raise t c d).routes = s.routes := by
  obtain ⟨_, _, _, h⟩ := State.raise_frame s t c d; rw [h]
@[simp] theorem State.raise_sluices (t : Site) (c d : Nat) : (s.raise t c d).sluices = s.sluices := by
  obtain ⟨_, _, _, h⟩ := State.raise_frame s t c d; rw [h]
@[simp] theorem State.raise_sluiceLocked (t : Site) (c d : Nat) : (s.raise t c d).sluiceLocked = s.sluiceLocked := by
  obtain ⟨_, _, _, h⟩ := State.raise_frame s t c d; rw [h]
@[simp] theorem State.raise_ranks (t : Site) (c d : Nat) : (s.raise t c d).ranks = s.ranks := by
  obtain ⟨_, _, _, h⟩ := State.raise_frame s t c d; rw [h]
@[simp] theorem State.raise_qps (t : Site) (c d : Nat) : (s.raise t c d).qps = s.qps := by
  obtain ⟨_, _, _, h⟩ := State.raise_frame s t c d; rw [h]
@[simp] theorem State.raise_ethPorts (t : Site) (c d : Nat) : (s.raise t c d).ethPorts = s.ethPorts := by
  obtain ⟨_, _, _, h⟩ := State.raise_frame s t c d; rw [h]
@[simp] theorem State.raise_colls (t : Site) (c d : Nat) : (s.raise t c d).colls = s.colls := by
  obtain ⟨_, _, _, h⟩ := State.raise_frame s t c d; rw [h]
@[simp] theorem State.raise_chunkHeaders (t : Site) (c d : Nat) : (s.raise t c d).chunkHeaders = s.chunkHeaders := by
  obtain ⟨_, _, _, h⟩ := State.raise_frame s t c d; rw [h]
@[simp] theorem State.raise_voidNextCode (t : Site) (c d : Nat) : (s.raise t c d).voidNextCode = s.voidNextCode := by
  obtain ⟨_, _, _, h⟩ := State.raise_frame s t c d; rw [h]
@[simp] theorem State.raise_seqs (t : Site) (c d : Nat) : (s.raise t c d).seqs = s.seqs := by
  obtain ⟨_, _, _, h⟩ := State.raise_frame s t c d; rw [h]
@[simp] theorem State.raise_imem (t : Site) (c d : Nat) : (s.raise t c d).imem = s.imem := by
  obtain ⟨_, _, _, h⟩ := State.raise_frame s t c d; rw [h]
@[simp] theorem State.raise_torn (t : Site) (c d : Nat) : (s.raise t c d).torn = s.torn := by
  obtain ⟨_, _, _, h⟩ := State.raise_frame s t c d; rw [h]
@[simp] theorem State.raise_parts (t : Site) (c d : Nat) : (s.raise t c d).parts = s.parts := by
  obtain ⟨_, _, _, h⟩ := State.raise_frame s t c d; rw [h]
@[simp] theorem State.raise_launches (t : Site) (c d : Nat) : (s.raise t c d).launches = s.launches := by
  obtain ⟨_, _, _, h⟩ := State.raise_frame s t c d; rw [h]
@[simp] theorem State.raise_pends (t : Site) (c d : Nat) : (s.raise t c d).pends = s.pends := by
  obtain ⟨_, _, _, h⟩ := State.raise_frame s t c d; rw [h]
@[simp] theorem State.raise_fills (t : Site) (c d : Nat) : (s.raise t c d).fills = s.fills := by
  obtain ⟨_, _, _, h⟩ := State.raise_frame s t c d; rw [h]
@[simp] theorem State.raise_detBuffer (t : Site) (c d : Nat) : (s.raise t c d).detBuffer = s.detBuffer := by
  obtain ⟨_, _, _, h⟩ := State.raise_frame s t c d; rw [h]
@[simp] theorem State.raise_detTail (t : Site) (c d : Nat) : (s.raise t c d).detTail = s.detTail := by
  obtain ⟨_, _, _, h⟩ := State.raise_frame s t c d; rw [h]
@[simp] theorem State.raise_detTailBad (t : Site) (c d : Nat) : (s.raise t c d).detTailBad = s.detTailBad := by
  obtain ⟨_, _, _, h⟩ := State.raise_frame s t c d; rw [h]
@[simp] theorem State.raise_pins (t : Site) (c d : Nat) : (s.raise t c d).pins = s.pins := by
  obtain ⟨_, _, _, h⟩ := State.raise_frame s t c d; rw [h]
@[simp] theorem State.raise_clock (t : Site) (c d : Nat) : (s.raise t c d).clock = s.clock := by
  obtain ⟨_, _, _, h⟩ := State.raise_frame s t c d; rw [h]
@[simp] theorem State.raise_sensors (t : Site) (c d : Nat) : (s.raise t c d).sensors = s.sensors := by
  obtain ⟨_, _, _, h⟩ := State.raise_frame s t c d; rw [h]
@[simp] theorem State.raise_flash (t : Site) (c d : Nat) : (s.raise t c d).flash = s.flash := by
  obtain ⟨_, _, _, h⟩ := State.raise_frame s t c d; rw [h]
@[simp] theorem State.raise_mgmt (t : Site) (c d : Nat) : (s.raise t c d).mgmt = s.mgmt := by
  obtain ⟨_, _, _, h⟩ := State.raise_frame s t c d; rw [h]
@[simp] theorem State.raise_ras (t : Site) (c d : Nat) : (s.raise t c d).ras = s.ras := by
  obtain ⟨_, _, _, h⟩ := State.raise_frame s t c d; rw [h]
@[simp] theorem State.raise_out (t : Site) (c d : Nat) : (s.raise t c d).out = s.out := by
  obtain ⟨_, _, _, h⟩ := State.raise_frame s t c d; rw [h]
@[simp] theorem State.raise_inputs (t : Site) (c d : Nat) : (s.raise t c d).inputs = s.inputs := by
  obtain ⟨_, _, _, h⟩ := State.raise_frame s t c d; rw [h]
@[simp] theorem State.raise_pending (t : Site) (c d : Nat) : (s.raise t c d).pending = s.pending := by
  obtain ⟨_, _, _, h⟩ := State.raise_frame s t c d; rw [h]

@[simp] theorem State.raiseOpt_tb (t : Site) (c d : Nat) : (s.raiseOpt t c d).tb = s.tb := by
  obtain ⟨_, _, _, h⟩ := State.raiseOpt_frame s t c d; rw [h]
@[simp] theorem State.raiseOpt_free (t : Site) (c d : Nat) : (s.raiseOpt t c d).free = s.free := by
  obtain ⟨_, _, _, h⟩ := State.raiseOpt_frame s t c d; rw [h]
@[simp] theorem State.raiseOpt_staged (t : Site) (c d : Nat) : (s.raiseOpt t c d).staged = s.staged := by
  obtain ⟨_, _, _, h⟩ := State.raiseOpt_frame s t c d; rw [h]
@[simp] theorem State.raiseOpt_rake (t : Site) (c d : Nat) : (s.raiseOpt t c d).rake = s.rake := by
  obtain ⟨_, _, _, h⟩ := State.raiseOpt_frame s t c d; rw [h]
@[simp] theorem State.raiseOpt_rakeMask (t : Site) (c d : Nat) : (s.raiseOpt t c d).rakeMask = s.rakeMask := by
  obtain ⟨_, _, _, h⟩ := State.raiseOpt_frame s t c d; rw [h]
@[simp] theorem State.raiseOpt_mem (t : Site) (c d : Nat) : (s.raiseOpt t c d).mem = s.mem := by
  obtain ⟨_, _, _, h⟩ := State.raiseOpt_frame s t c d; rw [h]
@[simp] theorem State.raiseOpt_bad (t : Site) (c d : Nat) : (s.raiseOpt t c d).bad = s.bad := by
  obtain ⟨_, _, _, h⟩ := State.raiseOpt_frame s t c d; rw [h]
@[simp] theorem State.raiseOpt_scratch (t : Site) (c d : Nat) : (s.raiseOpt t c d).scratch = s.scratch := by
  obtain ⟨_, _, _, h⟩ := State.raiseOpt_frame s t c d; rw [h]
@[simp] theorem State.raiseOpt_fuses (t : Site) (c d : Nat) : (s.raiseOpt t c d).fuses = s.fuses := by
  obtain ⟨_, _, _, h⟩ := State.raiseOpt_frame s t c d; rw [h]
@[simp] theorem State.raiseOpt_tap (t : Site) (c d : Nat) : (s.raiseOpt t c d).tap = s.tap := by
  obtain ⟨_, _, _, h⟩ := State.raiseOpt_frame s t c d; rw [h]
@[simp] theorem State.raiseOpt_counters (t : Site) (c d : Nat) : (s.raiseOpt t c d).counters = s.counters := by
  obtain ⟨_, _, _, h⟩ := State.raiseOpt_frame s t c d; rw [h]
@[simp] theorem State.raiseOpt_routers (t : Site) (c d : Nat) : (s.raiseOpt t c d).routers = s.routers := by
  obtain ⟨_, _, _, h⟩ := State.raiseOpt_frame s t c d; rw [h]
@[simp] theorem State.raiseOpt_coreOn (t : Site) (c d : Nat) : (s.raiseOpt t c d).coreOn = s.coreOn := by
  obtain ⟨_, _, _, h⟩ := State.raiseOpt_frame s t c d; rw [h]
@[simp] theorem State.raiseOpt_channels (t : Site) (c d : Nat) : (s.raiseOpt t c d).channels = s.channels := by
  obtain ⟨_, _, _, h⟩ := State.raiseOpt_frame s t c d; rw [h]
@[simp] theorem State.raiseOpt_brineScans (t : Site) (c d : Nat) : (s.raiseOpt t c d).brineScans = s.brineScans := by
  obtain ⟨_, _, _, h⟩ := State.raiseOpt_frame s t c d; rw [h]
@[simp] theorem State.raiseOpt_brineKept (t : Site) (c d : Nat) : (s.raiseOpt t c d).brineKept = s.brineKept := by
  obtain ⟨_, _, _, h⟩ := State.raiseOpt_frame s t c d; rw [h]
@[simp] theorem State.raiseOpt_pools (t : Site) (c d : Nat) : (s.raiseOpt t c d).pools = s.pools := by
  obtain ⟨_, _, _, h⟩ := State.raiseOpt_frame s t c d; rw [h]
@[simp] theorem State.raiseOpt_queues (t : Site) (c d : Nat) : (s.raiseOpt t c d).queues = s.queues := by
  obtain ⟨_, _, _, h⟩ := State.raiseOpt_frame s t c d; rw [h]
@[simp] theorem State.raiseOpt_arrays (t : Site) (c d : Nat) : (s.raiseOpt t c d).arrays = s.arrays := by
  obtain ⟨_, _, _, h⟩ := State.raiseOpt_frame s t c d; rw [h]
@[simp] theorem State.raiseOpt_spoilt (t : Site) (c d : Nat) : (s.raiseOpt t c d).spoilt = s.spoilt := by
  obtain ⟨_, _, _, h⟩ := State.raiseOpt_frame s t c d; rw [h]
@[simp] theorem State.raiseOpt_chains (t : Site) (c d : Nat) : (s.raiseOpt t c d).chains = s.chains := by
  obtain ⟨_, _, _, h⟩ := State.raiseOpt_frame s t c d; rw [h]
@[simp] theorem State.raiseOpt_regions (t : Site) (c d : Nat) : (s.raiseOpt t c d).regions = s.regions := by
  obtain ⟨_, _, _, h⟩ := State.raiseOpt_frame s t c d; rw [h]
@[simp] theorem State.raiseOpt_pumps (t : Site) (c d : Nat) : (s.raiseOpt t c d).pumps = s.pumps := by
  obtain ⟨_, _, _, h⟩ := State.raiseOpt_frame s t c d; rw [h]
@[simp] theorem State.raiseOpt_pumpSeq (t : Site) (c d : Nat) : (s.raiseOpt t c d).pumpSeq = s.pumpSeq := by
  obtain ⟨_, _, _, h⟩ := State.raiseOpt_frame s t c d; rw [h]
@[simp] theorem State.raiseOpt_outstanding (t : Site) (c d : Nat) : (s.raiseOpt t c d).outstanding = s.outstanding := by
  obtain ⟨_, _, _, h⟩ := State.raiseOpt_frame s t c d; rw [h]
@[simp] theorem State.raiseOpt_nextReq (t : Site) (c d : Nat) : (s.raiseOpt t c d).nextReq = s.nextReq := by
  obtain ⟨_, _, _, h⟩ := State.raiseOpt_frame s t c d; rw [h]
@[simp] theorem State.raiseOpt_sources (t : Site) (c d : Nat) : (s.raiseOpt t c d).sources = s.sources := by
  obtain ⟨_, _, _, h⟩ := State.raiseOpt_frame s t c d; rw [h]
@[simp] theorem State.raiseOpt_injected (t : Site) (c d : Nat) : (s.raiseOpt t c d).injected = s.injected := by
  obtain ⟨_, _, _, h⟩ := State.raiseOpt_frame s t c d; rw [h]
@[simp] theorem State.raiseOpt_lports (t : Site) (c d : Nat) : (s.raiseOpt t c d).lports = s.lports := by
  obtain ⟨_, _, _, h⟩ := State.raiseOpt_frame s t c d; rw [h]
@[simp] theorem State.raiseOpt_sending (t : Site) (c d : Nat) : (s.raiseOpt t c d).sending = s.sending := by
  obtain ⟨_, _, _, h⟩ := State.raiseOpt_frame s t c d; rw [h]
@[simp] theorem State.raiseOpt_bound (t : Site) (c d : Nat) : (s.raiseOpt t c d).bound = s.bound := by
  obtain ⟨_, _, _, h⟩ := State.raiseOpt_frame s t c d; rw [h]
@[simp] theorem State.raiseOpt_routes (t : Site) (c d : Nat) : (s.raiseOpt t c d).routes = s.routes := by
  obtain ⟨_, _, _, h⟩ := State.raiseOpt_frame s t c d; rw [h]
@[simp] theorem State.raiseOpt_sluices (t : Site) (c d : Nat) : (s.raiseOpt t c d).sluices = s.sluices := by
  obtain ⟨_, _, _, h⟩ := State.raiseOpt_frame s t c d; rw [h]
@[simp] theorem State.raiseOpt_sluiceLocked (t : Site) (c d : Nat) : (s.raiseOpt t c d).sluiceLocked = s.sluiceLocked := by
  obtain ⟨_, _, _, h⟩ := State.raiseOpt_frame s t c d; rw [h]
@[simp] theorem State.raiseOpt_ranks (t : Site) (c d : Nat) : (s.raiseOpt t c d).ranks = s.ranks := by
  obtain ⟨_, _, _, h⟩ := State.raiseOpt_frame s t c d; rw [h]
@[simp] theorem State.raiseOpt_qps (t : Site) (c d : Nat) : (s.raiseOpt t c d).qps = s.qps := by
  obtain ⟨_, _, _, h⟩ := State.raiseOpt_frame s t c d; rw [h]
@[simp] theorem State.raiseOpt_ethPorts (t : Site) (c d : Nat) : (s.raiseOpt t c d).ethPorts = s.ethPorts := by
  obtain ⟨_, _, _, h⟩ := State.raiseOpt_frame s t c d; rw [h]
@[simp] theorem State.raiseOpt_colls (t : Site) (c d : Nat) : (s.raiseOpt t c d).colls = s.colls := by
  obtain ⟨_, _, _, h⟩ := State.raiseOpt_frame s t c d; rw [h]
@[simp] theorem State.raiseOpt_chunkHeaders (t : Site) (c d : Nat) : (s.raiseOpt t c d).chunkHeaders = s.chunkHeaders := by
  obtain ⟨_, _, _, h⟩ := State.raiseOpt_frame s t c d; rw [h]
@[simp] theorem State.raiseOpt_voidNextCode (t : Site) (c d : Nat) : (s.raiseOpt t c d).voidNextCode = s.voidNextCode := by
  obtain ⟨_, _, _, h⟩ := State.raiseOpt_frame s t c d; rw [h]
@[simp] theorem State.raiseOpt_seqs (t : Site) (c d : Nat) : (s.raiseOpt t c d).seqs = s.seqs := by
  obtain ⟨_, _, _, h⟩ := State.raiseOpt_frame s t c d; rw [h]
@[simp] theorem State.raiseOpt_imem (t : Site) (c d : Nat) : (s.raiseOpt t c d).imem = s.imem := by
  obtain ⟨_, _, _, h⟩ := State.raiseOpt_frame s t c d; rw [h]
@[simp] theorem State.raiseOpt_torn (t : Site) (c d : Nat) : (s.raiseOpt t c d).torn = s.torn := by
  obtain ⟨_, _, _, h⟩ := State.raiseOpt_frame s t c d; rw [h]
@[simp] theorem State.raiseOpt_parts (t : Site) (c d : Nat) : (s.raiseOpt t c d).parts = s.parts := by
  obtain ⟨_, _, _, h⟩ := State.raiseOpt_frame s t c d; rw [h]
@[simp] theorem State.raiseOpt_launches (t : Site) (c d : Nat) : (s.raiseOpt t c d).launches = s.launches := by
  obtain ⟨_, _, _, h⟩ := State.raiseOpt_frame s t c d; rw [h]
@[simp] theorem State.raiseOpt_pends (t : Site) (c d : Nat) : (s.raiseOpt t c d).pends = s.pends := by
  obtain ⟨_, _, _, h⟩ := State.raiseOpt_frame s t c d; rw [h]
@[simp] theorem State.raiseOpt_fills (t : Site) (c d : Nat) : (s.raiseOpt t c d).fills = s.fills := by
  obtain ⟨_, _, _, h⟩ := State.raiseOpt_frame s t c d; rw [h]
@[simp] theorem State.raiseOpt_detBuffer (t : Site) (c d : Nat) : (s.raiseOpt t c d).detBuffer = s.detBuffer := by
  obtain ⟨_, _, _, h⟩ := State.raiseOpt_frame s t c d; rw [h]
@[simp] theorem State.raiseOpt_detTail (t : Site) (c d : Nat) : (s.raiseOpt t c d).detTail = s.detTail := by
  obtain ⟨_, _, _, h⟩ := State.raiseOpt_frame s t c d; rw [h]
@[simp] theorem State.raiseOpt_detTailBad (t : Site) (c d : Nat) : (s.raiseOpt t c d).detTailBad = s.detTailBad := by
  obtain ⟨_, _, _, h⟩ := State.raiseOpt_frame s t c d; rw [h]
@[simp] theorem State.raiseOpt_pins (t : Site) (c d : Nat) : (s.raiseOpt t c d).pins = s.pins := by
  obtain ⟨_, _, _, h⟩ := State.raiseOpt_frame s t c d; rw [h]
@[simp] theorem State.raiseOpt_clock (t : Site) (c d : Nat) : (s.raiseOpt t c d).clock = s.clock := by
  obtain ⟨_, _, _, h⟩ := State.raiseOpt_frame s t c d; rw [h]
@[simp] theorem State.raiseOpt_sensors (t : Site) (c d : Nat) : (s.raiseOpt t c d).sensors = s.sensors := by
  obtain ⟨_, _, _, h⟩ := State.raiseOpt_frame s t c d; rw [h]
@[simp] theorem State.raiseOpt_flash (t : Site) (c d : Nat) : (s.raiseOpt t c d).flash = s.flash := by
  obtain ⟨_, _, _, h⟩ := State.raiseOpt_frame s t c d; rw [h]
@[simp] theorem State.raiseOpt_mgmt (t : Site) (c d : Nat) : (s.raiseOpt t c d).mgmt = s.mgmt := by
  obtain ⟨_, _, _, h⟩ := State.raiseOpt_frame s t c d; rw [h]
@[simp] theorem State.raiseOpt_ras (t : Site) (c d : Nat) : (s.raiseOpt t c d).ras = s.ras := by
  obtain ⟨_, _, _, h⟩ := State.raiseOpt_frame s t c d; rw [h]
@[simp] theorem State.raiseOpt_out (t : Site) (c d : Nat) : (s.raiseOpt t c d).out = s.out := by
  obtain ⟨_, _, _, h⟩ := State.raiseOpt_frame s t c d; rw [h]
@[simp] theorem State.raiseOpt_inputs (t : Site) (c d : Nat) : (s.raiseOpt t c d).inputs = s.inputs := by
  obtain ⟨_, _, _, h⟩ := State.raiseOpt_frame s t c d; rw [h]
@[simp] theorem State.raiseOpt_pending (t : Site) (c d : Nat) : (s.raiseOpt t c d).pending = s.pending := by
  obtain ⟨_, _, _, h⟩ := State.raiseOpt_frame s t c d; rw [h]

@[simp] theorem State.complete_tb (i c : Nat) : (s.complete i c).tb = s.tb := by
  obtain ⟨_, h⟩ := State.complete_frame s i c; rw [h]
@[simp] theorem State.complete_free (i c : Nat) : (s.complete i c).free = s.free := by
  obtain ⟨_, h⟩ := State.complete_frame s i c; rw [h]
@[simp] theorem State.complete_regs (i c : Nat) : (s.complete i c).regs = s.regs := by
  obtain ⟨_, h⟩ := State.complete_frame s i c; rw [h]
@[simp] theorem State.complete_staged (i c : Nat) : (s.complete i c).staged = s.staged := by
  obtain ⟨_, h⟩ := State.complete_frame s i c; rw [h]
@[simp] theorem State.complete_rake (i c : Nat) : (s.complete i c).rake = s.rake := by
  obtain ⟨_, h⟩ := State.complete_frame s i c; rw [h]
@[simp] theorem State.complete_rakeMask (i c : Nat) : (s.complete i c).rakeMask = s.rakeMask := by
  obtain ⟨_, h⟩ := State.complete_frame s i c; rw [h]
@[simp] theorem State.complete_log (i c : Nat) : (s.complete i c).log = s.log := by
  obtain ⟨_, h⟩ := State.complete_frame s i c; rw [h]
@[simp] theorem State.complete_mem (i c : Nat) : (s.complete i c).mem = s.mem := by
  obtain ⟨_, h⟩ := State.complete_frame s i c; rw [h]
@[simp] theorem State.complete_bad (i c : Nat) : (s.complete i c).bad = s.bad := by
  obtain ⟨_, h⟩ := State.complete_frame s i c; rw [h]
@[simp] theorem State.complete_scratch (i c : Nat) : (s.complete i c).scratch = s.scratch := by
  obtain ⟨_, h⟩ := State.complete_frame s i c; rw [h]
@[simp] theorem State.complete_fuses (i c : Nat) : (s.complete i c).fuses = s.fuses := by
  obtain ⟨_, h⟩ := State.complete_frame s i c; rw [h]
@[simp] theorem State.complete_tap (i c : Nat) : (s.complete i c).tap = s.tap := by
  obtain ⟨_, h⟩ := State.complete_frame s i c; rw [h]
@[simp] theorem State.complete_routers (i c : Nat) : (s.complete i c).routers = s.routers := by
  obtain ⟨_, h⟩ := State.complete_frame s i c; rw [h]
@[simp] theorem State.complete_coreOn (i c : Nat) : (s.complete i c).coreOn = s.coreOn := by
  obtain ⟨_, h⟩ := State.complete_frame s i c; rw [h]
@[simp] theorem State.complete_channels (i c : Nat) : (s.complete i c).channels = s.channels := by
  obtain ⟨_, h⟩ := State.complete_frame s i c; rw [h]
@[simp] theorem State.complete_brineScans (i c : Nat) : (s.complete i c).brineScans = s.brineScans := by
  obtain ⟨_, h⟩ := State.complete_frame s i c; rw [h]
@[simp] theorem State.complete_brineKept (i c : Nat) : (s.complete i c).brineKept = s.brineKept := by
  obtain ⟨_, h⟩ := State.complete_frame s i c; rw [h]
@[simp] theorem State.complete_pools (i c : Nat) : (s.complete i c).pools = s.pools := by
  obtain ⟨_, h⟩ := State.complete_frame s i c; rw [h]
@[simp] theorem State.complete_queues (i c : Nat) : (s.complete i c).queues = s.queues := by
  obtain ⟨_, h⟩ := State.complete_frame s i c; rw [h]
@[simp] theorem State.complete_arrays (i c : Nat) : (s.complete i c).arrays = s.arrays := by
  obtain ⟨_, h⟩ := State.complete_frame s i c; rw [h]
@[simp] theorem State.complete_spoilt (i c : Nat) : (s.complete i c).spoilt = s.spoilt := by
  obtain ⟨_, h⟩ := State.complete_frame s i c; rw [h]
@[simp] theorem State.complete_chains (i c : Nat) : (s.complete i c).chains = s.chains := by
  obtain ⟨_, h⟩ := State.complete_frame s i c; rw [h]
@[simp] theorem State.complete_regions (i c : Nat) : (s.complete i c).regions = s.regions := by
  obtain ⟨_, h⟩ := State.complete_frame s i c; rw [h]
@[simp] theorem State.complete_pumps (i c : Nat) : (s.complete i c).pumps = s.pumps := by
  obtain ⟨_, h⟩ := State.complete_frame s i c; rw [h]
@[simp] theorem State.complete_pumpSeq (i c : Nat) : (s.complete i c).pumpSeq = s.pumpSeq := by
  obtain ⟨_, h⟩ := State.complete_frame s i c; rw [h]
@[simp] theorem State.complete_outstanding (i c : Nat) : (s.complete i c).outstanding = s.outstanding := by
  obtain ⟨_, h⟩ := State.complete_frame s i c; rw [h]
@[simp] theorem State.complete_nextReq (i c : Nat) : (s.complete i c).nextReq = s.nextReq := by
  obtain ⟨_, h⟩ := State.complete_frame s i c; rw [h]
@[simp] theorem State.complete_sources (i c : Nat) : (s.complete i c).sources = s.sources := by
  obtain ⟨_, h⟩ := State.complete_frame s i c; rw [h]
@[simp] theorem State.complete_injected (i c : Nat) : (s.complete i c).injected = s.injected := by
  obtain ⟨_, h⟩ := State.complete_frame s i c; rw [h]
@[simp] theorem State.complete_lports (i c : Nat) : (s.complete i c).lports = s.lports := by
  obtain ⟨_, h⟩ := State.complete_frame s i c; rw [h]
@[simp] theorem State.complete_sending (i c : Nat) : (s.complete i c).sending = s.sending := by
  obtain ⟨_, h⟩ := State.complete_frame s i c; rw [h]
@[simp] theorem State.complete_bound (i c : Nat) : (s.complete i c).bound = s.bound := by
  obtain ⟨_, h⟩ := State.complete_frame s i c; rw [h]
@[simp] theorem State.complete_routes (i c : Nat) : (s.complete i c).routes = s.routes := by
  obtain ⟨_, h⟩ := State.complete_frame s i c; rw [h]
@[simp] theorem State.complete_sluices (i c : Nat) : (s.complete i c).sluices = s.sluices := by
  obtain ⟨_, h⟩ := State.complete_frame s i c; rw [h]
@[simp] theorem State.complete_sluiceLocked (i c : Nat) : (s.complete i c).sluiceLocked = s.sluiceLocked := by
  obtain ⟨_, h⟩ := State.complete_frame s i c; rw [h]
@[simp] theorem State.complete_ranks (i c : Nat) : (s.complete i c).ranks = s.ranks := by
  obtain ⟨_, h⟩ := State.complete_frame s i c; rw [h]
@[simp] theorem State.complete_qps (i c : Nat) : (s.complete i c).qps = s.qps := by
  obtain ⟨_, h⟩ := State.complete_frame s i c; rw [h]
@[simp] theorem State.complete_ethPorts (i c : Nat) : (s.complete i c).ethPorts = s.ethPorts := by
  obtain ⟨_, h⟩ := State.complete_frame s i c; rw [h]
@[simp] theorem State.complete_colls (i c : Nat) : (s.complete i c).colls = s.colls := by
  obtain ⟨_, h⟩ := State.complete_frame s i c; rw [h]
@[simp] theorem State.complete_chunkHeaders (i c : Nat) : (s.complete i c).chunkHeaders = s.chunkHeaders := by
  obtain ⟨_, h⟩ := State.complete_frame s i c; rw [h]
@[simp] theorem State.complete_voidNextCode (i c : Nat) : (s.complete i c).voidNextCode = s.voidNextCode := by
  obtain ⟨_, h⟩ := State.complete_frame s i c; rw [h]
@[simp] theorem State.complete_seqs (i c : Nat) : (s.complete i c).seqs = s.seqs := by
  obtain ⟨_, h⟩ := State.complete_frame s i c; rw [h]
@[simp] theorem State.complete_imem (i c : Nat) : (s.complete i c).imem = s.imem := by
  obtain ⟨_, h⟩ := State.complete_frame s i c; rw [h]
@[simp] theorem State.complete_torn (i c : Nat) : (s.complete i c).torn = s.torn := by
  obtain ⟨_, h⟩ := State.complete_frame s i c; rw [h]
@[simp] theorem State.complete_parts (i c : Nat) : (s.complete i c).parts = s.parts := by
  obtain ⟨_, h⟩ := State.complete_frame s i c; rw [h]
@[simp] theorem State.complete_launches (i c : Nat) : (s.complete i c).launches = s.launches := by
  obtain ⟨_, h⟩ := State.complete_frame s i c; rw [h]
@[simp] theorem State.complete_pends (i c : Nat) : (s.complete i c).pends = s.pends := by
  obtain ⟨_, h⟩ := State.complete_frame s i c; rw [h]
@[simp] theorem State.complete_fills (i c : Nat) : (s.complete i c).fills = s.fills := by
  obtain ⟨_, h⟩ := State.complete_frame s i c; rw [h]
@[simp] theorem State.complete_detBuffer (i c : Nat) : (s.complete i c).detBuffer = s.detBuffer := by
  obtain ⟨_, h⟩ := State.complete_frame s i c; rw [h]
@[simp] theorem State.complete_detTail (i c : Nat) : (s.complete i c).detTail = s.detTail := by
  obtain ⟨_, h⟩ := State.complete_frame s i c; rw [h]
@[simp] theorem State.complete_detTailBad (i c : Nat) : (s.complete i c).detTailBad = s.detTailBad := by
  obtain ⟨_, h⟩ := State.complete_frame s i c; rw [h]
@[simp] theorem State.complete_power (i c : Nat) : (s.complete i c).power = s.power := by
  obtain ⟨_, h⟩ := State.complete_frame s i c; rw [h]
@[simp] theorem State.complete_pins (i c : Nat) : (s.complete i c).pins = s.pins := by
  obtain ⟨_, h⟩ := State.complete_frame s i c; rw [h]
@[simp] theorem State.complete_clock (i c : Nat) : (s.complete i c).clock = s.clock := by
  obtain ⟨_, h⟩ := State.complete_frame s i c; rw [h]
@[simp] theorem State.complete_sensors (i c : Nat) : (s.complete i c).sensors = s.sensors := by
  obtain ⟨_, h⟩ := State.complete_frame s i c; rw [h]
@[simp] theorem State.complete_flash (i c : Nat) : (s.complete i c).flash = s.flash := by
  obtain ⟨_, h⟩ := State.complete_frame s i c; rw [h]
@[simp] theorem State.complete_mgmt (i c : Nat) : (s.complete i c).mgmt = s.mgmt := by
  obtain ⟨_, h⟩ := State.complete_frame s i c; rw [h]
@[simp] theorem State.complete_ras (i c : Nat) : (s.complete i c).ras = s.ras := by
  obtain ⟨_, h⟩ := State.complete_frame s i c; rw [h]
@[simp] theorem State.complete_out (i c : Nat) : (s.complete i c).out = s.out := by
  obtain ⟨_, h⟩ := State.complete_frame s i c; rw [h]
@[simp] theorem State.complete_inputs (i c : Nat) : (s.complete i c).inputs = s.inputs := by
  obtain ⟨_, h⟩ := State.complete_frame s i c; rw [h]
@[simp] theorem State.complete_pending (i c : Nat) : (s.complete i c).pending = s.pending := by
  obtain ⟨_, h⟩ := State.complete_frame s i c; rw [h]

end Sys2Proof.Machine
end

