-- ==== Sys2Proof/Laws/Reads.lean ====
section
/-! SUPPORT. What a read by an engine can do besides delivering bytes: it counts, logs, corrects, retires and keeps blocks, and
leaves memory and every other part of the state alone. -/

set_option Elab.async false

namespace Sys2Proof.Machine

/-- `u` is `s` after reads: the registers, the log, the ledger, the marks of words, the remap tables, the flash and the kept
blocks may differ, and nothing else (R49, R214, R217, R233, R517). -/
def State.readFrom (s u : State) : Prop :=
  u = { s with regs := u.regs, log := u.log, power := u.power, bad := u.bad, channels := u.channels, flash := u.flash,
               brineKept := u.brineKept }

variable {s u v : State}

theorem State.readFrom_refl (s : State) : s.readFrom s := rfl

theorem State.readFrom_trans (h : s.readFrom u) (k : u.readFrom v) : s.readFrom v := by
  unfold State.readFrom at *
  rw [k, h]

theorem State.readFrom_foldl {α : Type} (f : State → α → State) (hf : ∀ (s : State) x, s.readFrom (f s x)) (l : List α)
    (s : State) : s.readFrom (l.foldl f s) :=
  foldl_keeps s (fun t => s.readFrom t) f l (fun t x ht => State.readFrom_trans ht (hf t x)) (State.readFrom_refl s)

theorem State.readFrom_mem (h : s.readFrom u) : u.mem = s.mem := by rw [h]

theorem State.readFrom_scratch (h : s.readFrom u) : u.scratch = s.scratch := by rw [h]

theorem State.readFrom_counters (h : s.readFrom u) : u.counters = s.counters := by rw [h]

/-- Every byte reads as before. -/
theorem State.readFrom_readByte (h : s.readFrom u) (a : Nat) : u.readByte a = s.readByte a := by
  simp only [State.readByte, State.readFrom_mem h, State.readFrom_scratch h]

/-! ### The steps of a read -/

theorem State.setReg_readFrom (s : State) (a : Nat) (v : Word) : s.readFrom (s.setReg a v) := rfl

theorem State.setFld_readFrom (s : State) (f : Fld) (δ v : Nat) : s.readFrom (s.setFld f δ v) := State.setReg_readFrom ..

theorem State.bump_readFrom (s : State) (f : Fld) (δ n : Nat) : s.readFrom (s.bump f δ n) := State.setFld_readFrom ..

theorem State.stat_readFrom (s : State) (a n : Nat) : s.readFrom (s.stat a n) := State.setReg_readFrom ..

theorem State.setBad_readFrom (s : State) (a : Nat) (b : Bad) : s.readFrom (s.setBad a b) := rfl

theorem State.siteLater_readFrom (s : State) (t : Site) : s.readFrom (s.siteLater t) := rfl

theorem State.raise_readFrom (s : State) (t : Site) (c d : Nat) : s.readFrom (s.raise t c d) := by
  obtain ⟨r, l, p, h⟩ := State.raise_frame s t c d
  rw [h]; rfl

theorem State.setBadRange_readFrom (s : State) (a n : Nat) (b : Bad) : s.readFrom (s.setBadRange a n b) :=
  State.readFrom_foldl _ (fun _ _ => State.setBad_readFrom ..) _ s

/-! ### What is read -/

/-- The read of a store word counts, logs and corrects (R49, R517). -/
theorem State.noteStoreWord_readFrom (s : State) (w : Nat) : s.readFrom (s.noteStoreWord w) := by
  unfold State.noteStoreWord
  split
  · exact State.readFrom_trans (State.bump_readFrom ..) (State.setBad_readFrom ..)
  · exact State.readFrom_trans (State.bump_readFrom ..) (State.raise_readFrom ..)
  · exact State.readFrom_trans (State.bump_readFrom ..) (State.setBad_readFrom ..)
  · exact State.bump_readFrom ..
  · exact State.readFrom_refl s

theorem State.noteStoreRead_readFrom (s : State) (a n : Nat) : s.readFrom (s.noteStoreRead a n) :=
  State.readFrom_foldl _ State.noteStoreWord_readFrom _ s

theorem State.noteLinePoison_readFrom (s : State) (l : Nat) : s.readFrom (s.noteLinePoison l) :=
  State.readFrom_trans (State.stat_readFrom ..) (State.raise_readFrom ..)

/-- A retirement takes a spare, poisons what is uncorrectable of the granule, counts and logs (R217, R218). -/
theorem State.retire_readFrom (s : State) (pa : Nat) : s.readFrom (s.retire pa) := by
  have lines : ∀ (l : List Nat) (t : State),
      t.readFrom (l.foldl (fun s x => if s.hasUe x 64 then s.setBadRange x 64 .poison else s) t) := fun l t =>
    State.readFrom_foldl _ (fun t x => by split; exacts [State.setBadRange_readFrom .., State.readFrom_refl t]) l t
  have taken : ∀ (t : State) c f, t.readFrom { t with channels := c, flash := f } := fun _ _ _ => rfl
  unfold State.retire
  dsimp only
  split
  · exact State.raise_readFrom ..
  · exact State.readFrom_trans (State.readFrom_trans (State.readFrom_trans (State.readFrom_trans (State.readFrom_trans (taken ..)
      (lines ..)) (State.setFld_readFrom ..)) (State.stat_readFrom ..)) (State.siteLater_readFrom ..)) (State.raise_readFrom ..)

/-- An engine's read of one line (R214). -/
theorem State.noteLine_readFrom (s : State) (l : Nat) : s.readFrom (s.noteLine l) := by
  unfold State.noteLine
  split
  · next hp =>
    unfold State.lineEcc
    lift_lets
    extract_lets ch δ lim rb uncorrectable poison corrected
    split
    · exact State.readFrom_refl s
    · split
      · simp only [uncorrectable]
        refine State.readFrom_trans ?_ (State.retire_readFrom _ l)
        refine State.readFrom_trans ?_ (State.setBadRange_readFrom _ l 64 .ue)
        refine State.readFrom_trans ?_ (State.raise_readFrom _ (chanSite ch) 0x1801 l)
        exact State.readFrom_trans (State.stat_readFrom s _ 1) (State.setReg_readFrom _ _ _)
      · rw [if_pos (by rw [hp]; rfl)]
        exact State.noteLinePoison_readFrom s l
  · exact State.readFrom_refl s

/-- A line read sent to the bridge that decodes its block (R224, R230, R233). -/
theorem State.brineLine_readFrom (s : State) (v j : Nat) : s.readFrom (s.brineLine v j).2 := by
  have kept : ∀ (t : State) k, t.readFrom { t with brineKept := k } := fun _ _ => rfl
  have h := fun (ls : List Nat) => State.readFrom_foldl State.noteLine State.noteLine_readFrom ls s
  unfold State.brineLine
  dsimp only
  split
  · exact State.stat_readFrom ..
  · generalize entryAddr _ _ / 64 * 64 :: s.brineLines v j = ls at *
    split
    · exact State.readFrom_trans (State.readFrom_trans (State.readFrom_trans (h _) (State.stat_readFrom ..))
        (State.stat_readFrom ..)) (State.raise_readFrom ..)
    · exact State.readFrom_trans (State.readFrom_trans (h _) (State.stat_readFrom ..)) (kept ..)

/-- What an engine's read of a range does besides delivering its bytes. -/
theorem State.noteFetch_readFrom (s : State) (a n : Nat) : s.readFrom (s.noteFetch a n) := by
  unfold State.noteFetch
  split
  · refine State.readFrom_foldl _ (fun t x => ?_) _ s
    dsimp only
    split
    · exact State.brineLine_readFrom ..
    · exact State.noteLine_readFrom ..
  · exact State.noteStoreRead_readFrom ..

theorem State.noteReads_readFrom (s : State) (rs : List (Nat × Nat)) : s.readFrom (s.noteReads rs) :=
  State.readFrom_foldl (fun (t : State) (r : Nat × Nat) => t.noteFetch r.1 r.2)
    (fun t r => State.noteFetch_readFrom t r.1 r.2) _ s

end Sys2Proof.Machine
end

