-- ==== Sys2Proof/Tests/Slice0.lean ====
section
/-! SUPPORT. Small tests: the checks of WellFormed each refuse an ill-formed command, words written out from the encoding
tables decode to their instructions, and a concrete state meets the hypotheses of every statement. -/

set_option Elab.async false

namespace Sys2Proof.Tests

/-! Each check of WellFormed refuses a command that breaks it, and takes one at the bound. -/

theorem test_wf_issue : [Instr.route 3 [⟨63, List.replicate 16 0⟩, ⟨63, List.replicate 15 0⟩], .recall [⟨0, []⟩], .combine ⟨0, List.replicate 17 0⟩,
    .send ⟨0, List.replicate 8 0⟩].map Instr.wf = [false, false, false, false] ∧ (Instr.route 3 [⟨63, List.replicate 16 0⟩]).wf = true := by decide

theorem test_wf_desc : [Instr.dispatch 0 .mc (List.replicate 7 0), .return 0 .mc [], .copy 0 .mc (List.replicate 9 0)].map Instr.wf = [false, false, false] ∧
    (Instr.copy 0 .mc (List.replicate 8 0)).wf = true := by decide

theorem test_wf_atom : [AtomForm.atomic 2 0 0, .reduce (List.replicate 63 0)].map (fun f => (Instr.coreStoreAtomic 0 0 f false).wf) = [false, false] ∧
    [AtomForm.atomic 8 0 0, .reduce (List.replicate 64 0)].map (fun f => (Instr.coreStoreAtomic 0 0 f false).wf) = [true, true] := by decide

theorem test_wf_pkt : [({ typ := 0x30, dest := 2 ^ 24, src := 0 } : Pkt), { typ := 0x30, dest := 0, src := 2 ^ 24 }].map (fun k => (Instr.heartbeat k).wf) = [false, false] ∧
    (Instr.heartbeat { typ := 0x30, dest := 2 ^ 24 - 1, src := 2 ^ 24 - 1 }).wf = true := by decide

theorem test_wf_pktBody : (Instr.writeRequest 0 { typ := 0x10, dest := 0, src := 0, body := List.replicate 16385 0 }).wf = false ∧
    (Instr.packetEnqueue 4095 0 0 ⟨List.replicate 16385 0, []⟩).wf = false ∧ (Instr.packetEnqueue 4095 0 0 ⟨List.replicate 16384 0, []⟩).wf = true := by
  decide +kernel

theorem test_wf_line : [Instr.lineRead 0 65 false, .patrolScrub 0 65, .lineWrite 0 [0] false 65 false, .lineWrite 0 [] false 0 false,
    .lineWrite 63 [0, 0] false 0 false, .logitPullReturn 0 65].map Instr.wf = [false, false, false, false, false, false] ∧
    [Instr.lineRead 0 64 false, .lineWrite 63 [0] false 64 false, .logitPullReturn 0 64].map Instr.wf = [true, true, true] := by decide

theorem test_wf_nearMem : [Instr.nmAtomic 0 0 2 0 0 false 0, .nmAtomic 0 0 4 0 0 false 65, .nmReduce 0 0 (List.replicate 63 0) false 0,
    .nmReduce 0 0 (List.replicate 64 0) false 65].map Instr.wf = [false, false, false, false] ∧ (Instr.nmAtomic 0 0 8 0 0 false 64).wf = true := by decide

theorem test_wf_frames : [Instr.frameLanding 0 ⟨List.replicate 63 0, [], [], 0, 0, 0, false, 0, 0, 0, 0, 0⟩, .frameLanding 0 ⟨List.replicate 64 0, [0], [], 0, 0, 0, false, 0, 0, 0, 0, 0⟩,
    .flitReceived 0 ⟨0, 0, List.replicate 255 0, 0, 0⟩, .tc0TransferLand 0 ⟨List.replicate 47 0, []⟩].map Instr.wf = [false, false, false, false] ∧
    (Instr.flitReceived 0 ⟨0, 0, List.replicate 256 0, 0, 0⟩).wf = true := by decide +kernel

theorem test_wf_ports : [Instr.pfcReceived 3 0 (List.replicate 7 0), .ethLinkUp 3 3].map Instr.wf = [false, false] ∧ (Instr.ethLinkUp 3 2).wf = true := by decide

theorem test_wf_management : [Instr.i3cAttest (List.replicate 47 0), .monAttest [], .monLog 0 257, .monitorFrame 0 [] 0, .sensorSample [(0x24, 0)]].map Instr.wf =
    [false, false, false, false, false] ∧ [Instr.monLog 0 256, .sensorSample [(0x23, 0), (0x28, 0), (0x5F, 0)]].map Instr.wf = [true, true] := by decide

end Sys2Proof.Tests


namespace Sys2Proof.Tests

open Sys2Proof.Machine

theorem test_hold_hyp : let s := { State.reset with clock := { State.reset.clock with holdNs := 2000 } }
    s.pending = [] ∧ s.clock.holdNs ≠ 0 ∧ (∀ p < 16, s.partState p < 2) ∧ 2 ≤ (s.setFld Reg.SCH_PART_STATE_STATE (instDelta 15) 2).partState 15 := by
  decide +kernel

theorem test_idle_hyp : State.reset.pending = [] ∧ State.reset.clock.holdNs = 0 ∧ State.reset.clock.slew = 0 := by decide

theorem test_slew_hyp : ∀ e ∈ [(3 : Int), -3], ∀ k ∈ [0, 19999],
    let s := { State.reset with clock := { State.reset.clock with slew := e, counts := k } }
    s.pending = [] ∧ s.clock.holdNs = 0 ∧ s.clock.slew ≠ 0 := by decide

theorem test_sound_hyp : Safety.sound State.reset = true := by decide

/-- The state after a reset, without power. -/
def darkState : State := { State.reset with pins := { State.reset.pins with pwrGood := false }, coreOn := false }

theorem test_dark_hyp : darkState.pins.pwrGood = false ∧ darkState.coreOn = false ∧ Claims.isPinEvent .fillComplete = false ∧
    Claims.isSeqCommand .fillComplete = false ∧ Claims.isSeqCommand (.add 63 .clean) = true := by decide

theorem test_coreOff_hyp : Claims.powered { State.reset with coreOn := false } ∧ darkState.coreOn = false ∧ Claims.isCoreEngineCommand (.slotRun 15) = true := by decide

theorem test_roundTrip_hyp : (Insn.mk true 7 (.lsh 31 0xFFFF)).wf = true := by decide

theorem test_wordDecodes_hyp : decodeInsn 0x6FFFFFFF = none ∧ (decodeInsn 0x37FFFFF7).isSome = true := by decide

/-- Core `n` runs a program at index `pc` with context 5, its store holding one word there. -/
def running (n : Fin 64) (pc w : Nat) (q : Seq := seqInit) : State :=
  (({ State.reset with seqs := [(n.val, q)] }.setImem n pc w).setReg (Reg.SEQ_STATE + instDelta n)
    (BitVec.ofNat 64 (seqRunning + 5 * 2 ^ 16 + pc * 2 ^ 32)))

/-- The word of an instruction. -/
def wordOf (a : Act) (gn : Bool := false) (pg : BitVec 3 := 0) : Nat := (Insn.mk gn pg a).encode.toNat

theorem test_guard_hyp : Claims.atInsn (running 63 65534 (wordOf (.jr 31) false 7)) 63 ⟨false, 7, .jr 31⟩ ∧
    ((running 63 65534 (wordOf (.jr 31) false 7)).seq 63).pred 7 = false ∧
    (running 63 65534 (wordOf (.jr 31) false 7)).seqPc 63 = 65534 := by decide +kernel

theorem test_alu_hyp : Claims.goes (running 63 65534 (wordOf (.alu .mul 31 1 2))) 63 .corrected ⟨false, 0, .alu .mul 31 1 2⟩ := by decide +kernel

theorem test_shift_hyp : Claims.goes (running 0 0 (wordOf (.shift .sar 1 1 (.imm 63)))) 0 .clean ⟨false, 0, .shift .sar 1 1 (.imm 63)⟩ := by decide +kernel

/-- A sequencer whose s1 holds 16,383. -/
def with1 : Seq := { seqInit with regs := [(1, 16383)] }

theorem test_imm_hyp : ∀ a ∈ [Act.aluI .addi 31 0 0xFFF, .aluI .andi 31 0 0xFFF, .aluI .ori 31 0 0xFFF, .li 31 0x1FFFF,
    .lsh 31 0xFFFF, .rdp 31, .rsum 31 7 .status, .rds 31 .entry, .rdc 31 1],
    Claims.goes (running 63 65534 (wordOf a) with1) 63 .clean ⟨false, 0, a⟩ ∧
    ((running 63 65534 (wordOf a) with1).sreg 63 1).toNat = 16383 := by decide +kernel

/-- A sequencer whose s1 holds an FP32 NaN. -/
def withNan : Seq := { seqInit with regs := [(1, 0x7FC00000)] }

theorem test_pred_hyp : ∀ a ∈ [Act.cmp 7 .c5 1 2, .cmpi 7 .c2 1 0x7FF, .fcmp 7 .c3 1 2, .plog 7 .andn 7 0, .wrp 1],
    Claims.goes (running 63 0 (wordOf a) withNan) 63 .clean ⟨false, 0, a⟩ ∧
    f32IsNan (BitVec.ofNat 32 ((running 63 0 (wordOf a) withNan).sreg 63 1).toNat) = true ∧
    f32IsNan (BitVec.ofNat 32 ((running 63 0 (wordOf a) withNan).sreg 63 2).toNat) = false := by decide +kernel

theorem test_branch_hyp : ∀ a ∈ [Act.b 0x3FFFFF, .call 0x3FFFFF, .jr 1, .endProgram],
    Claims.goes (running 63 1 (wordOf a) with1) 63 .clean ⟨false, 0, a⟩ ∧
    ((running 63 1 (wordOf a) with1).seqPc 63 : Int) + (0x3FFFFF : BitVec 22).toInt = (0 : Nat) ∧
    ((running 63 1 (wordOf a) with1).sreg 63 1).toNat < 65536 ∧ ((running 63 1 (wordOf a) with1).seq 63).refused = none := by decide +kernel

theorem test_pastEnd_hyp : Claims.atInsn (running 63 65535 (wordOf .endProgram true 7) { seqInit with preds := 128 }) 63 ⟨true, 7, .endProgram⟩ ∧
    ((running 63 65535 (wordOf .endProgram true 7) { seqInit with preds := 128 }).seq 63).pred 7 = true := by decide +kernel

theorem test_fault_hyp : ∀ a ∈ [Act.fault 0xFF, .b 0x3FFFFF, .call 0x200000, .jr 1],
    Claims.atInsn (running 63 0 (wordOf a) { seqInit with regs := [(1, 65536)] }) 63 ⟨false, 0, a⟩ ∧
    ((0 : Nat) : Int) + (0x3FFFFF : BitVec 22).toInt < 0 ∧
    (running 63 0 (wordOf a) { seqInit with regs := [(1, 65536)] }).seqPc 63 = 0 ∧
    ((running 63 0 (wordOf a) { seqInit with regs := [(1, 65536)] }).sreg 63 1).toNat = 65536 := by decide +kernel

theorem test_illegal_hyp : (running 0 65535 0).coreEnabled 0 = true ∧ (running 0 65535 0).seqPhase 0 = seqRunning ∧
    decodeInsn (BitVec.ofNat 32 ((running 0 65535 0).imemWord 0 ((running 0 65535 0).seqPc 0))) = none := by decide +kernel

theorem test_load_hyp : ∀ a ∈ [Act.ld 31 1 0x7F8, .ldw 31 1 0xFFC],
    Claims.goes (running 63 65534 (wordOf a) { seqInit with regs := [(1, 0x10)] }) 63 .clean ⟨false, 0, a⟩ ∧
    (running 63 65534 (wordOf a) { seqInit with regs := [(1, 0x10)] }).fetchPoisoned 0x808 8 = false ∧
    (running 63 65534 (wordOf a) { seqInit with regs := [(1, 0x10)] }).viewAt 0x800 = none ∧
    ((running 63 65534 (wordOf a) { seqInit with regs := [(1, 0x10)] }).sreg 63 1 + (0x7F8 : BitVec 12).signExtend 64).toNat = 0x808 := by
  decide +kernel

/-- Core 63 waits for a load of its last store word, issued at 0 ns. -/
def loading : State :=
  (running 63 65534 0 { seqInit with hold := .load (coreAddr 63 0x7FFFF8) 8 31 0 }).setSeqPhase 63 seqLoad

theorem test_loadLate_hyp : (∃ a size rd, (loading.seq 63).hold = .load a size rd 0) ∧
    0 + 10000 < ({ loading with tb := 10001 } : State).tb := ⟨⟨_, _, _, rfl⟩, by decide⟩

theorem test_loadReturn_hyp : loading.coreRuns = true ∧ loading.clock.unlocked = [] ∧ loading.seqPhase 63 = seqLoad ∧ loading.seqPc 63 = 65534 ∧
    (loading.seq 63).hold = .load (coreAddr 63 0x7FFFF8) 8 31 0 ∧ inOneCore (coreAddr 63 0x7FFFF8) 8 = some 63 ∧
    loading.fetchPoisoned (coreAddr 63 0x7FFFF8) 8 = false := by decide +kernel

theorem test_store_hyp : ∀ a ∈ [Act.st 2 1 0x7F8, .stw 2 1 0x7FC],
    Claims.goes (running 63 65534 (wordOf a) { seqInit with regs := [(1, coreStoreBase), (2, 0x1122334455667788)] }) 63 .clean ⟨false, 0, a⟩ ∧
    inOneCore (coreStoreBase + 0x7F8) 8 = some 0 ∧
    (running 63 65534 (wordOf a) { seqInit with regs := [(1, coreStoreBase)] }).marked (coreStoreBase + 0x7F8) 8 = false ∧
    (running 63 65534 (wordOf a) { seqInit with regs := [(1, coreStoreBase)] }).physCode 0x0FFFFFFFFFF8 = 0x0005 := by decide +kernel

theorem test_storeRefused_hyp : (running 63 9 0 { seqInit with refused := some (5, 8, 1) }).seqActive 63 = true ∧
    ((running 63 9 0 { seqInit with refused := some (5, 8, 1) }).seq 63).refused = some (5, 8, 1) := by decide +kernel

/-- Core 63 at an instruction, with s1 = 16,383, s2 = 1, counter 16,383 at `c` and a WAIT_LIMIT of 1 microsecond. -/
def waiter (a : Act) (c : Nat) : State :=
  { (running 63 65534 (wordOf a) { seqInit with regs := [(1, 16383), (2, 1)] }).setFld Reg.SEQ_CTRL_WAIT_LIMIT (instDelta 63) 1 with
    counters := if c = 0 then [] else [(16383, ⟨BitVec.ofNat 64 c, 0, false⟩)] }

theorem test_wait_hyp : ∀ a ∈ [Act.wait 31 1 2, .waitt 2, .sig 1],
    Claims.goes (waiter a 0) 63 .clean ⟨false, 0, a⟩ ∧ ((waiter a 0).seq 63).refused = none ∧
    (waiter a 0).waitLimit 63 = 1000 ∧ ((waiter a 0).counter ((waiter a 0).sreg 63 1).toNat).count.toNat = 0 ∧
    ((waiter a 1).counter ((waiter a 1).sreg 63 1).toNat).count.toNat = 1 ∧ (waiter a 0).tb < ((waiter a 0).sreg 63 2).toNat := by
  decide +kernel

/-- Core 63 waits for counter 16,383 to reach 1, since 0 ns, at time `tb`. -/
def waiting (c tb : Nat) : State :=
  { ((waiter (.wait 31 1 2) c).setSeq 63 { seqInit with hold := .wait 16383 1 31 0 }).setSeqPhase 63 seqWait with tb := tb }

theorem test_waiting_hyp : (waiting 1 0).seqPhase 63 = seqWait ∧ ((waiting 1 0).seq 63).hold = .wait 16383 1 31 0 ∧
    (waiting 1 1001).waitLimit 63 = 1000 ∧ (waiting 0 0).tb < 0 + (waiting 0 0).waitLimit 63 ∧
    (waiting 1 0).seqPc 63 = 65534 ∧ ((waiting 1 0).counter 16383).count.toNat = 1 ∧
    ((waiting 0 1000).counter 16383).count.toNat = 0 ∧ (waiting 0 1000).waitLimit 63 = 1000 := by decide +kernel

/-- Core 63 waits until 7 ns at time `tb`. -/
def waitting (tb : Nat) : State :=
  { ((waiter (.waitt 2) 0).setSeq 63 { seqInit with hold := .waitt 7 }).setSeqPhase 63 seqWaitt with tb := tb }

theorem test_waitting_hyp : (waitting 7).seqPhase 63 = seqWaitt ∧ ((waitting 7).seq 63).hold = .waitt 7 := by decide +kernel

/-- Core 63 at an ISSUE of the descriptor at the foot of its store; `full`: pump queue 0 holds 32 of its commands. -/
def issuer (a : Act) (full : Bool) : State :=
  let s := running 63 65534 (wordOf a) { seqInit with regs := [(4, BitVec.ofNat 64 (coreAddr 63 0))] }
  if full then { s with pumps := (List.range 64).map fun i =>
    ⟨i, 0, some 63, 0, [], 0, 0, false, 0, 0, false, 0, [], false, none, []⟩ } else s

theorem test_issue_hyp : ∀ a ∈ [Act.issue 8 4, .issueNowait 8 4 7, .issue 3 4],
    Claims.goes (issuer a false) 63 .clean ⟨false, 0, a⟩ ∧ ((issuer a false).seq 63).refused = none ∧
    ((issuer a false).sreg 63 4).toNat % 64 = 0 ∧ (issuer a false).inLpOrCore (coreAddr 63 0) 64 = true ∧
    (issuer a false).inDisabledCore (coreAddr 63 0) 1 = false ∧ (issuer a false).inDisabledCore (coreAddr 63 63) 1 = false ∧
    (issuer a false).fetchPoisoned (coreAddr 63 0) 64 = false ∧ (issuer a false).issueRoom 63 (.pumps 0) = true ∧
    (issuer a true).issueRoom 63 (.pumps 0) = false := by decide +kernel

/-- Core 63 stalls on an ISSUE to pump queue 0 since 0 ns. -/
def stalled (full : Bool) (tb : Nat) : State :=
  { ((issuer (.issue 8 4) full).setSeq 63 { seqInit with hold := .issue 8 [] 0 }).setSeqPhase 63 seqStalled with tb := tb }

theorem test_stalled_hyp : (stalled true (10 ^ 12)).seqPhase 63 = seqStalled ∧ ((stalled true 1).seq 63).hold = .issue 8 [] 0 ∧
    issueTarget 8 = some (.pumps 0) ∧ (stalled true 1).waitLimit 63 < 10 ^ 12 ∧ (stalled false 0).issueRoom 63 (.pumps 0) = true := by
  decide +kernel

/-- A ROUTE of core `n` to router 3: one token, two experts, one candidate, one seat, one round, pushed; results at LPDDR6 0. -/
def routeOf (n : Fin 64) : Issue := ⟨n, [BitVec.ofNat 64 (1 + 8 * 2 ^ 8 + 7 * 2 ^ 16 + 1 * 2 ^ 32 + 1 * 2 ^ 38 + 1 * 2 ^ 43 + 2 ^ 48), 1 + 2 * 2 ^ 32,
  100000, 0, 0, 0, 0x1000, 0, 0x1000, 0x2000, 0, 16383, 0, 0, 0, 0]⟩

/-- A RECALL of core 63 on routers 0 and 1: two queries, one result each, 256 candidates. -/
def recallOf : Issue := ⟨63, [BitVec.ofNat 64 (2 + 3 * 2 ^ 8 + 2 ^ 48), 2 + 1 * 2 ^ 32, 100000, 0, 256, 0, 0, 0, 0x1000, 0x2000, 0, 16383, 0, 0, 0, 0]⟩

/-- Every router enabled; the quota table of router 3 for two experts, one slot each, at offset 0x1000. -/
def routers : State :=
  (List.range 4).foldl (fun s j => s.setFld Reg.ORT_CTRL_ENABLE (instDelta j) 1)
    (State.reset.writeBytes (routerAddr 3 0x1000)
      (leBytes 4 0x4F515401 ++ leBytes 4 1 ++ leBytes 4 2 ++ leBytes 4 2 ++ List.replicate 48 0 ++ leBytes 8 1 ++
        leBytes 8 (1 + 2 ^ 40)))

theorem test_route_hyp : Claims.coreRuns routers ∧ routers.coreEnabled 63 = true ∧ routers.coreTorn 63 = false ∧
    routerOf (routeOf 63).desc = 3 ∧ routers.routerCode 3 (routeOf 63).desc false = none ∧
    State.reset.routerCode 3 (routeOf 63).desc false = some 0x1408 ∧
    routers.routerCode 0 recallOf.desc false = none ∧ State.reset.routerCode 0 recallOf.desc false = some 0x140A ∧
    routersOf (routeOf 63).desc = [3] ∧ routersOf recallOf.desc = [0, 1] := by decide +kernel

/-- A window of one token and two experts on router 3, pushed or pulled from LPDDR6 0, in a phase. -/
def window (push : Bool) (ph : WinPhase) : State :=
  { routers with tb := 100000, routers := [(3, ⟨some ph, some { newWindow { routerCmdOf (routeOf 63).desc with push := push, logitStride := 64 } 0 0 0 0 with
      table := [⟨1, false, 0, 0⟩, ⟨1, false, 0, 1⟩] }, []⟩)] }

/-- A tile of one row and two columns at row 0 and column 0 with tag 7. -/
def tile : Bytes := leBytes 4 (7 + 1 * 2 ^ 17 + 2 * 2 ^ 22) ++ List.replicate 60 0 ++ leBytes 4 0x3F800000 ++ leBytes 4 0x40000000

theorem test_tile_hyp : ((window true .select).router 3).win.isSome = true ∧ leNat (tile.take 4) % 65536 = 7 ∧
    bits (leNat (tile.take 4)) 17 5 = 1 ∧ bits (leNat (tile.take 4)) 22 8 = 2 ∧ leNat ((tile.drop 12).take 52) = 0 ∧
    (window true .publish).takesScores 3 = false ∧ (window true .select).takesScores 3 = true ∧ (window false .load).fetchPoisoned 0 64 = false ∧
    ((window false .load).setBad 0 .poison).fetchPoisoned 0 64 = true ∧ Claims.coreRuns (window true .load) := by decide +kernel

theorem test_tile_result : (match exec (.pushedTile 3 tile) (window true .load) with
    | .next t => ((t.router 3).win.map (fun w => w.scores)) | _ => none) =
    some [⟨0, 0, 0x3F800000, 0x3F800000⟩, ⟨0, 1, 0x40000000, 0x40000000⟩] := by decide +kernel

theorem test_select_hyp : (((window true .matching).router 3).win.map (fun w => (w.cmd.isRecall, decide (w.round < w.cmd.rounds), w.fault,
    (window true .matching).cclkPassed w.start w.selectEnd, (window true .matching).cclkPassed w.start (w.roundsEnd w.round),
    ({ window true .matching with tb := 0 } : State).cclkPassed w.start w.selectEnd))) = some (false, true, false, true, true, false) := by
  decide +kernel

/-- Router 3 waits for an acknowledgement of a window that has ended. -/
def lateRouter : State := { State.reset with routers := [(3, ⟨none, none, [(16383, 0, 9, 0)]⟩)] }

/-- The window of router 3 after its one round, ready to publish, and in publication. -/
def played (ph : WinPhase) : State :=
  match ((window true ph).router 3).win with
  | none => State.reset
  | some w => (window true ph).setWin 3 { w with round := 1 }

theorem test_window_end_hyp : (played .publish).cclkPassed 0 100000 = true ∧ (played .matching).mayPublish 3 = true ∧
    (((played .matching).setPhase 3 .publish 0).publishGroup [3]).1 = 0 ∧ (played .publish).groupFaulted [3] = false ∧
    ((((played .matching).setFld Reg.MCH_STATE_DEAD (instDelta (channelOf 0x1000)) 1).setPhase 3 .publish 0).publishGroup [3]).1 = 0x1806 := by
  decide +kernel

theorem test_publish_hyp : (window true .matching).groupOf 3 = [3] ∧ (lateRouter.router 3).unacked = [(16383, 0, 9, 0)] ∧
    Claims.coreRuns lateRouter ∧
    (match ((window true .matching).router 3).win with
     | none => false
     | some w => decide (w.areas.Pairwise fun p q => p.1 + p.2.length ≤ q.1 ∨ q.1 + q.2.length ≤ p.1)) = true := by decide +kernel

/-- A 64-bit access by the MC. -/
def mcAt (a : Nat) : CsrAccess := ⟨.mc, BitVec.ofNat 32 a, 64⟩

theorem test_csr_hyp : State.reset.instExists 14 15 = true ∧ (regAt (Reg.SCH_COMMIT_STEP + instDelta 15)).isSome = true ∧
    rightCode .mc (Reg.SCH_COMMIT_STEP + instDelta 15) true = 0 ∧ State.reset.coreOn = true ∧
    ((regAt (Reg.SCH_COMMIT_STEP + instDelta 15)).map (fun r => (r.has .WO, r.fields.length))) ≠ none ∧
    selectedReg (csrHome (Reg.SCH_COMMIT_STEP + instDelta 15)) = false := by decide +kernel

theorem test_fields_disjoint : (List.range 23).all (fun c => (classRegs c).all (fun r =>
    r.fields.all (fun f => decide (f.lo + f.w ≤ 64)) && decide (r.fields.Pairwise (fun f g => f.lo + f.w ≤ g.lo)))) = true := by
  decide +kernel

theorem test_csr_plain : ∀ (u : State) (via : Via) (i d v : Nat), u.writeBad via (csrHome (Reg.SCH_COMMIT_STEP + instDelta 15)) i d v = none := by
  intros; rfl

theorem test_checks_hyp : csrClass (0x17 * 2 ^ 26) = 0x17 ∧ classInstances 0x17 = none ∧ State.reset.instExists 14 16 = false ∧
    State.reset.csrEn (State.reset.seqCtx 63) = false ∧ (regAt 0xFFF8).isNone = true ∧ State.reset.instExists 0 0 = true ∧
    ({ State.reset with coreOn := false }).instExists 14 0 = true ∧ onCoreDie (14 * 2 ^ 26) = true ∧
    rightCode .mc Reg.GLB_RAKE_SEL true = 0 ∧ csrInst (14 * 2 ^ 26 + 0x3FF0000) = 0x3FF ∧ classRake 14 = .yes ∧
    (findReg (classRegs 14) 0xFFF8).isNone = true ∧ (findReg (classRegs 14) (csrOff Reg.SCH_RING_SEL)).isSome = true := by decide +kernel

theorem test_checks_reserved : (match exec (.csrWrite (mcAt Reg.SCH_RING_SEL) (2 ^ 63)) State.reset with
    | .next t => t.out.head? | _ => none) = some (.csr 1 0) := by decide +kernel

theorem test_empty_rake_hyp : csrInst (1 * 2 ^ 26 + 0x3FE0000) = 0x3FE ∧ classRake (csrClass (1 * 2 ^ 26 + 0x3FE0000)) = .yes ∧
    State.reset.groupMask 1 14 0 = 0 ∧ Claims.powered State.reset ∧
    ({ State.reset with fuses := { State.reset.fuses with corePresent := 1 }, rakeMask := [(maskKey 1 14 0, 2)] }).coreEnabled 1 = false := by
  decide +kernel

theorem test_empty_rake : (match exec (.rakeRead (mcAt (1 * 2 ^ 26 + 0x3FE0000))) State.reset with
    | .next t => t.out.head? | _ => none) = some (.csr 7 0) := by decide +kernel

theorem test_rake_hyp : csrInst (14 * 2 ^ 26 + 0x3FF0000) = 0x3FF ∧ classRake (csrClass (14 * 2 ^ 26 + 0x3FF0000)) = .yes ∧
    (findReg (classRegs 14) (csrOff Reg.SCH_COMMIT_STEP)).isSome = true ∧ State.reset.instExists 14 0 = true := by decide +kernel

theorem test_rake_hyp_access : ((findReg (classRegs 14) (csrOff Reg.SCH_COMMIT_STEP)).map (fun r => r.fields.all (fun f => decide (f.acc = .RW)))) =
    some true := by decide +kernel

/-- The MC has selected the last word of group 14 of the MCHAN class. -/
def selected : State := State.reset.setRake .mc ⟨BitVec.ofNat 64 (6 + 14 * 64 + 5 * 1024), 0⟩

theorem test_mask_hyp : selWord (selected.rakeOf .mc).sel < maskWords (selClass (selected.rakeOf .mc).sel) ∧
    selGroup (selected.rakeOf .mc).sel < 15 ∧ maskWords 6 = 6 := by decide +kernel

theorem test_mask_wraps : (match exec (.glbRakeDataAccess .mc (some 0xA5)) selected with
    | .next t => (selWord (t.rakeOf .mc).sel, t.groupMask 6 14 5) | _ => (1, 0)) = (0, 0xA5) := by decide +kernel

theorem test_tap_hyp : State.reset.pins.pwrGood = true ∧ State.reset.pins.resetLow = false ∧
    (State.reset.log.siteOf glbSite).lastCycle ≠ mgclkCycle State.reset.tb + 1 := by decide +kernel

/-- EXTEST with RESET_N low drives the lands and loads what waits; R522, R523. -/
theorem test_tap_scan : (match exec .jtagExtest { State.reset with pins := { State.reset.pins with resetLow := true }, inputs := ⟨[⟨0, 5⟩], []⟩ } with
    | .next t => (t.tap.ir, t.tap.boundary, t.tap.driving, t.inputs.scans.length) | _ => (0, 0, false, 9)) = (3, 5, true, 0) := by decide +kernel

theorem test_inputs_hyp : State.reset.inputs = ⟨[], []⟩ ∧ State.reset.mgmt.boot ≠ none ∧ State.reset.pins.resetLow = false := by decide +kernel

theorem test_reset_fall_hyp : State.reset.fld Reg.RAS_STATE_FALLOW = 0 ∧ State.reset.inChipWindow = false ∧ State.reset.ras.escs = [] ∧
    (State.reset.log.siteOf rasSite).lastCycle ≠ mgclkCycle State.reset.tb + 1 ∧ State.reset.log.entries = [] := by decide +kernel

/-- A state some seconds after power-on, in which array 127 has run a pass since time 0. -/
def working : State := { State.reset with tb := 5000000000, arrays := [(127, { matInit with running := [⟨⟨[], 63, 3⟩, 0, .waiting, none, false, false, 0, 0⟩] })] }

theorem test_watchdog_hyp : working.engineSince 2 127 = some 0 ∧ 0 + working.fld Reg.RAS_CTRL_ENGINE_WD_MS * 1000000 ≤ working.tb ∧
    working.merges 2 2 127 = false ∧ working.ctxState 3 = 0 ∧
    ({ working with ras := { working.ras with escs := [⟨4, 21, 0, 0x540F, 9, 5000000000⟩] } }).merges 2 2 127 = true ∧
    working.instExists 2 127 = true := by decide +kernel

theorem test_repeat_hyp : ({ working with ras := { working.ras with engineResets := [(5 * 1024 + 3, 4900000000)] } }).repeated
    (some 4900000000) = true ∧ engineCore 5 3 = none ∧ engineClass 5 = true ∧ working.instExists 5 3 = true := by decide +kernel

theorem test_watchdog_captures : (match exec (.engineWatchdog 2 127) working with
    | .next t => (t.reg Reg.RAS_CAPTURE).toNat | _ => 0) = 0x540B + 2 * 2 ^ 16 + 127 * 2 ^ 24 := by decide +kernel

theorem test_engine_reset_hyp : ({ working with ras := { working.ras with escs := [⟨2, 2, 127, 0x540B, 0, 1⟩] } }).escRuns 2 2 127 = true ∧
    (working.mat 127).running.length = 1 ∧ Claims.coreRuns working ∧ working.pumps = [] ∧ working.colls = [] ∧ (working.chain 63).running = none := by decide +kernel

theorem test_engine_reset : (match exec (.engineReset 2 127) { working with ras := { working.ras with escs := [⟨2, 2, 127, 0x540B, 0, 1⟩] } } with
    | .next t => ((t.mat 127).running.length, t.ras.escs.length) | _ => (9, 9)) = (0, 0) := by decide +kernel

/-- The trigger of an escalation of some level runs. -/
def escalated (level : Nat) : State := { State.reset with ras := { State.reset.ras with escs := [⟨level, 21, 0, 0x540F, 9, 0⟩] } }

theorem test_chip_hyp : (escalated 4).ras.escs.length = 1 ∧ (escalated 5).ras.escs.length = 1 ∧
    (escalated 6).fld Reg.RAS_STATE_CYCLE_REQ = 0 ∧
    ({ working with ras := { working.ras with runningAt := some 5000000000 } }).fld Reg.RAS_CTRL_CHIP_WINDOW_S = 60 := by decide +kernel

theorem test_bounds_hyp : ({ escalated 4 with tb := 200000001 }).ras.escs = [⟨4, 21, 0, 0x540F, 9, 0⟩] ∧
    State.reset.fld Reg.RAS_STATE_CHIP_FAILS = 0 ∧ State.reset.fld Reg.RAS_CTRL_FALLOW_EN = 1 := by decide +kernel

theorem test_chip_timeout : (match exec .escalationTimeout { escalated 4 with tb := 200000001 } with
    | .next t => (t.fld Reg.RAS_STATE_CHIP_FAILS, t.ras.escs.map (fun e => (e.level, e.code))) | _ => (0, [])) = (1, [(4, 0x5410)]) := by decide +kernel

theorem test_line_hyp : 0x1000 + 64 ≤ generalSize ∧ State.reset.chanDead (channelOf 0x1000) = false ∧ State.reset.viewAt 0x1000 = none ∧
    State.reset.poisoned 0x1000 64 = false ∧ State.reset.fld Reg.MCH_ECC_CTRL_CORR_LIMIT (instDelta (channelOf 0x1000)) = 4 ∧
    (State.reset.setBad 0x1000 .poison).poisoned 0x1000 64 = true ∧ (State.reset.setBad 0x1000 .poison).hasUe 0x1000 64 = false ∧ State.reset.touchesView 0x1000 64 = false ∧
    State.reset.fld Reg.MBD_CTRL_SCRUB_HOURS (instDelta (bridgeOf (channelOf 0x1000))) = 24 ∧ State.reset.seqRun 63 = false ∧ State.reset.spareHome 0x1000 = 0x1000 ∧
    State.reset.coreEnabled 63 = true := by decide +kernel

theorem test_line_write : (match exec (.lineWrite 0x103F [0xAB, 0xCD] false 0 false) State.reset with
    | .next t => (t.readByte 0x103F, t.readByte 0x1040, t.out.head?) | _ => (0, 1, none)) = (0xAB, 0, some (.done 0x103F 0)) := by decide +kernel

theorem test_nm_hyp : let s := State.reset.setFld Reg.MBD_CTRL_NM_ENABLE (instDelta (bridgeOf (channelOf 0x1008))) 1
    s.fld Reg.MBD_CTRL_NM_ENABLE (instDelta (bridgeOf (channelOf 0x1008))) = 1 ∧ s.touchesView 0x1008 8 = false ∧ s.viewAt 0x1000 = none ∧
    State.reset.fld Reg.MBD_CTRL_NM_ENABLE (instDelta (bridgeOf (channelOf 0x1008))) = 0 ∧ s.badAt (coreAddr 63 0) = .ok ∧
    (State.reset.setBad (coreAddr 63 0) .ce).badAt (coreAddr 63 0) = .ce ∧ Bad.ce.spoils = false ∧ Bad.ue.spoils = true := by decide +kernel

theorem test_core_atomic : (match exec (.coreStoreAtomic (BitVec.ofNat 48 (coreAddr 63 (storeSize - 8))) 3 (.atomic 8 5 0) true) State.reset with
    | .next t => (t.readNat (coreAddr 63 (storeSize - 8)) 8, t.out.head?) | _ => (0, none)) =
    (5, some (.atomicResult (coreAddr 63 (storeSize - 8)) 0 0)) := by decide +kernel

/-- View 0 is on in bridge 0: eight blocks at 0x10000, index at 0x20000; block 0 is filled with 0x5A. -/
def viewed : State := (((State.reset.writeBytes (streamAddr 0x20000 0 0) (leBytes 8 (2 + 0x5A * 256))).setReg (mbdBase 0 0) 0x10000).setReg
  (mbdBlocks 0 0) 8).setReg (mbdIndex 0 0) 0x20000 |>.setViewOn 0 0 true

theorem test_brine_hyp : viewed.viewAt 0x10040 = some (0, 0) ∧ bits (viewed.brineEntry 0x20000 0) 0 2 = 2 ∧ viewed.keptBlock 0 0 = none ∧
    viewed.unreadable (entryAddr 0x20000 0) = false := by decide +kernel

/-- The granule of an address of channel 0 is held by its spare 0 after a retirement, and the spare's address shows its lines. -/
theorem test_retire : ((State.reset.writeBytes 0x40 [7]).retire 0x40).freeSpare 0 = some 1 ∧ channelOf 0x40 = 0 ∧
    granuleAddr 0 spareGranule 0 = 0x23FB8000000 ∧
    ((State.reset.writeBytes 0x40 [7]).retire 0x40).fetchByte 0x23FB8000040 = 7 ∧ State.reset.fetchByte 0x23FB8000040 = 0 := by decide +kernel

theorem test_brine_fill : (match exec (.brineRead 0x10040) viewed with
    | .next t => t.out.head? | _ => none) = some (.lineData 0x10040 (List.replicate 64 0x5A) 0) := by decide +kernel

/-- A COPY of two lines from 0x1000 to 0x2000 that completes on counter 16383. -/
def copyOf : Desc := [0x22, 0x1000, 0x2000, 128, 16383, 0, 0, 0]

/-- The fabric block is enabled and four bytes stand at 0x1000. -/
def fabricOn : State := (State.reset.setFld Reg.FAB_CTRL_ENABLE 0 1).writeBytes 0x1000 [1, 2, 3, 4]

theorem test_pump_hyp : fabricOn.pumpCode 0 copyOf = none ∧ fabricOn.pumpRoom 0 63 = true ∧ fabricOn.coreTorn 63 = false ∧
    fabricOn.pumpOpen fabricOn.pumpSeq = false ∧ fabricOn.pends = [] ∧
    fabricOn.touchesView 0x1000 128 = false ∧ fabricOn.viewAt 0x1040 = none ∧ State.reset.pumpCode 0 copyOf = some 0x3005 ∧
    fabricOn.pumpCode 0 [0x25, 0, 0, 0, 1, 0, 0, 0] = none ∧ fabricOn.pumpCode 0 [0x26, 7, 0, 0, 1, 0, 0, 0] = none ∧
    fabricOn.pumpCode 0 [0x23, 0x1000, 0x2000, 64, 1, 0, 0, 0] = none ∧ fabricOn.pumpCode 0 [0x824, 0x1000, 5, 0, 0x2000, 1, 0, 0] = none ∧
    fabricOn.pumpCode 0 [0x27, 0x1000, BitVec.ofNat 64 (0x40 + 64 * 2 ^ 32), 1, 1, 0, 0, 0] = none := by decide +kernel

theorem test_copy_moves : (match exec (.copy 0 (.seq 63) copyOf) fabricOn with
    | .next t => (t.readBytes 0x2000 4, (t.counter 16383).count, t.pumps.length) | _ => ([], 0, 9)) = ([1, 2, 3, 4], 1, 0) := by decide +kernel

/-- A DISPATCH on link die 1 with one LOCAL frame in a state. -/
def sending (st : JobState) : State := { fabricOn with pumps := [⟨0, 1, some 63, 0, [0x20, 0, 0, 0, 0, 0, 0, 16383], 0, 0, false, 0, 0, true, 0, [], false, none,
  [⟨0, true, 0, st, 0⟩]⟩] }

theorem test_frame_hyp : (sending .waiting).pumps.find? (fun c => decide (c.die = 1) && c.jobs.any (fun j => j.loc && decide (j.state = .waiting))) =
    (sending .waiting).pumps.head? ∧ (sending .landed).outstanding = [] := by decide +kernel

theorem test_frame_completes : (match exec (.pumpCompletion 1) (sending .landed) with
    | .next t => ((t.counter 16383).count, t.pumps.length) | _ => (0, 9)) = (1, 0) := by decide +kernel

theorem test_frame_bad_type : (match exec (.frameLanding 0 ⟨List.replicate 64 0, [], [], 0, 0, 0, true, 5, 0, 0, 0, 0⟩)
    { fabricOn with counters := [(5, ⟨0, 0, true⟩)] } with
    | .next t => (t.counter 5).err | _ => 0) = 0x3309 := by decide +kernel

/-- A PASS of one token on core 63: K 32, N 64, FP16 times FP16, A at 0, W at 0x1000, outputs FP32 at 0x8000, counter 16383. -/
def passDesc : Desc := [BitVec.ofNat 64 (0x10 + 0 * 2 ^ 9), BitVec.ofNat 64 (1 + 32 * 2 ^ 32), 64, BitVec.ofNat 64 (0 + 64 * 2 ^ 32), 0x1000,
  BitVec.ofNat 64 (0x8000 + 256 * 2 ^ 32), 0, 0, 0, 16383, 0, 0, 0, 0, 0, 0]

/-- A LANE of one element. -/
def laneDesc : Desc := [0x11, 1, 0, 0, 0x1000, 0x8000, 0, 0, 0, 16383, 0, 0, 0, 0, 0, 0]

/-- A CHAIN of one MUL stage by 2 over one FP32 element from 0 to 0x8000. -/
def chainDesc : Desc := [BitVec.ofNat 64 (0x41 + 1 * 2 ^ 8), BitVec.ofNat 64 (1 + 1 * 2 ^ 32), BitVec.ofNat 64 (0 + 64 * 2 ^ 32),
  BitVec.ofNat 64 (0x8000 + 64 * 2 ^ 32), 0, 0, 16383, 0, BitVec.ofNat 64 (1 + 0x40000000 * 2 ^ 32), 0, 0, 0, 0, 0, 0, 0]

/-- Array 127 is enabled. -/
def arrayOn : State := (State.reset.setFld Reg.MAT_CTRL_ENABLE (instDelta 127) 1).setFld Reg.CHN_CTRL_ENABLE (instDelta 63) 1

theorem test_engine_codes : arrayOn.passCode 127 passDesc = none ∧ arrayOn.laneCode 127 laneDesc = none ∧ arrayOn.chainCode 63 chainDesc = none ∧
    State.reset.passCode 127 passDesc = some 0x0808 ∧ State.reset.laneCode 127 laneDesc = some 0x0808 ∧ arrayOn.matRoom 127 = true ∧
    arrayOn.chainRoom 63 = true ∧ arrayOn.matIdle 127 = true ∧ State.reset.coreTorn 63 = false ∧ State.reset.fuseSkip 127 = (15, 31) := by decide +kernel

/-- A command runs on array 127 at full activity. -/
def passing (d : Desc) : State := { arrayOn with arrays := [(127, ⟨[], [⟨⟨d, 63, 0⟩, 0, .waiting, some 0, false, false, 0, 0⟩], 8, [], [], []⟩)] }

/-- A chain command runs on core 63. -/
def chaining (d : Desc) : State :=
  { arrayOn with chains := [(63, ⟨[], some ⟨⟨d, 63, 0⟩, 0, false, false, none, 0, 0⟩⟩)] }.writeBytes (coreAddr 63 0) [0, 0, 0x40, 0x40]

theorem test_complete_hyp : (passing passDesc).tilePoisoned 127 (passOf passDesc) (List.range 64) = false ∧ (passOf passDesc).skip = false ∧
    (passing passDesc).checksumMode 127 = false ∧ (chaining chainDesc).chainPoison 63 (chainOf chainDesc) = 0 ∧
    (passing laneDesc).fetchPoisoned (matAddr 127 0) (1 * laneVecBytes 0) = false ∧ (passOf laneDesc).opcode = 0x11 := by decide +kernel

theorem test_lane_completes : (match exec (.passCompletion 127 ⟨[], 0, [], [], 0, 0⟩) (passing laneDesc) with
    | .next t => ((t.mat 127).running.length, (t.counter 16383).count) | _ => (9, 0)) = (0, 1) := by decide +kernel

theorem test_chain_doubles : (match exec (.chainCompletion 63) (chaining chainDesc) with
    | .next t => t.readNat (coreAddr 63 0x8000) 4 | _ => 0) = 0x40C00000 := by decide +kernel

/-- Pool `p` has two buffers of 256 bytes at 0x10000, its state at 0x20000, one buffer free and index 0 in use. -/
def pooled (p : Nat) (shared : Bool) : State :=
  let δ := instDelta p
  let s := (State.reset.setReg (Reg.PAN_CFG + δ) (BitVec.ofNat 64 (8 + 2 * 256 + (if shared then 2 ^ 32 else 0)))).setReg (Reg.PAN_BASE + δ) 0x10000
  let s := (s.setReg (Reg.PAN_STATE_BASE + δ) 0x20000).setFld Reg.PAN_STATE_FREE δ 1
  { s with pools := [(p, ⟨[0]⟩)] }.writeBytes 0x20000 (leBytes 4 1 ++ leBytes 4 0 ++ [1, 0])

theorem test_pool_hyp : (pooled 3 false).panCode 3 (2 ^ 63 + 3 * 2 ^ 48 + 0x10000) false = none ∧ (pooled 63 false).panCode 63 (2 ^ 63 + 63 * 2 ^ 48 + 0x10000) false = none ∧
    (pooled 63 true).panCode 63 (2 ^ 63 + 63 * 2 ^ 48 + 0x10000) false = none ∧ (pooled 63 true).panCode 63 (2 ^ 63 + 255 * 2 ^ 54 + 63 * 2 ^ 48 + 0x10000) true = some 0x2006 ∧
    (pooled 63 true).panCode 63 (2 ^ 63 + 2 ^ 54 + 63 * 2 ^ 48 + 0x10000) true = none ∧ (pooled 63 true).panCode 63 (2 ^ 63 + 63 * 2 ^ 48 + 0x10100) false = some 0x2005 ∧
    (pooled 63 false).panCode 63 (63 * 2 ^ 48 + 0x10000) false = some 0x2003 ∧ (pooled 63 true).inLpOrCore 0x20008 1 = true ∧ (pooled 63 true).readCode 0x20000 4 = 0 ∧
    ((pooled 63 true).setBad 0x20000 .poison).readCode 0x20000 4 = 0x1802 ∧
    (pooled 63 true).touchesView 0x20000 64 = false ∧ (pooled 63 true).poisoned 0x20000 64 = false := by decide +kernel

theorem test_pan_alloc : (match exec (.panAlloc .mc 3 0x1000) (pooled 3 false) with | .next t => t.readNat 0x1000 8 | _ => 0) = 0x8003000000010100 ∧
    (match exec (.panAlloc .mc 63 0x1000) (pooled 63 true) with | .next t => (t.readNat 0x1000 8, t.readByte 0x20009) | _ => (0, 0)) = (0x803F000000010100, 1) ∧
    (match exec (.panRelease .mc 63 0x803F000000010000) (pooled 63 true) with | .next t => (t.readNat 0x20004 4, t.readByte 0x20008, t.fld Reg.PAN_STATE_FREE (instDelta 63)) | _ => (9, 9, 9)) = (0, 0, 2) := by
  decide +kernel

/-- Queue `q` is a TC2 queue of 64 words that pops 64 bytes at a time and holds one packet of 65 bytes. -/
def queued (q : Nat) : State :=
  let δ := queueDelta q
  let s := (State.reset.setReg (Reg.QUE_CFG + δ) (BitVec.ofNat 64 (1 + 64 * 16 + 1 * 2 ^ 41))).setFld Reg.QUE_NOTIFY_STALE_US δ 1
  { s.setQueue q ⟨[⟨1, 5, List.replicate 65 7, []⟩], 0, 0⟩ with tb := 1000 }

theorem test_queue_hyp : (queued 4095).fld Reg.QUE_CFG_TYPE (queueDelta 4095) = 1 ∧ (queued 4095).fld Reg.QUE_STATE_CLOSED (queueDelta 4095) = 0 ∧
    ((queued 4095).queue 4095).words = 10 ∧ (queued 4095).fld Reg.QUE_CFG_DEPTH (queueDelta 4095) = 64 ∧
    (queued 4095).fld Reg.QUE_NOTIFY_STALE_US (queueDelta 4095) = 1 ∧ (queued 4095).fld Reg.QUE_STATE_STALE (queueDelta 4095) = 0 ∧
    (queued 4095).inLpOrCore 0x1000 128 = true ∧ (queued 4095).touchesView 0x1000 128 = false := by decide +kernel

theorem test_queue_pop : (match exec (.quePop .mc 4095 0x1000 ⟨false, [1]⟩) (queued 4095) with
    | .next t => (t.readNat 0x1000 8, t.readNat 0x100C 8, t.readNat 0x1014 6, t.readByte 0x1047, t.readByte 0x1048, t.readByte 0x1050, (t.queue 4095).consumed)
    | _ => (0, 0, 0, 0, 1, 0, 0)) = (65 + 2 ^ 16 + 5 * 2 ^ 24, 64 + 2 ^ 32, 8 + 0x2402 * 2 ^ 32, 7, 0, 7, 64) := by decide +kernel

theorem test_queue_stale : (match exec (.queStale 4095) (queued 4095) with | .next t => t.fld Reg.QUE_STATE_STALE (queueDelta 4095) | _ => 9) = 1 := by
  decide +kernel

/-- Region 65535 lies at 0x10000 with 4,096 bytes, key 7, every permission, saltern scope; the fabric runs. -/
def regioned : State := ({ State.reset with regions := [(65535, ⟨7, 0x10000, 0x1000, 0xF, 3, false, none⟩)], counters := [(16383, ⟨0, 0, true⟩)] }.setFld
  Reg.FAB_CTRL_ENABLE 0 1 |>.setReg Reg.FAB_ADMIT 1).setFld
  Reg.MBD_CTRL_NM_ENABLE (instDelta (bridgeOf (channelOf 0x10FF8))) 1

/-- A request of this device at an offset of region 65535. -/
def asked (typ off len : Nat) (body : Bytes) : Pkt :=
  { typ := typ, dest := 0, src := 0, len := len, addr := 65535 * 2 ^ 40 + off, key := 7, epoch := 3, body := body, cntEn := true, last := true, counter := 16383, reqId := 9 }

theorem test_request_checks : Claims.checks regioned (asked 1 0xFF8 8 []) = none ∧ Claims.checks regioned (asked 1 0xFF9 8 []) = some 0x3010 ∧
    Claims.checks regioned (asked 5 0x1000 64 []) = none ∧ Claims.checks State.reset (asked 5 0 0 []) = some 0x3005 ∧
    Claims.checks regioned { asked 2 0 8 [] with key := 8 } = some 0x300A ∧ Claims.checks regioned { asked 2 0 8 [] with src := 5 } = some 0x3007 ∧ regioned.pends = [] ∧ regioned.viewAt 0x10FC0 = none ∧
    regioned.readCode 0x10FF8 8 = 0 ∧ regioned.physCode 0x11000 = 0 ∧ regioned.touchesView 0x10FC0 64 = false ∧
    regioned.fld Reg.MBD_CTRL_NM_ENABLE (instDelta (bridgeOf (channelOf 0x10FF8))) = 1 := by decide +kernel

theorem test_request_write : (match exec (.writeRequest 1 (asked 1 0xFF8 8 [1, 2, 3, 4, 5, 6, 7, 8])) regioned with
    | .next t => (t.readNat 0x10FF8 8, (t.counter 16383).count, t.injected.map (fun r => (r.pkt.typ, r.pkt.code, r.pkt.reqId))) | _ => (0, 0, [])) =
    (0x0807060504030201, 1, [(0x11, 0, 9)]) := by decide +kernel

/-- A COPY of two parts waits for both its requests, the first of which reads 8 bytes to 0x2000. -/
def twoReads : State :=
  { State.reset with outstanding := [⟨5, .pump 1 0, 2, 0x2000, 8, 0⟩, ⟨6, .pump 1 1, 2, 0x2008, 8, 0⟩],
                     pumps := [⟨1, 0, none, 0, List.replicate 8 0, 0, 0, false, 0, 0, true, 0, [], false, none, []⟩] }

theorem test_ack_read : (match exec (.requestAck { typ := 0x10, dest := 0, src := 1, reqId := 5, len := 8, body := [1, 0, 0, 0, 0, 0, 0, 0x80] }) twoReads with
    | .next t => (t.readNat 0x2000 8, t.outstanding.map (fun r => r.id), t.pumps.length) | _ => (0, [], 9)) = (0x8000000000000001, [6], 1) := by decide +kernel

theorem test_advance_hyp : SMap.wf regioned.regions (fun _ => regionInit) = true ∧ (regioned.region 65535).size ≠ 0 ∧ State.reset.ras.owed = [] ∧ State.reset.ras.sweepTo = none ∧
    State.reset.ras.join = none := by decide +kernel

theorem test_advance : (match exec (.regionAdvanceAll .mc) { regioned with tb := 100000 } with
    | .next t => ((t.region 65535).epoch, (t.region 0).epoch) | _ => (9, 9)) = (4, 0) ∧
    (match exec (.regionAdvance .mc 65535) { regioned with regions := [(65535, ⟨7, 0x10000, 0x1000, 0xF, 255, false, some 0⟩)], tb := 32767 } with
    | .next t => ((t.region 65535).epoch, (t.region 65535).revoking) | _ => (9, false)) = (255, true) ∧
    (match exec (.revokingAdvance 65535) { regioned with regions := [(65535, ⟨7, 0x10000, 0x1000, 0xF, 255, true, some 0⟩)], tb := 32768 } with
    | .next t => ((t.region 65535).epoch, (t.region 65535).revoking) | _ => (9, true)) = (0, false) := by decide +kernel

/-- A commit of a group waits, with a register staged. -/
def committing (g : Group) (staged : SMap Word) : State :=
  { State.reset with pends := [⟨g, 15, none, true, staged, slotTableInit, [], .none⟩], staged := [(1, 2)] }

theorem test_commit_hyp : Claims.refusesAlways (committing (.pwrCtrl) [(Reg.PWR_CTRL, 0)]) ⟨.pwrCtrl, 15, none, true, [(Reg.PWR_CTRL, 0)], slotTableInit, [], .none⟩ 0x440C ∧
    ((Claims.checkedIn (committing (.queNotify 4095) []) ⟨.queNotify 4095, 15, none, true, [], slotTableInit, [], .none⟩).applyGroup [] (.queNotify 4095)).1 = 0 ∧
    State.reset.groupOfAddr (Reg.CTX_DESC0 + ctxDelta 16383) = some (.context 16383) ∧ State.reset.groupOfAddr Reg.GLB_ID = none ∧
    State.reset.groupOfAddr (Reg.QUE_CFG + queueDelta 4095) = some (.queCfg 4095) := by
  refine ⟨⟨?_, rfl⟩, ?_⟩ <;> decide +kernel

theorem test_commit_notify : (match exec (.queueCommit 4095 .notify) (committing (.queNotify 4095) [(Reg.QUE_NOTIFY + queueDelta 4095, 0x4003)]) with
    | .next t => (t.reg (Reg.QUE_NOTIFY + queueDelta 4095), t.pends.length, t.staged, t.fld Reg.SCH_COMMIT_STATUS_CODE (instDelta 15)) | _ => (0, 9, [], 9)) =
    (0x4003, 0, [(1, 2)], 0) := by decide +kernel

theorem test_commit_refused : (match exec .commitApply (committing (.pwrCtrl) [(Reg.PWR_CTRL, 0)]) with
    | .next t => (t.reg Reg.PWR_CTRL, t.fld Reg.SCH_COMMIT_STATUS_CODE (instDelta 15)) | _ => (0, 9)) = (State.reset.reg Reg.PWR_CTRL, 0x440C) := by decide +kernel

/-- A flit of one TC3 packet of type 0x30 with sequence number 0, with its CRC. -/
def goodFlit : Flit :=
  let p : Pkt := { typ := 0x30, dest := 0, src := 1 }
  let h : Nat := 1 + 3 * 4 + 64 + 128 + 7 * 2 ^ 29
  ⟨BitVec.ofNat 80 h, BitVec.ofNat 32 (flitCrc h (some (p.flitBody 0))), p.flitBody 0, 0, 0⟩

/-- Logical port 31 is in a state. -/
def linked (v : Nat) : State := State.reset.setLportState 31 v

theorem test_flit_bits (c : Nat) (h : c < 2 ^ 32) : crcBit 0xEDB88320 c < 2 ^ 32 := by
  unfold crcBit
  split
  · exact Nat.xor_lt_two_pow (by omega) (by decide)
  · omega

theorem test_flit_fold (l : List Nat) (c : Nat) (h : c < 2 ^ 32) : l.foldl (fun x _ => crcBit 0xEDB88320 x) c < 2 ^ 32 := by
  induction l generalizing c with
  | nil => exact h
  | cons _ t ih => exact ih _ (test_flit_bits c h)

theorem test_flit_bytes (bs : Bytes) (c : Nat) (h : c < 2 ^ 32) : bs.foldl (crcByte 0xEDB88320) c < 2 ^ 32 := by
  induction bs generalizing c with
  | nil => exact h
  | cons b t ih => exact ih _ (test_flit_fold _ _ (Nat.xor_lt_two_pow h (Nat.lt_trans b.isLt (by decide))))

theorem test_flit_crc (h : Nat) (b : Option Bytes) : flitCrc h b = (BitVec.ofNat 32 (flitCrc h b)).toNat := by
  have : flitCrc h b < 2 ^ 32 := Nat.xor_lt_two_pow (test_flit_bytes _ _ (by decide)) (by decide)
  rw [BitVec.toNat_ofNat, Nat.mod_eq_of_lt this]

theorem test_flit_hyp : (flitHdr goodFlit.header.toNat).illegal = false ∧ (pktOf goodFlit.body).bad 3 = false ∧ (linked 3).lportState 31 = 3 ∧
    goodFlit.body.length = 256 ∧ (flitHdr goodFlit.header.toNat).kind = 1 := by decide +kernel

theorem test_flit_good : flitCrc goodFlit.header.toNat (some goodFlit.body) = goodFlit.crc.toNat := test_flit_crc _ _

theorem test_flit_in_order : (((linked 3).takeSequenced 31 goodFlit).2.lport 31).hop.map (fun r => (r.pkt.typ, r.buffer)) = [(0x30, some (31, 2, 1))] := by decide +kernel

theorem test_link_slot : (linked 3).slotMayStart 31 0 0 = true ∧ ((linked 3).lport 31).active.entry 0 = .shared ∧
    (match exec (.linkSlotStart 31 0 ⟨0, []⟩) (linked 3) with | .next t => (t.out.length, (t.lport 31).nextSlot) | _ => (0, 0)) = (16, 1) := by decide +kernel

theorem test_link_fails : (match exec (.lnkTrainFail 31) (linked 2) with
    | .next t => (t.lportState 31, t.fld Reg.LNK_ERR_CODE (instDelta 15)) | _ => (0, 0)) = (4, 0x2805) ∧
    (match exec (.linkTrained 31 65535) (linked 4) with | .next t => (t.lportState 31, t.fld (delayFld 31) (instDelta 15)) | _ => (0, 0)) = (3, 65535) := by decide +kernel

/-- A packet for device 255 waits at this device, with a route over port 31 or none. -/
def routed (e : Nat) : State :=
  { linked 3 with injected := [⟨{ typ := 0x11, dest := 255, src := 0 }, 0, false, 0, none⟩], routes := [(255, e)] }

theorem test_packet_routes : (match exec (.packetRoute none) (routed 63) with | .next t => ((t.lport 31).queues.map List.length, t.injected.length) | _ => ([], 9)) =
    ([0, 0, 1, 0, 0, 0], 0) ∧ (match exec (.packetRoute none) (routed 31) with | .next t => (t.fld Reg.FAB_ERR_CODE, t.injected.length) | _ => (0, 9)) = (0x3102, 0) := by decide +kernel

theorem test_route_write : (match exec (.fabRtDataWrite .mc 63) (State.reset.setFld Reg.FAB_RT_SEL_INDEX 0 255) with
    | .next t => (t.routes, t.fld Reg.FAB_RT_SEL_INDEX) | _ => ([], 9)) = ([(255, 63)], 0) ∧ State.reset.routeEarly = false ∧
    (match exec (.switchOver .mc 1) State.reset with | .next t => (t.fld Reg.FAB_RT_CTRL_INJECT_EPOCH, (t.reg Reg.FAB_STAT_SWITCHES).toNat) | _ => (0, 0)) = (1, 1) ∧
    (match exec (.fabGangWrite .mc 0x172) State.reset with | .next t => (t.fld Reg.FAB_ERR_CODE) | _ => 0) = 0x310A ∧
    (match exec (.lnkStDataAccess .mc 15 (some 0x03FE)) State.reset with | .next t => ((t.lport 30).staged.entry 0, t.fld Reg.LNK_ERR_CODE (instDelta 15)) | _ => (.idle, 9)) = (.tc0 63 3, 0) := by decide +kernel

/-- A scheduled COPY of 8 bytes from this device to the end of region 65535. -/
def landing : Transfer :=
  ⟨leBytes 8 (65535 * 2 ^ 40 + 0xFF8) ++ leBytes 8 0 ++ leBytes 8 0 ++ leBytes 8 7 ++ leBytes 8 (3 * 2 ^ 32 + 2 ^ 62 + 16383 * 2 ^ 48) ++ leBytes 8 32, [1, 2, 3, 4, 5, 6, 7, 8]⟩

theorem test_transfer_lands : Claims.checks regioned (Claims.xferRequest regioned landing 8) = none ∧ bits (Claims.xferWord landing 5) 2 41 = 8 ∧
    (match exec (.tc0TransferLand 31 landing) regioned with | .next t => (t.readNat 0x10FF8 8, (t.counter 16383).count) | _ => (0, 0)) = (0x0807060504030201, 1) := by decide +kernel

theorem test_sluice_hyp : ({ State.reset with sluices := [(255, 63)] }).sluiceHop 255 = .port 31 ∧ State.reset.sluiceLocked = false ∧
    (match exec (.fabSluiceWrite .mc 0 0x100000000) State.reset with | .next t => t.out | _ => []) = [.csr 0 0] ∧
    (match exec (.fabSluiceWrite .mc 2 63) { State.reset with sluiceLocked := true } with | .next t => t.out | _ => []) = [.csr 0x3104 0] := by decide +kernel

/-- Port 3 is up at 400 Gb/s, queue pair 4095 is RTS on it with key 7, receive queue 4095 and reads; region 65535 admits hosts. -/
def hosted : State :=
  let s := { State.reset with regions := [(65535, ⟨7, 0x10000, 0x1000, 0xF + 2 ^ 31, 3, false, none⟩)],
                              qps := [(4095, { qpInit with words := [BitVec.ofNat 64 (1 + 3 * 4 + 32 + 4095 * 64 + 2 ^ 18), 5, 7, 0, 0, 0, 0, 0] })] }
  let s := (s.setFld Reg.FAB_CTRL_ENABLE 0 1).setFld Reg.MBD_CTRL_NM_ENABLE (instDelta (bridgeOf (channelOf 0x10FF8))) 1
  (s.setFld Reg.ETH_STATE_LINK (instDelta 3) 2).setFld Reg.ETH_CFG_ECN_EN (instDelta 3) 1

/-- A request of the queue pair's host for the last eight bytes of the region. -/
def hostReq (psn : BitVec 24) : RoceReq := ⟨4095, 3, psn, 0xFF8, 0x03FFFF, ⟨100, none, false, false⟩⟩

theorem test_host_hyp : (hosted.region 65535).hostEn = true ∧ hosted.fld Reg.ETH_STATE_LINK (instDelta 3) = 2 ∧ (hosted.qp 4095).state = 1 ∧ (hosted.qp 4095).port = 3 ∧
    (hosted.qp 4095).rqEn = true ∧ (hosted.qp 4095).rqQueue = 4095 ∧ (hosted.qp 4095).maxRead = 1 ∧ hosted.frameDrops 3 (hostReq 5).frame = false ∧ hosted.pends = [] ∧ Claims.hostChecks hosted (hostReq 5) 3 8 = none ∧
    Claims.hostChecks hosted (hostReq 5) 1 9 = some 0x3010 ∧ hosted.readCode 0x10FF8 8 = 0 := by decide +kernel

theorem test_host_ops : (match exec (.fetchAdd (hostReq 5) 3) (hosted.writeNat 0x10FF8 8 0xFFFFFFFFFFFFFFFE) with | .next t => (t.readNat 0x10FF8 8, t.out, (t.qp 4095).epsn) | _ => (0, [], 0)) =
      (1, [.eth 3 true (some ⟨0, some 3⟩) (.roce 4095 0 5 (leBytes 8 0xFFFFFFFFFFFFFFFE))], 6) ∧
    (match exec (.rdmaWrite (hostReq 4) [1] false) hosted with | .next t => (t.out, t.fld Reg.ETH_ERR_CODE (instDelta 3)) | _ => ([], 0)) = ([.eth 3 true (some ⟨0, some 3⟩) (.roce 4095 0x2C05 4 [])], 0x2C05) ∧
    (match exec (.cmpSwap (hostReq 5) 9 1) hosted with | .next t => t.readNat 0x10FF8 8 | _ => 1) = 0 := by decide +kernel

theorem test_host_ports : (match exec (.cnpReceived ⟨4095, ⟨64, none, false, false⟩⟩) hosted with | .next t => (t.qp 4095).rate | _ => none) = some 200000 ∧
    (match exec (.pfcReceived 3 0x40 [0, 0, 0, 0, 0, 0, 25]) (hosted.setFld Reg.ETH_CFG_PRIO1 (instDelta 3) 6) with
      | .next t => (t.fld Reg.ETH_STATE_PAUSED1 (instDelta 3), (t.ethPort 3).pausedUntil) | _ => (0, [])) = (1, [0, 32]) ∧
    (match exec (.ethLinkDown 3) hosted with | .next t => t.fld Reg.ETH_STATE_LINK (instDelta 3) | _ => 0) = 1 := by decide +kernel

/-- A SEND of 64 bytes at 0x1000 from core 63 to rank 0, queue 5, budget 9, counter 16383. -/
def sendDesc : Desc := (List.replicate 16 0 : Desc).set 0 0x58 |>.set 1 64 |>.set 3 0x1000 |>.set 6 (BitVec.ofNat 64 (5 + 9 * 4096)) |>.set 10 16383

/-- A collective of this device alone, of partition 0, with a descriptor. -/
def collOf (d : Desc) : Coll :=
  { seq := 3, core := 63, context := 0, part := 0, desc := d, key := 0, epoch := 0, strict := true, step := 0, members := [⟨0, 0, 0, 0⟩], self := 0, salterns := 1, fusion := [],
    sizes := [], ops := [], shape := 0, active := true, since := 0, moved := 0, vals := [], sent := [], owed := [], got := [], times := [], asm := [], code := 0, ended := false }

/-- A step-end barrier of partition 0 that has made its moves. -/
def barDesc : Desc := (List.replicate 16 0 : Desc).set 0 (BitVec.ofNat 64 (0x56 + 2 ^ 36 + 2 ^ 40)) |>.set 10 16383

def barred : State := let c := collOf barDesc; { State.reset with colls := [{ c with sent := c.sends, got := c.receives }] }

theorem test_send_accept : Claims.collRow ⟨63, sendDesc⟩ = some (.send ⟨63, sendDesc⟩) ∧ collNotZero sendDesc = false ∧ State.reset.collRoom 63 = true ∧
    (match exec (.send ⟨63, sendDesc⟩) State.reset with | .next t => ((t.counter 16383).err, t.fld Reg.COL_ERR_CODE) | _ => (0, 0)) = (0x340F, 0x340F) ∧
    (match exec (.send ⟨63, sendDesc⟩) ((State.reset.setFld Reg.COL_CTRL_ENABLE 0 1).setFld Reg.QUE_CFG_TYPE (queueDelta 5) 1) with | .next t => t.colls.map (fun c => c.core) | _ => []) = [63] := by decide +kernel

theorem test_barrier_hyp : (barred.colls.find? (fun c => barred.collDone c && decide (c.op = 0x56) && c.stepEnd && decide (c.part = 0))).map (fun c => (c.code, c.ended, c.sent.length)) =
    some (0, false, 2) := by decide +kernel

theorem test_coll_ends : (match exec .colTimeout { State.reset with tb := 2000000000, colls := [{ collOf ((List.replicate 16 0 : Desc).set 0 (BitVec.ofNat 64 (0x56 + 2 ^ 36))) with members := [⟨0, 0, 0, 0⟩, ⟨1, 1, 0, 1⟩] }] } with
    | .next t => (t.colls.map (fun c => (c.ended, c.code)), t.fld Reg.COL_ERR_CODE) | _ => ([], 0)) = ([(true, 0x340A)], 0x340A) ∧
    (match exec (.sendAck { typ := 0x11, dest := 0, src := 0, code := 0x2401, reqId := 7 }) { State.reset with colls := [collOf sendDesc], outstanding := [⟨7, .coll 3 0, 0x20, 0, 64, 0⟩] } with
    | .next t => ((t.counter 16383).err, t.colls.length, t.outstanding.length) | _ => (0, 9, 9)) = (0x2401, 0, 0) ∧
    State.reset.collDone { collOf sendDesc with ended := true, code := 5 } = true := by decide +kernel

theorem test_void_stale : (match exec (.stepVoid { typ := 0x30, dest := 0, src := 0 }) State.reset with
    | .next t => (t.reg Reg.COL_STAT_STEP_VOID_STALE).toNat | _ => 9) = 1 := by decide +kernel

/-- Partition 15 runs from time 0, its frame 1,000 ns; entry 0 of its table is given; context 16383 of it is ACTIVE; core 63 may run. -/
def scheduled (e : List Word) : State :=
  let δ := instDelta 15
  let s := ((State.reset.setReg (Reg.SCH_PART_FRAME + δ) 1000).setReg (Reg.SCH_PART_CORES + δ) 0x8000000000000000).setFld Reg.SCH_PART_STATE_STATE δ 3
  let s := (s.setReg (Reg.SCH_TBL_COUNT + δ) 1).setReg (Reg.CTX_DESC0 + ctxDelta 16383) (1 + 15 * 4)
  let s := (s.setReg (Reg.CTX_STATE + ctxDelta 16383) 1).setFld Reg.SEQ_CTRL_RUN (instDelta 63) 1
  s.setPart 15 { partInit with table := [(0, e)], nextFrame := 1000, rings := [(15, ⟨6 + 64 * 16 + 16383 * 2 ^ 21, 0x10000, 0x20000, 0x30000, 0, 0⟩)] }

/-- A RUN entry of core 63 at PC 5 and a TAKE entry of ring 15 with MAX 2. -/
def runEntry : List Word := [BitVec.ofNat 64 (2 ^ 32 + 16383 * 2 ^ 40), 5 + 7 * 2 ^ 32, 0x8000000000000000, 0]
def takeEntry : List Word := [BitVec.ofNat 64 (2 * 2 ^ 32 + 16383 * 2 ^ 40), BitVec.ofNat 64 ((15 + 2 * 65536) * 2 ^ 32), 0, 0]

theorem test_slot_run : ((scheduled runEntry).dueEntry 15 1).map (fun e => (e.2.ctx, e.2.mask)) = some (16383, 2 ^ 63) ∧
    (match exec (.slotRun 15) (scheduled runEntry) with | .next t => (t.seqPhase 63, t.seqPc 63, t.seqCtx 63, (t.seq 63).arg) | _ => (9, 9, 9, 9)) = (1, 5, 16383, 7) := by decide +kernel

theorem test_slot_take : (match exec (.slotTake 15) ((scheduled takeEntry).writeNat 0x10000 8 1) with
    | .next t => (t.readNat 0x20010 4, t.readNat 0x20040 8, (t.counter 16383).count, (t.ring 15 15).take) | _ => (9, 9, 9, 9)) = (1, 1, 1, 1) := by decide +kernel

theorem test_frame_starts : (match exec (.frameStart 15) { scheduled runEntry with tb := 1000 } with
    | .next t => ((t.part 15).frameAt, (t.part 15).nextFrame, (t.reg (Reg.SCH_STAT_FRAMES + instDelta 15)).toNat) | _ => (0, 0, 0)) = (1000, 2000, 1) := by decide +kernel

theorem test_context_ends : (match exec (.contextQuarantine 16383) ((scheduled runEntry).setCtxState 16383 2) with | .next t => t.ctxState 16383 | _ => 9) = 3 ∧
    (match exec (.contextFree 16383) ({ scheduled runEntry with tb := 8388480 }.setCtxState 16383 3) with | .next t => t.ctxState 16383 | _ => 9) = 0 ∧
    (match exec (.ctxTeardownSlow 16383) ({ scheduled runEntry with tb := 20001 }.setCtxState 16383 2) with
      | .next t => ((t.tornOf 16383).slow, t.fld Reg.GLB_ERR_CODE) | _ => (false, 0)) = (true, 0x3C06) := by decide +kernel

/-- Instance 15 has a manifest at 0x1000 of one device, this one, a MEMBER, with job 7; its partition is READY and the time base locked. -/
def launchable : State :=
  let δ := instDelta 15
  let s := (State.reset.setReg (Reg.SCH_LAUNCH_BASE + δ) 0x1000).setFld Reg.SCH_PART_STATE_STATE δ 1
  let s := (s.setFld Reg.SCH_PART_CFG_START_MODE δ 1).setFld Reg.CLK_TB_STATE_LOCKED 0 1
  s.writeBytes 0x1000 (leBytes 4 0x4C4E4301 ++ leBytes 4 1 ++ leBytes 4 1 ++ leBytes 4 7 ++ leBytes 8 9 ++ leBytes 4 (crc32c (List.replicate 16 0)) ++ List.replicate 36 0 ++ List.replicate 16 0)

theorem test_launch_hyp : (launchable.manifest 15).map (fun m => (m.job, m.self, m.member, m.startStep)) = some (7, 0, true, 9) ∧ launchable.launchInstance 7 = some 15 ∧
    launchable.launchInstance 8 = none ∧ State.reset.manifest 15 = none := by decide +kernel

theorem test_launch_root : (match exec (.launchStart 15 (some .mc)) launchable with
    | .next t => (t.partState 15, t.launchPhase 15, t.partStep 15, (t.launch 15).tStart.isSome) | _ => (9, 9, 9, false)) = (2, 3, 9, true) := by decide +kernel

/-- A launch packet of a job with eight further bytes. -/
def launchPkt (job : Nat) (tail : Bytes) : Pkt := { typ := 0x30, dest := 0, src := 3, body := leBytes 4 job ++ leBytes 4 0 ++ tail }

theorem test_launch_member : (match exec (.launch (launchPkt 7 (leBytes 8 (crc32c (List.replicate 16 0))))) launchable with
    | .next t => (t.partState 15, t.launchPhase 15, t.injected.length, (t.launch 15).job) | _ => (9, 9, 9, 9)) = (2, 2, 2, 7) ∧
    (match exec (.launch (launchPkt 8 [])) launchable with | .next t => t.injected.map (fun r => r.pkt.dest) | _ => []) = [3] := by decide +kernel

/-- Partition 15 is ARMED for job 7. -/
def armedFor : State := (launchable.setPartState 15 2).setLaunch 15 { launchInit with job := 7, member := true }

theorem test_launch_ends : (match exec (.go (launchPkt 7 (leBytes 8 1001))) armedFor with | .next t => ((t.launch 15).tStart, t.partStep 15) | _ => (none, 0)) = (some 1001, 9) ∧
    (match exec (.abort (launchPkt 7 (leBytes 8 5))) armedFor with | .next t => (t.partState 15, t.fld Reg.SCH_LAUNCH_STATE_CODE (instDelta 15)) | _ => (9, 9)) = (1, 5) ∧
    (match exec (.tStartReached 15) (armedFor.setLaunch 15 { launchInit with job := 7, tStart := some 0 }) with | .next t => (t.partState 15, t.launchPhase 15) | _ => (9, 9)) = (3, 4) := by
  decide +kernel

/-- The state after reset with the core die on; context 16383 is ACTIVE with SEED bytes 0, 1, 2 and on to 31; randomness is enabled. -/
def seeded : State :=
  let δ := ctxDelta 16383
  let s := (State.reset.setReg (Reg.CTX_STATE + δ) 1).setFld Reg.DET_CTRL_RNG_EN 0 1
  let w := fun (i : Nat) => BitVec.ofNat 64 (leNat ((List.range 8).map (fun j => BitVec.ofNat 8 (8 * i + j))))
  let s := (List.range 4).foldl (fun s i => s.setReg (Reg.CTX_DESC4 + δ + 8 * i) (w i)) s
  { s with coreOn := true, pins := { s.pins with pwrGood := true } }

/-- A fill of one block at 0x20000 for context 16383 that increments counter 16383; its descriptor lies in core store 0. -/
def filling : State :=
  seeded.writeBytes 0x100000000000 (leBytes 8 (0x60 + 7 * 2 ^ 32) ++ leBytes 8 16383 ++ leBytes 8 0 ++ leBytes 8 5 ++ leBytes 8 1 ++ leBytes 8 0x20000 ++ leBytes 8 16383 ++ leBytes 8 0)

theorem test_fill_hyp : filling.descriptorHeld 0x100000000000 = true ∧ filling.readSilent 0x100000000000 64 = true ∧ filling.pins.pwrGood = true ∧ filling.coreOn = true ∧ filling.fillSpace 0x100000000000 64 = true ∧ filling.fills = [] ∧
    (match filling.fillCode none 0x100000000000 (bytesToDesc 8 (filling.fetch 0x100000000000 64)) with | none => true | _ => false) = true := by decide +kernel

theorem test_fill_queued : (match exec (.detRngFill .mc 0x100000000000) filling with
    | .next t => t.fills.map (fun f => (f.ctx, f.stage, f.first, f.blocks, f.dest, f.completion)) | _ => []) = [(16383, 7, 5, 1, 0x20000, 16383)] := by decide +kernel

theorem test_fill_codes : (match exec (.detRngFill .mc (2 ^ 48)) filling with | .next t => t.out.head? | _ => none) = some (.csr 0x0001 0) ∧
    (match exec (.detRngFill .mc 0x100000000000) (filling.setFld Reg.DET_CTRL_RNG_EN 0 0) with | .next t => (t.counter 16383).err | _ => 0) = 0x580D ∧
    (match exec (.detRngFill .mc 0x100000000008) filling with | .next t => t.fld Reg.DET_ERR_CODE | _ => 0) = 0x5801 ∧
    (match exec (.detRngFill .mc 0xFFFFFFFFFFC0) filling with | .next t => t.fld Reg.DET_ERR_CODE | _ => 0) = 0x5802 := by decide +kernel

/-- RFC 8439, 2.3.2: the block function's test vector, as the spec's layout of nonce and counter gives it. -/
theorem test_chacha : (keystream ((List.range 32).map (BitVec.ofNat 8)) 0x09000000 0x4A000000 0 1).take 16 =
    [0x10, 0xF1, 0xE7, 0xE4, 0xD1, 0x3B, 0x59, 0x15, 0x50, 0x0F, 0xDD, 0x1F, 0xA3, 0x20, 0x71, 0xC4] := by decide +kernel

theorem test_fill_writes : (match exec .fillComplete { seeded with fills := [⟨16383, 7, 0, 5, 1, 0x20000, 16383, 0⟩] } with
    | .next t => (t.readNat 0x20000 1, (t.counter 16383).count, t.fills.length) | _ => (0, 0, 9)) =
      (leNat ((keystream (seeded.ctxSeed 16383) 16383 7 0 5).take 1), 1, 0) := by decide +kernel

/-- The log holds an entry of severity 2 that is not in flash. -/
def logged : State := { State.reset with pins := { State.reset.pins with pwrGood := true }, log := ⟨[⟨9, 0x4801, 1, 2, false, 9, 0, 0, 0⟩], 1, [], 0, 0⟩ }

theorem test_flash_log : (match exec (.flashLogBatch false) logged with | .next t => (t.flash.log.length, t.log.flashed) | _ => (9, 9)) = (1, 0) ∧
    (match exec (.flashLogBatch true) logged with | .next t => t.fld Reg.MGT_ERR_CODE | _ => 9) = 0x4C11 := by decide +kernel

theorem test_alert_read : (match exec (.mgtAlertRead .mc) (logged.setReg Reg.MGT_ALERT 0x8000000000014801) with
    | .next t => (t.out.head?, t.reg Reg.MGT_ALERT) | _ => (none, 9)) = (some (.csr 0 0x8000000000014801), 0) := by decide +kernel

theorem test_log_data3 : (match exec (.mgtLogData3Read .mc) logged with
    | .next t => (t.out.head?, t.fld Reg.MGT_LOG_SEL_SEQ) | _ => (none, 9)) = (some (.csr 0 (leNat ((logged.logEntry 0).drop 24))), 1) := by decide +kernel

theorem test_sensor_sample : (match exec (.sensorSample [(0x2A, 12000), (0, 1680)]) State.reset with
    | .next t => (t.power.samples, t.power.usedMs) | _ => ([], 0)) = ([12000], 1) := by decide +kernel

/-- The canonical table that holds a byte string from a key on, above a default. -/
def placed (d : Byte) : Nat → Bytes → SMap Byte
  | _, [] => []
  | a, b :: l => if b = d then placed d (a + 1) l else (a, b) :: placed d (a + 1) l

theorem placed_below (d : Byte) (l : Bytes) : ∀ (a k : Nat), k < a → SMap.find? (placed d a l) k = none := by
  induction l with
  | nil => intro a k _; rfl
  | cons b l ih =>
    intro a k h
    have hk : ¬ a = k := by omega
    by_cases hb : b = d <;> simp [placed, hb, SMap.find?, hk, ih (a + 1) k (by omega)]

theorem placed_get (d : Byte) (l : Bytes) : ∀ (a i : Nat), SMap.get (placed d a l) (fun _ => d) (a + i) = l.getD i d := by
  induction l with
  | nil => intro a i; simp [placed, SMap.get, SMap.find?]
  | cons b l ih =>
    intro a i
    cases i with
    | zero =>
      by_cases hb : b = d <;> simp [placed, hb, SMap.get, SMap.find?, placed_below d l (a + 1) a (by omega)]
    | succ i =>
      have h := ih (a + 1) i
      have e : a + 1 + i = a + (i + 1) := by omega
      rw [e] at h
      by_cases hb : b = d <;> simp [placed, hb, SMap.get, SMap.find?] at h ⊢ <;> exact h

theorem viewAt_none (s : State) (h : ∀ v, v < 64 → ∀ b, b < 8 → s.viewOn b v = false) (pa : Nat) : s.viewAt pa = none := by
  unfold State.viewAt
  apply List.findSome?_eq_none_iff.2
  intro b hb
  split
  · rfl
  · apply List.findSome?_eq_none_iff.2
    intro v hv
    simp [h v (List.mem_range.1 hv) b (List.mem_range.1 hb)]

theorem map_getD (l : Bytes) (d : Byte) : (List.range l.length).map (fun i => l.getD i d) = l := by
  apply List.ext_getElem
  · simp
  · intro i h1 h2
    simp at h1
    simp [h1]

theorem placed_flash (f : Flash) (l : Bytes) (h : f.image = placed 0xFF 0 l) : f.read 0 l.length = l := by
  have e : (fun i => f.image.get erased (0 + i)) = fun i => l.getD i 0xFF := by
    funext i; rw [h]; exact placed_get 0xFF l 0 i
  unfold Flash.read
  rw [e, map_getD]

theorem placed_fetch (s : State) (a : Nat) (l : Bytes) (hm : s.mem = placed 0 a l) (hs : s.scratch = []) (ha : a + l.length ≤ generalSize)
    (hv : ∀ v, v < 64 → ∀ b, b < 8 → s.viewOn b v = false) : s.fetch a l.length = l := by
  have e : ∀ i, i < l.length → s.fetchByte (a + i) = l.getD i 0 := by
    intro i hi
    have hp : physArea (a + i) = .lpddr := by
      have : a + i < lpddrSize := by unfold lpddrSize; unfold generalSize at ha; omega
      simp [physArea, this]
    have hr : s.readByte (a + i) = l.getD i 0 := by
      have hg := placed_get 0 l a i
      simp only [State.readByte, hs, scratchAt, List.find?_nil, hm]
      exact hg
    have hg : State.spareHome s (a + i) = a + i := by
      unfold State.spareHome
      rw [if_pos]
      left
      have : granuleAddr 0 spareGranule 0 = generalSize := by decide +kernel
      omega
    simp only [State.fetchByte, hp, hg, viewAt_none s hv, hr]
  unfold State.fetch
  have h2 : (List.range l.length).map (fun i => s.fetchByte (a + i)) = (List.range l.length).map (fun i => l.getD i 0) := by
    apply List.map_congr_left
    intro i hi
    exact e i (List.mem_range.1 hi)
  rw [h2, map_getD]

/-- An image of 544 bytes, signed by a key of the tests: a header and a configuration section of a WAIT and an END record. -/
def img : Bytes := leBytes 512 0xff818cd1dbfb2a9185ba883c2ee83c101964a3262708945b830adec0289ae5f991fa346bea77f8b1d86b008eaf6bd558be96593130c6bb020821de4d34fdf1439155b2206565436b8a28a9adbbe49db98c5cc2c253f98bd3038f60cc37a2474e000000000000000000000000000000009f1f7f6f8270036d8244985674677ac03e7f8e0fe0128ab0bed1fe1004cf974380b2f10406a9e8e8eb339ae61c6b740e4f74ba3fbbb1d198c49b23aec2080f38a1802fcfa41e756a7a95367784dad8d1014e5ed39e5c664e915bc655166d13d5f289cb6f25bcc2a5c3465f0d45058b3cd819de47174187a42c85c0d7d6684bdfa8b9ab5bc5060638cea605e3dd5bcc720000000000000000aaaaaaaaaaaaaaaaaaaaaaaaaaaaaaaaaaaaaaaaaaaaaaaaaaaaaaaaaaaaaaaaffffffffffffffff00000000000000000000000000000000000000000000002000000000000000010000000000000099000000014c4b0901 ++ leBytes 32 0x800000000000000010000000000000007

/-- The fuses hold the hash of the tests' key in slot 0, and the flash holds the image. -/
def imaged : State :=
  { State.reset with fuses := { State.reset.fuses with keysProvisioned := 1, keyHashes := [leBytes 48 0x1d68575b2ea1901aa6a14cf3562ab80bff4a85322c7b0a319cec84181d84ea3160ae72219243f8b259eebe0f7da56a15] }, flash := { State.reset.flash with image := placed 0xFF 0 img } }

theorem img_length : img.length = 544 := by decide +kernel

theorem test_image_read : imaged.flash.read 0 544 = img := by
  have h := placed_flash imaged.flash img rfl
  rwa [img_length] at h

theorem test_image_code : imaged.imageCode img = none := by decide +kernel

theorem Flash.read_part (f : Flash) (a i n m : Nat) (h : i + n ≤ m) : f.read (a + i) n = ((f.read a m).drop i).take n := by
  apply List.ext_getElem
  · simp [Flash.read]; omega
  · intro j h1 h2
    simp [Flash.read, Nat.add_assoc]

theorem test_image_header : imaged.flash.read 0 0x200 = img.take 0x200 := by
  have h := Flash.read_part imaged.flash 0 0 0x200 544 (by decide)
  simpa [test_image_read] using h

theorem test_image_config : imaged.flash.read 0x200 32 = img.drop 0x200 := by
  have h := Flash.read_part imaged.flash 0 0x200 32 544 (by decide)
  simp only [test_image_read, Nat.zero_add] at h
  rw [h]; decide +kernel

theorem test_cold_hyp : imaged.mgmt.boot = some true ∧ imaged.pins.resetLow = false ∧ imaged.flash.good = true ∧ imaged.flash.capacity = 0x4000000 ∧
    imaged.headerCode (imaged.flash.read 0 0x200) = none ∧ imgCfgLen (imaged.flash.read 0 0x200) = 32 ∧
    sha384 (imaged.flash.read 0x200 32) = ((imaged.flash.read 0 0x200).drop 0x60).take 48 := by
  rw [test_image_header, test_image_config]; decide +kernel

theorem test_plain_image : (∀ x ∈ sectionRecords true 3 0 0 (img.drop 0x200), (match x.2.2 with | some r => decide (r.typ ∉ [1, 2, 5]) | none => false) = true) ∧
    chunkTableGood (img.take 0x200) (img.drop 0x200) = true ∧ (∀ m, m < 128 → imgArrayReq (img.take 0x200) m = 2) ∧
    hdrNat (img.take 0x200) 0x28 8 = 0 ∧ hdrNat (img.take 0x200) 0x14 4 = 0 ∧ imgMemLen (img.take 0x200) = 0 := by decide +kernel

/-- A warm boot is due with the image's header and a configuration section. -/
def warmDue (h cfg : Bytes) : State := { State.reset with mgmt := { State.reset.mgmt with boot := some false, header := h, config := cfg }, coreOn := false }

theorem test_warm_hyp : sha384 (img.drop 0x200) = ((img.take 0x200).drop 0x60).take 48 ∧ (warmDue [] []).fld Reg.RAS_STATE_FALLOW = 0 ∧
    (warmDue [] []).ras.escs = [] ∧ ((warmDue [] []).setFld Reg.RAS_STATE_FALLOW 0 1).fld Reg.RAS_STATE_FALLOW = 1 := by decide +kernel

theorem test_warm_held : (match exec (.warmBoot [] []) (warmDue (List.replicate 0x60 0 ++ sha384 []) []) with
    | .next t => (t.fld Reg.MGT_BOOT_STATE, t.fld Reg.MGT_BOOT_CODE) | _ => (0, 0)) = (7, 0x4C08) := by decide +kernel

theorem test_recovery : (match exec (.warmBoot [] []) (warmDue [] []) with | .next t => (t.fld Reg.MGT_BOOT_STATE, t.fld Reg.MGT_BOOT_CODE, t.lportState 30) | _ => (0, 0, 0)) =
    (8, 0x4C07, 2) := by decide +kernel

theorem test_stage_timeout : (match exec (.mgtStageTimeout) { State.reset with inputs := ⟨[], [⟨0, [], []⟩]⟩ } with | .next t => (t.fld Reg.MGT_BOOT_STATE, t.fld Reg.MGT_BOOT_CODE) | _ => (0, 0)) = (7, 0x4C16) := by
  decide +kernel

/-- In RECOVERY the header has been loaded from port 31, which is asked for more. -/
def resuming (bs : Bytes) : State :=
  { (imaged.setFld Reg.MGT_BOOT_STATE 0 8).setLportState 31 3 with mgmt := { State.reset.mgmt with load := bs, asking := some ⟨31, 0, 0, none⟩ }, flash := State.reset.flash }

theorem test_image_data : (match exec (.imageData 31 { typ := 0x30, dest := 0, src := 0, body := leBytes 8 512 ++ leBytes 2 32 ++ img.drop 512 }) (resuming (img.take 512)) with
    | .next t => (t.fld Reg.RAS_STATE_CYCLE_REQ, t.mgmt.load.length) | _ => (9, 9)) = (1, 0) := by decide +kernel

theorem test_image_asks_on : (match exec (.imageData 31 { typ := 0x30, dest := 0, src := 0, body := leBytes 8 0 ++ leBytes 2 3 ++ [1, 2, 3] }) (resuming []) with
    | .next t => (t.mgmt.load, ((t.lport 31).queues.map List.length).sum, t.mgmt.asking) | _ => ([], 9, none)) = ([1, 2, 3], 1, some ⟨31, 0, 0, none⟩) := by decide +kernel

theorem test_image_fails : (resuming (img.take 511)).loadCode (img.take 511) (img.take 511 ++ [1]) = some 0x4C02 ∧ (resuming []).nextUp 0 = some 31 ∧ (resuming []).nextUp 32 = none := by decide +kernel

theorem test_image_repeats : (match exec .imageReqTimeout { resuming [] with tb := 10000000 } with | .next t => t.mgmt.asking | _ => none) = some ⟨31, 10000000, 1, none⟩ := by decide +kernel

/-- REQ_QUEUE is queue 4095, whose head is a request; replies go to 0x10000. -/
def requested (op slot : Nat) (tail : Bytes) : State :=
  let s := ((State.reset.setFld Reg.MGT_CTRL_REQ_EN 0 1).setFld Reg.MGT_CTRL_REQ_QUEUE 0 4095).setReg Reg.MGT_REPLY_BASE 0x10000
  s.setQueue 4095 { s.queue 4095 with packets := [⟨0, 0, leBytes 4 op ++ leBytes 4 slot ++ tail ++ List.replicate (56 - tail.length) 0, []⟩] }

theorem test_request_status : (match exec .requestStatus (requested 3 127 []) with | .next t => (t.readNat (0x10000 + 127 * 512) 4, (t.queue 4095).packets.length, t.mgmt.replies) | _ => (9, 9, 9)) =
    (3, 0, 1) := by decide +kernel

theorem test_request_update : (match exec .requestUpdate (requested 2 127 (leBytes 8 0x100 ++ leBytes 8 0x40)) with | .next t => (t.mgmt.update, t.fld Reg.MGT_UPDATE_PHASE) | _ => (none, 9)) =
    (some (0x100, 0x40, .queue 127), 1) := by decide +kernel

/-- An update of the image from 0x1000 is running, in a phase. -/
def updatingIn (ph : Nat) : State :=
  { imaged.setReg Reg.MGT_UPDATE (BitVec.ofNat 64 ph) with mem := placed 0 0x1000 img, mgmt := { State.reset.mgmt with update := some (0x1000, 544, .monitor) } }
def updating : State := updatingIn 1

theorem test_update_phases : [1, 2, 3, 4].map (fun ph => (updatingIn ph).fld Reg.MGT_UPDATE_PHASE) = [1, 2, 3, 4] := by decide +kernel

theorem test_update_erased : (match exec (.updateEnd ⟨.erased, false⟩) (updatingIn 2) with | .next t => (t.flash.image, t.fld Reg.MGT_UPDATE_PHASE) | _ => ([], 9)) = ([], 3) := by
  decide +kernel

theorem test_update_fetch : updating.fetch 0x1000 544 = img ∧ updating.fetchPoisoned 0x1000 544 = false := by
  refine ⟨?_, by decide +kernel⟩
  have h := placed_fetch updating 0x1000 img rfl rfl (by rw [img_length]; decide) (by decide +kernel)
  rwa [img_length] at h

theorem test_update_code : updating.imageCode img = none := by decide +kernel

theorem test_update_refused : (match exec (.updateEnd ⟨.ended, false⟩) { updating with mem := [] } with | .next t => (t.out, t.fld Reg.MGT_UPDATE_PHASE, t.fld Reg.MGT_UPDATE_CODE) | _ => ([], 9, 9)) =
    ([.monitor 0x4C02 []], 6, 0x4C02) := by decide +kernel

/-- A target with a dynamic address. -/
def addressed : State := { State.reset with mgmt := { State.reset.mgmt with i3cAddr := some 9 } }

theorem test_i3c_addresses : (match exec (.i3cEntdaa 127) State.reset with | .next t => t.mgmt.i3cAddr | _ => none) = some 127 ∧
    (match exec (.i3cSetdasa 0x4B 127) State.reset with | .next t => t.out | _ => []) = [.i3c false 0 0 []] ∧
    (match exec .i3cRstdaa addressed with | .next t => t.mgmt.i3cAddr | _ => none) = none := by decide +kernel

theorem test_i3c_update : (match exec (.i3cUpdate 0x1000 0x40) addressed with | .next t => (t.mgmt.update, t.out) | _ => (none, [])) =
    (some (0x1000, 0x40, .i3c), [.i3c true 1 0 []]) ∧
    (match exec (.i3cUpdate 0x1000 0) addressed with | .next t => t.out | _ => []) = [.i3c true 2 0x4C13 []] := by decide +kernel

theorem test_i3c_alert : (match exec .i3cAlert (addressed.setReg Reg.MGT_ALERT 0x8000000000014801) with | .next t => (t.reg Reg.MGT_ALERT, t.out) | _ => (1, [])) =
    (0, [.i3c true 0 0 (leBytes 8 0x8000000000014801)]) := by decide +kernel

/-- An unread dump of 4,096 bytes is kept, and the monitor is unlocked with every permission. -/
def opened : State :=
  let s := ((addressed.setFld Reg.SEC_MON_UNLOCKED 0 1).setFld Reg.SEC_MON_PERMS 0 31).writeBytes (dumpBase + 0x11) [2]
  let s := s.writeNat (dumpBase + 0x20) 8 4096
  { s with mgmt := { s.mgmt with monitor := { s.mgmt.monitor with unlockedTo := some 1000, revert := some (9600, 7) } } }

theorem test_export_hyp : opened.dumpState = 2 ∧ opened.dumpLength = 4096 ∧ opened.chanDead (channelOf dumpBase) = false ∧ opened.poisoned dumpBase 64 = false ∧
    opened.touchesView (dumpBase + 0x11) 1 = false ∧ opened.touchesView 0x1000 4096 = false ∧ bit (opened.fld Reg.SEC_MON_PERMS) 4 = true := by decide +kernel

theorem test_monitor_locked : (match exec (.monCsrRead 0) State.reset with | .next t => t.out | _ => []) = [.monitor 0x4C14 []] ∧
    (match exec .monLock opened with | .next t => (t.mgmt.monitor.unlockedTo, t.fld Reg.SEC_MON_PERMS, t.mgmt.monitor.revert) | _ => (none, 9, none)) = (none, 0, none) := by decide +kernel

theorem test_monitor_memory : (match exec (.monMemWrite 0x1000 (some 0x0102030405060708)) opened with | .next t => t.readNat 0x1000 8 | _ => 0) = 0x0102030405060708 ∧
    (match exec (.monMemRead 0x1000 4) (opened.writeNat 0x1000 4 7) with | .next t => t.out | _ => []) = [.monitor 0 [7, 0, 0, 0]] ∧
    (match exec (.monMemWrite 0xFFFFFFFFFFFF none) opened with | .next t => t.out | _ => []) = [.monitor 0x0005 []] := by decide +kernel

theorem test_monitor_csr : (match exec (.monCsrWrite (BitVec.ofNat 32 Reg.MGT_LOG_SEL) 5) opened with | .next t => (t.fld Reg.MGT_LOG_SEL_SEQ, t.out) | _ => (0, [])) = (5, [.monitor 0 []]) ∧
    (match exec (.monCsrRead (BitVec.ofNat 32 Reg.MGT_LOG_SEL)) opened with | .next t => t.out | _ => []) = [.monitor 0 (leBytes 8 0)] := by decide +kernel

theorem test_monitor_reset : opened.fld Reg.RAS_STATE_FALLOW = 0 ∧ opened.inChipWindow = false ∧ opened.ras.escs = [] ∧
    (match exec .monResetChip opened with | .next t => (t.ras.escs.length, t.out) | _ => (0, [])) = (1, [.monitor 0 []]) := by decide +kernel

theorem test_monitor_lines : (match exec (.monBaud 3000000) opened with | .next t => t.mgmt.monitor.newBaud | _ => none) = some (3000000, 0) ∧
    (match exec (.monBaud 9599) opened with | .next t => t.out | _ => []) = [.monitor 0x4C15 []] ∧
    (match exec (.monLoad 0x3000000) opened with | .next t => t.mgmt.monitor.xfer.map (fun x => x.kind) | _ => none) = some (.load 0x3000000) ∧
    (match exec (.monLoad 0x3000001) opened with | .next t => t.out | _ => []) = [.monitor 0x4C15 []] := by decide +kernel

/-- A member of a gang. -/
def follower : State := (addressed.setFld Reg.FAB_GANG_SIZE 0 2).setFld Reg.FAB_GANG_INDEX 0 1

theorem test_follower : follower.fld Reg.FAB_GANG_SIZE = 2 ∧ (match exec .i3cId follower with | .next t => t.out | _ => [.csr 0 0]) = [] ∧
    (match exec .monId follower with | .next t => t.out | _ => [.csr 0 0]) = [] := by decide +kernel

theorem test_stopped_access : (match exec (.monCsrRead (BitVec.ofNat 32 Reg.FAB_GANG)) { opened with clock := { opened.clock with unlocked := [(9, 1)] } } with | .next t => t.out | _ => [.csr 0 0]) = [] := by
  decide +kernel

/-- A transfer is running. -/
def receiving (k : XferKind) (data : Bytes) (n : Nat) : State :=
  { opened with mgmt := { opened.mgmt with load := if k = .token then [] else data, monitor := { opened.mgmt.monitor with xfer := some ⟨k, 0, data, n, 0⟩, nonce := some (List.replicate 32 7, 0) } },
                fuses := { opened.fuses with keysProvisioned := 1, keyHashes := [leBytes 48 0x1d68575b2ea1901aa6a14cf3562ab80bff4a85322c7b0a319cec84181d84ea3160ae72219243f8b259eebe0f7da56a15] } }

theorem test_frames : (match exec (.monitorFrame 0 [1, 2] (BitVec.ofNat 32 (crc32 [0, 0, 2, 0, 1, 2]))) (receiving .token [] 3) with
      | .next t => (t.mgmt.monitor.xfer, t.out) | _ => (none, [])) = (some ⟨.token, 1, [1, 2], 0, 0⟩, [.frame 0 0]) ∧
    (match exec (.monitorFrame 1 [1, 2] 0) (receiving .token [] 7) with | .next t => (t.mgmt.monitor.xfer, t.out) | _ => (none, [])) =
      (none, [.monitor 0x4C15 [], .frame 1 0x4C15]) ∧
    (match exec (.monitorFrame 0 [1] (BitVec.ofNat 32 (crc32 [0, 0, 1, 0, 1]))) (receiving (.memWrite 0x1000) (List.replicate 7 9) 0) with | .next t => t.readNat 0x1000 8 | _ => 0) = 0x0109090909090909 ∧
    (match exec .frameGapTimeout { receiving .token [] 0 with tb := 2000000000 } with | .next t => t.out | _ => []) = [.monitor 0x4C15 []] := by decide +kernel

/-- A token of the tests' key for this device, with every permission for 60 s. -/
def token : Bytes := leBytes 256 0x76f21aeb64a8baf297a585844c6987038682e60b20b0c0fda3a6c85690fbac1ae9bf1b0f5fc8586090eb861f67b79909299d5f588dc9d3b0116e72ba0e9be149c1cea4bf25dc66e50e77ecc552189b7f33848cd2db58775d531e49de585574e39f1f7f6f8270036d8244985674677ac03e7f8e0fe0128ab0bed1fe1004cf974380b2f10406a9e8e8eb339ae61c6b740e4f74ba3fbbb1d198c49b23aec2080f38a1802fcfa41e756a7a95367784dad8d1014e5ed39e5c664e915bc655166d13d5000000000000003c0707070707070707070707070707070707070707070707070707070707070707000000000000000000000000000000001f000001444b5401

theorem test_token : (receiving .token [] 0).tokenCode token = none ∧ (receiving .token [] 0).tokenCode [] = some 0x5001 ∧ token.length = 256 := by decide +kernel

theorem test_token_fails : (match exec (.monitorFrame 0 [1] (BitVec.ofNat 32 (crc32 [0, 0, 1, 0, 1]))) (receiving .token (List.replicate 255 0) 0) with
    | .next t => (t.mgmt.monitor.fails, t.mgmt.monitor.nonce.isNone, t.fld Reg.GLB_ERR_CODE) | _ => (9, false, 0)) = (1, true, 0x5001) := by decide +kernel

theorem test_rates : (match exec .baudRateChange { opened with tb := 10000000, mgmt := { opened.mgmt with monitor := { opened.mgmt.monitor with newBaud := some (9600, 0) } } } with
      | .next t => (t.mgmt.monitor.baud, t.mgmt.monitor.revert) | _ => (0, none)) = (9600, some (115200, 5010000000)) ∧
    (match exec .baudRevert { opened with tb := 7 } with | .next t => t.mgmt.monitor.baud | _ => 0) = 9600 ∧
    (match exec .unlockExpiry { opened with tb := 1000 } with | .next t => t.fld Reg.SEC_MON_UNLOCKED | _ => 9) = 0 := by decide +kernel

/-- A sprint window of partition 15 is open from time 0, in a state of that time. -/
def sprinting (tb : Nat) : State :=
  let s := (State.reset.setFld Reg.PWR_STATE_SPRINT_OPEN 0 1).setFld Reg.PWR_SPRINT_CFG_SPRINT_MAX_MS 0 10
  { s with tb := tb, power := { s.power with sprintAt := some 0 } }

theorem test_sprint_end : (match exec .pwrSprintEnd (sprinting 10000000) with | .next t => (t.power.sprintAt, t.fld Reg.PWR_STATE_SPRINT_OPEN, t.fld Reg.PWR_ERR_CODE) | _ => (none, 9, 9)) = (none, 0, 0x440D) ∧
    (match exec .pwrSprintEnd (sprinting 9999999) with | .next t => t.power.sprintAt | _ => none) = some 0 := by decide +kernel

theorem test_stretch : (match exec .stretchUpdate { State.reset with power := { State.reset.power with samples := [11001] } } with
    | .next t => (t.power.sPw, t.power.sTh, t.fld Reg.PWR_STATE_STRETCH, t.fld Reg.CLK_STATE_CCLK_MHZ, t.fld Reg.PWR_ERR_CODE) | _ => (0, 0, 0, 0, 0)) = (264, 256, 264, 1648, 0x4405) := by decide +kernel

/-- Partition 15 runs from time 0 with a profile of 700 W. -/
def loaded : State :=
  let δ := instDelta 15
  let s := (State.reset.setReg (Reg.SCH_PART_FRAME + δ) 1000).setFld Reg.SCH_PART_STATE_STATE δ 3
  { s.setPart 15 { partInit with nextFrame := 1000000 } with power := { s.power with profiles := [(30, [BitVec.ofNat 64 (700 * 2 ^ 32)])] } }

theorem test_feed : (match exec .feedForward loaded with | .next t => (t.out, t.power.announced) | _ => ([], 0)) = ([.feed 700], 700) := by decide +kernel

theorem test_vin : (match exec (.pwrVin 13201 100001) State.reset with | .next t => t.fld Reg.PWR_ERR_CODE | _ => 0) = 0x440A ∧
    (match exec (.pwrVin 13200 100001) State.reset with | .next t => t.fld Reg.PWR_ERR_CODE | _ => 9) = 0 ∧
    (match exec (.vinLoss 10399) State.reset with | .next t => (t.pins.pwrGood, t.coreOn) | _ => (true, true)) = (false, false) := by decide +kernel

theorem test_core_fault : State.reset.ras.escs = [] ∧
    ((State.reset.setFld Reg.RAS_CTRL_FALLOW_EN 0 1).escalateFallow 0x440B ⟨17, 0, 0⟩).ras.escs.map (fun e => e.level) = [5] ∧
    (match exec (.pwrCoreFault true) (State.reset.setFld Reg.RAS_CTRL_FALLOW_EN 0 0) with | .next t => (t.coreOn, t.ras.escs.map (fun e => e.level)) | _ => (true, [])) = (false, [6]) := by decide +kernel

theorem test_power_pins : (match exec (.pwrEnRise true) { State.reset with pins := ⟨false, true, false, true, false, false, 0⟩ } with | .next t => (t.pins.pwrGood, t.mgmt.boot) | _ => (false, none)) = (true, some true) ∧
    (match exec .pwrGoodTimeout { State.reset with tb := 50000000, pins := ⟨true, true, false, false, false, false, 0⟩ } with | .next t => t.pins.failed | _ => false) = true ∧
    (match exec .pwrEnFall { State.reset with power := { State.reset.power with usedMs := 7 } } with | .next t => (t.power.usedMs, t.pins.pwrGood, t.pins.pwrEn) | _ => (0, true, true)) = (7, false, false) ∧
    (match exec .thermalTrip { State.reset with power := { State.reset.power with usedMs := 7 } } with | .next t => (t.power.usedMs, t.pins.trip) | _ => (9, false)) = (0, true) := by decide +kernel

theorem test_ledger : (match exec .ledgerWrite { State.reset with tb := 3600000000000, power := { State.reset.power with usedMs := 7 } } with | .next t => t.power.savedLedger.usedMs | _ => 0) = 7 := by decide +kernel

/-- The time base under a source, REFCLK present, at a time, with so many good measurements and the lock. -/
def timed (src tb good lock : Nat) : State :=
  let s := ((State.reset.setFld Reg.CLK_TB_CFG_SOURCE 0 src).setFld Reg.CLK_STATE_REFCLK_OK 0 1).setFld Reg.CLK_TB_STATE_LOCKED 0 lock
  { s with tb := tb, clock := { s.clock with good := good } }

theorem test_pps : (match exec .ppsEdge (timed 2 1999999990 15 0) with | .next t => (t.fld Reg.CLK_TB_STATE_LOCKED, t.clock.good, t.fld Reg.CLK_TB_STATE_OFFSET_NS, t.tb) | _ => (9, 9, 9, 9)) = (1, 16, 10, 1999999990) ∧
    (match exec .ppsEdge (timed 2 1999000000 15 1) with | .next t => (t.fld Reg.CLK_TB_STATE_LOCKED, t.clock.good, t.tb, t.fld Reg.CLK_ERR_CODE) | _ => (9, 9, 9, 9)) = (0, 0, 2000000000, 0x4803) := by decide +kernel

theorem test_exchange : (match exec (.salternTimeExchange ⟨31, 1000, [3, 4]⟩) (timed 3 6007 0 0) with | .next t => (t.clock.holdNs, t.tb, t.fld Reg.CLK_TB_STATE_OFFSET_NS) | _ => (0, 0, 0)) = (5000, 6007, 2 ^ 32 - 5000) := by decide +kernel

/-- Ethernet port 3 is UP with PTP. -/
def ptpOn (src : Nat) : State :=
  let s := (timed src 7 0 0).setFld Reg.ETH_CFG_PTP_EN (instDelta 3) 1
  (s.setFld Reg.ETH_STATE_LINK (instDelta 3) 2).setFld Reg.CLK_TB_CFG_PTP_PORT 0 3

theorem test_ptp : (match exec (.ptpMessage 3 ⟨.ipv4, .sync 1 (some 11), ⟨64, none, false, false⟩⟩) (ptpOn 1) with | .next t => (t.clock.good, t.clock.heard, t.fld Reg.CLK_TB_STATE_OFFSET_NS) | _ => (9, 9, 9)) = (8, 7, 4) ∧
    (match exec (.ptpMessage 3 ⟨.ipv4, .sync 1 (some 1500000006), ⟨64, none, false, false⟩⟩) (ptpOn 2) with | .next t => t.tb | _ => 0) = 1000000007 ∧
    (match exec (.delayReqSend 3) (ptpOn 1) with | .next t => t.out | _ => []) = [.eth 3 false ((ptpOn 1).tagOf 3 (.delayReq .ieee8023 7)) (.delayReq .ieee8023 7)] := by decide +kernel

theorem test_source_silent : (match exec .clkTbUnlock (timed 3 1000001 5 1) with | .next t => (t.fld Reg.CLK_TB_STATE_LOCKED, t.clock.good) | _ => (9, 9)) = (0, 0) ∧
    (match exec .clkTbUnlock (timed 3 1000000 5 1) with | .next t => t.fld Reg.CLK_TB_STATE_LOCKED | _ => 9) = 1 := by decide +kernel

theorem test_refclk : (match exec .refclkLoss ((ptpOn 1).setLportState 31 3) with | .next t => (t.lportState 31, t.fld Reg.ETH_STATE_LINK (instDelta 3), t.fld Reg.CLK_STATE_REFCLK_OK) | _ => (9, 9, 9)) = (2, 1, 0) ∧
    (match exec .refclkReturn (State.reset.setFld Reg.CLK_STATE_REFCLK_OK 0 0) with | .next t => t.fld Reg.CLK_STATE_REFCLK_OK | _ => 9) = 1 := by decide +kernel

/-- PLL 10 is locked, or lost lock at time 0. -/
def plls : State := (timed 0 9999999 0 0).setFld Reg.CLK_STATE_PLL_LOCK 0 1024
def pllLost : State := { plls with clock := { plls.clock with unlocked := [(10, 1)] } }

theorem test_pll : (match exec (.pllUnlock 10) plls with | .next t => (t.fld Reg.CLK_STATE_PLL_LOCK, t.clock.unlocked, t.fld Reg.CLK_ERR_CODE) | _ => (9, [], 9)) = (0, [(10, 10000000)], 0x4802) ∧
    (match exec (.pllRelock 10) (pllLost.setFld Reg.CLK_STATE_PLL_LOCK 0 0) with | .next t => (t.fld Reg.CLK_STATE_PLL_LOCK, t.clock.unlocked) | _ => (9, [])) = (1024, []) ∧
    (match exec (.pllRelockTimeout 10) { pllLost with tb := 10000000 } with | .next t => t.ras.escs.map (fun e => (e.level, e.cls, e.code)) | _ => []) = [(4, 18, 0x4802)] ∧
    (match exec (.pllRelockTimeout 10) { pllLost with tb := 9999999 } with | .next t => t.ras.escs.length | _ => 9) = 0 := by decide +kernel

/-- Member 255 of a saltern of members 0, 1 and 255, each of weight 1, in a member state; member 0 is heard in a state. -/
def membered (st heard : Nat) : State :=
  let s := (State.reset.setFld Reg.FAB_SELF_MEMBER 0 255).setFld Reg.RAS_MBR_STATE_STATE 0 st
  let s := { s with tb := 5000000000, ras := { s.ras with members := [(0, 0x101), (1, 0x101), (255, 0x101)], heard := [(0, ⟨some 5000000000, heard, 0⟩)], changedAt := some 0 } }
  s.setMemberSet Reg.RAS_MBR_REACH [0, 255]

/-- A membership packet of member 0: its state, a code, SW and a view word. -/
def memberPkt (st code sw view : Nat) : Pkt :=
  { typ := 0x30, dest := 255, src := 0, body := leBytes 1 0 ++ leBytes 1 st ++ leBytes 2 0 ++ leBytes 4 code ++ leBytes 8 sw ++ leBytes 8 view ++ List.replicate 24 0 }

theorem test_member_hyp : (membered 1 1).mbrConfigured (mbrBodyMember (memberPkt 1 0 0 0)) = true ∧ (membered 1 1).mbrConfigured 255 = true ∧
    (memberPkt 1 0 0 0).src / 256 = (membered 1 1).fld Reg.FAB_SELF_SALTERN ∧ (membered 1 1).ras.lastBeat = none := by decide +kernel

theorem test_heartbeats : (match exec .heartbeatSend (membered 1 1) with | .next t => t.injected.map (fun r => r.pkt.dest) | _ => []) = [0, 1] := by decide +kernel

theorem test_heartbeat : (match exec (.heartbeat (memberPkt 2 0 0 0)) (membered 1 1) with | .next t => SMap.find? t.ras.heard 0 | _ => none) = some ⟨some 5000000000, 2, 0⟩ ∧
    (match exec (.heartbeat (memberPkt 2 0 0 0)) (membered 0 1) with | .next t => SMap.find? t.ras.heard 0 | _ => none) = some ⟨some 5000000000, 1, 0⟩ := by decide +kernel

theorem test_becomes_normal : (match exec .membershipDecision (membered 1 1) with | .next t => (t.mbrState, t.admitted 0, t.admitted 255) | _ => (9, false, true)) = (2, true, false) := by decide +kernel

theorem test_asks_to_join : (match exec .membershipDecision (membered 1 2) with | .next t => (t.ras.join, t.injected.map (fun r => r.pkt.dest)) | _ => (none, [])) = (some ⟨5000000000, [], none⟩, [0]) := by decide +kernel

theorem test_decision_hyp : ((membered 2 2).setMemberSet Reg.RAS_MBR_VIEW [0, 1, 255]).quorum [0, 255] [0, 1, 255] = true ∧
    ((membered 2 2).setMemberSet Reg.RAS_MBR_VIEW [0, 1, 255]).view.filter (fun m => !([0, 255] : List Nat).contains m) = [1] ∧
    ((membered 2 2).setMemberSet Reg.RAS_MBR_VIEW [0, 1, 255]).quorum [255] [0, 1, 255] = false := by decide +kernel

theorem test_join_req : (match exec (.joinReq (memberPkt 1 0 0 0)) (membered 2 1) with | .next t => (t.admitted 0, t.injected.map (fun r => leNat ((r.pkt.body.drop 4).take 4))) | _ => (false, [])) = (true, [0]) ∧
    (match exec (.joinReq (memberPkt 1 0 0 0)) (membered 2 2) with | .next t => (t.admitted 0, t.injected.map (fun r => leNat ((r.pkt.body.drop 4).take 4))) | _ => (true, [])) = (false, [0x5409]) := by decide +kernel

theorem test_asks_again : (match exec .membershipDecision { membered 1 2 with ras := { (membered 1 2).ras with join := some ⟨4999999999, [1], none⟩ } } with
    | .next t => (t.ras.join, t.injected.map (fun r => r.pkt.dest)) | _ => (none, [])) = (some ⟨4999999999, [1], none⟩, [0]) := by decide +kernel

/-- JOIN_REQ has gone out. -/
def joiningAt (since : Nat) : State := { membered 1 2 with ras := { (membered 1 2).ras with join := some ⟨since, [], none⟩ } }

theorem test_join_ack : (match exec (.joinAck (memberPkt 2 0 3 1)) (joiningAt 5000000000) with | .next t => (t.mbrState, t.sweepCount, t.ras.join) | _ => (9, 9, none)) = (2, 3, none) ∧
    (match exec (.joinAck (memberPkt 2 0x5409 3 1)) (joiningAt 5000000000) with | .next t => (t.mbrState, t.fld Reg.RAS_ERR_CODE) | _ => (9, 9)) = (1, 0x5409) := by decide +kernel

theorem test_join_timeout : (match exec .rasJoinTimeout (joiningAt 4989999999) with | .next t => (t.ras.join, t.ras.joinAfter, t.fld Reg.RAS_ERR_CODE) | _ => (none, 9, 9)) = (none, 5100000000, 0x540A) ∧
    (match exec .rasJoinTimeout { membered 1 2 with ras := { (membered 1 2).ras with joinAfter := 1 } } with | .next t => t.ras.join | _ => none) = some ⟨5000000000, [], none⟩ := by decide +kernel

theorem test_leave_hyp : ((membered 2 2).setMemberSet Reg.RAS_MBR_VIEW [0, 1, 255]).view = [0, 1, 255] ∧ ((membered 2 2).setMemberSet Reg.RAS_MBR_VIEW [0, 1, 255]).mbrState = 2 ∧
    ((membered 2 2).setMemberSet Reg.RAS_MBR_VIEW [0, 1, 255]).mbrConfigured (mbrBodyMember (memberPkt 4 0 0 0)) = true := by decide +kernel

theorem test_leave_write : (match exec (.leaveWrite .mc) ((membered 2 2).setMemberSet Reg.RAS_MBR_VIEW [0, 255]) with | .next t => (t.mbrState, t.injected.map (fun r => r.pkt.dest), t.ras.leftAt) | _ => (9, [], none)) =
    (4, [0], some 5000000000) ∧ (match exec (.rejoin .mc) (membered 2 2) with | .next t => t.out | _ => []) = [.csr 0x5401 0] ∧
    (match exec (.rejoin .mc) (membered 3 2) with | .next t => t.mbrState | _ => 9) = 1 := by decide +kernel

theorem test_leave_idle : (match exec .leaveIdle { (membered 4 2).setLportState 31 3 with ras := { (membered 4 2).ras with leftAt := some 0 } } with | .next t => (t.ras.leftAt, t.lportState 30) | _ => (none, 9)) = (none, 1) := by decide +kernel

end Sys2Proof.Tests
end

/-! SUPPORT. What a raised code leaves of the registers, and that it stands in the error register and in the log (R16, R437, R438, R440). -/

namespace Sys2Proof.Machine

/-- The registers that an occurrence can touch besides the error register of the block: MGT_ALERT and the statistics of the log. -/
def logRegs : List Nat := [Reg.MGT_ALERT, Reg.MGT_STAT_LOG_ENTRIES, Reg.MGT_STAT_LOG_DROPPED]

theorem regsOutside_refl (l : List Nat) (s : State) : Claims.regsOutside l s s := fun _ _ => rfl

theorem regsOutside_setReg {l : List Nat} {s t : State} {a : Nat} (v : Word) (ha : a ∈ l) (h : Claims.regsOutside l s t) :
    Claims.regsOutside l s (t.setReg a v) := fun b hb =>
  (State.reg_setReg_other t a b v (fun e => hb (e ▸ ha))).trans (h b hb)

theorem regsOutside_setFld {l : List Nat} {s t : State} {f : Fld} {δ : Nat} (v : Nat) (hf : f.base + δ ∈ l)
    (h : Claims.regsOutside l s t) : Claims.regsOutside l s (t.setFld f δ v) := regsOutside_setReg _ hf h

theorem regsOutside_stat {l : List Nat} {s t : State} {a : Nat} (n : Nat) (ha : a ∈ l) (h : Claims.regsOutside l s t) :
    Claims.regsOutside l s (t.stat a n) := regsOutside_setReg _ ha h

/-- The log holds no register. -/
theorem regsOutside_withLog {l : List Nat} {s t : State} (g : LogState) (h : Claims.regsOutside l s t) :
    Claims.regsOutside l s { t with log := g } := h

theorem regsOutside_mono {l m : List Nat} {s t : State} (hlm : l ⊆ m) (h : Claims.regsOutside l s t) : Claims.regsOutside m s t :=
  fun a ha => h a (fun hl => ha (hlm hl))

theorem regsOutside_trans {l : List Nat} {s t u : State} (h : Claims.regsOutside l s t) (h' : Claims.regsOutside l t u) :
    Claims.regsOutside l s u := fun a ha => (h' a ha).trans (h a ha)

/-! ### What an alert and an occurrence do to the registers -/

section Occurrence

variable {s t : State} (h : Claims.regsOutside logRegs s t)
include h

theorem regsOutside_alert (c : Nat) : Claims.regsOutside logRegs s (t.alert c) := by
  have hm : Reg.MGT_ALERT ∈ logRegs := by decide
  have hl : Claims.regsOutside logRegs s t.saveLedger := h
  unfold State.alert State.noteAlert
  split
  · exact regsOutside_setFld _ hm hl
  · exact regsOutside_setFld _ hm (regsOutside_setFld _ hm (regsOutside_setFld _ hm hl))

theorem regsOutside_unalert (b : Bool) : Claims.regsOutside logRegs s (t.unalert b) := by
  have hm : Reg.MGT_ALERT ∈ logRegs := by decide
  unfold State.unalert
  dsimp only
  split
  · exact regsOutside_setFld _ hm (regsOutside_setFld _ hm (regsOutside_setFld _ hm h))
  · exact regsOutside_setFld _ hm h

theorem regsOutside_moveAlert (p : LogPass) (c sev : Nat) : Claims.regsOutside logRegs s (t.moveAlert p c sev) := by
  have hm : Reg.MGT_ALERT ∈ logRegs := by decide
  unfold State.moveAlert
  split
  · split
    · split
      · exact regsOutside_setFld _ hm h
      · exact h
    · exact regsOutside_unalert h _
  · split
    · exact regsOutside_alert h c
    · exact h

theorem regsOutside_lowerPass (x : Site) (p : LogPass) (c sev d : Nat) :
    Claims.regsOutside logRegs s (t.lowerPass x p c sev d) := by
  have hm : Reg.MGT_STAT_LOG_ENTRIES ∈ logRegs := by decide
  unfold State.lowerPass
  dsimp only
  refine regsOutside_moveAlert (regsOutside_withLog _ ?_) _ _ _
  split
  · exact regsOutside_stat 1 hm h
  · exact h

end Occurrence

/-- An occurrence touches MGT_ALERT and the statistics of the log only. -/
theorem State.occur_regsOutside (s : State) (x : Site) (c sev d : Nat) : Claims.regsOutside logRegs s (s.occur x c sev d) := by
  have hr := regsOutside_refl logRegs s
  have hdrop := regsOutside_stat 1 (show Reg.MGT_STAT_LOG_DROPPED ∈ logRegs by decide) hr
  have hentry : ∀ b : Bool, Claims.regsOutside logRegs s (if b then s else s.stat Reg.MGT_STAT_LOG_ENTRIES 1) := by
    intro b
    split
    · exact hr
    · exact regsOutside_stat 1 (by decide) hr
  unfold State.occur
  dsimp only
  split
  · split
    · split
      · exact regsOutside_lowerPass (regsOutside_withLog _ hdrop) _ _ _ _ _
      · exact regsOutside_withLog _ hdrop
    · exact regsOutside_withLog _ hdrop
  · split
    · exact regsOutside_alert (regsOutside_withLog _ (hentry _)) c
    · exact regsOutside_withLog _ (hentry _)

/-! ### A raised code -/

/-- CODE and COUNT of an error register's value (R16). -/
theorem bits_code_count {c n : Nat} (hc : c < 2 ^ 16) (hn : n ≤ 0xFFFF) :
    bits (BitVec.ofNat 64 (c + n * 65536)).toNat 0 16 = c ∧ bits (BitVec.ofNat 64 (c + n * 65536)).toNat 16 16 = n := by
  simp only [bits, BitVec.toNat_ofNat, Nat.shiftRight_eq_div_pow]
  omega

theorem State.raised_noteErr (s : State) (x : Site) {c : Nat} (hc : c < 2 ^ 16) : Claims.raised s (s.noteErr x c) x c := by
  simp only [Claims.raised, State.noteErr, State.reg_setReg_same]
  exact bits_code_count hc (Nat.min_le_right _ _)

/-- A raised code stands in the error register of its block (R16). -/
theorem State.raised_raise (s : State) (x : Site) {c : Nat} (hc : c < 2 ^ 16) (hx : errReg x c ∉ logRegs) (d : Nat) :
    Claims.raised s (s.raise x c d) x c := by
  have hsame : (s.raise x c d).reg (errReg x c) = (s.noteErr x c).reg (errReg x c) :=
    (s.noteErr x c).occur_regsOutside x c (severityOf c) d _ hx
  obtain ⟨hcode, hcount⟩ := State.raised_noteErr s x hc
  exact ⟨hsame ▸ hcode, hsame ▸ hcount⟩

/-- A raised code changes no register but the error register of its block, MGT_ALERT and the statistics of the log. -/
theorem State.raise_regsOutside (s : State) (x : Site) (c d : Nat) :
    Claims.regsOutside (errReg x c :: logRegs) s (s.raise x c d) :=
  regsOutside_trans (regsOutside_setReg _ (List.mem_cons_self ..) (regsOutside_refl _ s))
    (regsOutside_mono (List.subset_cons_self ..) (State.occur_regsOutside (s.noteErr x c) x c (severityOf c) d))

/-- The newest entry after an occurrence that passed its site carries its code: a new one, or the one it merged into. -/
theorem LogState.enter_newest (l : LogState) (x : Site) (c sev d now : Nat) (dropped : Bool) :
    ∃ e es, (l.enter x c sev d now dropped).entries = e :: es ∧ e.code = c := by
  unfold LogState.enter
  dsimp only
  split
  · exact ⟨_, _, rfl, rfl⟩
  · split
    next hmerge =>
      simp only [mergesInto, Bool.and_eq_true, decide_eq_true_eq] at hmerge
      obtain ⟨⟨⟨hcode, _⟩, _⟩, _⟩ := hmerge
      exact ⟨_, _, rfl, hcode⟩
    next => exact ⟨_, _, rfl, rfl⟩

/-- A code raised at a site that has passed none in this MGCLK cycle enters the log (R437, R438). -/
theorem State.raise_logs (s : State) (x : Site) (c d : Nat)
    (h : (s.log.siteOf x.instance_).lastCycle ≠ mgclkCycle s.tb + 1) :
    ∃ e es, (s.raise x c d).log.entries = e :: es ∧ e.code = c := by
  have hn := LogState.enter_newest s.log x.instance_ c (severityOf c) d s.tb (s.log.siteOf x.instance_).dropped
  unfold State.raise State.occur
  simp only [State.noteErr_log, State.noteErr_tb, if_neg h]
  split
  · rw [State.alert_log]; exact hn
  · exact hn

/-! ### A refused rake access -/

theorem errReg_glbSite_not_logRegs (c : Nat) : errReg glbSite c ∉ logRegs := by
  show Reg.GLB_ERR ∉ logRegs
  decide

/-- An access that is answered with the code its block has raised is refused. -/
theorem State.accessRefused_raise (s : State) (x : Site) {c : Nat} (hc : c < 2 ^ 16) (hx : errReg x c ∉ logRegs) :
    Claims.accessRefused s ((s.raise x c).emit (.csr c 0)) x c := by
  refine ⟨?_, State.raised_raise s x hc hx 0, State.raise_regsOutside s x c 0⟩
  obtain ⟨r, l, p, h⟩ := State.raise_frame s x c 0
  rw [h]
  rfl

/-- Every class that answers a rake has instances (R506). -/
theorem classInstances_of_rake {c : Nat} (h : classRake c = .yes) : ∃ n, classInstances c = some n := by
  unfold classRake at h
  split at h <;> simp_all [classInstances]

/-- The list of a rake's members has exactly its members (R509). -/
theorem State.mem_rakeMembers (s : State) (a i : Nat) :
    i ∈ s.rakeMembers (csrClass a) (csrInst a) ↔ Claims.member s a i := by
  have hlt : s.instExists (csrClass a) i = true → i < (classInstances (csrClass a)).getD 0 := fun h => by
    simp only [State.instExists, Bool.and_eq_true, decide_eq_true_eq] at h
    exact h.1
  simp only [State.rakeMembers, List.mem_filter, List.mem_range, Claims.member, Bool.and_eq_true, Bool.or_eq_true, decide_eq_true_eq]
  exact ⟨And.right, fun h => ⟨hlt h.1, h⟩⟩

/-- A rake address without members reaches nothing (R511). -/
theorem State.target_of_no_member (s : State) {a : Nat} (hi : 0x3F0 ≤ csrInst a) (hr : classRake (csrClass a) = .yes)
    (hm : ∀ i, ¬ Claims.member s a i) : s.target a = .none 0x0007 := by
  obtain ⟨n, hn⟩ := classInstances_of_rake hr
  have hnil : s.rakeMembers (csrClass a) (csrInst a) = [] :=
    List.eq_nil_iff_forall_not_mem.2 fun i h => hm i ((State.mem_rakeMembers s a i).1 h)
  simp [State.target, hn, hr, hnil, Nat.not_lt.2 hi]

/-- What reaches nothing is refused by GLOBAL, once width and alignment are right (R526). -/
theorem State.reachOf_of_target_none (s : State) {a w c : Nat} (hw : w = 32 ∨ w = 64) (ha : a % (w / 8) = 0)
    (ht : s.target a = .none c) : s.reachOf a w = .refused c glbSite := by
  have hok : ¬ ((w ≠ 32 ∧ w ≠ 64) ∨ a % (w / 8) ≠ 0) := by omega
  simp only [State.reachOf, if_neg hok, ht]

theorem State.csrWrite_of_refused (s : State) {a w c : Nat} {x : Site} (h : s.reachOf a w = .refused c x) (req : Requester) (v : Nat) :
    s.csrWrite req a w v = (c, s.raise x c) := by
  simp only [State.csrWrite, h]

theorem State.csrRead_of_refused_rake (s : State) {a w c : Nat} {x : Site} (h : s.reachOf a w = .refused c x) (hr : isRake a = true)
    (req : Requester) : s.csrRead req a w = (c, 0, (s.raise x c).noteRakeRead req 0 false) := by
  simp only [State.csrRead, h, if_pos hr]

/-- A rake write by a requester that may use CSRs is answered with its code, where that is not 0 (R508). -/
theorem State.accessWrite_rake_refused (s : State) {req : Requester} {a w c : Nat} {x : Site} (hm : Claims.mayAccess s req)
    (hr : isRake a = true) (hc : c ≠ 0) (h : s.reachOf a w = .refused c x) (v : Nat) :
    s.accessWrite req a w v = (s.raise x c).emit (.csr c 0) := by
  cases req with
  | mc => simp [State.accessWrite, State.csrStops, hr, State.csrWrite_of_refused s h, State.writeAnswer, hc]
  | seq n =>
    have he : s.csrEn (s.seqCtx n) = true := hm
    simp [State.accessWrite, State.csrStops, hr, State.windowWrite, he, State.csrWrite_of_refused s h, State.writeAnswer, hc]

/-- A rake read by a requester that may use CSRs answers its code and zero, where it is refused (R508, R511). -/
theorem State.accessRead_rake_refused (s : State) {req : Requester} {a w c : Nat} {x : Site} (hm : Claims.mayAccess s req)
    (hr : isRake a = true) (h : s.reachOf a w = .refused c x) :
    s.accessRead req a w = ((s.raise x c).noteRakeRead req 0 false).emit (.csr c 0) := by
  cases req with
  | mc => simp [State.accessRead, State.csrStops, hr, State.csrRead_of_refused_rake s h hr]
  | seq n =>
    have he : s.csrEn (s.seqCtx n) = true := hm
    simp [State.accessRead, State.csrStops, hr, State.windowRead, he, State.csrRead_of_refused_rake s h hr]

theorem exec_rakeWrite (a : CsrAccess) (v : Word) (s : State) : exec (.rakeWrite a v) s = execRakeWrite a v s := rfl

theorem exec_rakeRead (a : CsrAccess) (s : State) : exec (.rakeRead a) s = execRakeRead a s := rfl

theorem execRakeWrite_of_rake (s : State) {a : CsrAccess} (hp : s.pins.pwrGood = true) (hr : isRake a.addr.toNat = true) (v : Word) :
    execRakeWrite a v s = .next (s.accessWrite a.req a.addr.toNat a.width v.toNat) := by
  rw [execRakeWrite, State.run_on s _ hp, if_pos hr]

theorem execRakeRead_of_rake (s : State) {a : CsrAccess} (hp : s.pins.pwrGood = true) (hr : isRake a.addr.toNat = true) :
    execRakeRead a s = .next (s.accessRead a.req a.addr.toNat a.width) := by
  rw [execRakeRead, State.run_on s _ hp, if_pos hr]

/-! ### Groups without members (R511) -/

/-- A group whose mask is all zero has no member. -/
theorem not_member_of_zero_mask {s : State} {a : Nat} (ha : csrInst a ≠ 0x3FF)
    (h : ∀ w, s.groupMask (csrClass a) (csrInst a - 0x3F0) w = 0) (i : Nat) : ¬ Claims.member s a i := by
  rintro ⟨-, hall | hbit⟩
  · exact ha hall
  · simp [h] at hbit

/-- A class with one block a core has the blocks of the enabled cores (R4, R506). -/
theorem State.instExists_core (s : State) {c i : Nat} (hc : c ∈ [1, 3, 4]) (h : s.instExists c i = true) :
    i < 64 ∧ s.coreEnabled i = true := by
  simp only [List.mem_cons, List.not_mem_nil, or_false] at hc
  rcases hc with rfl | rfl | rfl <;> simpa [State.instExists, classInstances] using h

/-- The cube arrays are those of the enabled cores, two a core (R4, R506). -/
theorem State.instExists_array (s : State) {i : Nat} (h : s.instExists 2 i = true) : i < 128 ∧ s.coreEnabled (i / 2) = true := by
  simpa [State.instExists, classInstances] using h

/-- A group that names only blocks of disabled cores, in a class with one block a core, has no member. -/
theorem not_member_of_disabled_cores {s : State} {a : Nat} (ha : csrInst a ≠ 0x3FF) (hc : csrClass a ∈ [1, 3, 4])
    (h : ∀ n, n < 64 → (s.groupMask (csrClass a) (csrInst a - 0x3F0) 0).getLsbD n = true → s.coreEnabled n = false) (i : Nat) :
    ¬ Claims.member s a i := by
  rintro ⟨hex, hall | hbit⟩
  · exact ha hall
  · obtain ⟨hi, hon⟩ := State.instExists_core s hc hex
    rw [Nat.div_eq_of_lt hi, Nat.mod_eq_of_lt hi] at hbit
    exact Bool.noConfusion (hon.symm.trans (h i hi hbit))

/-- A group that names only cube arrays of disabled cores has no member. -/
theorem not_member_of_disabled_arrays {s : State} {a : Nat} (ha : csrInst a ≠ 0x3FF) (hc : csrClass a = 2)
    (h : ∀ n, n < 128 → (s.groupMask 2 (csrInst a - 0x3F0) (n / 64)).getLsbD (n % 64) = true → s.coreEnabled (n / 2) = false) (i : Nat) :
    ¬ Claims.member s a i := by
  rintro ⟨hex, hall | hbit⟩
  · exact ha hall
  · rw [hc] at hex hbit
    obtain ⟨hi, hon⟩ := State.instExists_array s hex
    exact Bool.noConfusion (hon.symm.trans (h i hi hbit))

/-- What a refused rake read by `req` leaves: code and zero answered, the code raised, and the outcome noted for the reader. -/
theorem State.rakeRead_refused_frame (s : State) (req : Requester) (x : Site) (c : Nat) :
    let t := ((s.raise x c).noteRakeRead req 0 false).emit (.csr c 0)
    t.out = .csr c 0 :: s.out ∧ t = { s with regs := t.regs, log := t.log, power := t.power, rake := t.rake, out := t.out } := by
  obtain ⟨r, l, p, h⟩ := State.raise_frame s x c 0
  rw [h]
  exact ⟨rfl, rfl⟩

/-! ### The TAP's drive instructions (R523) -/

/-- The three forms of EXTEST share one meaning, CLAMP and HIGHZ another. -/
theorem exec_tapDrive {c : Instr} {k : Nat} (s : State)
    (h : (c, k) ∈ [(Instr.jtagExtest, 3), (.jtagExtestPulse, 4), (.jtagExtestTrain, 5), (.jtagClamp, 6), (.jtagHighz, 7)]) :
    exec c s = s.run fun s => if k ≤ 5 then s.tapExtest k else s.tapHold k := by
  simp only [List.mem_cons, Prod.mk.injEq, List.not_mem_nil, or_false] at h
  obtain ⟨rfl, rfl⟩ | ⟨rfl, rfl⟩ | ⟨rfl, rfl⟩ | ⟨rfl, rfl⟩ | ⟨rfl, rfl⟩ := h <;> rfl

theorem State.tapTest_reset_low (s : State) (f : State → State) (h : s.pins.resetLow = true) : s.tapTest f = f s := if_pos h

/-- EXTEST with RESET_N low: the scan that is met is loaded, and the boundary register shifted out. -/
theorem State.tapExtest_reset_low (s : State) (k : Nat) (h : s.pins.resetLow = true) :
    s.tapExtest k = (s.takeScan.2.tapLoad k true).boundaryScan s.takeScan.1.lands s.takeScan.1.load :=
  State.tapTest_reset_low s _ h

theorem State.tapHold_reset_low (s : State) (k : Nat) (h : s.pins.resetLow = true) :
    s.tapHold k = (s.tapLoad k (decide (k ≠ 7))).emit (.tdo 0) :=
  State.tapTest_reset_low s _ h

theorem State.tapTest_reset_high (s : State) (f : State → State) (h : s.pins.resetLow = false) :
    s.tapTest f = s.tapBypass.raise glbSite 0x000A := by
  rw [State.tapTest, h]
  rfl

/-- A drive instruction loaded with RESET_N high leaves BYPASS in force and raises 0x000A, whichever it is (R523). -/
theorem State.tapDrive_reset_high (s : State) (k : Nat) (h : s.pins.resetLow = false) :
    (if k ≤ 5 then s.tapExtest k else s.tapHold k) = s.tapBypass.raise glbSite 0x000A := by
  split <;> exact State.tapTest_reset_high s _ h

/-- What BYPASS in force and a code raised leave of the state. -/
theorem State.tapBypass_raise_frame (s : State) (x : Site) (c : Nat) :
    let t := s.tapBypass.raise x c
    t = { s with tap := { s.tap with ir := 0xFF, driving := false }, regs := t.regs, log := t.log, power := t.power, out := t.out } := by
  obtain ⟨r, l, p, h⟩ := State.raise_frame s.tapBypass x c 0
  dsimp only
  rw [h]
  rfl

end Sys2Proof.Machine

section

open Sys2Proof Sys2Proof.Machine

/-- Settles O29: a group without members reaches nothing, so GLOBAL refuses the access at check 4 of R526, before any member is asked. -/
theorem rakeWithoutMembersIsRefused : Obligations.RakeWithoutMembersIsRefused := by
  intro a v s hp hmay hsize hi hr hgroup
  obtain ⟨hpower, -⟩ := hp
  obtain ⟨hw, ha⟩ := hsize
  have hm : ∀ i, ¬ Claims.member s a.addr.toNat i := by
    obtain h | ⟨hne, h⟩ | ⟨hne, hc, h⟩ | ⟨hne, hc, h⟩ := hgroup
    · exact h
    · exact not_member_of_zero_mask hne h
    · exact not_member_of_disabled_cores hne hc h
    · exact not_member_of_disabled_arrays hne hc h
  have hrake : isRake a.addr.toNat = true := by simp [isRake, hi, hr]
  have hreach := State.reachOf_of_target_none s hw ha (State.target_of_no_member s hi hr hm)
  have herr := errReg_glbSite_not_logRegs 0x0007
  constructor
  · rw [exec_rakeWrite, execRakeWrite_of_rake s hpower hrake]
    refine ⟨_, rfl, ?_⟩
    rw [State.accessWrite_rake_refused s hmay hrake (by decide) hreach]
    exact State.accessRefused_raise s glbSite (by decide) herr
  · rw [exec_rakeRead, execRakeRead_of_rake s hpower hrake]
    refine ⟨_, rfl, ?_⟩
    rw [State.accessRead_rake_refused s hmay hrake hreach]
    obtain ⟨hout, hframe⟩ := State.rakeRead_refused_frame s a.req glbSite 0x0007
    exact ⟨hout, State.raised_raise s glbSite (by decide) herr 0, hframe⟩

/-- Settles O32: with RESET_N low each instruction is loaded and its register scanned; with RESET_N high all five are BYPASS with a code
raised. -/
theorem tapDriveInstructionsNeedResetLow : Obligations.TapDriveInstructionsNeedResetLow := by
  constructor
  · intro s c k hp hck
    rw [exec_tapDrive s hck, State.run_on s _ hp]
    have hdrive : k ≤ 5 → decide (k ≠ 7) = true := fun hk => decide_eq_true (by omega)
    refine ⟨fun x rest hlow hk hscan => ?_, fun hlow hk hscan => ⟨freeScan s.free, ?_⟩, fun hlow hk => ?_, fun hhigh => ?_⟩
    · rw [if_pos hk, hdrive hk, State.tapExtest_reset_low s k hlow, State.takeScan, hscan]
      rfl
    · rw [if_pos hk, hdrive hk, State.tapExtest_reset_low s k hlow, State.takeScan, hscan]
      rfl
    · rw [if_neg (Nat.not_le.2 hk), State.tapHold_reset_low s k hlow]
      rfl
    · rw [State.tapDrive_reset_high s k hhigh]
      exact ⟨_, rfl, State.tapBypass_raise_frame s glbSite 0x000A,
        State.raised_raise s.tapBypass glbSite (by decide) (errReg_glbSite_not_logRegs _) 0,
        State.raise_logs s.tapBypass glbSite 0x000A 0⟩
  · intro s hlow
    exact congrArg Host.Outcome.next (if_pos hlow)

end
